-- ==== Sys2Proof/Word.lean ====
section
/-!
DEFINITION. The words of the JXA-3212 (R2, R5, R7): a register and a bus lane are 32 bits, an engine
value is 24 bits, an accumulator is 48 bits, an event record and a memory word are 256 bits.
-/

namespace Sys2Proof

/-- One byte of a frame or of memory. -/
abbrev Byte := BitVec 8

/-- A register (R7). -/
abbrev Word32 := BitVec 32

/-- An engine work register or data word (R5). -/
abbrev Word24 := BitVec 24

/-- An engine accumulator (R5). -/
abbrev Word48 := BitVec 48

/-- An event record, a mailbox word or a protected memory word (R36, R368, R378). -/
abbrev Word256 := BitVec 256

/-- A tick of the time base (R3, R27): 0.625 ns. -/
abbrev Tick := Nat

end Sys2Proof
end

