-- ==== Sys2Proof/Syntax.lean ====
section
/-!
DEFINITION. The commands of the JXA-3212: one constructor per row of the table of operations and events.
A command that is not an engine instruction carries the tick `t` of the time base at which its step takes place;
an engine instruction carries its engine, and its fields are those of the word at the engine's program counter.
-/

namespace Sys2Proof

/-- A sample of a fast converter: its stamp on the power-die time base and its raw code (R63, R66). -/
structure Sample where
  stamp : Tick
  raw : BitVec 12
deriving DecidableEq, Repr

/-- A CAN frame (R345, R356, R364): IDE, RTR, FDF, BRS, ESI, identifier, DLC and data; `res` is a recessive
res bit, which no frame of this device has. -/
structure CanFrame where
  ide : Bool := false
  rtr : Bool := false
  fdf : Bool := false
  brs : Bool := false
  esi : Bool := false
  res : Bool := false
  ident : Nat := 0
  dlc : Nat := 0
  data : List Byte := []
deriving DecidableEq, Repr

/-- How a transmission attempt ends (R358). -/
inductive CanResult where
  | sent | arbLost | error
deriving DecidableEq, Repr

/-- A protocol error as the rules of ISO 11898-1 count it (R361): an error met as transmitter, as
receiver, a dominant bit after the receiver's error flag, or an error that leaves the counters. -/
inductive CanFault where
  | transmit | receive | dominant | uncounted
deriving DecidableEq, Repr

/-- A character that a port takes from a gate link: a data byte, a control character under the byte it
encodes, or a code error (R173). -/
inductive LinkChar where
  | data (b : Byte)
  | ctl (b : Byte)
  | bad
deriving DecidableEq, Repr

/-- A command of the device. -/
inductive Instr where
  -- The bus, the memories and the whole device (chapters 1 and 17)
  /-- Initiator `id` writes `size` bytes of value `v` at a register address (R9, R373). -/
  | registerWrite (t : Tick) (id : Fin 64) (addr : Word32) (size : Nat) (v : Word32)
  /-- A write of up to 32 bytes inside one 256-bit word; `upset` are the bits of the stored word that have flipped since it was last written or looked at, `wire` those that flip on the interconnect (R368, R369, R371). -/
  | memoryWrite (t : Tick) (id : Fin 64) (addr : Word32) (data : List Byte)
      (upset wire : List (Fin 266))
  /-- A read of `size` bytes; `upset` and `wire` as for a write (R368, R370, R371). -/
  | memoryRead (t : Tick) (id : Fin 64) (addr : Word32) (size : Nat)
      (upset wire : List (Fin 266))
  /-- The oldest waiting correction is written back (R370). -/
  | correctedWriteback (t : Tick)
  /-- The scrubber reads its next word (R372). -/
  | scrub (t : Tick) (upset : List (Fin 266))
  /-- The power die loads a time beacon (R29). -/
  | timeBeacon (t : Tick)
  /-- 4 µs pass without a beacon (R31). -/
  | powerTbStale (t : Tick)
  /-- The island detects a stopped die-to-die interface (R17). -/
  | d2dInterfaceLoss (t : Tick)
  /-- The island receives the observer speeds (R22). -/
  | speedReport (t : Tick)
  /-- The island rewrites the link-loss patterns (R22). -/
  | lossPatternRefresh (t : Tick)
  /-- A frame ends without error on CAN channel `ch`, with its receipt stamp (R350, R351). -/
  | canFrameReceived (t : Tick) (ch : Fin 6) (stamp : Tick) (f : CanFrame)
  /-- An initiator writes PBA_LIM_CHG (`chg`) or PBA_LIM_DIS (R61). -/
  | limitRegisterWrite (t : Tick) (chg : Bool) (v : Word32)
  -- The command gate: each row takes the command at the head of its queue (chapter 2)
  /-- The gate takes a MODE_REQ (R40). -/
  | modeReq (t : Tick)
  /-- The gate takes a TORQUE_REQ (R118). -/
  | torqueReq (t : Tick)
  /-- The gate takes a SPEED_REQ (R118). -/
  | speedReq (t : Tick)
  /-- The gate takes a CHARGE_START (R251). -/
  | chargeStart (t : Tick)
  /-- The gate takes a CHARGE_STOP (R251). -/
  | chargeStop (t : Tick)
  /-- The gate takes a CHARGE_LIMITS (R249). -/
  | chargeLimits (t : Tick)
  /-- The gate takes a CONV_SETPOINT (R233). -/
  | convSetpoint (t : Tick)
  /-- The gate takes a GEAR_SHIFT (R219). -/
  | gearShift (t : Tick)
  /-- The gate takes a PARK_LOCK (R219). -/
  | parkLock (t : Tick)
  /-- The gate takes a PUMP_SPEED (R219). -/
  | pumpSpeed (t : Tick)
  /-- The gate takes a BRAKE_RELEASE (R274). -/
  | brakeRelease (t : Tick)
  /-- The gate takes a BRAKE_TEST (R279). -/
  | brakeTest (t : Tick)
  /-- The gate takes a RESET (R272, R280). -/
  | reset (t : Tick)
  -- The arbiter (chapter 2)
  /-- The cycle at a multiple of 1 ms (R55). -/
  | arbiterCycle (t : Tick)
  /-- The limits reach STALE_MS (R60). -/
  | limitsStale (t : Tick)
  /-- The DC link has been below HV_OFF for 10 ms (R40). -/
  | dcLinkLowTimeout (t : Tick)
  -- Fast capture (chapter 3)
  /-- Window w of channel k seals; `samples` are the raw codes of the channel with their stamps (R71). -/
  | windowSeal (t : Tick) (k : Fin 24) (w : Fin 8) (samples : List Sample)
  /-- A read of CAP_RSUMk_w (R78). -/
  | resultCapture (t : Tick) (k : Fin 24) (w : Fin 8)
  /-- Reference r ends its settling; `mv` is VREF_EXT (R67). -/
  | refSettled (t : Tick) (r : Fin 3) (mv : Nat)
  /-- VREF_EXT leaves its range (R68). -/
  | refExtBad (t : Tick) (mv : Nat)
  /-- VREF_EXT returns into its range (R68). -/
  | refExtReturn (t : Tick)
  /-- A calibration is due (R80). -/
  | calibrationStart (t : Tick)
  /-- The outgoing overlap ends with the means of converter and spare (R84). -/
  | calOverlapEnd (t : Tick) (mc ms : Int)
  /-- The channel moves at the tick of R82. -/
  | channelSwitchover (t : Tick)
  /-- The three level conversions end with their means (R83). -/
  | calLevelsDone (t : Tick) (m0 mp mm : Int)
  /-- The return overlap ends (R84). -/
  | calReturnOverlapEnd (t : Tick) (mc ms : Int)
  -- Control engines (chapter 4)
  /-- The timer of engine e matches (R92). -/
  | engineTimerTrigger (t : Tick) (e : Fin 8)
  /-- CE_CTL.SWTRIG is written 1 (R92). -/
  | swtrig (t : Tick) (e : Fin 8)
  /-- CE_CTL.RUN is written (R91). -/
  | run (t : Tick) (e : Fin 8) (v : Bool)
  /-- An IDLE engine starts its pass; `pup` and `dup` are the bits that have flipped in rows of its program and data memory since its latest pass (R90, R93). -/
  | passStart (t : Tick) (e : Fin 8) (pup : List (Fin 512 × Fin 266)) (dup : List (Fin 128 × Fin 266))
  /-- Another initiator writes a data word (R95). -/
  | dmemWrite (t : Tick) (e : Fin 8) (j : Fin 1024) (v : Word24)
  /-- Engine e issues NOP (R99). -/
  | nop (e : Fin 8)
  /-- Engine e issues LD (R99). -/
  | ld (e : Fin 8)
  /-- Engine e issues ST (R99). -/
  | st (e : Fin 8)
  /-- Engine e issues LDI (R99). -/
  | ldi (e : Fin 8)
  /-- Engine e issues MOV (R99). -/
  | mov (e : Fin 8)
  /-- Engine e issues MOVS (R99). -/
  | movs (e : Fin 8)
  /-- Engine e issues ADD (R99). -/
  | add (e : Fin 8)
  /-- Engine e issues SUB (R99). -/
  | sub (e : Fin 8)
  /-- Engine e issues ABS (R99). -/
  | abs (e : Fin 8)
  /-- Engine e issues SHF (R99). -/
  | shf (e : Fin 8)
  /-- Engine e issues MUL (R99). -/
  | mul (e : Fin 8)
  /-- Engine e issues MAC (R99). -/
  | mac (e : Fin 8)
  /-- Engine e issues MSU (R99). -/
  | msu (e : Fin 8)
  /-- Engine e issues MVA (R99). -/
  | mva (e : Fin 8)
  /-- Engine e issues DIV (R99). -/
  | div (e : Fin 8)
  /-- Engine e issues SINCOS (R99). -/
  | sincos (e : Fin 8)
  /-- Engine e issues CLARKE (R99). -/
  | clarke (e : Fin 8)
  /-- Engine e issues PARK (R99). -/
  | park (e : Fin 8)
  /-- Engine e issues PI (R99). -/
  | pi (e : Fin 8)
  /-- Engine e issues SVM (R99). -/
  | svm (e : Fin 8)
  /-- Engine e issues LIM (R99). -/
  | lim (e : Fin 8)
  /-- Engine e issues MINS (R99). -/
  | mins (e : Fin 8)
  /-- Engine e issues MAXS (R99). -/
  | maxs (e : Fin 8)
  /-- Engine e issues LUT (R99). -/
  | lut (e : Fin 8)
  /-- Engine e issues BR (R99). -/
  | br (e : Fin 8)
  /-- Engine e issues CALL (R99). -/
  | call (e : Fin 8)
  /-- Engine e issues RET (R99). -/
  | ret (e : Fin 8)
  /-- Engine e issues END (R99). -/
  | endPass (e : Fin 8)
  /-- Engine e issues DUTY (R99). -/
  | duty (e : Fin 8)
  /-- Engine e issues COMMIT (R99). -/
  | commit (e : Fin 8)
  /-- Engine e issues RENEW (R99). -/
  | renew (e : Fin 8)
  /-- Engine e issues POST (R99). -/
  | post (e : Fin 8)
  /-- Engine e issues FCLR (R99). -/
  | fclr (e : Fin 8)
  /-- Engine e issues an illegal instruction (R100, R112). -/
  | illegalOp (e : Fin 8)
  /-- The pass of engine e reaches PASS_LIMIT (R112). -/
  | overtime (e : Fin 8)
  /-- CE_PLOAD_CTL is written (R113). -/
  | programLoad (t : Tick) (e : Fin 8) (v : Word32)
  /-- The load of engine e completes (R113). -/
  | programLoaded (t : Tick) (e : Fin 8)
  -- Traction control (chapter 5)
  /-- TRX writes the input block of machine m (R120). -/
  | trxInputWrite (t : Tick) (m : Fin 2)
  /-- The island handles a flying-restart request (R136). -/
  | restartRequest (t : Tick) (m : Fin 2)
  /-- The speed of machine m has been low for 100 ms (R134). -/
  | standstill (t : Tick) (m : Fin 2)
  -- Encoders (chapter 6)
  /-- The filtered inputs of encoder e take new levels (R141). -/
  | encoderInputChange (t : Tick) (e : Fin 2) (a b z : Bool)
  /-- The tracking observers step (R148). -/
  | observerStep (t : Tick)
  /-- POS_CTLe.SETREF is written 1 (R146). -/
  | setref (t : Tick) (e : Fin 2)
  /-- POS_CTLe.CLEAR is written 1 (R146). -/
  | clear (t : Tick) (e : Fin 2)
  /-- POS_IDXe.ARM is written 1 (R145). -/
  | arm (t : Tick) (e : Fin 2)
  /-- POS_CTLe.LATCH is written 1 (R150). -/
  | latch (t : Tick) (e : Fin 2)
  /-- A delivery tick of encoder e (R151). -/
  | deliveryTick (t : Tick) (e : Fin 2)
  /-- A read of POS_LPOSe (R150). -/
  | lposCapture (t : Tick) (e : Fin 2)
  -- Gate scheduler and gate links (chapter 7)
  /-- The carrier of group g starts a period (R159). -/
  | carrierPeriodStart (t : Tick) (g : Fin 4)
  /-- The oldest commit of group g is converted (R161). -/
  | commitConversion (t : Tick) (g : Fin 4)
  /-- Link l starts an edge frame (R169). -/
  | edgeFrame (t : Tick) (l : Fin 12)
  /-- A beacon falls due on link l, or a due one is sent (R177). -/
  | beacon (t : Tick) (l : Fin 12)
  /-- Link l sends a LOSS frame (R178). -/
  | lossFrame (t : Tick) (l : Fin 12)
  /-- Link l decodes a fault comma followed by two bytes (R174). -/
  | faultComma (t : Tick) (l : Fin 12) (b1 b2 : Byte)
  /-- A STATUS frame of the hub (R175). -/
  | status (t : Tick) (l : Fin 12) (chars : List LinkChar)
  /-- A CONFIG_REPLY of the hub (R175). -/
  | configReply (t : Tick) (l : Fin 12) (chars : List LinkChar)
  /-- An ECHO_REPLY of the hub (R179). -/
  | echoReply (t : Tick) (l : Fin 12) (chars : List LinkChar)
  /-- 64 valid characters in a row (R179). -/
  | alignmentAchieved (t : Tick) (l : Fin 12)
  /-- 1 ms in ALIGN (R179). -/
  | alignTimeout (t : Tick) (l : Fin 12)
  /-- A reply is missing for 10 µs (R179, R180). -/
  | replyTimeout (t : Tick) (l : Fin 12)
  /-- 1 ms in SYNC (R179). -/
  | syncTimeout (t : Tick) (l : Fin 12)
  /-- 30 µs without a valid STATUS (R179). -/
  | statusSilence (t : Tick) (l : Fin 12)
  /-- The link loses its alignment (R179). -/
  | alignmentLost (t : Tick) (l : Fin 12)
  /-- Four code errors within 1 µs (R179). -/
  | codeErrors (t : Tick) (l : Fin 12)
  /-- GLK_CTLl.RETRAIN is written 1 (R179). -/
  | retrain (t : Tick) (l : Fin 12)
  /-- GLK_CMDl is written (R180). -/
  | configExchange (t : Tick) (id : Fin 64) (l : Fin 12) (v : Word32)
  /-- The lease of group g ends (R300). -/
  | leaseExpiry (t : Tick) (g : Fin 4)
  /-- No claim within WAIT (R172). -/
  | tokenUnclaimed (t : Tick) (g : Fin 4)
  -- Faults and the island (chapters 8 and 12)
  /-- The island evaluates the oldest reports (R268). -/
  | faultReport (t : Tick)
  /-- The pattern of a reporting set is decided (R190, R191). -/
  | setDecided (t : Tick) (g : Fin 4)
  -- Auxiliary bridges (chapter 9)
  /-- Bridge b starts a period (R203). -/
  | axbPeriodStart (t : Tick) (b : Fin 3)
  /-- Bridge b posts its urgent housekeeping requests (R413). -/
  | urgentRequest (t : Tick) (b : Fin 3)
  /-- Bridge b writes its input block to CE6 (R205). -/
  | axbInputWrite (t : Tick) (b : Fin 3)
  /-- A bootstrap supply leaves its low range; `v` in 0.1 V (R207). -/
  | bootLowCleared (t : Tick) (b : Fin 3) (p : Fin 3) (v : Nat)
  /-- A bootstrap supply falls below its lockout threshold (R209). -/
  | bootUvlo (t : Tick) (b : Fin 3) (p : Fin 3)
  /-- The bootstrap voltage of phase p falls below LOW_THR; `v` in 0.1 V (R207). -/
  | bootLowEntered (t : Tick) (b : Fin 3) (p : Fin 3) (v : Nat)
  /-- The bridge supply leaves its range (R211); `v` in 0.1 V. -/
  | vsBad (t : Tick) (b : Fin 3) (v : Nat)
  /-- The bridge supply returns into its range (R211); `v` in 0.1 V. -/
  | vsGood (t : Tick) (b : Fin 3) (v : Nat)
  /-- VDRV falls below its threshold (R211); `v` in 0.1 V. -/
  | vdrvLow (t : Tick) (v : Nat)
  /-- VDRV recovers (R211); `v` in 0.1 V. -/
  | vdrvGood (t : Tick) (v : Nat)
  /-- PRECHARGE ends (R212). -/
  | prechargeElapsed (t : Tick) (b : Fin 3)
  /-- ALIGN ends (R212). -/
  | alignElapsed (t : Tick) (b : Fin 3)
  /-- The ramp reaches its next step (R214). -/
  | rampStep (t : Tick) (b : Fin 3)
  /-- RAMP ends without lock (R212). -/
  | rampTimeout (t : Tick) (b : Fin 3)
  /-- A scheduled step change is due (R217). -/
  | stepChange (t : Tick) (b : Fin 3)
  /-- No crossing in its window (R217). -/
  | lossOfSynchronism (t : Tick) (b : Fin 3)
  /-- COAST ends (R212). -/
  | coastElapsed (t : Tick) (b : Fin 3)
  /-- Commits stay away (R213). -/
  | commitTimeout (t : Tick) (b : Fin 3)
  /-- The restart count is cleared (R212). -/
  | restartCountReset (t : Tick) (b : Fin 3)
  /-- The comparator of the floating phase has answered since the latest edge of the bridge's gates: the
  ticks of its samples on CLK_ADC, and whether SH is above VS / 2 (R217). -/
  | zeroCrossing (t : Tick) (b : Fin 3) (samples : List (Nat × Bool))
  -- Low-voltage converter (chapter 10)
  /-- The turn-on entry of phase p is due, LEAD before turn-on; `cur` is the phase current in Q0.23 (R225). -/
  | turnOnEntry (t : Tick) (p : Fin 2) (cur : Word24)
  /-- The peak comparator of phase p trips (R223). -/
  | peakTrip (t : Tick) (p : Fin 2)
  /-- An edge of SYNC_IN (R228). -/
  | syncInEdge (t : Tick)
  /-- Accepted SYNC_IN edges stay away (R228). -/
  | syncLost (t : Tick)
  /-- VREF takes its next step (R232). -/
  | vrefSlew (t : Tick)
  /-- RETRY_WAIT ends (R230). -/
  | retryWaitExpiry (t : Tick)
  -- Charger (chapter 11)
  /-- The CP front end reports a pilot cycle or 1 ms block: VH and VL in 0.1 V, the period in samples of 0.5 µs, the duty in 0.1 % (R240, R241). -/
  | pilotCycle (t : Tick) (vh vl : Int) (period duty : Nat)
  /-- The 1 ms measurement of the proximity circuit, in Ω (R244). -/
  | ppMeasurement (t : Tick) (ohms : Nat)
  /-- IIN_LIM is formed at a multiple of 1 ms (R245). -/
  | iinLimitUpdate (t : Tick)
  /-- The inlet has been in state B for 2 s (R246). -/
  | qualified (t : Tick)
  /-- The evaluation of the charge supervisor at a multiple of 1 ms (R249 to R252). -/
  | supervisorEvaluation (t : Tick)
  /-- CHG_TEMP has not been written for 1 s (R250). -/
  | tempStale (t : Tick)
  /-- OBC writes its input block to CE4 (R247). -/
  | obcInputWrite (t : Tick)
  /-- The safety timer expires (R252, R253). -/
  | safetyTimerExpiry (t : Tick)
  /-- WAIT_S has passed in WAIT (R251). -/
  | waitTimeout (t : Tick)
  /-- PRECOND_MIN has passed in PRECOND (R251). -/
  | precondTimeout (t : Tick)
  /-- BUS_OK has failed to come or to stay (R251). -/
  | noSupply (t : Tick)
  /-- Limiter index 1 has won for 1 s (R251). -/
  | cvEntry (t : Tick)
  /-- The output current has stayed below ITERM for TERM_S (R251). -/
  | terminationCurrentHold (t : Tick)
  /-- TOPOFF_MIN has passed (R251). -/
  | topoffElapsed (t : Tick)
  /-- The output voltage has been low for 10 s in MAINTAIN (R251). -/
  | recharge (t : Tick)
  /-- Step H1 of hand-over ends (R254). -/
  | rampEnd (t : Tick)
  /-- Step H3 of hand-over ends (R256). -/
  | handoverDone (t : Tick)
  -- Island checks, brakes and fault log (chapter 12)
  /-- The edge counts of a clock measurement (R264). -/
  | clockMeasurement (t : Tick) (c0 c1 c2 c3 c4 : Nat)
  /-- The supplies in mV at a comparison (R265). -/
  | supplyComparison (t : Tick) (v0 v1 v2 v3 v4 v5 : Nat)
  /-- A mismatch of the island cores or a double-bit error in island SRAM (R262). -/
  | islandFailure (t : Tick)
  /-- VDD_SAFE falls below its threshold (R261). -/
  | vddSafeLow (t : Tick)
  /-- ALIVE toggles (R263). -/
  | aliveToggle (t : Tick)
  /-- The causes of an AUTO row have been gone for 100 ms (R272). -/
  | autoRelease (t : Tick) (r : Fin 128)
  /-- A test pulse of brake channel n starts (R275). -/
  | testPulse (t : Tick) (n : Fin 2)
  /-- The check 20 µs into the pulse, with the voltage of the pulsed switch in 0.1 V (R275). -/
  | pulseCheck (t : Tick) (n : Fin 2) (v : Int)
  /-- The evaluation of the brake checks (R276). -/
  | brakeCheck (t : Tick) (n : Fin 2) (vhs vls vfb : Int) (icoil vbrk : Nat)
  /-- The 1 ms comparison of counts in B3 (R279). -/
  | moveCheck (t : Tick)
  /-- The torque tests of B3 (R279). -/
  | torqueCheck (t : Tick)
  /-- B3 ends after 2 s (R279). -/
  | brakeTestTorqueEnd (t : Tick)
  /-- SAFE_RESET rises, filtered (R280). -/
  | safeResetRise (t : Tick)
  /-- SAFE_RESET falls, filtered (R280). -/
  | safeResetFall (t : Tick)
  /-- 500 ms of press (R280). -/
  | pressTimeout (t : Tick)
  /-- ARM_S in ARMED (R280). -/
  | armTimeout (t : Tick)
  /-- The oldest waiting record is stored (R281). -/
  | flogStore (t : Tick)
  /-- FLOG_CTL.CLEAR is written (R281). -/
  | flogClear (t : Tick) (v : BitVec 16)
  /-- A die-sensor comparator trips (R418). -/
  | shutdownTrip (t : Tick) (n : Fin 14)
  /-- 1 ms after the trip both dies are held in reset (R418). -/
  | shutdownResetHold (t : Tick)
  -- Blaze (chapter 13)
  /-- The island tests the oldest frame that waits for it (R292). -/
  | blazeFrame (t : Tick)
  /-- The silence test at a multiple of 100 µs (R293). -/
  | silenceTest (t : Tick)
  /-- Transmit entry i sends the frame that waits longest (R291). -/
  | blazeTransmit (t : Tick) (i : Fin 64)
  /-- Transmit entry i has been idle for HEART (R291). -/
  | heartbeat (t : Tick) (i : Fin 64)
  /-- BLZ_CCTLi.RESTART is written 1 (R294). -/
  | restart (t : Tick) (i : Fin 64)
  -- Redundancy (chapter 14)
  /-- The comparator of pair k finds a mismatch at `pc` (R298). -/
  | lockstepMismatch (t : Tick) (k : Fin 6) (pc : Word32)
  /-- The self-test; bit k of `detected`: the comparator of pair k found the flipped bit (R307). -/
  | selfTestCycle (t : Tick) (detected : BitVec 6)
  /-- A multiple of PERIOD_S (R308). -/
  | roleSwap (t : Tick)
  /-- RED_TOKg is written (R306). -/
  | handOverRequest (t : Tick) (g : Fin 4) (v : Word32)
  /-- An accepted hand-over executes (R306). -/
  | tokenHanded (t : Tick) (g : Fin 4)
  /-- The 500 µs tick of the axle tokens (R310, R311). -/
  | axleStateTick (t : Tick)
  /-- RED takes the oldest axle-token payload that BLZ has delivered (R290, R310). -/
  | axleTokenFrame (t : Tick)
  /-- Group g has been free for RANK × 4 ms (R311). -/
  | axleClaim (t : Tick) (g : Fin 4)
  /-- 4 ms of YIELDING (R311). -/
  | yieldTimeout (t : Tick) (g : Fin 4)
  /-- Peer p is found unhealthy (R310). -/
  | peerUnhealthy (t : Tick) (p : Fin 4)
  -- Skid fabric (chapter 15)
  /-- Port p has received 64 valid characters (R316). -/
  | portAligned (t : Tick) (p : Fin 8)
  /-- A CREDIT frame arrives on port p; `bs` are the bytes between SOF and EOF, none where a code error cut the frame (R336). -/
  | credit (t : Tick) (p : Fin 8) (bs : List Byte)
  /-- A CREDIT frame is due on port p (R336). -/
  | creditUpdate (t : Tick) (p : Fin 8)
  /-- Port p finds silence (0), lost alignment (1) or code errors (2) (R316). -/
  | portSilence (t : Tick) (p : Fin 8) (cause : Fin 3)
  /-- Port p has had no valid CRUISE frame for 3 ms (R316). -/
  | cruiseTimeout (t : Tick) (p : Fin 8)
  /-- A CRUISE frame arrives on port p (R321). -/
  | cruise (t : Tick) (p : Fin 8) (bs : List Byte)
  /-- The cruise tick at a multiple of 1 ms (R320). -/
  | cruiseTick (t : Tick)
  /-- The view has been unchanged for 3 ms in ELECT (R322). -/
  | viewStable (t : Tick)
  /-- An ASSIGN_REQ frame arrives on port p (R323). -/
  | assignReq (t : Tick) (p : Fin 8) (bs : List Byte)
  /-- An ASSIGN frame arrives on port p (R322). -/
  | assign (t : Tick) (p : Fin 8) (bs : List Byte)
  /-- No ASSIGN has come for 20 ms (R322). -/
  | assignRetry (t : Tick)
  /-- 1 s has passed since the refusal of a number (R322). -/
  | unblazedRetry (t : Tick)
  /-- Numbers whose holders have been unreachable for HOLD_MS are freed (R323). -/
  | holdExpiry (t : Tick)
  /-- A ROUTE frame arrives on port p (R326). -/
  | route (t : Tick) (p : Fin 8) (bs : List Byte)
  /-- Port p sends the whole route table, every 10 ms (R325). -/
  | routeAdvertisement (t : Tick) (p : Fin 8)
  /-- Port p sends the changed routes (R325). -/
  | routeUpdate (t : Tick) (p : Fin 8)
  /-- Routes that have not been refreshed for 35 ms are withdrawn (R326). -/
  | routeWithdrawal (t : Tick)
  /-- A REGISTER frame arrives on port p (R330). -/
  | register (t : Tick) (p : Fin 8) (bs : List Byte)
  /-- A REGISTER_REPLY frame arrives on port p (R329). -/
  | registerReply (t : Tick) (p : Fin 8) (bs : List Byte)
  /-- Registrations unanswered for 20 ms are repeated (R329). -/
  | registerRetry (t : Tick)
  /-- A REFUSAL frame arrives on port p (R339). -/
  | refusal (t : Tick) (p : Fin 8) (bs : List Byte)
  /-- A DATA frame arrives on port p with the stamp of its SOF (R328, R332). -/
  | data (t : Tick) (p : Fin 8) (stamp : Tick) (bs : List Byte)
  /-- Port p starts its next frame (R337). -/
  | outputFrame (t : Tick) (p : Fin 8)
  /-- C1 frames too old in the output queue of port p are dropped (R339). -/
  | c1AgeDrop (t : Tick) (p : Fin 8)
  /-- The time exchange at a multiple of 1 ms (R333). -/
  | timeExchange (t : Tick)
  /-- A TIME_REQ frame arrives on port p (R333). -/
  | timeReq (t : Tick) (p : Fin 8) (stamp : Tick) (bs : List Byte)
  /-- A TIME_RESP frame arrives on port p (R333, R334). -/
  | timeResp (t : Tick) (p : Fin 8) (stamp : Tick) (bs : List Byte)
  /-- The response has not arrived within 20 µs (R333). -/
  | timeExchangeTimeout (t : Tick)
  /-- No exchange has completed for 5 ms (R335). -/
  | tbAlignTimeout (t : Tick)
  /-- SKD_TXPOST is written (R331). -/
  | txpost (t : Tick) (id : Fin 64) (v : Word32)
  /-- The skid DMA fetches the oldest posted record (R331). -/
  | recordFetch (t : Tick)
  -- CAN FD (chapter 16)
  /-- CAN_SHSEL is written (R354). -/
  | shsel (t : Tick) (id : Fin 64) (ch : Fin 6) (b : Fin 64)
  /-- CAN_TXCMD is written with GO (R356). -/
  | txcmdGo (t : Tick) (id : Fin 64) (ch : Fin 6) (b : Fin 64)
  /-- CAN_TXCMD is written with ABORT (R358). -/
  | abort (t : Tick) (id : Fin 64) (ch : Fin 6) (b : Fin 64)
  /-- The attempt to send the offered frame ends; `delay` is the loop delay measured in it, in CLK_CAN cycles (R349, R358). -/
  | transmissionEnd (t : Tick) (ch : Fin 6) (res : CanResult) (delay : Option Nat)
  /-- A protocol error; `flag`: the channel sends an error frame (R361). -/
  | canError (t : Tick) (ch : Fin 6) (k : CanFault) (flag : Bool)
  /-- CAN_CTL.RECOVER is written 1 (R362). -/
  | recover (t : Tick) (id : Fin 64) (ch : Fin 6)
  /-- Bus-off recovery completes (R362). -/
  | busOn (t : Tick) (ch : Fin 6)
  -- Mailboxes, rings and domains (chapter 17)
  /-- A write of `size` bytes to the window of mailbox m (R378). -/
  | mailboxWrite (t : Tick) (id : Fin 64) (m : Fin 64) (size : Nat) (w : Word256)
  /-- A read of the window of mailbox m: of 32 bytes, or of 4 bytes at lane j (R379). -/
  | mailboxRead (t : Tick) (id : Fin 64) (m : Fin 64) (size : Nat) (j : Fin 8)
  /-- The ring unit writes its oldest entry (R384). -/
  | ringEntryWrite (t : Tick)
  /-- LRG_RELr is written (R386). -/
  | ringRelease (t : Tick) (r : Fin 32) (v : Word32)
  /-- SYS_PDCTL.ON is written (R376, R377). -/
  | powerDomainRequest (t : Tick) (v : BitVec 10)
  /-- Domain d ends its transition (R376). -/
  | domainTransitionEnd (t : Tick) (d : Fin 10)
  -- Start-up and live replacement (chapter 18)
  /-- PORn or RESETn goes low; `cells` are NOR bytes that an external programmer changes while the device is in reset (R392, R394). -/
  | resetAssert (t : Tick) (cells : List (Nat × Byte))
  /-- The later of PORn and RESETn rises with the straps (R392). -/
  | resetRelease (t : Tick) (bootSlot splitEn strapTest : Bool)
  /-- The PLLs lock and the time base starts (R393). -/
  | pllLock (t : Tick)
  /-- Phase 3: FLOG is read (R393). -/
  | flogRead (t : Tick)
  /-- Phase 4: the headers are read and a slot is chosen; `silent`: the NOR does not answer (R398, R454). -/
  | slotSelect (t : Tick) (silent : Bool)
  /-- Phase 5 ends: the partitions have been read (R394). -/
  | imageReadDone (t : Tick)
  /-- Phase 6 (R393). -/
  | startLock (t : Tick)
  /-- BOOT_NVCMD is written with GO and OP ERASE (R401). -/
  | erase (t : Tick) (id : Fin 64)
  /-- BOOT_NVCMD is written with GO and OP PROGRAM (R401). -/
  | program (t : Tick) (id : Fin 64)
  /-- BOOT_NVCMD is written with GO and OP VERIFY (R401). -/
  | verify (t : Tick) (id : Fin 64)
  /-- BOOT_NVCMD is written with GO and OP SELECT (R399). -/
  | select (t : Tick) (id : Fin 64)
  /-- The NOR operation ends, with or without a NOR error (R401). -/
  | nvOperationDone (t : Tick) (err : Bool)
  /-- BOOT_ACT is written with GO (R402). -/
  | activate (t : Tick) (v : Word32)
  /-- The partition has been read into the staging area (R402). -/
  | activationReadDone (t : Tick)
  /-- STEP_WAIT has passed without IN_STEP (R402). -/
  | stepWaitExpiry (t : Tick)
  /-- BOOT_ARB.RAISE is written (R400). -/
  | raise (t : Tick) (v : BitVec 16)
  /-- BOOT_PAIRk is written with HOLD (R405). -/
  | hold (t : Tick) (k : Fin 6) (v : Word32)
  /-- BOOT_PAIRk is written with CHECKPOINT (R405). -/
  | checkpoint (t : Tick) (k : Fin 6)
  /-- HOLD_WAIT has passed without CHECKPOINT (R405). -/
  | holdWaitExpiry (t : Tick) (k : Fin 6)
  /-- The partition of pair k has been read (R405). -/
  | pairLoadDone (t : Tick) (k : Fin 6)
  -- Housekeeping and temperature (chapter 19)
  /-- A loop of the housekeeping sequence is due (R412). -/
  | sequenceLoopStart (t : Tick)
  /-- The conversion in progress ends with a code (R409, R411). -/
  | conversionEnd (t : Tick) (code : Fin 4096)
  /-- The converter has been idle for 8,000 tk (R415). -/
  | idleSensorConversion (t : Tick)
  /-- A read of HKA_RESi (R411). -/
  | hkaResultCapture (t : Tick) (i : Fin 48)
  /-- The step of the thermal models at a multiple of 1 ms (R419). -/
  | modelStep (t : Tick)
  /-- THM_TCOOLm has not been written for 1 s (R420). -/
  | coolantStale (t : Tick) (m : Fin 3)
  -- Trace and tallies (chapter 20)
  /-- A multiple of 1 ms: the port makes a TIME packet (R428). -/
  | traceTime (t : Tick)
  /-- The port sends its next packet (R430). -/
  | packetSend (t : Tick)
  /-- TRC_MSG is written (R429). -/
  | message (t : Tick) (id : Fin 64) (v : Word32)
  /-- TAL_INC is written (R433). -/
  | talInc (t : Tick) (id : Fin 64) (v : Word32)
  -- Happenings on balls and samples
  /-- Phase p reaches its longest on time (R223). -/
  | tmaxTurnOff (t : Tick) (p : Fin 2)
  /-- A bootstrap supply recovers (R209). -/
  | bootUvloRecovered (t : Tick) (b : Fin 3) (p : Fin 3)
  /-- VDD_SAFE reaches its power-on threshold (R261). -/
  | vddSafePowerOn (t : Tick)
  /-- A monitored clock shows no edge for 8 CLK_SAFE cycles (R264). -/
  | clockNoEdge (t : Tick) (c : Fin 5)
  /-- A housekeeping conversion takes its sample (R411, R413, R414). -/
  | conversionAperture (t : Tick)
  /-- Kept samples of a traced channel (R79, R427). -/
  | samplePacket (t : Tick) (lane : Fin 4) (samples : List Sample)
  /-- SYNC_OUT rises or falls (R229). -/
  | syncOutTransition (t : Tick) (v : Bool)
  /-- The next planned edge of bridge b takes place (R200, R203). -/
  | pulseEdge (t : Tick) (b : Fin 3)
deriving DecidableEq, Repr

end Sys2Proof
end

