-- ==== Sys2Proof/Decode.lean ====
section
/-!
DEFINITION. The decoder of command words. The table of operations and events gives no command any
bits, so no word spells a command.
-/

namespace Sys2Proof

/-- The command that a word spells by the table's bits: the table gives bits to none. -/
def decodeTableWord (_nbits _w : Nat) : Option Instr := none

end Sys2Proof
end

