-- ==== Sys2Proof/Config.lean ====
section
/-!
DEFINITION. What the spec leaves open: free values. Each is a constant without a body, so that
nothing can evaluate it and a claim holds whatever it is. A free value is drawn by applying the
constant to the counter `State.draws`, which the draw advances (see the assumption log).
-/

namespace Sys2Proof.Config

/-- The `n`-th free value of a run. -/
opaque free (n : Nat) : Nat

/-- The temperature in 0.1 °C that THM makes of a conversion code of a die sensor. The formula, and the
place of its trims in FLOG_TRIM, the spec does not give (R408, R416). -/
opaque dieTemp (trim : Vector Word32 64) (sensor code : Nat) : Int

end Sys2Proof.Config
end

