-- ==== Sys2Proof/Machine/Arith.lean ====
section
/-!
DEFINITION. Bit fields, byte order, rounding, sparse tables and check codes.
-/

namespace Sys2Proof.Machine

/-! ### Bit fields (R2) -/

/-- Bits [hi:lo] of a number. -/
def bits (x hi lo : Nat) : Nat := x / 2 ^ lo % 2 ^ (hi + 1 - lo)

/-- Bit `i` of a number. -/
def bit (x i : Nat) : Bool := x.testBit i

/-- A field placed at bit `lo`. -/
def put (x lo : Nat) : Nat := x * 2 ^ lo

/-- 1 or 0. -/
def b2n (b : Bool) : Nat := if b then 1 else 0

/-- The number of a list of flags, the first at bit 0. -/
def maskOf : List Bool → Nat
  | [] => 0
  | b :: bs => b2n b + 2 * maskOf bs

/-- `x` read as a signed number of `w` bits. -/
def sgn (w x : Nat) : Int :=
  let y := x % 2 ^ w
  if y < 2 ^ (w - 1) then (y : Int) else (y : Int) - (2 ^ w : Nat)

/-- An integer taken modulo 2^w. -/
def wrapN (w : Nat) (x : Int) : Nat := (x % ((2 ^ w : Nat) : Int)).toNat

/-- An integer saturated to a signed number of `w` bits. -/
def satI (w : Nat) (x : Int) : Int :=
  let m : Int := ((2 ^ (w - 1) : Nat) : Int)
  if x < -m then -m else if m ≤ x then m - 1 else x

/-- Whether an integer lies outside the signed numbers of `w` bits. -/
def overflows (w : Nat) (x : Int) : Bool := satI w x != x

/-! ### Little-endian bytes (R42, R173) -/

/-- The low `n` bytes of a number, lowest first. -/
def leBytes : Nat → Nat → List Byte
  | 0, _ => []
  | n + 1, x => BitVec.ofNat 8 x :: leBytes n (x / 256)

/-- The number that bytes spell, lowest first. -/
def leNat : List Byte → Nat
  | [] => 0
  | b :: bs => b.toNat + 256 * leNat bs

/-- Bytes `i` to `i + n - 1` of a frame, little-endian; a byte the frame does not have reads 0. -/
def leAt (bs : List Byte) (i n : Nat) : Nat := leNat ((bs.drop i).take n)

/-- Byte `i` of a frame. -/
def byteAt (bs : List Byte) (i : Nat) : Nat := (bs.getD i 0).toNat

/-! ### Rounding (R89) -/

/-- `x / d` truncated toward zero. -/
def truncDiv (x : Int) (d : Nat) : Int := x.tdiv d

/-- `x / d` rounded to the nearest integer, ties away from zero. -/
def roundDiv (x : Int) (d : Nat) : Int :=
  if x < 0 then -((((2 * x.natAbs + d) / (2 * d) : Nat)) : Int)
  else (((2 * x.natAbs + d) / (2 * d) : Nat) : Int)

/-- `x / d` rounded down. -/
def floorDiv (x : Int) (d : Nat) : Int := x.fdiv d

/-- min(max(x, lo), hi) (R104). -/
def clampI (x lo hi : Int) : Int := min (max x lo) hi

/-- min(max(x, lo), hi). -/
def clampN (x lo hi : Nat) : Nat := min (max x lo) hi

/-- The bits of the integer square root, from bit `k - 1` down. -/
def isqrtGo (n : Nat) : Nat → Nat → Nat
  | 0, r => r
  | k + 1, r => if (r + 2 ^ k) * (r + 2 ^ k) ≤ n then isqrtGo n k (r + 2 ^ k) else isqrtGo n k r

/-- The integer square root of a number below 2^160. -/
def isqrt (n : Nat) : Nat := isqrtGo n 80 0

/-! ### Vectors and lists -/

/-- The vector with entry `i` changed by `f`. -/
def vupd {α : Type} {n : Nat} (v : Vector α n) (i : Fin n) (f : α → α) : Vector α n :=
  v.set i (f v[i])

/-- The elements of a list that a test admits, changed by `f`. -/
def mapIf {α : Type} (p : α → Bool) (f : α → α) (l : List α) : List α :=
  l.map fun x => if p x then f x else x

/-- A left fold over a list of indices. -/
def foldS {α σ : Type} (l : List α) (s : σ) (f : σ → α → σ) : σ := l.foldl f s

/-! ### Sparse tables -/

/-- The entry of a key, `d` where none is listed. -/
def sget {α : Type} (d : α) : List (Nat × α) → Nat → α
  | [], _ => d
  | (k, v) :: t, a => if k = a then v else sget d t a

/-- The table with an entry in front whose value differs from the default. -/
def scons {α : Type} [DecidableEq α] (d : α) (a : Nat) (x : α) (t : List (Nat × α)) :
    List (Nat × α) :=
  if x = d then t else (a, x) :: t

/-- The table with key `a` set to `x`, in canonical form: keys rise and no value is the default. -/
def sput {α : Type} [DecidableEq α] (d : α) : List (Nat × α) → Nat → α → List (Nat × α)
  | [], a, x => scons d a x []
  | (k, v) :: t, a, x =>
    if a < k then scons d a x ((k, v) :: t)
    else if a = k then scons d a x t
    else (k, v) :: sput d t a x

/-- A table is in canonical form: keys above `lo` rise and no value is the default. -/
def swfFrom {α : Type} [DecidableEq α] (d : α) : Option Nat → List (Nat × α) → Bool
  | _, [] => true
  | none, (k, v) :: t => v != d && swfFrom d (some k) t
  | some lo, (k, v) :: t => lo < k && v != d && swfFrom d (some k) t

/-- A table is in canonical form. -/
def swf {α : Type} [DecidableEq α] (d : α) (t : List (Nat × α)) : Bool := swfFrom d none t

/-! ### Check codes -/

/-- One step of a CRC that takes the most significant bit first: width 8, polynomial `p`. -/
def crc8Bit (p c : Nat) : Nat := if c.testBit 7 then (c * 2 % 256).xor p else c * 2 % 256

/-- `n` steps of `f`. -/
def iter {α : Type} (f : α → α) : Nat → α → α
  | 0, x => x
  | n + 1, x => iter f n (f x)

/-- The CRC-8 of R175: polynomial 0x2F, initial value 0xFF, final XOR 0xFF, most significant bit
first. -/
def crc8 (bs : List Byte) : Byte :=
  BitVec.ofNat 8 ((bs.foldl (fun c b => iter (crc8Bit 0x2F) 8 (c.xor b.toNat)) 0xFF).xor 0xFF)

/-- One step of a reflected 32-bit CRC with polynomial `p`. -/
def crc32Bit (p c : Nat) : Nat := if c.testBit 0 then (c / 2).xor p else c / 2

/-- A reflected 32-bit CRC with initial value and final XOR 0xFFFF_FFFF. -/
def crc32 (p : Nat) (bs : List Byte) : Nat :=
  (bs.foldl (fun c b => iter (crc32Bit p) 8 (c.xor b.toNat)) 0xFFFFFFFF).xor 0xFFFFFFFF

/-- CRC-32C (Castagnoli). -/
def crc32c (bs : List Byte) : Nat := crc32 0x82F63B78 bs

end Sys2Proof.Machine
end

