-- ==== Sys2Proof/Machine/State.lean ====
section
/-!
DEFINITION. The state of the JXA-3212: every register, queue, buffer, counter, mode and pin the spec
names, as plain data, with the value each has after PORn (R8). A field's default is its reset value.
Fields marked "the model's own" are bookkeeping the spec only implies (a deadline, the tick at which
a condition began). Values the spec does not give are named in the assumption log.
-/

namespace Sys2Proof.Machine

/-- A stop. The device has no stop of its own: every command of the table has an effect or none. -/
inductive Fault where
  /-- Raised by no command: a place for a command that spells no operation of the device, which the
  operands of the table leave no room for. Safe. -/
  | illFormed (mnemonic : String)
deriving DecidableEq, Repr

/-- A refusal: the command has no meaning in the model. -/
inductive Refusal where
  /-- Answered by an arm of `exec` whose command is not modelled. Safe. -/
  | notModelled (mnemonic : String)
deriving DecidableEq, Repr

/-- A table with numeric keys in one canonical form: keys rise, no entry holds the value an
unlisted key reads as. -/
abbrev Sparse (α : Type) := List (Nat × α)

/-! ### Time, bus and memory (chapters 1 and 17) -/

/-- The time base and its copy on the power die (R27, R29, R31). -/
structure Clk where
  /-- The time base: ticks since the CLK_TB PLL locked (R27). -/
  now : Nat := 0
  /-- The CLK_TB PLL has locked since PORn (R27). -/
  locked : Bool := false
  /-- The power die's copy of the time base (R29). -/
  power : Nat := 0
  /-- Ticks since the latest CLK_ADC edge, 0 to 39 (R29; the model's own). -/
  phase : Nat := 0
  /-- Tick at which the latest beacon was loaded (R31; the model's own). -/
  lastBeacon : Nat := 0
  /-- POWER_TB_STALE (R31). -/
  stale : Bool := false
deriving DecidableEq, Repr

/-- What the latest bus access returned (R367, R374). -/
structure Bus where
  /-- Code of the latest bus error, 0 when the latest access ended without one. -/
  err : Nat := 0
  /-- Data the latest read returned, lowest address first. -/
  data : List Byte := []
  /-- The latest precise data abort: core, address, code (R367). -/
  abort : Option (Nat × Nat × Nat) := none
  /-- Per initiator: 1 + the 1 ms window in which its latest BUS_ERROR was recorded (R374). -/
  win : Vector Nat 64 := Vector.replicate 64 0
deriving DecidableEq, Repr

/-- The state of one switchable power domain (R375, R376). -/
inductive Dom where
  | off | turningOn | on | turningOff
deriving DecidableEq, Repr

/-- SYS (R365 to R377). -/
structure Sys where
  /-- SYS_PDCTL.ON (R376). -/
  pdctl : BitVec 10 := 0
  /-- The ten power domains (R375). -/
  dom : Vector Dom 10 := Vector.replicate 10 .off
  /-- SYS_ECCADDR (R370). -/
  eccAddr : Nat := 0
  /-- SYS_ECCBAD (R371). -/
  eccBad : Nat := 0
  /-- 1 + the 1 ms window of the latest ECC_CORRECTED record (R370). -/
  eccWin : Nat := 0
  /-- SYS_SCRUBPOS (R372). -/
  scrubPos : Nat := 0x10000000
  /-- The tick from which the scrubber may read its next word (R372). -/
  scrubAt : Nat := 0
  /-- Words whose correction is to be written back (R370). -/
  writeback : List Nat := []
  /-- Flipped bits of stored words, by the address of the 256-bit word (R368, R370, R371). -/
  flips : Sparse (List (Fin 266)) := []
  /-- SYS_IRQc_SYS.RESTART per core (R389, R405). -/
  restartReq : Vector Bool 12 := Vector.replicate 12 false
deriving DecidableEq, Repr

/-- One mailbox (R378 to R382). -/
structure Mailbox where
  full : Bool := false
  word : Word256 := 0
  collision : Bool := false
  /-- Initiator of the latest accepted write. -/
  sender : Nat := 0
  /-- Count of the latest accepted write, 0 none. -/
  seq : Nat := 0
deriving DecidableEq, Repr

/-- One landing ring (R383 to R387). -/
structure Ring where
  bad : Bool := false
  ridx : Nat := 0
  /-- Entries held. -/
  count : Nat := 0
  lost : Word32 := 0
  refused : Word32 := 0
deriving DecidableEq, Repr

/-- An entry waiting in the ring unit (R384): its ring, its place and its word. -/
structure RingEntry where
  ring : Fin 32
  idx : Nat
  word : Word256
deriving DecidableEq, Repr

/-- LRG (R383 to R387). -/
structure Lrg where
  ring : Vector Ring 32 := Vector.replicate 32 {}
  /-- The ring unit's queue, at most 64 entries, oldest first. -/
  waiting : List RingEntry := []
  /-- 1 + the CLK_BUS cycle of the latest entry written (R384). -/
  wrote : Nat := 0
deriving DecidableEq, Repr

/-! ### Trace (chapter 20) -/

/-- The kinds of trace packet, in the order in which the port sends them (R430). -/
inductive TraceKind where
  | time | loss | event | message | sample
deriving DecidableEq, Repr

/-- A packet in the trace buffer. -/
structure TracePacket where
  kind : TraceKind
  /-- TYPE and the fields (R426). -/
  body : List Byte
deriving DecidableEq, Repr

/-- TRC (R425 to R430). -/
structure Trc where
  buf : List TracePacket := []
  /-- Packets dropped since the latest LOSS packet (R430). -/
  lostSamples : Nat := 0
  lostEvents : Nat := 0
  lostMessages : Nat := 0
  /-- Where the port is free again, in fifths of a tick: a character takes 3.2 tk (R425). -/
  busy : Nat := 0
  /-- Where the latest pair of K28.5 ended, in fifths of a tick (R425). -/
  comma : Nat := 0
deriving DecidableEq, Repr

/-- What the device has put out on a port (R32), with the tick of its start. -/
structure Emission where
  port : Nat
  tick : Nat
  bytes : List Byte
deriving DecidableEq, Repr

/-! ### The command gate and the power-budget arbiter (chapter 2) -/

/-- The axle modes of R38. -/
inductive Mode where
  | off | standby | drive | charge | service | safeHold | lockout
deriving DecidableEq, Repr

/-- Where a frame came from, and so where its response goes (R45, R52). -/
structure Path where
  /-- false: a CAN channel; true: a fabric stream. -/
  stream : Bool
  /-- CAN channel, or the skid port of arrival for a stream. -/
  chan : Nat
  /-- CAN identifier or stream ID. -/
  ident : Nat
  /-- The Blaze receive entry, for a frame that came inside a Blaze frame (R290). -/
  blaze : Option (Fin 64)
deriving DecidableEq, Repr

/-- A command in the queue of R47. -/
structure Cmd where
  path : Path
  stamp : Nat
  /-- The 16 bytes of R42. -/
  bytes : List Byte
deriving DecidableEq, Repr

/-- An accepted command whose response waits for the next arbiter cycle (R53). -/
structure Waiting where
  cmd : Cmd
  mode : Mode
  /-- The consumer whose outcome the response carries (R52, R54). -/
  consumer : Fin 7
  /-- The machine whose limiter the response carries (R127). -/
  machine : Option (Fin 2)
deriving DecidableEq, Repr

/-- PBA (R38 to R61). -/
structure Pba where
  mode : Mode := .off
  prev : Mode := .off
  /-- PBA_VDCV.VOLTS (R39). -/
  volts : Nat := 0
  /-- Tick since which the link has been below HV_OFF (R40; the model's own). -/
  hvLow : Option Nat := none
  queue : List Cmd := []
  waiting : List Waiting := []
  /-- A mode change that waits for the domains of R377. -/
  toMode : Option Mode := none
  /-- PBA_LIM_DIS and PBA_LIM_CHG with the stamp of the latest frame (R61). -/
  limDis : Word32 := 0
  limChg : Word32 := 0
  limStamp : Nat := 0
  /-- The limits as they stood before the tick `limStamp` (R55; the model's own). -/
  oldDis : Word32 := 0
  oldChg : Word32 := 0
  oldStale : Bool := false
  /-- PBA_STATUS.LIMITS_STALE (R60). -/
  stale : Bool := false
  req : Vector Int 7 := Vector.replicate 7 0
  grant : Vector Int 7 := Vector.replicate 7 0
  outcome : Vector Nat 7 := Vector.replicate 7 0
  reason : Vector Nat 7 := Vector.replicate 7 0
  /-- PBA_CYCLE: start tick of the latest cycle. -/
  cycle : Nat := 0
  regenShort : Bool := false
  /-- Tick of the latest notice, per machine (R59). -/
  notice : Vector (Option Nat) 2 := Vector.replicate 2 none
  /-- Path of the latest accepted traction command, per machine, since the mode became DRIVE (R59). -/
  traction : Vector (Option Path) 2 := Vector.replicate 2 none
deriving DecidableEq, Repr

/-! ### Fast capture (chapter 3) -/

/-- One capture window in one carrier period: the registers in effect (R70). -/
structure Win where
  en : Bool := false
  set : Fin 16 := 0
  opn : Nat := 0
  close : Nat := 0
  mask : Nat := 0
  slot : Nat := 0
  /-- Sealed in its carrier period (R77; the model's own). -/
  sealed : Bool := false
  /-- It closes on the end of its period, which has passed, and has not been sealed yet (the model's
  own). -/
  owed : Bool := false
deriving DecidableEq, Repr

/-- The results of one capture window (R71, R73, R78). -/
structure WinRes where
  /-- The values sealed latest: SUM, COUNT, MEAN, close tick and flags (R71, R73). -/
  sum : Int := 0
  count : Nat := 0
  mean : Word24 := 0
  stamp : Nat := 0
  flags : BitVec 6 := 0
  /-- The values that a read of CAP_RSUM captured (R78). -/
  capFlags : BitVec 6 := 0
  capCount : Nat := 0
  capStamp : Word32 := 0
deriving DecidableEq, Repr

/-- Steps of rotating calibration (R81; the model's own numbering). -/
inductive CalStep where
  | overlapOut | switchOut | levels | overlapBack | switchBack
deriving DecidableEq, Repr

/-- A running calibration (R80, R81). -/
structure Cal where
  conv : Fin 24
  /-- The spare that shadows the converter, if any. -/
  spare : Option (Fin 24)
  step : CalStep
  /-- Tick at which the step began. -/
  since : Nat
deriving DecidableEq, Repr

/-- Trims of a converter and its age (R65, R83). -/
structure Conv where
  offset : Int := 0
  gain : Nat := 0x8000
  retired : Bool := false
  /-- Tick of the latest passed calibration (CAP_CALAGE). -/
  passed : Option Nat := none
deriving DecidableEq, Repr

/-- After PORn converter Fk converts channel k (R63). -/
def feedReset : Vector (Option (Fin 24)) 24 :=
  #v[some 0, some 1, some 2, some 3, some 4, some 5, some 6, some 7, some 8, some 9, some 10, some 11, 
    some 12, some 13, some 14, some 15, some 16, some 17, some 18, some 19, some 20, some 21, some 22, some 23]

/-- CAP (R63 to R86). -/
structure Cap where
  /-- The windows of each channel in the present carrier period of their group. -/
  win : Vector (Vector Win 8) 24 := Vector.replicate 24 (Vector.replicate 8 {})
  /-- The windows as they stood in the carrier period before (R70; the model's own). -/
  prior : Vector (Vector Win 8) 24 := Vector.replicate 24 (Vector.replicate 8 {})
  res : Vector (Vector WinRes 8) 24 := Vector.replicate 24 (Vector.replicate 8 {})
  /-- The latest raw code of each channel that a row has brought (CAP_SAMPLE). -/
  raw : Vector (BitVec 12) 24 := Vector.replicate 24 0
  /-- Samples that each lane of the trace tap has met, modulo 2^DECIM (R79; the model's own). -/
  tap : Vector Nat 4 := Vector.replicate 4 0
  conv : Vector Conv 24 := Vector.replicate 24 {}
  /-- The converter that feeds each channel now; none once it has lost its converter (R85). -/
  feed : Vector (Option (Fin 24)) 24 := feedReset
  /-- The converter that fed each channel before its latest move, and the tick of that move (R82; the
  model's own). -/
  was : Vector (Option (Fin 24)) 24 := feedReset
  moved : Vector Nat 24 := Vector.replicate 24 0
  /-- Channel to which F22 and F23 are bound (R85). -/
  bound22 : Option (Fin 24) := none
  bound23 : Option (Fin 24) := none
  cal : Option Cal := none
  /-- The converter whose turn comes next (R80). -/
  turn : Fin 24 := 0
  /-- Tick from which the next calibration start is counted (R80). -/
  calFrom : Nat := 0
  stopped : Bool := false
  /-- REF_SETTLING and REF_EXT_BAD (R67, R68), with the ticks at which settling began. -/
  settling : Vector Bool 3 := Vector.replicate 3 true
  settleFrom : Vector Nat 3 := Vector.replicate 3 0
  extBad : Bool := false
  /-- VREF_EXT has been out of range since its latest settling (R68). -/
  extWas : Bool := false
  /-- The latest stretch in which a reference was unsettled: its start, and its end once it is over
  (R67, R68; the model's own). -/
  unsetFrom : Vector Nat 3 := Vector.replicate 3 0
  settledAt : Vector Nat 3 := Vector.replicate 3 0
  /-- Edge notices in CAP: group and stamp (R74). -/
  notices : List (Nat × Nat) := []
  /-- Latest period start CAP knows of each group 0 to 6 (R70, R74). -/
  pstart : Vector (Option Nat) 7 := Vector.replicate 7 none
  /-- Length of the present period and of the one before. -/
  period : Vector Nat 7 := Vector.replicate 7 0
  priorPeriod : Vector Nat 7 := Vector.replicate 7 0
  /-- Set s has been delivered in the present carrier period (R77), and in the one before. -/
  delivered : Vector Bool 16 := Vector.replicate 16 false
  priorDelivered : Vector Bool 16 := Vector.replicate 16 false
deriving DecidableEq, Repr

/-! ### Control engines (chapter 4) -/

/-- CE_STATE.STATE (R91). -/
inductive EState where
  | stopped | idle | running | fault
deriving DecidableEq, Repr

/-- One control engine (R88 to R114). -/
structure Engine where
  state : EState := .stopped
  /-- CE_CTL.RUN. -/
  run : Bool := false
  pc : Nat := 0
  /-- w0 to w15 and acc0 to acc3 (R89). -/
  w : Vector Word24 16 := Vector.replicate 16 0
  acc : Vector Word48 4 := Vector.replicate 4 0
  /-- The flag word, its value at the end of the previous pass, and the flags that have risen since
  then (R96, R97). -/
  flags : BitVec 6 := 0
  flagsEnd : BitVec 6 := 0
  rose : BitVec 6 := 0
  /-- The CALL stack, latest first (R93, R100). -/
  stack : List Nat := []
  /-- The three trigger latches (R92). -/
  setPend : Bool := false
  timerPend : Bool := false
  swPend : Bool := false
  /-- Sets merged into the pending set latch, and the completion tick of the first (R94). -/
  setMask : BitVec 16 := 0
  setTick : Nat := 0
  /-- Tick at which the pending trigger of an IDLE engine was raised (R93). -/
  raised : Nat := 0
  /-- Tick by which the held writes of the latest pass have been applied, one word per cycle (R95; the
  model's own). -/
  readyAt : Nat := 0
  /-- Special register TRIG of this pass (R101). -/
  trig : BitVec 18 := 0
  /-- CE_PSTART (R93). -/
  pstart : Nat := 0
  /-- Special registers WIN, TOK and POSTR (R101). -/
  win : Nat := 0
  tok : Nat := 0
  tokEpoch : BitVec 16 := 0
  /-- The latest RENEW gave RENEWED or CLAIMED (R100). -/
  renewed : Bool := false
  postr : Bool := false
  /-- Cycles issued in this pass. -/
  cycles : Nat := 0
  /-- CE_PASS. -/
  passLast : Nat := 0
  passMax : Nat := 0
  /-- Staged values, key 16 × group + slot (R108). -/
  staged : Sparse Word24 := []
  /-- Program and data memory; an unlisted word reads 0. -/
  pmem : Sparse Word32 := []
  dmem : Sparse Word24 := []
  /-- Flipped bits of the 256-bit rows of both memories, by row (R90, R368). -/
  pflips : Sparse (List (Fin 266)) := []
  dflips : Sparse (List (Fin 266)) := []
  /-- Held writes, oldest first, at most 192 (R95). -/
  hold : List (Nat × Word24) := []
  /-- CE_STATE.FAULT_CAUSE (R112). -/
  cause : Nat := 0
  /-- CE_ENTRY and CE_CFG.MIRROR, which a write changes only in STOPPED (R113). -/
  entrySet : Nat := 0
  entryTimer : Nat := 0
  mirror : Nat := 0
  /-- CE_PLOAD (R113). -/
  loadSrc : Nat := 0
  loadBusy : Bool := false
  loadResult : Nat := 0
  loadCount : Nat := 0
  loadDest : Nat := 0
  loadFrom : Nat := 0
  /-- Rows, destination and source of the load in progress, as they stood at GO (R113; the model's
  own). -/
  goRows : Nat := 0
  goDest : Nat := 0
  goSrc : Nat := 0
  pcrc : Word32 := 0
deriving DecidableEq, Repr

/-! ### Traction control (chapter 5) -/

/-- TRX_STATEm.STATE (R138). -/
inductive TState where
  | idle | run | exit | safe | relocked | fly
deriving DecidableEq, Repr

/-- One traction machine (R117 to R138). -/
structure Traction where
  state : TState := .idle
  /-- Stored requests: 0.01 N·m and 0.1 rpm (R41, R140), and the kind of the stored request (R137). -/
  treq : Int := 0
  sreq : Int := 0
  reqSpeed : Bool := false
  /-- SPEED_MODE of the input block (R120). -/
  speedMode : Bool := false
  /-- TDEM in 0.01 N·m (R120, R137, R138). -/
  tdem : Int := 0
  /-- A write of the input block is due since a change (R120). -/
  dirty : Bool := false
  /-- ANGLE_SRC (R129 to R131). -/
  observer : Bool := false
  verified : Bool := false
  /-- VERIFIED before the evaluations of one tick, and that tick (R129; the model's own). -/
  verifiedWas : Bool := false
  evalAt : Option Nat := none
  agree : Nat := 0
  /-- Consecutive re-lock evaluations (R135). -/
  lockRun : Nat := 0
  /-- Latest evaluation: LOCKED and OSTAT[1] (R121, R133). -/
  locked : Bool := false
  relockRun : Bool := false
  limiter : Nat := 7
  /-- Latest ST of the reporting engine to OUT_WORD + 0 to 3 (R121). -/
  out : Vector Word24 4 := Vector.replicate 4 0
  /-- TRX_OANG, TRX_OSPD, TRX_TREF, TRX_ADIFF. -/
  oang : Word24 := 0
  ospd : Int := 0
  tref : Int := 0
  adiff : Word24 := 0
  /-- The speed the island received latest from the tracking observer, 0.1 rpm (R22). -/
  encSpeed : Int := 0
  /-- Tick since which the speed has been below standstill speed (R134). -/
  slowSince : Option Nat := none
  standstill : Bool := false
  /-- OBS_DISAGREE has been recorded in the present stretch (R139). -/
  disagreed : Bool := false
  /-- A restart request to the island is open (R136). -/
  restart : Bool := false
  /-- Tick of the latest entry to FLY (R137; the model's own). -/
  flyAt : Nat := 0
deriving DecidableEq, Repr

/-- TRX. -/
structure Trx where
  cfgBad : Bool := false
  m : Vector Traction 2 := Vector.replicate 2 {}
deriving DecidableEq, Repr

/-! ### Encoders (chapter 6) -/

/-- POS_STATEe.STATE (R146). -/
inductive EncState where
  | unreferenced | referenced | fault
deriving DecidableEq, Repr

/-- A latch of one encoder (R150): POS_L registers. -/
structure EncLatch where
  cnt : Nat := 0
  rev : Int := 0
  lpos : Word32 := 0
  lang : Word24 := 0
  lspd : Word32 := 0
  acc : Word32 := 0
  stamp : Nat := 0
deriving DecidableEq, Repr

/-- One encoder (R141 to R151, R464). -/
structure Encoder where
  a : Bool := false
  b : Bool := false
  z : Bool := false
  cnt : Nat := 0
  rev : Int := 0
  state : EncState := .unreferenced
  cause : Nat := 0
  armed : Bool := false
  /-- 1 ms window of the latest illegal transition, and the transitions in it (R144). -/
  illWin : Nat := 0
  illCount : Nat := 0
  /-- θ̂ in 2^-16 counts; ω̂ and α̂ as binary64 bit patterns (R464). -/
  theta : Int := 0
  omega : BitVec 64 := 0
  alpha : BitVec 64 := 0
  /-- Tick of the latest observer step (R149). -/
  stepTick : Nat := 0
  /-- Fault tests of the latest step (R147). -/
  trackBad : Bool := false
  speedBad : Bool := false
  /-- Ticks at which deliveries fall due, each from its own period start (R151; the model's own). -/
  due : List Nat := []
  latch : EncLatch := {}
  /-- What a read of POS_LPOS captured (R150). -/
  captured : EncLatch := {}
deriving DecidableEq, Repr

/-- POS. -/
structure Pos where
  enc : Vector Encoder 2 := Vector.replicate 2 {}
  /-- The emulated count at which the outputs stand, counted through, and the levels of EMU_A, EMU_B,
  EMU_Z (R152, R153). -/
  emuPos : Int := 0
  /-- SRC, EMU_LINES and DIR to which it refers, and the tick of the latest step of the outputs (the
  model's own). -/
  emuSrc : Fin 2 := 0
  emuLines : Nat := 0
  emuDir : Bool := false
  emuTick : Nat := 0
  emuA : Bool := false
  emuB : Bool := false
  emuZ : Bool := false
  overrate : Bool := false
deriving DecidableEq, Repr

/-! ### Gate scheduler and gate links (chapter 7) -/

/-- GSC_GSTATg.STATE (R172). -/
inductive GState where
  | opened | driven | safe
deriving DecidableEq, Repr

/-- A commit on its way to its receiver (R108, R161). -/
structure Commit where
  /-- The commit tick. -/
  tick : Nat
  engine : Fin 8
  epoch : Word32
  /-- The staged slots: slot and duty. -/
  slots : List (Nat × Word24)
deriving DecidableEq, Repr

/-- The part of an edge entry that concerns one leg (R163, R166). -/
structure Part where
  leg : Nat
  /-- Start of the loop interval the commit targeted. -/
  interval : Nat
  mask : BitVec 4
  level : BitVec 4
deriving DecidableEq, Repr

/-- An edge entry (R163, R168, R176). -/
structure Entry where
  stamp : Nat
  group : Fin 4
  epoch : Word32
  parts : List Part
deriving DecidableEq, Repr

/-- One gate group in the scheduler (R159 to R172). -/
structure Group where
  /-- PERIOD and PHASE as written, and as in effect since the latest period start (R159). -/
  periodW : Nat := 0
  phaseW : Nat := 0
  period : Nat := 0
  phase : Nat := 0
  /-- GSC_PSTART, and whether a period has started. -/
  pstart : Nat := 0
  started : Bool := false
  state : GState := .opened
  /-- The most recent duty of each slot (R161). -/
  duty : Vector (Option Word24) 16 := Vector.replicate 16 none
  commits : List Commit := []
  /-- Start of the interval targeted latest (R166). -/
  target : Option Nat := none
  lateLast : Nat := 0
  lateMax : Nat := 0
deriving DecidableEq, Repr

/-- One leg (R157, R162 to R165). -/
structure Leg where
  /-- GSC_LSTATl.STATE: 0 both off, 1 high, 2 low, 3 other. -/
  tracked : Nat := 0
  /-- Stamp of the latest transition. -/
  last : Option Nat := none
  late : Nat := 0
  /-- Start of the latest interval of which an entry of the leg has been sent (R166). -/
  sentOf : Option Nat := none
  /-- `tracked` and `last` as they stood when the interval targeted latest was first targeted, for a
  commit that replaces its entries (R166; the model's own). -/
  before : Nat := 0
  beforeLast : Option Nat := none
deriving DecidableEq, Repr

/-- GSC. -/
structure Gsc where
  cfgBad : Bool := false
  g : Vector Group 4 := Vector.replicate 4 {}
  leg : Vector Leg 24 := Vector.replicate 24 {}
deriving DecidableEq, Repr

/-- GLK_STATEl.STATE (R179). -/
inductive LState where
  | down | align | measure | identify | configure | sync | up | failed
deriving DecidableEq, Repr

/-- One gate link (R173 to R180). -/
structure Link where
  state : LState := .down
  /-- Tick of entry to the state. -/
  since : Nat := 0
  /-- Exchanges of bring-up done in the state (R179), and the tick the present one was sent. -/
  step : Nat := 0
  sent : Nat := 0
  turn : Nat := 0
  trips : List Nat := []
  /-- Value a bring-up read returned, to compare (IDENTIFY, CONFIGURE). -/
  hubId : Word32 := 0
  delay : Nat := 0
  /-- Consecutive good STATUS frames in SYNC. -/
  good : Nat := 0
  /-- Tick of the latest valid STATUS. -/
  lastStatus : Nat := 0
  /-- The latest STATUS bytes and the hub's counts (R175, R182). -/
  hState : Byte := 0
  hGates : Byte := 0
  hSupply : Byte := 0
  hLate : Byte := 0
  hErr : Byte := 0
  hDrop : Byte := 0
  /-- The link-loss pattern and whether a LOSS frame is to be sent (R178). -/
  lossP : BitVec 4 := 0
  lossDue : Bool := false
  /-- An ARM frame is to be sent (R171, R172). -/
  armDue : Bool := false
  /-- A beacon is due (R171, R177). -/
  beaconDue : Bool := false
  /-- The frame being sent is a beacon (R171; the model's own). -/
  beaconOut : Bool := false
  /-- GLK_CMD (R180). -/
  cmdBusy : Bool := false
  cmdResult : Nat := 0
  cmdRead : Bool := false
  cmdAddr : Nat := 0
  /-- The exchange in progress reads (the model's own). -/
  cmdFly : Bool := false
  /-- The CONFIG frame that waits for its turn: read, register, data (R171; the model's own). -/
  cmdDue : Option (Bool × Nat × Word32) := none
  /-- Sequence number of the next CONFIG frame (R175). -/
  cmdSeq : Nat := 0
  cmdSent : Nat := 0
  cmdData : Word32 := 0
  /-- Edge entries waiting, in stamp order, at most 64 (R168). -/
  queue : List Entry := []
  /-- Tick until which the port is busy with the frame it sends (R171; the model's own). -/
  busyTo : Nat := 0
deriving DecidableEq, Repr

/-! ### Power-stage protection (chapter 8) -/

/-- A safe pattern: none, all open, low-side or high-side short circuit (R132, R191, R197). -/
inductive Pattern where
  | none | allOpen | lowShort | highShort
deriving DecidableEq, Repr

/-- The reporting set of a group (R189 to R194) and its latest decision. -/
structure RSet where
  inForce : Bool := false
  /-- Receipt tick of the first report. -/
  opened : Nat := 0
  ch : BitVec 48 := 0
  kinds : BitVec 5 := 0
  low : Bool := false
  high : Bool := false
  firstKind : Nat := 0
  reports : Nat := 0
  decided : Bool := false
  /-- Tally counter 69 has counted this set (R197). -/
  counted : Bool := false
  /-- PSP_DECg. -/
  decSpeed : Nat := 0
  decSides : BitVec 2 := 0
  decPattern : Pattern := .none
deriving DecidableEq, Repr

/-- A PSP monitor (R195, R196). -/
structure Monitor where
  past : Bool := false
  /-- Present run of like windows, and whether they were over. -/
  run : Nat := 0
  runOver : Bool := false
  last : Word24 := 0
deriving DecidableEq, Repr

/-- PSP. -/
structure Psp where
  set : Vector RSet 4 := Vector.replicate 4 {}
  mon : Vector Monitor 8 := Vector.replicate 8 {}
deriving DecidableEq, Repr

/-! ### Auxiliary bridges (chapter 9) -/

/-- AXB_STATEb.STATE (R212). -/
inductive BState where
  | stopped | direct | precharge | align | ramp | run | brake | coast | stalled | held
deriving DecidableEq, Repr

/-- An edge the pulse generator has planned: tick of the power-die copy, phase, side and level. -/
structure PEdge where
  tick : Nat
  phase : Fin 3
  high : Bool
  on : Bool
deriving DecidableEq, Repr

/-- One phase of a bridge (R199, R207, R209). -/
structure Phase where
  /-- The gate requests: high side and low side. -/
  gh : Bool := false
  gl : Bool := false
  /-- Ticks at which each side turned off latest (R200), and on latest (R208, R217). -/
  ghOff : Nat := 0
  glOff : Nat := 0
  ghOn : Nat := 0
  glOn : Nat := 0
  bootLow : Bool := true
  /-- BOOT_LOW as the latest period start found it (R203, R207). -/
  lowAt : Bool := true
  uvlo : Bool := true
  /-- The high side waits for a period start after a lockout (R209). -/
  hold : Bool := false
deriving DecidableEq, Repr

/-- A commit on its way to a bridge (R202). -/
structure BCommit where
  /-- Tick of the power-die copy at which it arrived. -/
  tick : Nat
  slots : List (Nat × Word24)
  /-- It arrived in RUN (R214). -/
  run : Bool := false
deriving DecidableEq, Repr

/-- One bridge (R199 to R219). -/
structure Bridge where
  state : BState := .stopped
  step : Nat := 0
  /-- Direction in use and direction requested latest; true is reverse. -/
  dir : Bool := false
  reqDir : Bool := false
  phase : Vector Phase 3 := Vector.replicate 3 {}
  /-- Island pattern: 0 none, 1 FREEWHEEL, 2 BRAKE_SHORT. -/
  island : Nat := 0
  /-- Tick of entry to the state, and start of RAMP. -/
  since : Nat := 0
  rampFrom : Nat := 0
  restarts : Nat := 0
  /-- The values of slots 0 to 3 in effect, and the commits that wait for a period start. -/
  slots : Vector Word24 4 := Vector.replicate 4 0
  commits : List BCommit := []
  /-- Tick of the latest accepted commit (R213). -/
  lastCommit : Nat := 0
  /-- A commit has reached the bridge since entry to RUN (R214). -/
  runDuty : Bool := false
  /-- Carrier: registers in effect since the latest period start, and that start. -/
  period : Nat := 0
  cphase : Nat := 0
  pstart : Nat := 0
  started : Bool := false
  /-- The duty of this period's placement in six-step operation, and the placement [a, b) of the PWM
  phase, in cycles (R203, R214). -/
  pduty : Nat := 0
  pa : Nat := 0
  pb : Nat := 0
  /-- Edges planned and not yet executed, in order. -/
  edges : List PEdge := []
  /-- Ticks of the edges executed since the start of the previous period (R204; the model's own). -/
  recent : List Nat := []
  /-- Current sampling (R204). -/
  missed : Bool := false
  codeU : Nat := 0
  codeV : Nat := 0
  iu : Word24 := 0
  iv : Word24 := 0
  overRun : Nat := 0
  /-- The input block of this period has been written (R205). -/
  written : Bool := true
  /-- Six-step: latest T60, step count, start and scheduled length of the step in progress, lengths
  of the latest completed steps (latest first), crossings. -/
  t60 : Nat := 0
  steps : Int := 0
  stepAt : Nat := 0
  stepLen : Nat := 0
  done : List Nat := []
  lastCross : Nat := 0
  crossed : Bool := false
  zcRun : Nat := 0
  earlyRun : Nat := 0
  /-- The filter of the comparator in this step: consecutive counted samples at the expected level, the
  first of them, and a counted sample at the other level seen (R217). -/
  filtRun : Nat := 0
  filtAt : Nat := 0
  filtSeen : Bool := false
  nextStep : Option Nat := none
  /-- CMD word (R205, R219). -/
  cmdCount : Nat := 0
  cmdArg : Int := 0
  vsBad : Bool := false
deriving DecidableEq, Repr

/-- AXB. -/
structure Axb where
  b : Vector Bridge 3 := Vector.replicate 3 {}
  vdrvLow : Bool := false
deriving DecidableEq, Repr
/-! ### Low-voltage converter (chapter 10) -/

/-- DCC_STATUS.STATE (R230). -/
inductive DState where
  | idle | softStart | run | retryWait | lockedOff | held
deriving DecidableEq, Repr

/-- One primary phase (R222 to R226). -/
structure DPhase where
  /-- Turn-on tick of the on-interval whose off entry has not been issued. -/
  ton : Option Nat := none
  /-- Length of the period to which the on-interval belongs, for TMAX (R228). -/
  period : Nat := 0
  /-- IPK and the enable in effect since the latest turn-on entry (R226). -/
  ipk : Int := 0
  /-- Turn-on tick of the latest turn-on entry or skip: at most one per period. -/
  lastOn : Option Nat := none
  /-- Stamp of the latest off entry (R231). -/
  lastOff : Nat := 0
  minOn : Bool := false
  maxed : Bool := false
  skipped : Bool := false
  thr : Word24 := 0
  /-- Turn-on tick of the latest minimum-on period, and MIN_ON of the previous period (R227). -/
  minAt : Option Nat := none
  prevMin : Bool := false
deriving DecidableEq, Repr

/-- DCC (R222 to R237). -/
structure Dcc where
  state : DState := .idle
  attempt : Nat := 0
  /-- Target in mV, VREF in µV, step rate in RUN in µV per 1,600 tk (R232). -/
  target : Nat := 0
  vref : Nat := 0
  rate : Nat := 0
  /-- Tick of the latest step of VREF (R232, R234; the model's own). -/
  slewAt : Option Nat := none
  /-- Tick of entry to SOFT_START, and of the stop (R230, R232). -/
  since : Nat := 0
  stopAt : Nat := 0
  /-- Close tick of the first of a run of below windows; OUTPUT_LOW has been recorded for it. -/
  lowRun : Option Nat := none
  lowTold : Bool := false
  /-- Minimum-on periods of the attempt (R236). -/
  minOns : Nat := 0
  phase : Vector DPhase 2 := Vector.replicate 2 {}
  pred : Word24 := 0
  /-- Latest MEANs of the VIN and VOUT windows (R224). -/
  vin : Word24 := 0
  vout : Word24 := 0
  /-- Values of the latest accepted commit: IPK, enables, epoch (R226). -/
  ipk : Int := 0
  enable : BitVec 2 := 0
  epoch : Word32 := 0
  /-- SYNC_IN: stamp of the latest accepted edge, latest accepted spacing, consecutive accepted
  edges, SYNC_LOCKED, and the period starts fixed and not yet taken place (R228). -/
  edge : Option Nat := none
  spacing : Nat := 0
  edges : Nat := 0
  locked : Bool := false
  starts : List Nat := []
  /-- Length of the present period: the measured spacing of a synchronised one. -/
  period : Nat := 0
  /-- SYNC_OUT (R229). -/
  syncOut : Bool := false
deriving DecidableEq, Repr

/-! ### Charger (chapter 11) -/

/-- CHG_SUP.STATE (R251). -/
inductive SState where
  | idle | wait | precond | cc | cv | topoff | maintain | handover
deriving DecidableEq, Repr

/-- OBC (R247, R248, R258). -/
structure Obc where
  /-- CTRL.RUN and CTRL.RAMP_DOWN. -/
  run : Bool := false
  rampDown : Bool := false
  limiter : Nat := 7
  /-- Latest ST of the reporting engine to OUT_WORD + 0 and 1, and its value at the latest commit. -/
  out : Vector Word24 2 := Vector.replicate 2 0
  busOk : Bool := false
  pll : Bool := false
  iappl : Word24 := 0
  iinLim : Nat := 0
  /-- ISET in mA and VSET in 0.1 V. -/
  iset : Int := 0
  vset : Int := 0
  /-- OBC_ISET: the latest ISET word. -/
  isetWord : Word24 := 0
  /-- A write of the input block is due (R247; the model's own). -/
  dirty : Bool := false
deriving DecidableEq, Repr

/-- CHG (R239 to R257). -/
structure Chg where
  /-- Accepted pilot state: 0 A to 5 F, 7 invalid. -/
  pilot : Nat := 0
  pwm : Bool := false
  /-- Duty in 0.1 %, VH and VL in 0.1 V. -/
  duty : Nat := 0
  vh : Int := 0
  vl : Int := 0
  /-- The state the latest cycles show, how many in a row, and the tick of the first. -/
  cand : Nat := 0
  candRun : Nat := 0
  candAt : Nat := 0
  cable : Nat := 0
  ohms : Nat := 65535
  ccand : Nat := 0
  ccandRun : Nat := 0
  s2 : Bool := false
  qualified : Bool := false
  /-- Ticks of the acceptance of B and of the cable code, and of the end of the latest hand-over. -/
  bAt : Nat := 0
  cableAt : Nat := 0
  handAt : Nat := 0
  state : SState := .idle
  /-- Tick of entry to the state. -/
  since : Nat := 0
  term : Nat := 0
  thermalAtExpiry : Bool := false
  exitPending : Bool := false
  band : Nat := 5
  /-- ILIM and VLIM (CHARGE_LIMITS). -/
  ilim : Nat := 0
  vlim : Nat := 0
  /-- Tick of the latest write of CHG_TEMP. -/
  tempAt : Option Nat := none
  elapsed : Nat := 0
  lastAdd : Nat := 0
  /-- Tick at which S2 closed, and BUS_OK since (R251). -/
  s2At : Nat := 0
  busSeen : Bool := false
  busLostAt : Option Nat := none
  /-- Ticks since which limiter index 1 wins, the output current is below ITERM, the output voltage
  is below its recharge level (R251; the model's own). -/
  limSince : Option Nat := none
  lowCurrent : Option Nat := none
  lowVoltage : Option Nat := none
  /-- Latest output voltage and current MEANs of the windows of OBC_WIN. -/
  vout : Word24 := 0
  iout : Word24 := 0
  /-- Hand-over: step, start, start of H3, ignored changes, duration, SUPPLY_DROPPED, intervals below
  GRID_OFF in a row and the largest grid voltage of the present interval (R254). -/
  step : Nat := 0
  start : Nat := 0
  h3At : Nat := 0
  ignored : Nat := 0
  duration : Nat := 0
  dropped : Bool := false
  offRun : Nat := 0
  gridMax : Nat := 0
deriving DecidableEq, Repr


/-! ### Ranger island, safe brake and fault log (chapter 12) -/

/-- A fault report on the fault network (R17, R267). -/
structure Report where
  /-- Tick at which the island receives it. -/
  rx : Nat
  block : Nat
  unit : Nat
  event : Nat
  /-- The F byte of a FAULT_COMMA report (R267). -/
  f : Byte := 0
  /-- The cause of a POSITION_LOST report (R267), or 1 for a FAULT_COMMA report that has joined its
  reporting set on receipt (R190). -/
  sub : Nat := 0
deriving DecidableEq, Repr

/-- An active reaction row and the reports it reacted to (R268, R272). -/
structure ActiveRow where
  row : Nat
  causes : List Report
  /-- Tick since which every cause has been gone (R272; the model's own). -/
  goneSince : Option Nat := none
deriving DecidableEq, Repr

/-- RNG_LOCK.STEP (R280): 0 none. -/
inductive LockStep where
  | none | locked | armed | pressed | testing
deriving DecidableEq, Repr

/-- The brake test (R279). -/
structure BrakeTest where
  /-- 0 none, 1 to 4 for B1 to B4. -/
  step : Nat := 0
  result : Nat := 0
  /-- Test torque, 0.01 N·m. -/
  torque : Int := 0
  /-- The test is step 4 of the deliberate reset. -/
  reset : Bool := false
  /-- Start of B3, and its first accepted commit. -/
  start : Nat := 0
  first : Option Nat := none
  /-- |TRX_TREFm| has reached 90 % of the test torque in B3 (R279; the model's own). -/
  torqueOk : Vector Bool 2 := Vector.replicate 2 false
  startCnt : Vector Int 2 := Vector.replicate 2 0
  move : Vector Nat 2 := Vector.replicate 2 0
deriving DecidableEq, Repr

/-- A monitored clock (R264). -/
structure ClockMon where
  bad : Bool := false
  /-- Consecutive measurements out of limits. -/
  run : Nat := 0
  count : Nat := 0
deriving DecidableEq, Repr

/-- A monitored supply (R265). -/
structure SupplyMon where
  bad : Bool := false
  run : Nat := 0
  mv : Nat := 0
deriving DecidableEq, Repr

/-- One safe-brake channel (R274 to R277). -/
structure Brake where
  energised : Bool := false
  /-- Tick of the latest change of command. -/
  changed : Nat := 0
  /-- Consecutive failed evaluations of causes 1 to 7 (R276). -/
  fails : Vector Nat 7 := Vector.replicate 7 0
  /-- The causes present: bit c for cause c of R276 (R277). -/
  faults : BitVec 8 := 0
  hsOn : Bool := false
  lsOn : Bool := false
  /-- A test pulse runs; its switch and its start (R275). -/
  pulse : Bool := false
  pulseHigh : Bool := true
  pulseAt : Nat := 0
  /-- Failed pulse checks in a row on the switch, and the tick of the latest failure. -/
  pulseFails : Nat := 0
  retryAt : Option Nat := none
  vhs : Int := 0
  vls : Int := 0
  vfb : Int := 0
  icoil : Nat := 0
  passed : BitVec 16 := 0
deriving DecidableEq, Repr

/-- SBC. -/
structure Sbc where
  vbrk : Nat := 0
  ch : Vector Brake 2 := Vector.replicate 2 {}
deriving DecidableEq, Repr

/-- RNG (R260 to R280). -/
structure Rng where
  /-- Reports on the fault network that the island has not evaluated, oldest first. -/
  net : List Report := []
  last : Option Report := none
  active : List ActiveRow := []
  /-- The pattern the island holds on each group (R133, R271), and the TRACTION value in force. -/
  pattern : Vector Pattern 4 := Vector.replicate 4 .none
  trac : Vector Nat 4 := Vector.replicate 4 0
  /-- Groups whose revocation B3 of a brake test has lifted (R279). -/
  lifted : Vector Bool 4 := Vector.replicate 4 false
  /-- The fixed reaction of R278 holds TA and TB and has LOCKOUT. -/
  brakeHold : Bool := false
  failed : Bool := false
  alive : Bool := false
  aliveAt : Nat := 0
  clock : Vector ClockMon 5 := Vector.replicate 5 {}
  supply : Vector SupplyMon 6 := Vector.replicate 6 {}
  /-- VDD_SAFE has reached its power-on threshold (R261). -/
  powered : Bool := true
  lock : LockStep := .none
  armedAt : Nat := 0
  /-- Filtered SAFE_RESET and the stamp of its rise (R280). -/
  safeReset : Bool := false
  pressAt : Nat := 0
  pressMs : Nat := 0
  test : BrakeTest := {}
  /-- The 256 KiB of island SRAM: its bytes, and the bits of its 266-bit words that have flipped (R260).
  No access to it has an address in the spec; the island cores' own accesses have no row. -/
  sram : List Host.Cell := []
  sramFlips : Sparse (List (Fin 266)) := []
  /-- Latched over-temperature shutdown and the tick of its trip (R418). -/
  shutdown : Bool := false
  shutAt : Nat := 0
deriving DecidableEq, Repr

/-- FLOG (R281, R286). -/
structure Flog where
  /-- Records by position. -/
  recs : Sparse Word256 := []
  pinned : Bool := false
  count : Nat := 0
  next : Nat := 1
  writes : Nat := 0
  /-- The regions written at manufacture, and FLOG_ARB.STEPS (R400, R408). -/
  die : Nat := 0
  steps : Nat := 0
  keyHash : List Byte := List.replicate 32 0
  capTrim : Vector Word32 24 := Vector.replicate 24 0x80000000
  trim : Vector Word32 64 := Vector.replicate 64 0
  /-- Records that wait to be stored, oldest first. -/
  waiting : List Word256 := []
deriving DecidableEq, Repr
/-! ### Blaze (chapter 13) -/

/-- A frame that waits for the island cores (R292). -/
structure BlzFrame where
  stream : Bool
  chan : Nat
  ident : Nat
  stamp : Nat
  data : List Byte
deriving DecidableEq, Repr

/-- BLZ_CSTATi.STATE (R294). -/
inductive ConnState where
  | closed | waiting | running | failed
deriving DecidableEq, Repr

/-- A Blaze connection entry (R289 to R294). -/
structure Conn where
  state : ConnState := .closed
  /-- Latest good SEQ, or latest sent SEQ; whether there is one. -/
  seq : Nat := 0
  got : Bool := false
  /-- Stamp of the latest good frame, and tick of entry into WAITING. -/
  p : Nat := 0
  since : Nat := 0
  /-- Transmit: tick of the latest frame, or of the end of start-up, and the payloads that wait. -/
  lastTx : Nat := 0
  txq : List (List Byte) := []
deriving DecidableEq, Repr

/-- BLZ. -/
structure Blz where
  conn : Vector Conn 64 := Vector.replicate 64 {}
  rx : List BlzFrame := []
  /-- The enabled connections beyond the 64th that the image lists, in the image's order (R289). -/
  excess : List Nat := []
deriving DecidableEq, Repr


/-! ### Redundancy and tokens (chapter 14) -/

/-- RED_TOKg.STATE (R300). -/
inductive TokState where
  | free | held | expired | blocked | revoked
deriving DecidableEq, Repr

/-- A drive token (R300 to R306). -/
structure Token where
  state : TokState := .blocked
  holder : Option (Fin 8) := none
  /-- The last holder (R302, R303). -/
  former : Option (Fin 8) := none
  epoch : Word32 := 0
  /-- Close of the lease, and the tick of expiry (R300). -/
  leaseEnd : Nat := 0
  expiredAt : Nat := 0
  /-- TOKEN_UNCLAIMED has been reported for this expiry (R172; the model's own). -/
  unclaimed : Bool := false
  /-- Hand-over (R306). -/
  result : Nat := 0
  target : Nat := 0
  handing : Option (Fin 8) := none
  /-- Tick of the request that stands (R306; the model's own). -/
  handAt : Nat := 0
  /-- TARGET's first RENEW after a hand-over returns CLAIMED (R306). -/
  fresh : Bool := false
deriving DecidableEq, Repr

/-- A commit kept for comparison: engine, pass-start tick and staged slots (R305). -/
structure Kept where
  engine : Fin 8
  pstart : Nat
  slots : List (Nat × Word24)
deriving DecidableEq, Repr

/-- A comparison group (R305). -/
structure Step where
  run : Nat := 0
  inStep : Bool := false
  act : Option Kept := none
  part : Option Kept := none
deriving DecidableEq, Repr

/-- A lockstep pair (R297 to R299). -/
structure Pair where
  /-- RED_PAIRk.STATE: 0 lockstep, 1 split, 2 stopped after mismatch, 3 domain off. -/
  state : Nat := 0
  splitReq : Bool := false
  /-- The pair's cores run (they are held in reset before START_LOCK and after a HOLD, R376, R405). -/
  released : Bool := false
deriving DecidableEq, Repr

/-- An axle token (R309 to R312). -/
structure AxTok where
  /-- RED_AXSTATg.AXSTATE: 0, 1 STANDBY, 3 HOLDER, 4 YIELDING. -/
  state : Nat := 0
  aepoch : Word32 := 0
  /-- The largest epoch seen, in serial-number order (R312). -/
  seen : Word32 := 0
  holderNode : Nat := 0
  /-- Tick since which the group has been free in this device's view (R311). -/
  freeSince : Nat := 0
  /-- Tick of the YIELD, and the device to which the group was yielded. -/
  yieldAt : Nat := 0
deriving DecidableEq, Repr

/-- An axle peer (R310). -/
structure Peer where
  healthy : Bool := false
  /-- HOLDING bits of the latest STATE frame and of the one before, with their stamps (R311). -/
  holds : BitVec 4 := 0
  at1 : Nat := 0
  holds2 : BitVec 4 := 0
  at2 : Nat := 0
  node : Nat := 0
  health : Nat := 0
  hcycle : Nat := 0
  /-- Tick at which HCYCLE changed latest. -/
  hcycleAt : Nat := 0
deriving DecidableEq, Repr

/-- RED. -/
structure Red where
  splitEn : Bool := false
  tok : Vector Token 4 := #v[{}, {}, {}, { state := .free }]
  step : Vector Step 7 := Vector.replicate 7 {}
  pair : Vector Pair 6 := Vector.replicate 6 {}
  health : Nat := 0
  hcycle : Nat := 0
  ax : Vector AxTok 4 := Vector.replicate 4 {}
  peer : Vector Peer 4 := Vector.replicate 4 {}
  /-- Axle-token payloads that BLZ has delivered, oldest first: peer, receipt stamp, payload (R290;
  the model's own). -/
  inbox : List (Fin 4 × Nat × List Byte) := []
  /-- Tick of the end of start-up, from which R307 and R308 count. -/
  started : Option Nat := none
deriving DecidableEq, Repr
/-! ### CAN FD (chapter 16) -/

/-- A message buffer (R353 to R358). -/
structure CanBuf where
  frame : CanFrame := {}
  stamp : Nat := 0
  filter : Nat := 0
  new : Bool := false
  pend : Bool := false
  oneshot : Bool := false
  /-- ABORT has been written while the frame was on the bus. -/
  abort : Bool := false
  txres : Nat := 0
deriving DecidableEq, Repr

/-- What a channel offers to the bus: a transmit buffer or the head of the internal queue (R357). -/
inductive CanOffer where
  | none
  | buffer (b : Fin 64)
  | queue
deriving DecidableEq, Repr

/-- One CAN FD channel (R345 to R364). -/
structure CanChan where
  buf : Vector CanBuf 64 := Vector.replicate 64 {}
  /-- The shadow registers (R354). -/
  shadow : CanBuf := {}
  tecCount : Nat := 0
  recCount : Nat := 0
  /-- CAN_STATUS.STATE: 0 active, 1 passive, 2 bus-off, 3 not running. -/
  st : Nat := 3
  tdcv : Nat := 0
  offer : CanOffer := .none
  /-- Tick of the next start of frame: from it on the frame on offer is on the bus (R357; the model's
  own). -/
  sofAt : Nat := 0
  /-- Another node's frame, which won the arbitration, is on the bus (R358). -/
  other : Bool := false
  /-- ESI of the frame on offer, and the latest frame sent (R345). -/
  esi : Bool := false
  lastSent : Option CanFrame := none
  /-- The internal queue of R360. -/
  queue : List CanFrame := []
  /-- Bus-off recovery has started (R362). -/
  recovering : Bool := false
deriving DecidableEq, Repr

/-! ### Skid fabric (chapter 15) -/

/-- A frame in an output queue (R336, R337): header, payload and CRC-32. -/
structure SkdFrame where
  bytes : List Byte
  cls : Nat
  kind : Nat
  /-- Tick of entry into the queue (R339). -/
  tick : Nat
  /-- The port whose receive buffer holds it, none for a frame of this device. -/
  src : Option (Fin 8)
  /-- Copies of one frame share a number (the model's own). -/
  ident : Nat
deriving DecidableEq, Repr

/-- The content of a CRUISE frame (R320). -/
structure CruiseInfo where
  die : Nat
  coord : Nat
  cseq : Nat
  dist : Nat
  node : Nat
  req : Nat
  flags : Nat
deriving DecidableEq, Repr

/-- SKD_PORTp.STATE (R316). -/
inductive PortState where
  | down | align | credit | up
deriving DecidableEq, Repr

/-- The latest CSEQ of a COORD_ID on a port, and the tick at which it advanced (R321). -/
structure CoordSeq where
  coord : Nat
  cseq : Nat
  advAt : Nat
deriving DecidableEq, Repr

/-- One skid port (R315, R316, R336). -/
structure SkdPort where
  state : PortState := .down
  /-- The latest CRUISE frame and its tick; what the port has seen of each COORD_ID (R321). -/
  info : Option CruiseInfo := none
  infoAt : Nat := 0
  seqs : List CoordSeq := []
  /-- Link-local frames and routed frames that wait, in order of entry. -/
  link : List SkdFrame := []
  out : List SkdFrame := []
  /-- Units of C0, C1, C2 sent, freed by the neighbour and freed here, cumulative. -/
  sent : Vector Nat 3 := Vector.replicate 3 0
  theirs : Vector Nat 3 := Vector.replicate 3 0
  freed : Vector Nat 3 := Vector.replicate 3 0
  /-- Units freed since the latest CREDIT frame, and its tick. -/
  untold : Nat := 0
  creditAt : Nat := 0
  /-- Fifths of a tick until which the output sends (R315). -/
  busy : Nat := 0
  /-- Bytes of C2 and of C3 sent while both waited (R337). -/
  bytes2 : Nat := 0
  bytes3 : Nat := 0
  /-- Routes changed since the latest ROUTE frame, and the ticks of the latest frames (R325). -/
  changed : List Nat := []
  updateAt : Nat := 0
  advertAt : Nat := 0
deriving DecidableEq, Repr

/-- SKD_STATUS.CRUISE (R322). -/
inductive CruiseState where
  | listen | elect | numbering | numbered | unblazed
deriving DecidableEq, Repr

/-- The coordinator view (R321); no port for a device that is its own view. -/
structure SkdView where
  coord : Nat
  dist : Nat
  port : Option (Fin 8)
deriving DecidableEq, Repr

/-- An offer of a route: 1 to 15 hops, 16 beyond the limit, 0 none (R326). -/
structure Offer where
  hops : Nat := 0
  tick : Nat := 0
deriving DecidableEq, Repr

/-- A route (R326). -/
structure Route where
  reach : Nat := 0
  hops : Nat := 0
  port : Nat := 0
deriving DecidableEq, Repr

/-- An entry of the coordinator's number table, with the tick since which the holder has been
unreachable (R323). -/
structure NumEntry where
  num : Nat
  die : Nat
  lost : Option Nat
deriving DecidableEq, Repr

/-- Drops of a C1 stream of one source that await a notice (R339). -/
structure C1Drop where
  stream : Nat
  src : Nat
  count : Nat
deriving DecidableEq, Repr

/-- SKD (R315 to R344). -/
structure Skd where
  node : Nat := 0
  dieId : Nat := 0
  port : Vector SkdPort 8 := Vector.replicate 8 {}
  cruise : CruiseState := .listen
  view : Option SkdView := none
  /-- Tick since which the view has been unchanged. -/
  viewAt : Nat := 0
  cseq : Nat := 0
  isCoord : Bool := false
  coordNode : Nat := 0
  coordFar : Bool := false
  /-- Tick of the latest ASSIGN_REQ and of the latest refusal (R322). -/
  reqAt : Nat := 0
  refusedAt : Nat := 0
  /-- SKD_COUNTS.UNBLAZED. -/
  unblazed : Nat := 0
  /-- Offers by 8 × node + port, and routes by node. -/
  offers : Sparse Offer := []
  routes : Sparse Route := []
  nums : List NumEntry := []
  /-- Requests that wait for a number to be freed: die ID and REQ (R323). -/
  reqWait : List (Nat × Nat) := []
  /-- SKD_STRs.RESULT, SKD_SCNTs.DROPS and OWNER by stream. -/
  result : Sparse Nat := []
  drops : Sparse Nat := []
  owner : Sparse Nat := []
  /-- Streams still to be registered, and those unanswered with the tick of the request (R329). -/
  regLeft : List Nat := []
  regWait : List (Nat × Nat) := []
  /-- SKD_TXPOST: record addresses, at most 64 (R331). -/
  post : List Nat := []
  /-- C0 token bucket in 1/128,000 byte and the tick of its latest filling; frames that wait for
  tokens (R338). -/
  tokens : Nat := 131072000
  tokensAt : Nat := 0
  shaped : List SkdFrame := []
  nextIdent : Nat := 0
  /-- C1 drops not yet noticed, and 1 + the window of the latest notice by source (R339). -/
  c1 : List C1Drop := []
  notices : Sparse Nat := []
  /-- The exchange in progress: departure t1 once TIME_REQ has left (R333). -/
  exchange : Bool := false
  t1 : Option Nat := none
  toff : Int := 0
  tdelay : Int := 0
  /-- What is left of the correction in progress, and the ticks since its latest slewed tick, or since it
  began (R334). -/
  slew : Int := 0
  slewFor : Nat := 0
  /-- TB_ALIGNED, close exchanges in a row, tick of the latest completed exchange (R335). -/
  aligned : Bool := false
  close : Nat := 0
  exchangedAt : Nat := 0
deriving DecidableEq, Repr

/-! ### Start-up and live replacement (chapter 18) -/

/-- A step of an activation (R402, R403). -/
inductive BootTask where
  /-- RUN is written 0 and the pass finishes. -/
  | stop (e : Fin 8)
  /-- CE7 is given a MIRROR. -/
  | mirror (m : Nat)
  /-- The engine is loaded from the other slot, or reloaded from the started one. -/
  | load (e : Fin 8) (other : Bool)
  | run (e : Fin 8)
  /-- IN_STEP of a comparison group, with the engine that must stay out of FAULT. -/
  | inStep (c : Fin 7) (e : Fin 8)
  | handOver (g : Fin 4) (e : Fin 8)
  /-- RUN of CE6 is written 1 on a CE7 COMMIT with E = 1. -/
  | runAtCommit (e : Fin 8)
deriving DecidableEq, Repr

/-- An activation (R402 to R404). -/
structure Activation where
  busy : Bool := false
  result : Nat := 0
  part : Nat := 0
  force : Bool := false
  /-- The partition has been staged and checked. -/
  staged : Bool := false
  tasks : List BootTask := []
  /-- The first of `tasks` has begun, and when. -/
  begun : Bool := false
  since : Nat := 0
  /-- The outcome once the tasks of a failed activation are done; 0 for a success. -/
  ending : Nat := 0
deriving DecidableEq, Repr

/-- BOOT_PAIRk and its restart (R405). -/
structure PairRestart where
  /-- 0 none, 1 P1 REQUEST, 3 P3 LOAD. -/
  step : Nat := 0
  other : Bool := false
  from2 : Bool := false
  since : Nat := 0
  result : Nat := 0
  restarts : Nat := 0
deriving DecidableEq, Repr

/-- BOOT (R392 to R407). -/
structure Boot where
  /-- BOOT_STATUS.PHASE; 0 while in reset, 7 after lock. -/
  phase : Nat := 0
  locked : Bool := false
  /-- PORn and RESETn are high; the sampled straps BOOT_SLOT and SPLIT_EN (R392). -/
  released : Bool := false
  bootSlot : Bool := false
  /-- STRAP_TEST as sampled (R392, R441). -/
  strapTest : Bool := false
  splitEn : Bool := false
  /-- The slot being read or started. -/
  slot : Bool := false
  /-- Causes of the slots found bad, 0 none (R394, R406). -/
  causeA : Nat := 0
  causeB : Nat := 0
  failed : Bool := false
  imgId : Nat := 0
  version : Nat := 0
  secver : Nat := 0
  otherSecver : Nat := 0
  /-- BOOT_STATUS.OTHER and PART_SRC. -/
  other : Nat := 0
  partSrc : BitVec 8 := 0
  /-- BOOT_NVCMD: the operation in progress with its operands (R401). -/
  nvBusy : Bool := false
  nvResult : Nat := 0
  nvOp : Nat := 0
  nvAddr : Nat := 0
  nvData : List Byte := []
  act : Activation := {}
  /-- The hub entries of the image: 128 × link + hub register, keys rising, and the value (R179,
  R188). -/
  hubs : List (Nat × Word32) := []
  pair : Vector PairRestart 6 := Vector.replicate 6 {}
deriving DecidableEq, Repr

/-! ### Housekeeping and temperature (chapter 19) -/

/-- A fraction in lowest terms with a positive denominator. -/
structure Frac where
  num : Int := 0
  den : Nat := 1
deriving DecidableEq, Repr

/-- What a conversion of the housekeeping converter is for (R411, R413, R415). -/
inductive HkKind where
  /-- Entry `e` of the sequence. -/
  | entry (e : Fin 64)
  /-- Phase U (false) or V of a bridge. -/
  | urgent (b : Fin 3) (v : Bool)
  | sensor (s : Fin 14)
deriving DecidableEq, Repr

/-- A conversion in progress (R409). -/
structure HkConv where
  kind : HkKind
  input : Nat
  ref : Bool
  aperture : Nat
  /-- Its reference was settling at the aperture (R410). -/
  unsettled : Bool
deriving DecidableEq, Repr

/-- A reservation accepted (R413). -/
structure Reservation where
  aperture : Nat
  bridge : Fin 3
  v : Bool
  input : Nat
deriving DecidableEq, Repr

/-- HKA_RESi and its stamp (R411). -/
structure HkRes where
  unsettled : Bool := false
  count : Nat := 0
  mean : Nat := 0
  stamp : Nat := 0
  captured : Nat := 0
deriving DecidableEq, Repr

/-- HKA (R409 to R415). -/
structure Hka where
  busy : Option HkConv := none
  /-- HKA_ENTe and HKA_SEQ in effect since the latest loop start (R412). -/
  ent : Vector Word32 64 := Vector.replicate 64 0
  period : Nat := 0
  last : Nat := 0
  /-- A loop has started since PORn (the model's own). -/
  begun : Bool := false
  /-- A loop runs, its entry, and its conversions so far: their number and the sum of their codes. -/
  looping : Bool := false
  loopFrom : Nat := 0
  entry : Fin 64 := 0
  done : Nat := 0
  sum : Nat := 0
  unsettled : Bool := false
  /-- A loop is due while another runs (R412). -/
  due : Bool := false
  /-- End of the latest conversion. -/
  ended : Nat := 0
  /-- Sequence conversions since the latest die sensor, and the next sensor (R415). -/
  since : Nat := 0
  next : Fin 14 := 0
  resv : List Reservation := []
  /-- 1 + the 1 ms window of the latest URGENT_DROPPED record. -/
  dropWin : Nat := 0
  res : Vector HkRes 48 := Vector.replicate 48 {}
deriving DecidableEq, Repr

/-- A switch thermal model (R419 to R421), with the sums of the present millisecond. -/
structure Model where
  dt1 : Frac := {}
  dt2 : Frac := {}
  p : Frac := {}
  tj : Frac := {}
  limit : Word24 := 0x7FFFFF
  hot : Bool := false
  stale : Bool := false
  /-- THM_TCOOLm, 0.1 °C. -/
  cool : Int := 0
  /-- Tick of the latest write of THM_TCOOLm. -/
  coolAt : Option Nat := none
  n : Nat := 0
  sumSq : Nat := 0
  sumAbs : Nat := 0
  /-- Results of the DC-link window. -/
  nv : Nat := 0
  sumV : Int := 0
deriving DecidableEq, Repr

/-- THM (R416 to R424). -/
structure Thm where
  model : Vector Model 3 := Vector.replicate 3 {}
  /-- THM_SENSs: latest temperature and running peak, 0.1 °C. -/
  temp : Vector Int 14 := Vector.replicate 14 0
  peak : Vector Int 14 := Vector.replicate 14 0
  warn : Bool := false
deriving DecidableEq, Repr


/-! ### What is under way inside the device -/

/-- A sealed window in a delivery (R77): its place, whether it is a valid member, its slot and its
sealed values. -/
structure Member where
  ch : Fin 24
  win : Fin 8
  valid : Bool
  slot : Nat
  mean : Word24
  count : Nat
  flags : BitVec 6
  stamp : Nat
deriving DecidableEq, Repr

/-- A window set on its way to the control die (R18, R77): the set, its completion tick and its
sealed members, by channel and then by window. -/
structure Delivery where
  set : Fin 16
  tick : Nat
  members : List Member
deriving DecidableEq, Repr

/-- What reaches another block a fixed time after it left. -/
inductive Flight where
  /-- A set reaches the engines and the command gate (R18, R39, R77). -/
  | results (d : Delivery)
  /-- PSP has compared the results of a set (R195, R196). -/
  | compared (d : Delivery)
  /-- The island receives the fault comma of link l with byte F (R20, R190). -/
  | comma (l : Fin 12) (f : Byte)
deriving DecidableEq, Repr

/-! ### The whole device -/

/-- The state of the block. -/
structure State where
  clk : Clk := {}
  bus : Bus := {}
  sys : Sys := {}
  mbx : Vector Mailbox 64 := Vector.replicate 64 {}
  lrg : Lrg := {}
  trc : Trc := {}
  /-- The tally counters (R431). -/
  tal : Vector (BitVec 64) 256 := Vector.replicate 256 0
  pba : Pba := {}
  cap : Cap := {}
  ce : Vector Engine 8 := Vector.replicate 8 {}
  trx : Trx := {}
  pos : Pos := {}
  gsc : Gsc := {}
  glk : Vector Link 12 := Vector.replicate 12 {}
  psp : Psp := {}
  rng : Rng := {}
  sbc : Sbc := {}
  flog : Flog := {}
  red : Red := {}
  dcc : Dcc := {}
  obc : Obc := {}
  chg : Chg := {}
  hka : Hka := {}
  thm : Thm := {}
  axb : Axb := {}
  skd : Skd := {}
  blz : Blz := {}
  can : Vector CanChan 6 := Vector.replicate 6 {}
  boot : Boot := {}
  /-- The RW and RWL bits of the registers, by address; an unlisted register holds 0
  (R8, R9). CAP_TRACE alone has another reset value (R87). -/
  regs : Sparse Word32 := [(0x60000040, 0xFFFFFF)]
  /-- The shared SRAM and the tightly coupled memories, byte by byte at their bus addresses (R33);
  an unlisted byte reads 0. -/
  mem : List Host.Cell := []
  /-- The octal NOR beside the device, byte by byte; an unlisted byte reads 0xFF (R395). -/
  nor : Sparse Byte := []
  /-- What left the device on its ports, latest first (the model's own record). -/
  emitted : List Emission := []
  /-- What is under way, with its tick of arrival, in order of arrival (R18, R20, R77, R196; the model's
  own list). -/
  flights : List (Nat × Flight) := []
  /-- How many free values have been drawn (the model's own, see `Config.free`). -/
  draws : Nat := 0
  /-- The commands that wait, first in, first out. -/
  pending : List Instr := []
deriving DecidableEq, Repr

/-- The machine right after PORn: every field at its reset value (R8). -/
def State.reset : State := {}

end Sys2Proof.Machine
end

