-- ==== Sys2Proof/Machine/Fields.lean ====
section
/-!
DEFINITION. The configuration fields of the register maps: one accessor per RW or RWL field whose
value a register holds, at the address the register tables of chapters 2 to 20 give (R2, R7, R8).
-/

namespace Sys2Proof.Machine

/-- The RW and RWL bits of the register at an address. -/
def rd (s : State) (a : Nat) : Nat := (sget 0 s.regs a).toNat

/-- PBA_MODE_CFG.HV_ON, bits [31:16]. -/
def pbaModeCfgHvOn (s : State) : Nat := bits (rd s (0x400F0004)) 31 16

/-- PBA_MODE_CFG.HV_OFF, bits [15:0]. -/
def pbaModeCfgHvOff (s : State) : Nat := bits (rd s (0x400F0004)) 15 0

/-- PBA_CFG.STALE_MS, bits [31:24]. -/
def pbaCfgStaleMs (s : State) : Nat := bits (rd s (0x400F0008)) 31 24

/-- PBA_CFG.RING, bits [20:16]. -/
def pbaCfgRing (s : State) : Nat := bits (rd s (0x400F0008)) 20 16

/-- PBA_CFG.NOTICE_MS, bits [15:8]. -/
def pbaCfgNoticeMs (s : State) : Nat := bits (rd s (0x400F0008)) 15 8

/-- PBA_LIM_FALLBACK.WATTS, bits [31:0]. -/
def pbaLimFallbackWatts (s : State) : Nat := bits (rd s (0x400F0018)) 31 0

/-- PBA_DCC_RESERVE.WATTS, bits [31:0]. -/
def pbaDccReserveWatts (s : State) : Nat := bits (rd s (0x400F0028)) 31 0

/-- PBA_LIMSRC.VALID, bits [31]. -/
def pbaLimsrcValid (s : State) : Bool := bit (rd s (0x400F0030)) 31

/-- PBA_LIMSRC.KIND, bits [30]. -/
def pbaLimsrcKind (s : State) : Bool := bit (rd s (0x400F0030)) 30

/-- PBA_LIMSRC.CHANNEL, bits [26:24]. -/
def pbaLimsrcChannel (s : State) : Nat := bits (rd s (0x400F0030)) 26 24

/-- PBA_LIMSRC.STREAM, bits [23:12]. -/
def pbaLimsrcStream (s : State) : Nat := bits (rd s (0x400F0030)) 23 12

/-- PBA_VDC.CH, bits [31:26]. -/
def pbaVdcCh (s : State) : Nat := bits (rd s (0x400F0034)) 31 26

/-- PBA_VDC.W, bits [25:23]. -/
def pbaVdcW (s : State) : Nat := bits (rd s (0x400F0034)) 25 23

/-- PBA_VDC.VFS, bits [15:0]. -/
def pbaVdcVfs (s : State) : Nat := bits (rd s (0x400F0034)) 15 0

/-- PBA_CONSn.RATED, bits [31:16]. -/
def pbaConsRated (s : State) (n : Nat) : Nat := bits (rd s (0x400F010C + n * 0x10)) 31 16

/-- PBA_CONSn.GRANT_WORD, bits [13:4]. -/
def pbaConsGrantWord (s : State) (n : Nat) : Nat := bits (rd s (0x400F010C + n * 0x10)) 13 4

/-- PBA_SRCs.VALID, bits [31]. -/
def pbaSrcValid (s : State) (i : Nat) : Bool := bit (rd s (0x400F0200 + i * 0x4)) 31

/-- PBA_SRCs.KIND, bits [30]. -/
def pbaSrcKind (s : State) (i : Nat) : Bool := bit (rd s (0x400F0200 + i * 0x4)) 30

/-- PBA_SRCs.CHANNEL, bits [26:24]. -/
def pbaSrcChannel (s : State) (i : Nat) : Nat := bits (rd s (0x400F0200 + i * 0x4)) 26 24

/-- PBA_SRCs.STREAM, bits [23:12]. -/
def pbaSrcStream (s : State) (i : Nat) : Nat := bits (rd s (0x400F0200 + i * 0x4)) 23 12

/-- PBA_SRCs.GROUPS, bits [6:0]. -/
def pbaSrcGroups (s : State) (i : Nat) : Nat := bits (rd s (0x400F0200 + i * 0x4)) 6 0

/-- CAP_CFG.RING, bits [20:16]. -/
def capCfgRing (s : State) : Nat := bits (rd s (0x60000000)) 20 16

/-- CAP_ROT.INTERVAL_MS, bits [31:16]. -/
def capRotIntervalMs (s : State) : Nat := bits (rd s (0x60000008)) 31 16

/-- CAP_ROT.MISMATCH_LSB, bits [15:8]. -/
def capRotMismatchLsb (s : State) : Nat := bits (rd s (0x60000008)) 15 8

/-- CAP_ROT2.OVERLAP, bits [31:16]. -/
def capRot2Overlap (s : State) : Nat := bits (rd s (0x6000000C)) 31 16

/-- CAP_ROT2.CAL_SAMPLES, bits [15:0]. -/
def capRot2CalSamples (s : State) : Nat := bits (rd s (0x6000000C)) 15 0

/-- CAP_SETTLEg.TICKS, bits [15:0]. -/
def capSettleTicks (s : State) (g : Nat) : Nat := bits (rd s (0x60000020 + g * 0x4)) 15 0

/-- CAP_TRACE.EN, bits [31]. -/
def capTraceEn (s : State) : Bool := bit (rd s (0x60000040)) 31

/-- CAP_TRACE.DECIM, bits [30:28]. -/
def capTraceDecim (s : State) : Nat := bits (rd s (0x60000040)) 30 28

/-- CAP_TRACE.CH3–CH0, bits [23:0]. -/
def capTraceCh3Ch0 (s : State) : Nat := bits (rd s (0x60000040)) 23 0

/-- CAP_SETs.ENGINES, bits [31:24]. -/
def capSetEngines (s : State) (i : Nat) : Nat := bits (rd s (0x60000080 + i * 0x4)) 31 24

/-- CAP_SETs.EN, bits [23]. -/
def capSetEn (s : State) (i : Nat) : Bool := bit (rd s (0x60000080 + i * 0x4)) 23

/-- CAP_SETs.GROUP, bits [22:20]. -/
def capSetGroup (s : State) (i : Nat) : Nat := bits (rd s (0x60000080 + i * 0x4)) 22 20

/-- CAP_SETs.BASE_WORD, bits [19:10]. -/
def capSetBaseWord (s : State) (i : Nat) : Nat := bits (rd s (0x60000080 + i * 0x4)) 19 10

/-- CAP_CHk.REF, bits [4:3]. -/
def capChRef (s : State) (k : Nat) : Nat := bits (rd s (0x60000100 + k * 0x10)) 4 3

/-- CAP_CHk.RANGE, bits [2:1]. -/
def capChRange (s : State) (k : Nat) : Nat := bits (rd s (0x60000100 + k * 0x10)) 2 1

/-- CAP_CHk.EN, bits [0]. -/
def capChEn (s : State) (k : Nat) : Bool := bit (rd s (0x60000100 + k * 0x10)) 0

/-- CAP_WOPENk_w.EN, bits [31]. -/
def capWopenEn (s : State) (k : Nat) (w : Nat) : Bool := bit (rd s (0x60000400 + k * 0x80 + w * 0x10)) 31

/-- CAP_WOPENk_w.SET, bits [30:27]. -/
def capWopenSet (s : State) (k : Nat) (w : Nat) : Nat := bits (rd s (0x60000400 + k * 0x80 + w * 0x10)) 30 27

/-- CAP_WOPENk_w.OPEN, bits [19:0]. -/
def capWopenOpen (s : State) (k : Nat) (w : Nat) : Nat := bits (rd s (0x60000400 + k * 0x80 + w * 0x10)) 19 0

/-- CAP_WCLOSEk_w.TAINT_MASK, bits [27:21]. -/
def capWcloseTaintMask (s : State) (k : Nat) (w : Nat) : Nat := bits (rd s (0x60000404 + k * 0x80 + w * 0x10)) 27 21

/-- CAP_WCLOSEk_w.CLOSE, bits [19:0]. -/
def capWcloseClose (s : State) (k : Nat) (w : Nat) : Nat := bits (rd s (0x60000404 + k * 0x80 + w * 0x10)) 19 0

/-- CAP_WSTATk_w.SLOT, bits [4:0]. -/
def capWstatSlot (s : State) (k : Nat) (w : Nat) : Nat := bits (rd s (0x60000408 + k * 0x80 + w * 0x10)) 4 0

/-- CE_CFG.GROUPS, bits [23:16]. -/
def ceCfgGroups (s : State) (n : Nat) : Nat := bits (rd s (0x40080008 + n * 0x2000)) 23 16

/-- CE_CFG.PASS_LIMIT, bits [11:0]. -/
def ceCfgPassLimit (s : State) (n : Nat) : Nat := bits (rd s (0x40080008 + n * 0x2000)) 11 0

/-- CE_TIMER.PERIOD, bits [23:0]. -/
def ceTimerPeriod (s : State) (n : Nat) : Nat := bits (rd s (0x40080010 + n * 0x2000)) 23 0

/-- CE_TPHASE.PHASE, bits [23:0]. -/
def ceTphasePhase (s : State) (n : Nat) : Nat := bits (rd s (0x40080014 + n * 0x2000)) 23 0

/-- CE_EVCFG.RING, bits [4:0]. -/
def ceEvcfgRing (s : State) (n : Nat) : Nat := bits (rd s (0x4008001C + n * 0x2000)) 4 0

/-- TRX_CFG.RING, bits [20:16]. -/
def trxCfgRing (s : State) : Nat := bits (rd s (0x40090000)) 20 16

/-- TRX_CFG.CONFIG, bits [1:0]. -/
def trxCfgConfig (s : State) : Nat := bits (rd s (0x40090000)) 1 0

/-- TRX_STANDSTILL.SPEED, bits [15:0]. -/
def trxStandstillSpeed (s : State) : Nat := bits (rd s (0x40090008)) 15 0

/-- TRX_BTEST.TORQUE, bits [15:0]. -/
def trxBtestTorque (s : State) : Nat := bits (rd s (0x4009000C)) 15 0

/-- TRX_MACHm.POLES, bits [31:28]. -/
def trxMachPoles (s : State) (m : Nat) : Nat := bits (rd s (0x40090100 + m * 0x80)) 31 28

/-- TRX_MACHm.ENC, bits [27]. -/
def trxMachEnc (s : State) (m : Nat) : Bool := bit (rd s (0x40090100 + m * 0x80)) 27

/-- TRX_MACHm.UPDATE, bits [26:25]. -/
def trxMachUpdate (s : State) (m : Nat) : Nat := bits (rd s (0x40090100 + m * 0x80)) 26 25

/-- TRX_MACHm.MAX_RPM, bits [15:0]. -/
def trxMachMaxRpm (s : State) (m : Nat) : Nat := bits (rd s (0x40090100 + m * 0x80)) 15 0

/-- TRX_TRATEm.TMAX, bits [31:16]. -/
def trxTrateTmax (s : State) (m : Nat) : Nat := bits (rd s (0x40090104 + m * 0x80)) 31 16

/-- TRX_TRATEm.EXIT, bits [15:0]. -/
def trxTrateExit (s : State) (m : Nat) : Nat := bits (rd s (0x40090104 + m * 0x80)) 15 0

/-- TRX_ASCm.ASC_SPEED, bits [31:16]. -/
def trxAscAscSpeed (s : State) (m : Nat) : Nat := bits (rd s (0x40090108 + m * 0x80)) 31 16

/-- TRX_ASCm.HYST, bits [15:0]. -/
def trxAscHyst (s : State) (m : Nat) : Nat := bits (rd s (0x40090108 + m * 0x80)) 15 0

/-- TRX_OBSm.MIN_RPM, bits [31:16]. -/
def trxObsMinRpm (s : State) (m : Nat) : Nat := bits (rd s (0x4009010C + m * 0x80)) 31 16

/-- TRX_OBSm.ANG_TOL, bits [15:8]. -/
def trxObsAngTol (s : State) (m : Nat) : Nat := bits (rd s (0x4009010C + m * 0x80)) 15 8

/-- TRX_OBSm.AGREE_PASSES, bits [7:0]. -/
def trxObsAgreePasses (s : State) (m : Nat) : Nat := bits (rd s (0x4009010C + m * 0x80)) 7 0

/-- TRX_FLYm.EN, bits [31]. -/
def trxFlyEn (s : State) (m : Nat) : Bool := bit (rd s (0x40090110 + m * 0x80)) 31

/-- TRX_FLYm.TAKEOVER_EN, bits [30]. -/
def trxFlyTakeoverEn (s : State) (m : Nat) : Bool := bit (rd s (0x40090110 + m * 0x80)) 30

/-- TRX_FLYm.LOCK_PASSES, bits [23:16]. -/
def trxFlyLockPasses (s : State) (m : Nat) : Nat := bits (rd s (0x40090110 + m * 0x80)) 23 16

/-- TRX_FLYm.RAMP, bits [15:0]. -/
def trxFlyRamp (s : State) (m : Nat) : Nat := bits (rd s (0x40090110 + m * 0x80)) 15 0

/-- TRX_MAPm.IN_WORD, bits [29:20]. -/
def trxMapInWord (s : State) (m : Nat) : Nat := bits (rd s (0x40090114 + m * 0x80)) 29 20

/-- TRX_MAPm.OUT_WORD, bits [19:10]. -/
def trxMapOutWord (s : State) (m : Nat) : Nat := bits (rd s (0x40090114 + m * 0x80)) 19 10

/-- POS_CFG.RING, bits [20:16]. -/
def posCfgRing (s : State) : Nat := bits (rd s (0x400A0000)) 20 16

/-- POS_EMU.EN, bits [31]. -/
def posEmuEn (s : State) : Bool := bit (rd s (0x400A0008)) 31

/-- POS_EMU.SRC, bits [30]. -/
def posEmuSrc (s : State) : Bool := bit (rd s (0x400A0008)) 30

/-- POS_EMU.DIR, bits [29]. -/
def posEmuDir (s : State) : Bool := bit (rd s (0x400A0008)) 29

/-- POS_EMU.EMU_LINES, bits [14:0]. -/
def posEmuEmuLines (s : State) : Nat := bits (rd s (0x400A0008)) 14 0

/-- POS_ENCe.EN, bits [31]. -/
def posEncEn (s : State) (e : Nat) : Bool := bit (rd s (0x400A0100 + e * 0x80)) 31

/-- POS_ENCe.DIR, bits [30]. -/
def posEncDir (s : State) (e : Nat) : Bool := bit (rd s (0x400A0100 + e * 0x80)) 30

/-- POS_ENCe.FILT, bits [23:16]. -/
def posEncFilt (s : State) (e : Nat) : Nat := bits (rd s (0x400A0100 + e * 0x80)) 23 16

/-- POS_ENCe.LINES, bits [15:0]. -/
def posEncLines (s : State) (e : Nat) : Nat := bits (rd s (0x400A0100 + e * 0x80)) 15 0

/-- POS_IDXe.MODE, bits [31:30]. -/
def posIdxMode (s : State) (e : Nat) : Nat := bits (rd s (0x400A0104 + e * 0x80)) 31 30

/-- POS_IDXe.QUAL, bits [27:26]. -/
def posIdxQual (s : State) (e : Nat) : Nat := bits (rd s (0x400A0104 + e * 0x80)) 27 26

/-- POS_IDXe.IDX_TOL, bits [15:0]. -/
def posIdxIdxTol (s : State) (e : Nat) : Nat := bits (rd s (0x400A0104 + e * 0x80)) 15 0

/-- POS_LIMe.MAX_RPM, bits [31:16]. -/
def posLimMaxRpm (s : State) (e : Nat) : Nat := bits (rd s (0x400A0108 + e * 0x80)) 31 16

/-- POS_LIMe.ILL_LIMIT, bits [15:8]. -/
def posLimIllLimit (s : State) (e : Nat) : Nat := bits (rd s (0x400A0108 + e * 0x80)) 15 8

/-- POS_LIMe.TRACK_TOL, bits [7:0]. -/
def posLimTrackTol (s : State) (e : Nat) : Nat := bits (rd s (0x400A0108 + e * 0x80)) 7 0

/-- POS_OBSe.BW, bits [31:16]. -/
def posObsBw (s : State) (e : Nat) : Nat := bits (rd s (0x400A010C + e * 0x80)) 31 16

/-- POS_OBSe.POLES, bits [15:12]. -/
def posObsPoles (s : State) (e : Nat) : Nat := bits (rd s (0x400A010C + e * 0x80)) 15 12

/-- POS_OFFSETe.OFFSET, bits [23:0]. -/
def posOffsetOffset (s : State) (e : Nat) : Nat := bits (rd s (0x400A0110 + e * 0x80)) 23 0

/-- POS_DELIVe.ENGINES, bits [31:24]. -/
def posDelivEngines (s : State) (e : Nat) : Nat := bits (rd s (0x400A0114 + e * 0x80)) 31 24

/-- POS_DELIVe.EN, bits [23]. -/
def posDelivEn (s : State) (e : Nat) : Bool := bit (rd s (0x400A0114 + e * 0x80)) 23

/-- POS_DELIVe.GROUP, bits [22:20]. -/
def posDelivGroup (s : State) (e : Nat) : Nat := bits (rd s (0x400A0114 + e * 0x80)) 22 20

/-- POS_DELIVe.WORD, bits [19:10]. -/
def posDelivWord (s : State) (e : Nat) : Nat := bits (rd s (0x400A0114 + e * 0x80)) 19 10

/-- POS_DELIVe.TWICE, bits [9]. -/
def posDelivTwice (s : State) (e : Nat) : Bool := bit (rd s (0x400A0114 + e * 0x80)) 9

/-- POS_DOFFe.OFFSET, bits [19:0]. -/
def posDoffOffset (s : State) (e : Nat) : Nat := bits (rd s (0x400A0118 + e * 0x80)) 19 0

/-- POS_REFCNTe.COUNT, bits [17:0]. -/
def posRefcntCount (s : State) (e : Nat) : Nat := bits (rd s (0x400A0120 + e * 0x80)) 17 0

/-- GSC_CFG.RING, bits [20:16]. -/
def gscCfgRing (s : State) : Nat := bits (rd s (0x400B0000)) 20 16

/-- GSC_HORIZON.TICKS, bits [15:0]. -/
def gscHorizonTicks (s : State) : Nat := bits (rd s (0x400B0008)) 15 0

/-- GSC_CARRIERg.EN, bits [31]. -/
def gscCarrierEn (s : State) (g : Nat) : Bool := bit (rd s (0x400B0040 + g * 0x20)) 31

/-- GSC_GROUPg.KERF, bits [31:20]. -/
def gscGroupKerf (s : State) (g : Nat) : Nat := bits (rd s (0x400B0048 + g * 0x20)) 31 20

/-- GSC_GROUPg.MIN_PULSE, bits [19:12]. -/
def gscGroupMinPulse (s : State) (g : Nat) : Nat := bits (rd s (0x400B0048 + g * 0x20)) 19 12

/-- GSC_GROUPg.LATE_WORD, bits [11:2]. -/
def gscGroupLateWord (s : State) (g : Nat) : Nat := bits (rd s (0x400B0048 + g * 0x20)) 11 2

/-- GSC_GROUPg.UPDATE, bits [1:0]. -/
def gscGroupUpdate (s : State) (g : Nat) : Nat := bits (rd s (0x400B0048 + g * 0x20)) 1 0

/-- GSC_CLAIMg.WAIT, bits [15:0]. -/
def gscClaimWait (s : State) (g : Nat) : Nat := bits (rd s (0x400B005C + g * 0x20)) 15 0

/-- GSC_LEGl.EN, bits [31]. -/
def gscLegEn (s : State) (l : Nat) : Bool := bit (rd s (0x400B0200 + l * 0x8)) 31

/-- GSC_LEGl.KIND, bits [30]. -/
def gscLegKind (s : State) (l : Nat) : Bool := bit (rd s (0x400B0200 + l * 0x8)) 30

/-- GSC_LEGl.INV, bits [29]. -/
def gscLegInv (s : State) (l : Nat) : Bool := bit (rd s (0x400B0200 + l * 0x8)) 29

/-- GSC_LEGl.GROUP, bits [28:26]. -/
def gscLegGroup (s : State) (l : Nat) : Nat := bits (rd s (0x400B0200 + l * 0x8)) 28 26

/-- GSC_LEGl.SLOT, bits [25:22]. -/
def gscLegSlot (s : State) (l : Nat) : Nat := bits (rd s (0x400B0200 + l * 0x8)) 25 22

/-- GSC_LEGl.HI_CH, bits [21:16]. -/
def gscLegHiCh (s : State) (l : Nat) : Nat := bits (rd s (0x400B0200 + l * 0x8)) 21 16

/-- GSC_LEGl.LO_CH, bits [15:10]. -/
def gscLegLoCh (s : State) (l : Nat) : Nat := bits (rd s (0x400B0200 + l * 0x8)) 15 10

/-- GLK_CFG.RING, bits [20:16]. -/
def glkCfgRing (s : State) : Nat := bits (rd s (0x400C0000)) 20 16

/-- GLK_CFGl.EN, bits [31]. -/
def glkCfgEn (s : State) (l : Nat) : Bool := bit (rd s (0x400C0100 + l * 0x40)) 31

/-- GLK_CFGl.AUTO_RETRY, bits [30]. -/
def glkCfgAutoRetry (s : State) (l : Nat) : Bool := bit (rd s (0x400C0100 + l * 0x40)) 30

/-- GLK_CFGl.GROUP, bits [29:27]. -/
def glkCfgGroup (s : State) (l : Nat) : Nat := bits (rd s (0x400C0100 + l * 0x40)) 29 27

/-- GLK_CFGl.REDUNDANT, bits [26]. -/
def glkCfgRedundant (s : State) (l : Nat) : Bool := bit (rd s (0x400C0100 + l * 0x40)) 26

/-- GLK_HUBIDl.ID, bits [31:0]. -/
def glkHubidId (s : State) (l : Nat) : Nat := bits (rd s (0x400C0104 + l * 0x40)) 31 0

/-- PSP_CFG.RING, bits [20:16]. -/
def pspCfgRing (s : State) : Nat := bits (rd s (0x400D0000)) 20 16

/-- PSP_MONi_CFG.EN, bits [31]. -/
def pspMonCfgEn (s : State) (i : Nat) : Bool := bit (rd s (0x400D0100 + i * 0x10)) 31

/-- PSP_MONi_CFG.KIND, bits [30:28]. -/
def pspMonCfgKind (s : State) (i : Nat) : Nat := bits (rd s (0x400D0100 + i * 0x10)) 30 28

/-- PSP_MONi_CFG.SKIP_TAINT, bits [27]. -/
def pspMonCfgSkipTaint (s : State) (i : Nat) : Bool := bit (rd s (0x400D0100 + i * 0x10)) 27

/-- PSP_MONi_CFG.CH, bits [22:17]. -/
def pspMonCfgCh (s : State) (i : Nat) : Nat := bits (rd s (0x400D0100 + i * 0x10)) 22 17

/-- PSP_MONi_CFG.WIN, bits [16:14]. -/
def pspMonCfgWin (s : State) (i : Nat) : Nat := bits (rd s (0x400D0100 + i * 0x10)) 16 14

/-- PSP_MONi_CFG.COUNT, bits [7:0]. -/
def pspMonCfgCount (s : State) (i : Nat) : Nat := bits (rd s (0x400D0100 + i * 0x10)) 7 0

/-- PSP_MONi_LIM.LIMIT, bits [23:0]. -/
def pspMonLimLimit (s : State) (i : Nat) : Nat := bits (rd s (0x400D0104 + i * 0x10)) 23 0

/-- AXB_CFG.RING, bits [20:16]. -/
def axbCfgRing (s : State) : Nat := bits (rd s (0x60030000)) 20 16

/-- AXB_CTLb.EN, bits [31]. -/
def axbCtlEn (s : State) (b : Nat) : Bool := bit (rd s (0x60030100 + b * 0x80)) 31

/-- AXB_CTLb.ROLE, bits [30:29]. -/
def axbCtlRole (s : State) (b : Nat) : Nat := bits (rd s (0x60030100 + b * 0x80)) 30 29

/-- AXB_CTLb.SAMPLE, bits [28]. -/
def axbCtlSample (s : State) (b : Nat) : Bool := bit (rd s (0x60030100 + b * 0x80)) 28

/-- AXB_CTLb.RESTARTS, bits [27:24]. -/
def axbCtlRestarts (s : State) (b : Nat) : Nat := bits (rd s (0x60030100 + b * 0x80)) 27 24

/-- AXB_CTLb.WATCH, bits [23:16]. -/
def axbCtlWatch (s : State) (b : Nat) : Nat := bits (rd s (0x60030100 + b * 0x80)) 23 16

/-- AXB_CTLb.HK_U, bits [13:8]. -/
def axbCtlHkU (s : State) (b : Nat) : Nat := bits (rd s (0x60030100 + b * 0x80)) 13 8

/-- AXB_CTLb.HK_V, bits [5:0]. -/
def axbCtlHkV (s : State) (b : Nat) : Nat := bits (rd s (0x60030100 + b * 0x80)) 5 0

/-- AXB_MOTORb.MAX_RPM, bits [31:16]. -/
def axbMotorMaxRpm (s : State) (b : Nat) : Nat := bits (rd s (0x60030104 + b * 0x80)) 31 16

/-- AXB_MOTORb.POLES, bits [15:12]. -/
def axbMotorPoles (s : State) (b : Nat) : Nat := bits (rd s (0x60030104 + b * 0x80)) 15 12

/-- AXB_MOTORb.TOP_GEAR, bits [11:8]. -/
def axbMotorTopGear (s : State) (b : Nat) : Nat := bits (rd s (0x60030104 + b * 0x80)) 11 8

/-- AXB_CARRIERb.PERIOD, bits [19:0]. -/
def axbCarrierPeriod (s : State) (b : Nat) : Nat := bits (rd s (0x60030108 + b * 0x80)) 19 0

/-- AXB_CPHASEb.PHASE, bits [19:0]. -/
def axbCphasePhase (s : State) (b : Nat) : Nat := bits (rd s (0x6003010C + b * 0x80)) 19 0

/-- AXB_TIMINGb.DEAD, bits [31:24]. -/
def axbTimingDead (s : State) (b : Nat) : Nat := bits (rd s (0x60030110 + b * 0x80)) 31 24

/-- AXB_TIMINGb.REFRESH, bits [23:16]. -/
def axbTimingRefresh (s : State) (b : Nat) : Nat := bits (rd s (0x60030110 + b * 0x80)) 23 16

/-- AXB_TIMINGb.SWIN, bits [15:8]. -/
def axbTimingSwin (s : State) (b : Nat) : Nat := bits (rd s (0x60030110 + b * 0x80)) 15 8

/-- AXB_TIMINGb.SETTLE, bits [7:0]. -/
def axbTimingSettle (s : State) (b : Nat) : Nat := bits (rd s (0x60030110 + b * 0x80)) 7 0

/-- AXB_BOOTb.LOW_THR, bits [15:8]. -/
def axbBootLowThr (s : State) (b : Nat) : Nat := bits (rd s (0x60030114 + b * 0x80)) 15 8

/-- AXB_BOOTb.HYST, bits [7:0]. -/
def axbBootHyst (s : State) (b : Nat) : Nat := bits (rd s (0x60030114 + b * 0x80)) 7 0

/-- AXB_STARTb.ALIGN_MS, bits [31:24]. -/
def axbStartAlignMs (s : State) (b : Nat) : Nat := bits (rd s (0x60030118 + b * 0x80)) 31 24

/-- AXB_STARTb.PRECHARGE, bits [23:16]. -/
def axbStartPrecharge (s : State) (b : Nat) : Nat := bits (rd s (0x60030118 + b * 0x80)) 23 16

/-- AXB_STARTb.DUTY, bits [15:0]. -/
def axbStartDuty (s : State) (b : Nat) : Nat := bits (rd s (0x60030118 + b * 0x80)) 15 0

/-- AXB_RAMPb.T_START, bits [31:16]. -/
def axbRampTStart (s : State) (b : Nat) : Nat := bits (rd s (0x6003011C + b * 0x80)) 31 16

/-- AXB_RAMPb.T_END, bits [15:0]. -/
def axbRampTEnd (s : State) (b : Nat) : Nat := bits (rd s (0x6003011C + b * 0x80)) 15 0

/-- AXB_RAMP2b.RAMP_MS, bits [31:16]. -/
def axbRamp2RampMs (s : State) (b : Nat) : Nat := bits (rd s (0x60030120 + b * 0x80)) 31 16

/-- AXB_RAMP2b.ZC_LOCK, bits [15:8]. -/
def axbRamp2ZcLock (s : State) (b : Nat) : Nat := bits (rd s (0x60030120 + b * 0x80)) 15 8

/-- AXB_RAMP2b.COAST_MS, bits [7:0]. -/
def axbRamp2CoastMs (s : State) (b : Nat) : Nat := bits (rd s (0x60030120 + b * 0x80)) 7 0

/-- AXB_ZCb.BLANK, bits [31:24]. -/
def axbZcBlank (s : State) (b : Nat) : Nat := bits (rd s (0x60030124 + b * 0x80)) 31 24

/-- AXB_ZCb.ADVANCE, bits [23:16]. -/
def axbZcAdvance (s : State) (b : Nat) : Nat := bits (rd s (0x60030124 + b * 0x80)) 23 16

/-- AXB_ZCb.FILT, bits [15:8]. -/
def axbZcFilt (s : State) (b : Nat) : Nat := bits (rd s (0x60030124 + b * 0x80)) 15 8

/-- AXB_ZCb.ZC_SETTLE, bits [7:0]. -/
def axbZcZcSettle (s : State) (b : Nat) : Nat := bits (rd s (0x60030124 + b * 0x80)) 7 0

/-- AXB_ILIMb.ILIM, bits [23:0]. -/
def axbIlimIlim (s : State) (b : Nat) : Nat := bits (rd s (0x60030128 + b * 0x80)) 23 0

/-- AXB_VSb.VS_MIN, bits [31:16]. -/
def axbVsVsMin (s : State) (b : Nat) : Nat := bits (rd s (0x6003012C + b * 0x80)) 31 16

/-- AXB_VSb.VS_MAX, bits [15:0]. -/
def axbVsVsMax (s : State) (b : Nat) : Nat := bits (rd s (0x6003012C + b * 0x80)) 15 0

/-- AXB_MAPb.IN_WORD, bits [29:20]. -/
def axbMapInWord (s : State) (b : Nat) : Nat := bits (rd s (0x60030130 + b * 0x80)) 29 20

/-- AXB_ZEROb.ZERO_U, bits [27:16]. -/
def axbZeroZeroU (s : State) (b : Nat) : Nat := bits (rd s (0x60030144 + b * 0x80)) 27 16

/-- AXB_ZEROb.ZERO_V, bits [11:0]. -/
def axbZeroZeroV (s : State) (b : Nat) : Nat := bits (rd s (0x60030144 + b * 0x80)) 11 0

/-- DCC_CFG.AUTOSTART, bits [31]. -/
def dccCfgAutostart (s : State) : Bool := bit (rd s (0x60040000)) 31

/-- DCC_CFG.SYNC_EN, bits [30]. -/
def dccCfgSyncEn (s : State) : Bool := bit (rd s (0x60040000)) 30

/-- DCC_CFG.RING, bits [20:16]. -/
def dccCfgRing (s : State) : Nat := bits (rd s (0x60040000)) 20 16

/-- DCC_SET.DEFAULT_MV, bits [15:0]. -/
def dccSetDefaultMv (s : State) : Nat := bits (rd s (0x60040008)) 15 0

/-- DCC_SLEW.SS_RATE, bits [31:16]. -/
def dccSlewSsRate (s : State) : Nat := bits (rd s (0x60040010)) 31 16

/-- DCC_SLEW.DEF_SLEW, bits [15:0]. -/
def dccSlewDefSlew (s : State) : Nat := bits (rd s (0x60040010)) 15 0

/-- DCC_LIMITS.VMAX_MV, bits [31:16]. -/
def dccLimitsVmaxMv (s : State) : Nat := bits (rd s (0x60040014)) 31 16

/-- DCC_LIMITS.VMIN_MV, bits [15:0]. -/
def dccLimitsVminMv (s : State) : Nat := bits (rd s (0x60040014)) 15 0

/-- DCC_TIMING.LEAD, bits [31:20]. -/
def dccTimingLead (s : State) : Nat := bits (rd s (0x60040018)) 31 20

/-- DCC_TIMING.BLANK, bits [19:12]. -/
def dccTimingBlank (s : State) : Nat := bits (rd s (0x60040018)) 19 12

/-- DCC_TIMING.DMAX, bits [11:0]. -/
def dccTimingDmax (s : State) : Nat := bits (rd s (0x60040018)) 11 0

/-- DCC_ILIM.ILIM, bits [23:0]. -/
def dccIlimIlim (s : State) : Nat := bits (rd s (0x6004001C)) 23 0

/-- DCC_SLOPE.SLOPE, bits [15:0]. -/
def dccSlopeSlope (s : State) : Nat := bits (rd s (0x60040020)) 15 0

/-- DCC_PRED.KIN, bits [31:16]. -/
def dccPredKin (s : State) : Nat := bits (rd s (0x60040024)) 31 16

/-- DCC_PRED.KOUT, bits [15:0]. -/
def dccPredKout (s : State) : Nat := bits (rd s (0x60040024)) 15 0

/-- DCC_WIN.VIN_CH, bits [31:26]. -/
def dccWinVinCh (s : State) : Nat := bits (rd s (0x60040028)) 31 26

/-- DCC_WIN.VIN_W, bits [25:23]. -/
def dccWinVinW (s : State) : Nat := bits (rd s (0x60040028)) 25 23

/-- DCC_WIN.VOUT_CH, bits [22:17]. -/
def dccWinVoutCh (s : State) : Nat := bits (rd s (0x60040028)) 22 17

/-- DCC_WIN.VOUT_W, bits [16:14]. -/
def dccWinVoutW (s : State) : Nat := bits (rd s (0x60040028)) 16 14

/-- DCC_PHASE.CH0, bits [31:26]. -/
def dccPhaseCh0 (s : State) : Nat := bits (rd s (0x6004002C)) 31 26

/-- DCC_PHASE.LEG0, bits [25:21]. -/
def dccPhaseLeg0 (s : State) : Nat := bits (rd s (0x6004002C)) 25 21

/-- DCC_PHASE.CH1, bits [20:15]. -/
def dccPhaseCh1 (s : State) : Nat := bits (rd s (0x6004002C)) 20 15

/-- DCC_PHASE.LEG1, bits [14:10]. -/
def dccPhaseLeg1 (s : State) : Nat := bits (rd s (0x6004002C)) 14 10

/-- DCC_SCALE.VOUT_FS, bits [31:16]. -/
def dccScaleVoutFs (s : State) : Nat := bits (rd s (0x60040030)) 31 16

/-- DCC_SYNC.OUT_SHIFT, bits [31:20]. -/
def dccSyncOutShift (s : State) : Nat := bits (rd s (0x60040034)) 31 20

/-- DCC_SYNC.DELAY, bits [19:0]. -/
def dccSyncDelay (s : State) : Nat := bits (rd s (0x60040034)) 19 0

/-- DCC_MAP.IN_WORD, bits [29:20]. -/
def dccMapInWord (s : State) : Nat := bits (rd s (0x6004003C)) 29 20

/-- OBC_CFG.EN, bits [31]. -/
def obcCfgEn (s : State) : Bool := bit (rd s (0x60050000)) 31

/-- OBC_CFG.THREE_PHASE, bits [30]. -/
def obcCfgThreePhase (s : State) : Bool := bit (rd s (0x60050000)) 30

/-- OBC_CFG.IIN_MAX, bits [29:16]. -/
def obcCfgIinMax (s : State) : Nat := bits (rd s (0x60050000)) 29 16

/-- OBC_CFG.IIN_FS, bits [15:0]. -/
def obcCfgIinFs (s : State) : Nat := bits (rd s (0x60050000)) 15 0

/-- OBC_MAP.IN_WORD, bits [29:20]. -/
def obcMapInWord (s : State) : Nat := bits (rd s (0x60050008)) 29 20

/-- OBC_MAP.OUT_WORD, bits [19:10]. -/
def obcMapOutWord (s : State) : Nat := bits (rd s (0x60050008)) 19 10

/-- OBC_SCALE.IOUT_FS, bits [31:16]. -/
def obcScaleIoutFs (s : State) : Nat := bits (rd s (0x6005000C)) 31 16

/-- OBC_SCALE.VOUT_FS, bits [15:0]. -/
def obcScaleVoutFs (s : State) : Nat := bits (rd s (0x6005000C)) 15 0

/-- OBC_GRID.SUPPLY_WAIT, bits [31:24]. -/
def obcGridSupplyWait (s : State) : Nat := bits (rd s (0x60050010)) 31 24

/-- OBC_GRID.GRID_OFF, bits [23:0]. -/
def obcGridGridOff (s : State) : Nat := bits (rd s (0x60050010)) 23 0

/-- OBC_RAMP.RAMP_DOWN, bits [31:16]. -/
def obcRampRampDown (s : State) : Nat := bits (rd s (0x60050014)) 31 16

/-- OBC_RAMP.IOFF, bits [15:0]. -/
def obcRampIoff (s : State) : Nat := bits (rd s (0x60050014)) 15 0

/-- OBC_WIN.VOUT_CH, bits [31:26]. -/
def obcWinVoutCh (s : State) : Nat := bits (rd s (0x60050018)) 31 26

/-- OBC_WIN.VOUT_W, bits [25:23]. -/
def obcWinVoutW (s : State) : Nat := bits (rd s (0x60050018)) 25 23

/-- OBC_WIN.IOUT_CH, bits [22:17]. -/
def obcWinIoutCh (s : State) : Nat := bits (rd s (0x60050018)) 22 17

/-- OBC_WIN.IOUT_W, bits [16:14]. -/
def obcWinIoutW (s : State) : Nat := bits (rd s (0x60050018)) 16 14

/-- OBC_WIN.GRID_CH, bits [13:8]. -/
def obcWinGridCh (s : State) : Nat := bits (rd s (0x60050018)) 13 8

/-- OBC_WIN.GRID_W, bits [7:5]. -/
def obcWinGridW (s : State) : Nat := bits (rd s (0x60050018)) 7 5

/-- CHG_CFG.PRECOND_EN, bits [31]. -/
def chgCfgPrecondEn (s : State) : Bool := bit (rd s (0x60060000)) 31

/-- CHG_CFG.RING, bits [20:16]. -/
def chgCfgRing (s : State) : Nat := bits (rd s (0x60060000)) 20 16

/-- CHG_CFG.WAIT_S, bits [15:0]. -/
def chgCfgWaitS (s : State) : Nat := bits (rd s (0x60060000)) 15 0

/-- CHG_DIGLIM.AMPS, bits [15:0]. -/
def chgDiglimAmps (s : State) : Nat := bits (rd s (0x60060010)) 15 0

/-- CHG_MAX.IMAX, bits [31:16]. -/
def chgMaxImax (s : State) : Nat := bits (rd s (0x6006001C)) 31 16

/-- CHG_MAX.VMAX, bits [15:0]. -/
def chgMaxVmax (s : State) : Nat := bits (rd s (0x6006001C)) 15 0

/-- CHG_VMIN.VMIN, bits [31:16]. -/
def chgVminVmin (s : State) : Nat := bits (rd s (0x60060020)) 31 16

/-- CHG_VMIN.RECHG_DV, bits [15:0]. -/
def chgVminRechgDv (s : State) : Nat := bits (rd s (0x60060020)) 15 0

/-- CHG_TEMP.TEMP, bits [15:0]. -/
def chgTempTemp (s : State) : Nat := bits (rd s (0x60060024)) 15 0

/-- CHG_TBAND.T1, bits [31:24]. -/
def chgTbandT1 (s : State) : Nat := bits (rd s (0x60060028)) 31 24

/-- CHG_TBAND.T2, bits [23:16]. -/
def chgTbandT2 (s : State) : Nat := bits (rd s (0x60060028)) 23 16

/-- CHG_TBAND.T3, bits [15:8]. -/
def chgTbandT3 (s : State) : Nat := bits (rd s (0x60060028)) 15 8

/-- CHG_TBAND.T4, bits [7:0]. -/
def chgTbandT4 (s : State) : Nat := bits (rd s (0x60060028)) 7 0

/-- CHG_TPCT.COOL_PCT, bits [31:24]. -/
def chgTpctCoolPct (s : State) : Nat := bits (rd s (0x6006002C)) 31 24

/-- CHG_TPCT.WARM_PCT, bits [23:16]. -/
def chgTpctWarmPct (s : State) : Nat := bits (rd s (0x6006002C)) 23 16

/-- CHG_TPCT.WARM_DV, bits [15:8]. -/
def chgTpctWarmDv (s : State) : Nat := bits (rd s (0x6006002C)) 15 8

/-- CHG_TPCT.HYST, bits [7:0]. -/
def chgTpctHyst (s : State) : Nat := bits (rd s (0x6006002C)) 7 0

/-- CHG_TERM.ITERM, bits [31:16]. -/
def chgTermIterm (s : State) : Nat := bits (rd s (0x60060030)) 31 16

/-- CHG_TERM.TERM_S, bits [15:8]. -/
def chgTermTermS (s : State) : Nat := bits (rd s (0x60060030)) 15 8

/-- CHG_TERM.TOPOFF_MIN, bits [7:0]. -/
def chgTermTopoffMin (s : State) : Nat := bits (rd s (0x60060030)) 7 0

/-- CHG_TIMER.LIMIT_MIN, bits [31:16]. -/
def chgTimerLimitMin (s : State) : Nat := bits (rd s (0x60060034)) 31 16

/-- CHG_TIMER.PRECOND_MIN, bits [15:0]. -/
def chgTimerPrecondMin (s : State) : Nat := bits (rd s (0x60060034)) 15 0

/-- RNG_CFG.RING, bits [20:16]. -/
def rngCfgRing (s : State) : Nat := bits (rd s (0x70000000)) 20 16

/-- RNG_RESETAUTH.ID, bits [31:0]. -/
def rngResetauthId (s : State) : Nat := bits (rd s (0x70000008)) 31 0

/-- RNG_LOCK.ARM_S, bits [31:24]. -/
def rngLockArmS (s : State) : Nat := bits (rd s (0x7000000C)) 31 24

/-- RNG_BTEST.MOVE_LIMIT, bits [31:16]. -/
def rngBtestMoveLimit (s : State) : Nat := bits (rd s (0x70000010)) 31 16

/-- RNG_MATCHr.EN, bits [31]. -/
def rngMatchEn (s : State) (r : Nat) : Bool := bit (rd s (0x70000400 + r * 0x10)) 31

/-- RNG_MATCHr.BLOCK, bits [29:24]. -/
def rngMatchBlock (s : State) (r : Nat) : Nat := bits (rd s (0x70000400 + r * 0x10)) 29 24

/-- RNG_MATCHr.EVENTS, bits [23:9]. -/
def rngMatchEvents (s : State) (r : Nat) : Nat := bits (rd s (0x70000400 + r * 0x10)) 23 9

/-- RNG_MATCHr.UNIT, bits [7:0]. -/
def rngMatchUnit (s : State) (r : Nat) : Nat := bits (rd s (0x70000400 + r * 0x10)) 7 0

/-- RNG_SCOPEr.GROUPS, bits [31:28]. -/
def rngScopeGroups (s : State) (r : Nat) : Nat := bits (rd s (0x70000404 + r * 0x10)) 31 28

/-- RNG_SCOPEr.BRIDGES, bits [27:25]. -/
def rngScopeBridges (s : State) (r : Nat) : Nat := bits (rd s (0x70000404 + r * 0x10)) 27 25

/-- RNG_SCOPEr.COMMA_KINDS, bits [24:20]. -/
def rngScopeCommaKinds (s : State) (r : Nat) : Nat := bits (rd s (0x70000404 + r * 0x10)) 24 20

/-- RNG_SCOPEr.SPD_COND, bits [18:16]. -/
def rngScopeSpdCond (s : State) (r : Nat) : Nat := bits (rd s (0x70000404 + r * 0x10)) 18 16

/-- RNG_SCOPEr.SPD_RPM, bits [15:0]. -/
def rngScopeSpdRpm (s : State) (r : Nat) : Nat := bits (rd s (0x70000404 + r * 0x10)) 15 0

/-- RNG_ACTr.TRACTION, bits [31:29]. -/
def rngActTraction (s : State) (r : Nat) : Nat := bits (rd s (0x70000408 + r * 0x10)) 31 29

/-- RNG_ACTr.AUX, bits [28:27]. -/
def rngActAux (s : State) (r : Nat) : Nat := bits (rd s (0x70000408 + r * 0x10)) 28 27

/-- RNG_ACTr.CONV_OFF, bits [26]. -/
def rngActConvOff (s : State) (r : Nat) : Bool := bit (rd s (0x70000408 + r * 0x10)) 26

/-- RNG_ACTr.CHG_OFF, bits [25]. -/
def rngActChgOff (s : State) (r : Nat) : Bool := bit (rd s (0x70000408 + r * 0x10)) 25

/-- RNG_ACTr.BRAKE, bits [24:23]. -/
def rngActBrake (s : State) (r : Nat) : Nat := bits (rd s (0x70000408 + r * 0x10)) 24 23

/-- RNG_ACTr.MODE, bits [22:21]. -/
def rngActMode (s : State) (r : Nat) : Nat := bits (rd s (0x70000408 + r * 0x10)) 22 21

/-- RNG_ACTr.RESTARTABLE, bits [20]. -/
def rngActRestartable (s : State) (r : Nat) : Bool := bit (rd s (0x70000408 + r * 0x10)) 20

/-- RNG_ACTr.AUTO, bits [19]. -/
def rngActAuto (s : State) (r : Nat) : Bool := bit (rd s (0x70000408 + r * 0x10)) 19

/-- RNG_ACTr.FAULTN, bits [18]. -/
def rngActFaultn (s : State) (r : Nat) : Bool := bit (rd s (0x70000408 + r * 0x10)) 18

/-- RNG_ACTr.LOG, bits [17]. -/
def rngActLog (s : State) (r : Nat) : Bool := bit (rd s (0x70000408 + r * 0x10)) 17

/-- SBC_CFG.INTERVAL, bits [23:16]. -/
def sbcCfgInterval (s : State) : Nat := bits (rd s (0x60070000)) 23 16

/-- SBC_CFG.PULSE, bits [7:0]. -/
def sbcCfgPulse (s : State) : Nat := bits (rd s (0x60070000)) 7 0

/-- SBC_LIMITS.I_OPEN, bits [31:16]. -/
def sbcLimitsIOpen (s : State) : Nat := bits (rd s (0x60070004)) 31 16

/-- SBC_LIMITS.FB_TOL, bits [15:8]. -/
def sbcLimitsFbTol (s : State) : Nat := bits (rd s (0x60070004)) 15 8

/-- BLZ_CFG.DATA_RING, bits [12:8]. -/
def blzCfgDataRing (s : State) : Nat := bits (rd s (0x70010000)) 12 8

/-- BLZ_CFG.RING, bits [4:0]. -/
def blzCfgRing (s : State) : Nat := bits (rd s (0x70010000)) 4 0

/-- BLZ_ID.ID, bits [31:0]. -/
def blzIdId (s : State) : Nat := bits (rd s (0x70010004)) 31 0

/-- BLZ_CDEFi.EN, bits [31]. -/
def blzCdefEn (s : State) (i : Nat) : Bool := bit (rd s (0x70010100 + i * 0x20)) 31

/-- BLZ_CDEFi.DIR, bits [30]. -/
def blzCdefDir (s : State) (i : Nat) : Bool := bit (rd s (0x70010100 + i * 0x20)) 30

/-- BLZ_CDEFi.MEDIUM, bits [29]. -/
def blzCdefMedium (s : State) (i : Nat) : Bool := bit (rd s (0x70010100 + i * 0x20)) 29

/-- BLZ_CDEFi.CHANNEL, bits [26:24]. -/
def blzCdefChannel (s : State) (i : Nat) : Nat := bits (rd s (0x70010100 + i * 0x20)) 26 24

/-- BLZ_CDEFi.STREAM, bits [23:12]. -/
def blzCdefStream (s : State) (i : Nat) : Nat := bits (rd s (0x70010100 + i * 0x20)) 23 12

/-- BLZ_CDEFi.CONN, bits [7:0]. -/
def blzCdefConn (s : State) (i : Nat) : Nat := bits (rd s (0x70010100 + i * 0x20)) 7 0

/-- BLZ_CPEERi.PEER, bits [31:0]. -/
def blzCpeerPeer (s : State) (i : Nat) : Nat := bits (rd s (0x70010104 + i * 0x20)) 31 0

/-- BLZ_CCONSTi.CCONST, bits [31:0]. -/
def blzCconstCconst (s : State) (i : Nat) : Nat := bits (rd s (0x70010108 + i * 0x20)) 31 0

/-- BLZ_CTIMEi.MIN, bits [31:16]. -/
def blzCtimeMin (s : State) (i : Nat) : Nat := bits (rd s (0x7001010C + i * 0x20)) 31 16

/-- BLZ_CTIMEi.MAX, bits [15:0]. -/
def blzCtimeMax (s : State) (i : Nat) : Nat := bits (rd s (0x7001010C + i * 0x20)) 15 0

/-- BLZ_COPTi.KIND, bits [31:30]. -/
def blzCoptKind (s : State) (i : Nat) : Nat := bits (rd s (0x70010110 + i * 0x20)) 31 30

/-- BLZ_COPTi.AUTO, bits [29]. -/
def blzCoptAuto (s : State) (i : Nat) : Bool := bit (rd s (0x70010110 + i * 0x20)) 29

/-- BLZ_COPTi.RGRP, bits [28:24]. -/
def blzCoptRgrp (s : State) (i : Nat) : Nat := bits (rd s (0x70010110 + i * 0x20)) 28 24

/-- BLZ_COPTi.MAX_GAP, bits [23:20]. -/
def blzCoptMaxGap (s : State) (i : Nat) : Nat := bits (rd s (0x70010110 + i * 0x20)) 23 20

/-- BLZ_COPTi.REPLY, bits [19:14]. -/
def blzCoptReply (s : State) (i : Nat) : Nat := bits (rd s (0x70010110 + i * 0x20)) 19 14

/-- BLZ_COPTi.WAIT, bits [7:0]. -/
def blzCoptWait (s : State) (i : Nat) : Nat := bits (rd s (0x70010110 + i * 0x20)) 7 0

/-- RED_CFG.RING, bits [20:16]. -/
def redCfgRing (s : State) : Nat := bits (rd s (0x400E0000)) 20 16

/-- RED_STEPCFG.STEP_PASSES, bits [31:24]. -/
def redStepcfgStepPasses (s : State) : Nat := bits (rd s (0x400E0008)) 31 24

/-- RED_STEPCFG.TOL, bits [23:0]. -/
def redStepcfgTol (s : State) : Nat := bits (rd s (0x400E0008)) 23 0

/-- RED_SWAP.PERIOD_S, bits [11:0]. -/
def redSwapPeriodS (s : State) : Nat := bits (rd s (0x400E000C)) 11 0

/-- RED_AXCFG.MODE, bits [31:30]. -/
def redAxcfgMode (s : State) : Nat := bits (rd s (0x400E0010)) 31 30

/-- RED_AXCFG.RANK, bits [26:24]. -/
def redAxcfgRank (s : State) : Nat := bits (rd s (0x400E0010)) 26 24

/-- RED_AXCFG.DEVICES, bits [23:21]. -/
def redAxcfgDevices (s : State) : Nat := bits (rd s (0x400E0010)) 23 21

/-- RED_AXCFG.GROUPS, bits [15:12]. -/
def redAxcfgGroups (s : State) : Nat := bits (rd s (0x400E0010)) 15 12

/-- RED_STBYg.EN, bits [31]. -/
def redStbyEn (s : State) (g : Nat) : Bool := bit (rd s (0x400E0060 + g * 0x4)) 31

/-- RED_TOKg.ELIGIBLE, bits [31:24]. -/
def redTokEligible (s : State) (g : Nat) : Nat := bits (rd s (0x400E0100 + g * 0x20)) 31 24

/-- RED_TOKg.PREFER, bits [23:20]. -/
def redTokPrefer (s : State) (g : Nat) : Nat := bits (rd s (0x400E0100 + g * 0x20)) 23 20

/-- RED_AXPEERp.EN, bits [31]. -/
def redAxpeerEn (s : State) (p : Nat) : Bool := bit (rd s (0x400E0200 + p * 0x4)) 31

/-- RED_AXPEERp.TX, bits [29:24]. -/
def redAxpeerTx (s : State) (p : Nat) : Nat := bits (rd s (0x400E0200 + p * 0x4)) 29 24

/-- RED_AXPEERp.RX, bits [21:16]. -/
def redAxpeerRx (s : State) (p : Nat) : Nat := bits (rd s (0x400E0200 + p * 0x4)) 21 16

/-- SKD_CFG.ELIGIBLE, bits [31]. -/
def skdCfgEligible (s : State) : Bool := bit (rd s (0x40060000)) 31

/-- SKD_CFG.RING, bits [20:16]. -/
def skdCfgRing (s : State) : Nat := bits (rd s (0x40060000)) 20 16

/-- SKD_CFG.REQ_NODE, bits [7:0]. -/
def skdCfgReqNode (s : State) : Nat := bits (rd s (0x40060000)) 7 0

/-- SKD_CRUISE.HOLD_MS, bits [31:16]. -/
def skdCruiseHoldMs (s : State) : Nat := bits (rd s (0x40060018)) 31 16

/-- SKD_CLASS.C1_AGE, bits [31:24]. -/
def skdClassC1Age (s : State) : Nat := bits (rd s (0x4006001C)) 31 24

/-- SKD_CLASS.W2, bits [23:16]. -/
def skdClassW2 (s : State) : Nat := bits (rd s (0x4006001C)) 23 16

/-- SKD_CLASS.W3, bits [15:8]. -/
def skdClassW3 (s : State) : Nat := bits (rd s (0x4006001C)) 15 8

/-- SKD_CLASS.C3_FLOOR, bits [7:0]. -/
def skdClassC3Floor (s : State) : Nat := bits (rd s (0x4006001C)) 7 0

/-- SKD_C0.RATE, bits [15:0]. -/
def skdC0Rate (s : State) : Nat := bits (rd s (0x40060020)) 15 0

/-- SKD_PORTp.EN, bits [31]. -/
def skdPortEn (s : State) (p : Nat) : Bool := bit (rd s (0x40060100 + p * 0x10)) 31

/-- SKD_STRs.TX, bits [31]. -/
def skdStrTx (s : State) (i : Nat) : Bool := bit (rd s (0x40068000 + i * 0x8)) 31

/-- SKD_STRs.RX, bits [30]. -/
def skdStrRx (s : State) (i : Nat) : Bool := bit (rd s (0x40068000 + i * 0x8)) 30

/-- SKD_STRs.CLASS, bits [29:28]. -/
def skdStrClass (s : State) (i : Nat) : Nat := bits (rd s (0x40068000 + i * 0x8)) 29 28

/-- SKD_STRs.DEST, bits [27:20]. -/
def skdStrDest (s : State) (i : Nat) : Nat := bits (rd s (0x40068000 + i * 0x8)) 27 20

/-- SKD_STRs.RING, bits [19:15]. -/
def skdStrRing (s : State) (i : Nat) : Nat := bits (rd s (0x40068000 + i * 0x8)) 19 15

/-- CAN_CFG.EN, bits [31]. -/
def canCfgEn (s : State) (c : Nat) : Bool := bit (rd s (0x40070000 + c * 0x1000)) 31

/-- CAN_CFG.FD, bits [30]. -/
def canCfgFd (s : State) (c : Nat) : Bool := bit (rd s (0x40070000 + c * 0x1000)) 30

/-- CAN_CFG.LISTEN, bits [29]. -/
def canCfgListen (s : State) (c : Nat) : Bool := bit (rd s (0x40070000 + c * 0x1000)) 29

/-- CAN_CFG.TRIPLE, bits [28]. -/
def canCfgTriple (s : State) (c : Nat) : Bool := bit (rd s (0x40070000 + c * 0x1000)) 28

/-- CAN_CFG.AUTO_RECOVER, bits [27]. -/
def canCfgAutoRecover (s : State) (c : Nat) : Bool := bit (rd s (0x40070000 + c * 0x1000)) 27

/-- CAN_CFG.TDC_EN, bits [26]. -/
def canCfgTdcEn (s : State) (c : Nat) : Bool := bit (rd s (0x40070000 + c * 0x1000)) 26

/-- CAN_CFG.BRS, bits [25]. -/
def canCfgBrs (s : State) (c : Nat) : Bool := bit (rd s (0x40070000 + c * 0x1000)) 25

/-- CAN_CFG.RING, bits [20:16]. -/
def canCfgRing (s : State) (c : Nat) : Nat := bits (rd s (0x40070000 + c * 0x1000)) 20 16

/-- CAN_NBT.NBRP, bits [31:23]. -/
def canNbtNbrp (s : State) (c : Nat) : Nat := bits (rd s (0x40070004 + c * 0x1000)) 31 23

/-- CAN_NBT.NTSEG1, bits [22:15]. -/
def canNbtNtseg1 (s : State) (c : Nat) : Nat := bits (rd s (0x40070004 + c * 0x1000)) 22 15

/-- CAN_NBT.NTSEG2, bits [14:8]. -/
def canNbtNtseg2 (s : State) (c : Nat) : Nat := bits (rd s (0x40070004 + c * 0x1000)) 14 8

/-- CAN_NBT.NSJW, bits [6:0]. -/
def canNbtNsjw (s : State) (c : Nat) : Nat := bits (rd s (0x40070004 + c * 0x1000)) 6 0

/-- CAN_DBT.DBRP, bits [31:27]. -/
def canDbtDbrp (s : State) (c : Nat) : Nat := bits (rd s (0x40070008 + c * 0x1000)) 31 27

/-- CAN_DBT.DTSEG1, bits [26:22]. -/
def canDbtDtseg1 (s : State) (c : Nat) : Nat := bits (rd s (0x40070008 + c * 0x1000)) 26 22

/-- CAN_DBT.DTSEG2, bits [21:18]. -/
def canDbtDtseg2 (s : State) (c : Nat) : Nat := bits (rd s (0x40070008 + c * 0x1000)) 21 18

/-- CAN_DBT.DSJW, bits [17:14]. -/
def canDbtDsjw (s : State) (c : Nat) : Nat := bits (rd s (0x40070008 + c * 0x1000)) 17 14

/-- CAN_DBT.TDCO, bits [13:7]. -/
def canDbtTdco (s : State) (c : Nat) : Nat := bits (rd s (0x40070008 + c * 0x1000)) 13 7

/-- CAN_TXID.IDE, bits [31]. -/
def canTxidIde (s : State) (c : Nat) : Bool := bit (rd s (0x40070080 + c * 0x1000)) 31

/-- CAN_TXID.RTR, bits [30]. -/
def canTxidRtr (s : State) (c : Nat) : Bool := bit (rd s (0x40070080 + c * 0x1000)) 30

/-- CAN_TXID.ID, bits [28:0]. -/
def canTxidId (s : State) (c : Nat) : Nat := bits (rd s (0x40070080 + c * 0x1000)) 28 0

/-- CAN_TXINFO.FDF, bits [29]. -/
def canTxinfoFdf (s : State) (c : Nat) : Bool := bit (rd s (0x40070084 + c * 0x1000)) 29

/-- CAN_TXINFO.BRS, bits [28]. -/
def canTxinfoBrs (s : State) (c : Nat) : Bool := bit (rd s (0x40070084 + c * 0x1000)) 28

/-- CAN_TXINFO.DLC, bits [19:16]. -/
def canTxinfoDlc (s : State) (c : Nat) : Nat := bits (rd s (0x40070084 + c * 0x1000)) 19 16

/-- CAN_TXINFO.ONESHOT, bits [8]. -/
def canTxinfoOneshot (s : State) (c : Nat) : Bool := bit (rd s (0x40070084 + c * 0x1000)) 8

/-- CAN_TXCMD.BUF, bits [5:0]. -/
def canTxcmdBuf (s : State) (c : Nat) : Nat := bits (rd s (0x40070088 + c * 0x1000)) 5 0

/-- CAN_TXDATAk.DATA, bits [31:0]. -/
def canTxdataData (s : State) (c : Nat) (k : Nat) : Nat := bits (rd s (0x400700C0 + c * 0x1000 + k * 0x4)) 31 0

/-- CAN_BUFb.EN, bits [31]. -/
def canBufEn (s : State) (c : Nat) (b : Nat) : Bool := bit (rd s (0x40070200 + c * 0x1000 + b * 0x4)) 31

/-- CAN_BUFb.DIR, bits [30]. -/
def canBufDir (s : State) (c : Nat) (b : Nat) : Bool := bit (rd s (0x40070200 + c * 0x1000 + b * 0x4)) 30

/-- CAN_BUFb.OVW, bits [29]. -/
def canBufOvw (s : State) (c : Nat) (b : Nat) : Bool := bit (rd s (0x40070200 + c * 0x1000 + b * 0x4)) 29

/-- CAN_FLTf_ID.EN, bits [31]. -/
def canFltIdEn (s : State) (c : Nat) (f : Nat) : Bool := bit (rd s (0x40070400 + c * 0x1000 + f * 0x10)) 31

/-- CAN_FLTf_ID.IDE, bits [30]. -/
def canFltIdIde (s : State) (c : Nat) (f : Nat) : Bool := bit (rd s (0x40070400 + c * 0x1000 + f * 0x10)) 30

/-- CAN_FLTf_ID.ID, bits [28:0]. -/
def canFltIdId (s : State) (c : Nat) (f : Nat) : Nat := bits (rd s (0x40070400 + c * 0x1000 + f * 0x10)) 28 0

/-- CAN_FLTf_MSK.MASK, bits [28:0]. -/
def canFltMskMask (s : State) (c : Nat) (f : Nat) : Nat := bits (rd s (0x40070404 + c * 0x1000 + f * 0x10)) 28 0

/-- CAN_FLTf_ACT.ACTION, bits [31:30]. -/
def canFltActAction (s : State) (c : Nat) (f : Nat) : Nat := bits (rd s (0x40070408 + c * 0x1000 + f * 0x10)) 31 30

/-- CAN_FLTf_ACT.BUF, bits [29:24]. -/
def canFltActBuf (s : State) (c : Nat) (f : Nat) : Nat := bits (rd s (0x40070408 + c * 0x1000 + f * 0x10)) 29 24

/-- CAN_FLTf_ACT.RING, bits [23:19]. -/
def canFltActRing (s : State) (c : Nat) (f : Nat) : Nat := bits (rd s (0x40070408 + c * 0x1000 + f * 0x10)) 23 19

/-- SYS_CFG.RING, bits [20:16]. -/
def sysCfgRing (s : State) : Nat := bits (rd s (0x40000004)) 20 16

/-- SYS_SCRUB.INTERVAL, bits [15:0]. -/
def sysScrubInterval (s : State) : Nat := bits (rd s (0x40000010)) 15 0

/-- MBX_CFG.RING, bits [20:16]. -/
def mbxCfgRing (s : State) : Nat := bits (rd s (0x40020000)) 20 16

/-- MBX_CFGm.EN, bits [31]. -/
def mbxCfgEn (s : State) (m : Nat) : Bool := bit (rd s (0x40020100 + m * 0x4)) 31

/-- MBX_CFGm.ON_FULL, bits [30]. -/
def mbxCfgOnFull (s : State) (m : Nat) : Bool := bit (rd s (0x40020100 + m * 0x4)) 30

/-- MBX_CFGm.DOMAIN, bits [29:26]. -/
def mbxCfgDomain (s : State) (m : Nat) : Nat := bits (rd s (0x40020100 + m * 0x4)) 29 26

/-- MBX_CFGm.NOTIFY, bits [11:0]. -/
def mbxCfgNotify (s : State) (m : Nat) : Nat := bits (rd s (0x40020100 + m * 0x4)) 11 0

/-- LRG_BASEr.ADDR, bits [31:5]. -/
def lrgBaseAddr (s : State) (r : Nat) : Nat := bits (rd s (0x40030100 + r * 0x20)) 31 5

/-- LRG_CFGr.EN, bits [31]. -/
def lrgCfgEn (s : State) (r : Nat) : Bool := bit (rd s (0x40030104 + r * 0x20)) 31

/-- LRG_CFGr.POLICY, bits [30]. -/
def lrgCfgPolicy (s : State) (r : Nat) : Bool := bit (rd s (0x40030104 + r * 0x20)) 30

/-- LRG_CFGr.THRESH, bits [28:16]. -/
def lrgCfgThresh (s : State) (r : Nat) : Nat := bits (rd s (0x40030104 + r * 0x20)) 28 16

/-- LRG_CFGr.DEPTH, bits [12:0]. -/
def lrgCfgDepth (s : State) (r : Nat) : Nat := bits (rd s (0x40030104 + r * 0x20)) 12 0

/-- LRG_NOTIFYr.CORES, bits [11:0]. -/
def lrgNotifyCores (s : State) (r : Nat) : Nat := bits (rd s (0x40030118 + r * 0x20)) 11 0

/-- BOOT_CFG.RING, bits [20:16]. -/
def bootCfgRing (s : State) : Nat := bits (rd s (0x40010000)) 20 16

/-- BOOT_CFG.STEP_WAIT, bits [15:8]. -/
def bootCfgStepWait (s : State) : Nat := bits (rd s (0x40010000)) 15 8

/-- BOOT_CFG.HOLD_WAIT, bits [7:0]. -/
def bootCfgHoldWait (s : State) : Nat := bits (rd s (0x40010000)) 7 0

/-- BOOT_NVCMD.OP, bits [2:0]. -/
def bootNvcmdOp (s : State) : Nat := bits (rd s (0x40010018)) 2 0

/-- BOOT_NVADDR.ADDR, bits [25:0]. -/
def bootNvaddrAddr (s : State) : Nat := bits (rd s (0x4001001C)) 25 0

/-- BOOT_NVSRAM.ADDR, bits [31:5]. -/
def bootNvsramAddr (s : State) : Nat := bits (rd s (0x40010020)) 31 5

/-- BOOT_NVLEN.LEN32, bits [15:0]. -/
def bootNvlenLen32 (s : State) : Nat := bits (rd s (0x40010024)) 15 0

/-- BOOT_ACT.PART, bits [3:0]. -/
def bootActPart (s : State) : Nat := bits (rd s (0x40010028)) 3 0

/-- BOOT_STAGE.ADDR, bits [31:5]. -/
def bootStageAddr (s : State) : Nat := bits (rd s (0x40010030)) 31 5

/-- BOOT_STAGESZ.STAGE_KIB, bits [15:0]. -/
def bootStageszStageKib (s : State) : Nat := bits (rd s (0x40010034)) 15 0

/-- BOOT_PAIRk.SLOT, bits [29]. -/
def bootPairSlot (s : State) (k : Nat) : Bool := bit (rd s (0x40010040 + k * 0x4)) 29

/-- HKA_CFG.RUN, bits [31]. -/
def hkaCfgRun (s : State) : Bool := bit (rd s (0x60010000)) 31

/-- HKA_CFG.RING, bits [20:16]. -/
def hkaCfgRing (s : State) : Nat := bits (rd s (0x60010000)) 20 16

/-- HKA_SEQ.PERIOD, bits [31:16]. -/
def hkaSeqPeriod (s : State) : Nat := bits (rd s (0x60010008)) 31 16

/-- HKA_SEQ.LAST, bits [5:0]. -/
def hkaSeqLast (s : State) : Nat := bits (rd s (0x60010008)) 5 0

/-- HKA_ENTe.EN, bits [31]. -/
def hkaEntEn (s : State) (e : Nat) : Bool := bit (rd s (0x60010100 + e * 0x4)) 31

/-- HKA_ENTe.REF, bits [30]. -/
def hkaEntRef (s : State) (e : Nat) : Bool := bit (rd s (0x60010100 + e * 0x4)) 30

/-- HKA_ENTe.INPUT, bits [29:24]. -/
def hkaEntInput (s : State) (e : Nat) : Nat := bits (rd s (0x60010100 + e * 0x4)) 29 24

/-- HKA_ENTe.REPEAT, bits [23:20]. -/
def hkaEntRepeat (s : State) (e : Nat) : Nat := bits (rd s (0x60010100 + e * 0x4)) 23 20

/-- HKA_ENTe.DELAY, bits [7:0]. -/
def hkaEntDelay (s : State) (e : Nat) : Nat := bits (rd s (0x60010100 + e * 0x4)) 7 0

/-- THM_CFG.RING, bits [20:16]. -/
def thmCfgRing (s : State) : Nat := bits (rd s (0x60020000)) 20 16

/-- THM_VDC.CH, bits [31:26]. -/
def thmVdcCh (s : State) : Nat := bits (rd s (0x60020010)) 31 26

/-- THM_VDC.W, bits [25:23]. -/
def thmVdcW (s : State) : Nat := bits (rd s (0x60020010)) 25 23

/-- THM_VDC.VFS, bits [15:0]. -/
def thmVdcVfs (s : State) : Nat := bits (rd s (0x60020010)) 15 0

/-- THM_MSRCm.EN, bits [31]. -/
def thmMsrcEn (s : State) (m : Nat) : Bool := bit (rd s (0x60020100 + m * 0x20)) 31

/-- THM_MSRCm.CH0, bits [30:25]. -/
def thmMsrcCh0 (s : State) (m : Nat) : Nat := bits (rd s (0x60020100 + m * 0x20)) 30 25

/-- THM_MSRCm.CH1, bits [24:19]. -/
def thmMsrcCh1 (s : State) (m : Nat) : Nat := bits (rd s (0x60020100 + m * 0x20)) 24 19

/-- THM_MSRCm.CH2, bits [18:13]. -/
def thmMsrcCh2 (s : State) (m : Nat) : Nat := bits (rd s (0x60020100 + m * 0x20)) 18 13

/-- THM_MSRCm.W, bits [12:10]. -/
def thmMsrcW (s : State) (m : Nat) : Nat := bits (rd s (0x60020100 + m * 0x20)) 12 10

/-- THM_MSRCm.I_FS, bits [9:0]. -/
def thmMsrcIFs (s : State) (m : Nat) : Nat := bits (rd s (0x60020100 + m * 0x20)) 9 0

/-- THM_MCOEFm.KC, bits [31:16]. -/
def thmMcoefKc (s : State) (m : Nat) : Nat := bits (rd s (0x60020104 + m * 0x20)) 31 16

/-- THM_MCOEFm.KS, bits [15:0]. -/
def thmMcoefKs (s : State) (m : Nat) : Nat := bits (rd s (0x60020104 + m * 0x20)) 15 0

/-- THM_MRTHm.R1, bits [31:16]. -/
def thmMrthR1 (s : State) (m : Nat) : Nat := bits (rd s (0x60020108 + m * 0x20)) 31 16

/-- THM_MRTHm.R2, bits [15:0]. -/
def thmMrthR2 (s : State) (m : Nat) : Nat := bits (rd s (0x60020108 + m * 0x20)) 15 0

/-- THM_MTAUm.TAU1, bits [31:16]. -/
def thmMtauTau1 (s : State) (m : Nat) : Nat := bits (rd s (0x6002010C + m * 0x20)) 31 16

/-- THM_MTAUm.TAU2, bits [15:0]. -/
def thmMtauTau2 (s : State) (m : Nat) : Nat := bits (rd s (0x6002010C + m * 0x20)) 15 0

/-- THM_MLIMm.TJ_START, bits [31:24]. -/
def thmMlimTjStart (s : State) (m : Nat) : Nat := bits (rd s (0x60020110 + m * 0x20)) 31 24

/-- THM_MLIMm.TJ_MAX, bits [23:16]. -/
def thmMlimTjMax (s : State) (m : Nat) : Nat := bits (rd s (0x60020110 + m * 0x20)) 23 16

/-- THM_MLIMm.TJ_TRIP, bits [15:8]. -/
def thmMlimTjTrip (s : State) (m : Nat) : Nat := bits (rd s (0x60020110 + m * 0x20)) 15 8

/-- THM_MLIMm.TCOOL_DEF, bits [7:0]. -/
def thmMlimTcoolDef (s : State) (m : Nat) : Nat := bits (rd s (0x60020110 + m * 0x20)) 7 0

/-- TRC_CFG.EN, bits [0]. -/
def trcCfgEn (s : State) : Bool := bit (rd s (0x40050000)) 0

/-- TRC_MIRROR.RINGS, bits [31:0]. -/
def trcMirrorRings (s : State) : Nat := bits (rd s (0x40050008)) 31 0

end Sys2Proof.Machine
end

