-- ==== Sys2Proof/Machine/Ops.lean ====
section
/-!
DEFINITION. The operations every block uses: the clock, memory, tally counters, landing rings,
trace packets, event records, bus errors and fault reports.
-/

namespace Sys2Proof.Machine

open Sys2Proof

/-! ### Time -/

/-- Ticks in 1 ms (R3). -/
def msTk : Nat := 1600000

/-- The time base moves on to a tick, and so does the power die's copy, by 40 ticks at each CLK_ADC
edge (R27, R29). A tick in the past leaves the time where it is, and before the CLK_TB PLL has locked
there is no time base (R27). -/
def State.clockTo (s : State) (t : Tick) : State :=
  if !s.clk.locked ∨ t ≤ s.clk.now then s
  else
    { s with clk := { s.clk with
        now := t
        power := s.clk.power + 40 * ((s.clk.phase + (t - s.clk.now)) / 40)
        phase := (s.clk.phase + (t - s.clk.now)) % 40 } }

/-- What is under way, put in place by its tick of arrival; sets that arrive on one tick stand in
ascending set number (R78). -/
def insFlight (t : Nat) (f : Flight) : List (Nat × Flight) → List (Nat × Flight)
  | [] => [(t, f)]
  | x :: xs =>
    let before : Bool := match f, x.2 with
      | .results d, .results d' => d.set < d'.set
      | .compared d, .compared d' => d.set < d'.set
      | _, _ => false
    if t < x.1 ∨ (t = x.1 ∧ before) then (t, f) :: x :: xs else x :: insFlight t f xs

/-- Something leaves for another block and arrives on tick `t`. -/
def State.launch (s : State) (t : Nat) (f : Flight) : State :=
  { s with flights := insFlight t f s.flights }

/-- The 1 ms window that holds a tick (R144, R370, R374). -/
def winOf (t : Tick) : Nat := t / msTk

/-- A free value: the next draw of `Config.free`, and the state with the draw counted. -/
def State.draw (s : State) : State × Nat := ({ s with draws := s.draws + 1 }, Config.free s.draws)

/-! ### Memory (R33, R365, R368) -/

/-- The byte at a bus address; a byte nothing has written reads 0 (DESIGN CHOICE, log 9). -/
def memByte (s : State) (a : Nat) : Byte := sget 0 s.mem a

/-- `n` bytes from a bus address, lowest first. -/
def memBytes (s : State) : Nat → Nat → List Byte
  | _, 0 => []
  | a, n + 1 => memByte s a :: memBytes s (a + 1) n

/-- Bytes stored in a cell list from an address on. -/
def storeBytes : List Host.Cell → Nat → List Byte → List Host.Cell
  | m, _, [] => m
  | m, a, b :: bs => storeBytes (sput 0 m a b) (a + 1) bs

/-- Memory with bytes stored from an address on. -/
def State.store (s : State) (a : Nat) (bs : List Byte) : State :=
  { s with mem := storeBytes s.mem a bs }

/-- The flipped bits of the 256-bit word at `a` (R368). -/
def flipsAt (s : State) (a : Nat) : List (Fin 266) := sget [] s.sys.flips a

/-- The word at `a` given a new set of flipped bits. -/
def State.setFlips (s : State) (a : Nat) (f : List (Fin 266)) : State :=
  { s with sys := { s.sys with flips := sput [] s.sys.flips a f } }

/-- A full 256-bit write, which also repairs the word (R369). -/
def State.storeWord (s : State) (a : Nat) (w : Word256) : State :=
  (s.store a (leBytes 32 w.toNat)).setFlips a []

/-- The 256-bit word at an address. -/
def memWord (s : State) (a : Nat) : Word256 := BitVec.ofNat 256 (leNat (memBytes s a 32))

/-! ### Tally counters (R431) -/

/-- Counter `n` increased by `k`. -/
def State.tallyBy (s : State) (n k : Nat) : State :=
  if h : n < 256 then { s with tal := vupd s.tal ⟨n, h⟩ (· + BitVec.ofNat 64 k) } else s

/-- Counter `n` increased by one. -/
def State.tally (s : State) (n : Nat) : State := s.tallyBy n 1

/-! ### The trace buffer (R426, R430) -/

/-- The characters of a packet on the port: K27.7, the body, a CRC-8 and K29.7. -/
def TracePacket.chars (p : TracePacket) : Nat := p.body.length + 3

/-- TRC_STATUS.LEVEL. -/
def traceLevel (s : State) : Nat := (s.trc.buf.map TracePacket.chars).sum

/-- TRC changed by `f`. -/
def State.modTrc (s : State) (f : Trc → Trc) : State := { s with trc := f s.trc }

/-- The LOSS packet is made once room has returned after a drop (R430). -/
def State.traceLoss (s : State) : State :=
  let c := s.trc
  if c.lostSamples + c.lostEvents + c.lostMessages = 0 ∨ 16384 - 64 < traceLevel s then s
  else
    let sat (n : Nat) : Nat := min n 65535
    let p : TracePacket := ⟨.loss, 5 :: (leBytes 2 (sat c.lostSamples)
        ++ leBytes 2 (sat c.lostEvents) ++ leBytes 2 (sat c.lostMessages))⟩
    { s with trc := { buf := c.buf ++ [p], busy := c.busy, comma := c.comma } }

/-- A packet offered to the buffer, or dropped and counted (R430). TRC takes packets while
TRC_CFG.EN is 1. -/
def State.traceOffer (s : State) (k : TraceKind) (body : List Byte) : State :=
  if !trcCfgEn s then s
  else if k = .time ∨ traceLevel s + (body.length + 3) ≤ 16384 - 64 then
    (s.modTrc fun c => { c with buf := c.buf ++ [⟨k, body⟩] }).traceLoss
  else
    match k with
    | .sample => (s.modTrc fun c => { c with lostSamples := c.lostSamples + 1 }).tally 148
    | .event => (s.modTrc fun c => { c with lostEvents := c.lostEvents + 1 }).tally 149
    | .message => (s.modTrc fun c => { c with lostMessages := c.lostMessages + 1 }).tally 150
    | _ => s

/-! ### Landing rings (R383 to R385) -/

/-- Ring `r` changed by `f`. -/
def State.modRing (s : State) (r : Fin 32) (f : Ring → Ring) : State :=
  { s with lrg := { s.lrg with ring := vupd s.lrg.ring r f } }

/-- The DEPTH of ring r, used within 1 to 4,096 (a ring outside is bad, R383). -/
def ringDepth (s : State) (r : Fin 32) : Nat := lrgCfgDepth s r

/-- Entries of ring r held or waiting in the ring unit. -/
def ringUsed (s : State) (r : Fin 32) : Nat :=
  s.lrg.ring[r].count + (s.lrg.waiting.filter fun e => e.ring = r).length

/-- The first `k` waiting entries of ring r removed. -/
def dropWaiting (r : Fin 32) : Nat → List RingEntry → List RingEntry
  | 0, l => l
  | _, [] => []
  | k + 1, e :: l => if e.ring = r then dropWaiting r k l else e :: dropWaiting r (k + 1) l

/-- New entries for ring r from place `i` on. -/
def ringEntries (r : Fin 32) (depth : Nat) : Nat → List Word256 → List RingEntry
  | _, [] => []
  | i, w :: ws => ⟨r, i % depth, w⟩ :: ringEntries r depth (i + 1) ws

/-- The copies of an offer for the trace port (R428): FLAGS bit 0 refused, bit 1 overwriting. -/
def State.mirrorOffer (s : State) (r : Fin 32) (flags : Byte) (ws : List Word256) : State :=
  if bit (trcMirrorRings s) r then
    ws.foldl (fun s w =>
      s.traceOffer .event (3 :: BitVec.ofNat 8 r.val :: flags :: leBytes 32 w.toNat)) s
  else s

/-- An offer of entries to ring r: the state, and whether the ring took it (R383 to R385). -/
def State.offer (s : State) (r : Fin 32) (ws : List Word256) : State × Bool :=
  let n := ws.length
  let depth := ringDepth s r
  let used := ringUsed s r
  let past := n - (depth - used)
  if !lrgCfgEn s r || s.lrg.ring[r].bad || depth = 0 || 64 < s.lrg.waiting.length + n
      || depth < n || (0 < past && !lrgCfgPolicy s r) then
    (((s.modRing r fun g => { g with refused := g.refused + 1 }).tally 137).mirrorOffer r 1 ws,
      false)
  else
    let g := s.lrg.ring[r]
    let fromHeld := min past g.count
    let new := ringEntries r depth (g.ridx + used) ws
    let s := { s with lrg := { s.lrg with
      waiting := dropWaiting r (past - fromHeld) s.lrg.waiting ++ new } }
    let s := s.modRing r fun g => { g with
      ridx := (g.ridx + past) % depth
      count := g.count - fromHeld
      lost := g.lost + BitVec.ofNat 32 past }
    ((if past = 0 then s else s.tallyBy 138 past).mirrorOffer r (if past = 0 then 0 else 2) ws,
      true)

/-! ### Event records (R12, R36) -/

/-- Block codes of R34. -/
def bSYS : Nat := 0x01
def bBOOT : Nat := 0x02
def bMBX : Nat := 0x03
def bSKD : Nat := 0x07
def bCAN : Nat := 0x08
def bCE : Nat := 0x09
def bTRX : Nat := 0x0A
def bPOS : Nat := 0x0B
def bGSC : Nat := 0x0C
def bGLK : Nat := 0x0D
def bPSP : Nat := 0x0E
def bRED : Nat := 0x0F
def bPBA : Nat := 0x10
def bCAP : Nat := 0x20
def bHKA : Nat := 0x21
def bTHM : Nat := 0x22
def bAXB : Nat := 0x23
def bDCC : Nat := 0x24
def bOBC : Nat := 0x25
def bCHG : Nat := 0x26
def bFLOG : Nat := 0x28
def bRNG : Nat := 0x30
def bBLZ : Nat := 0x31

/-- The landing ring to which a block posts its events, by its RING field; a CAN channel and an
engine have their own (R115, R388 and the other event tables). -/
def ringOf (s : State) (blk unit : Nat) : Nat :=
  match blk with
  | 0x01 => sysCfgRing s
  | 0x02 => bootCfgRing s
  | 0x03 => mbxCfgRing s
  | 0x07 => skdCfgRing s
  | 0x08 => canCfgRing s (unit - 8)
  | 0x09 => ceEvcfgRing s (unit - 0x50)
  | 0x0A => trxCfgRing s
  | 0x0B => posCfgRing s
  | 0x0C => gscCfgRing s
  | 0x0D => glkCfgRing s
  | 0x0E => pspCfgRing s
  | 0x0F => redCfgRing s
  | 0x10 => pbaCfgRing s
  | 0x20 => capCfgRing s
  | 0x21 => hkaCfgRing s
  | 0x22 => thmCfgRing s
  | 0x23 => axbCfgRing s
  | 0x24 => dccCfgRing s
  | 0x26 => chgCfgRing s
  | 0x30 => rngCfgRing s
  | _ => blzCfgRing s

/-- The 256-bit record of R36. -/
def eventWord (s : State) (stamp blk unit ev detail payload : Nat) : Word256 :=
  BitVec.ofNat 256 (put (stamp % 2 ^ 64) 192 + put (s.skd.node % 256) 184 + put (unit % 256) 176
    + put (blk % 64) 170 + put (ev % 1024) 160 + put (detail % 2 ^ 32) 128 + payload % 2 ^ 128)

/-- A record stamped on a given tick, offered to the block's ring. A refused record is lost; the
ring has counted it (R385). -/
def State.recordAt (s : State) (stamp blk unit ev : Nat) (detail : Nat := 0) (payload : Nat := 0) :
    State :=
  (s.offer (Fin.ofNat 32 (ringOf s blk unit)) [eventWord s stamp blk unit ev detail payload]).1

/-- A record stamped on the tick of the step. -/
def State.record (s : State) (blk unit ev : Nat) (detail : Nat := 0) (payload : Nat := 0) : State :=
  s.recordAt s.clk.now blk unit ev detail payload

/-- A record for the fault log: it waits to be stored, or is dropped while more than 16 wait (R281). -/
def State.logRecord (s : State) (w : Word256) : State :=
  if 16 < s.flog.waiting.length then s.tally 98
  else { s with flog := { s.flog with waiting := s.flog.waiting ++ [w] } }

/-! ### Fault reports (R17, R20, R267) -/

/-- A report put on the fault network. The island receives a report of another block 40 tk later
(R20) and one of its own blocks at once (DEDUCED, log 74). -/
def State.report (s : State) (blk unit ev : Nat) (f : Byte := 0) (sub : Nat := 0) : State :=
  { s with rng := { s.rng with net := s.rng.net ++
    [⟨if blk = bRNG ∨ blk = bBLZ then s.clk.now else s.clk.now + 40, blk, unit, ev, f, sub⟩] } }

/-- An event that is recorded and reported to the island. -/
def State.recordReport (s : State) (blk unit ev : Nat) (detail : Nat := 0) (payload : Nat := 0)
    (sub : Nat := 0) : State :=
  (s.record blk unit ev detail payload).report blk unit ev 0 sub

/-! ### Bus errors (R374) -/

/-- An access of initiator `id` at address `a` ends with error `code`: it is counted, the first of
each initiator in a 1 ms window is recorded, and a sawyer core takes a precise data abort (R367). -/
def State.busError (s : State) (id : Fin 64) (a code : Nat) : State :=
  let s := s.tally 132
  let w := winOf s.clk.now + 1
  let s :=
    if s.bus.win[id] = w then s
    else { s with bus := { s.bus with win := s.bus.win.set id w } }.record bSYS (0x40 + id) 1 a code
  { s with bus := { s.bus with
      err := code
      data := []
      abort := if id.val < 12 then some (id.val, a, code) else s.bus.abort } }

/-- An access that ended without error and returned `d`. -/
def State.busDone (s : State) (d : List Byte) : State :=
  { s with bus := { s.bus with err := 0, data := d } }

/-! ### Ports -/

/-- Bytes put out on a port at the tick of the step. -/
def State.emit (s : State) (port : Nat) (bs : List Byte) : State :=
  { s with emitted := ⟨port, s.clk.now, bs⟩ :: s.emitted }

end Sys2Proof.Machine
end

