-- ==== Sys2Proof/Machine/CanOps.lean ====
section
/-!
DEFINITION. CAN FD channels: what a channel offers to the bus, the internal queue, the error
counters and the filters (R345 to R362). The rows of the command table that drive them are in
Can.lean.
-/

namespace Sys2Proof.Machine

open Sys2Proof

/-- Channel ch changed by `f`. -/
def State.modCan (s : State) (ch : Fin 6) (f : CanChan → CanChan) : State :=
  { s with can := vupd s.can ch f }

/-- Buffer b of channel ch changed by `f`. -/
def State.modBuf (s : State) (ch : Fin 6) (b : Fin 64) (f : CanBuf → CanBuf) : State :=
  s.modCan ch fun k => { k with buf := vupd k.buf b f }

def all64 : List (Fin 64) := List.ofFn fun i => i

/-- A domain shows ON (R376). -/
def domOn (s : State) (d : Fin 10) : Bool := s.sys.dom[d] == .on

/-! ### Frames -/

/-- Data lengths of a CAN FD frame by DLC. -/
def dlcBytes (d : Nat) : Nat := [0, 1, 2, 3, 4, 5, 6, 7, 8, 12, 16, 20, 24, 32, 48, 64].getD d 64

/-- The smallest DLC that holds `n` bytes (R287). -/
def dlcFor (n : Nat) : Nat := ((List.range 16).find? fun d => n ≤ dlcBytes d).getD 15

/-- The identifier and format of a frame in arbitration order: a lower number wins (R357). -/
def arbKey (f : CanFrame) : Nat :=
  if f.ide then put (f.ident / 2 ^ 18 % 2048) 21 + put 3 19 + put (f.ident % 2 ^ 18) 1 + b2n f.rtr
  else put (f.ident % 2048) 21 + put (b2n f.rtr) 20

/-- An FD frame that carries bytes, padded with 0 to the next length (R287, R359). -/
def fdFrame (s : State) (ch : Fin 6) (ident : Nat) (bs : List Byte) : CanFrame :=
  let d := dlcFor bs.length
  { fdf := true, brs := canCfgBrs s ch, ident := ident, dlc := d
    data := bs ++ List.replicate (dlcBytes d - bs.length) 0 }

/-! ### Offering a frame (R356, R357, R360) -/

/-- The channel can send (R360). -/
def canSends (s : State) (ch : Fin 6) : Bool :=
  canCfgEn s ch && !canCfgListen s ch && domOn s 7 && s.can[ch].st < 2

/-- The pending buffer with the lowest identifier, the lowest number on a tie. -/
def bestBuffer (k : CanChan) : Option (Fin 64) :=
  all64.foldl (fun best b =>
    if !k.buf[b].pend then best
    else match best with
      | none => some b
      | some a => if arbKey k.buf[b].frame < arbKey k.buf[a].frame then some b else best) none

/-- The frame to offer next (R357). -/
def nextOffer (k : CanChan) : CanOffer :=
  match k.queue, bestBuffer k with
  | [], none => .none
  | [], some b => .buffer b
  | _ :: _, none => .queue
  | f :: _, some b => if arbKey k.buf[b].frame < arbKey f then .buffer b else .queue

/-- A nominal bit in ticks: CLK_CAN runs at 80 MHz (R347). -/
def canBit (s : State) (ch : Fin 6) : Nat :=
  20 * ((canNbtNbrp s ch + 1) * (canNbtNtseg1 s ch + canNbtNtseg2 s ch + 3))

/-- The channel chooses anew for the start of frame on tick `sof`, with ESI as its state then is (R345,
R357). -/
def State.reoffer (s : State) (ch : Fin 6) (sof : Nat) : State :=
  s.modCan ch fun k => { k with
    offer := if canSends s ch && !k.other then nextOffer k else .none, sofAt := sof, esi := k.st == 1 }

/-- A frame or an error frame has ended on the bus: the next start of frame follows the intermission of
three bits (R357, ISO 11898-1). -/
def State.frameEnd (s : State) (ch : Fin 6) : State :=
  (s.modCan ch fun k => { k with other := false }).reoffer ch (s.clk.now + 3 * canBit s ch)

/-- The frame on offer is on the bus. -/
def onBus (s : State) (ch : Fin 6) : Bool :=
  s.can[ch].offer != .none && decide (s.can[ch].sofAt ≤ s.clk.now)

/-- A frame has become pending: unless a frame is on the bus, the choice is made again. -/
def State.offerIdle (s : State) (ch : Fin 6) : State :=
  if onBus s ch then s else s.reoffer ch (max s.clk.now s.can[ch].sofAt)

/-- CANn_TX is driven recessive whatever is pending: PD_CAN is off, or the channel is disabled, listens or
is in bus-off (R345, R346, R360). -/
def canTxRecessive (s : State) (ch : Fin 6) : Bool :=
  !domOn s 7 || !canCfgEn s ch || canCfgListen s ch || decide (2 ≤ s.can[ch].st)

/-- A frame of R359 enters the internal queue, or is discarded (R360). -/
def State.canQueue (s : State) (ch : Fin 6) (f : CanFrame) : State :=
  if !canSends s ch || 16 ≤ s.can[ch].queue.length then s.tally 130
  else (s.modCan ch fun k => { k with queue := k.queue ++ [f] }).offerIdle ch

/-! ### Error counters (R361) -/

/-- The fault-confinement state that counters give: above 255 bus-off, above 127 passive. -/
def confine (tec rec : Nat) : Nat := if 255 < tec then 2 else if 127 < tec ∨ 127 < rec then 1 else 0

/-- A buffer ends with a result other than SENT (R358). -/
def State.bufFailed (s : State) (ch : Fin 6) (b : Fin 64) (res : Nat) : State :=
  ((s.modBuf ch b fun k => { k with pend := false, abort := false, txres := res }).tally 129).record
    bCAN (8 + ch) 5 (b.val + put res 8)

/-- Entry to bus-off: pending buffers end, the internal queue is discarded (R358, R360, R361,
R362). -/
def State.busOff (s : State) (ch : Fin 6) : State :=
  let s := s.recordReport bCAN (8 + ch) 3 (min s.can[ch].tecCount 255)
  let s := (all64.filter fun b => s.can[ch].buf[b].pend).foldl (fun s b => s.bufFailed ch b 5) s
  let s := s.tallyBy 130 s.can[ch].queue.length
  s.modCan ch fun k => { k with queue := [], offer := .none, recovering := canCfgAutoRecover s ch }

/-- New error counters, with the state that follows from them (R361). -/
def State.setCounters (s : State) (ch : Fin 6) (tec rec : Nat) : State :=
  let old := s.can[ch].st
  let s := s.modCan ch fun k => { k with tecCount := tec, recCount := rec }
  if 2 ≤ old then s
  else
    let new := confine tec rec
    let s := s.modCan ch fun k => { k with st := new }
    let d := min tec 255 + put (min rec 255) 8
    if new = old then s
    else if new = 2 then s.busOff ch
    else s.record bCAN (8 + ch) (if new = 1 then 1 else 2) d

/-- The receive counter after a frame received without error: one less, or, above 127, a value from
119 to 127 that the standard leaves open. -/
def State.goodReceive (s : State) (ch : Fin 6) : State :=
  let k := s.can[ch]
  if k.recCount = 0 ∨ 2 ≤ k.st then s
  else if 127 < k.recCount then
    let d := s.draw
    d.1.setCounters ch k.tecCount (119 + d.2 % 9)
  else s.setCounters ch k.tecCount (k.recCount - 1)

/-! ### Filters (R352) -/

/-- Filter i admits a frame. -/
def filterHits (s : State) (ch : Fin 6) (f : CanFrame) (i : Nat) : Bool :=
  canFltIdEn s ch i && (canFltIdIde s ch i == f.ide)
    && Nat.land f.ident (canFltMskMask s ch i) = Nat.land (canFltIdId s ch i) (canFltMskMask s ch i)

/-- The entries that a frame makes in a ring (R332, R355): `first` without its payload, then the bytes. -/
def dataEntries (first : Nat) (bs : List Byte) : List Word256 :=
  let more := bs.drop 16
  BitVec.ofNat 256 (first + leNat (bs.take 16)) ::
    (List.range ((more.length + 31) / 32)).map fun i =>
      BitVec.ofNat 256 (leNat ((more.drop (32 * i)).take 32))

/-- The entries of R355. -/
def canEntries (s : State) (ch : Fin 6) (stamp : Nat) (f : CanFrame) : List Word256 :=
  let d := put (b2n f.rtr) 31 + put (b2n f.fdf) 30 + put (b2n f.ide) 29 + f.ident % 2 ^ 29
  let w := (eventWord s stamp bCAN (8 + ch) 0x100 d
    (if f.data.length ≤ 15 then put (b2n f.brs) 127 else 0)).toNat
  dataEntries w f.data

/-- A frame stored in a receive buffer (R353). -/
def State.storeFrame (s : State) (ch : Fin 6) (b : Fin 64) (i stamp : Nat) (f : CanFrame) : State :=
  let put' (s : State) : State :=
    s.modBuf ch b fun k => { k with frame := f, stamp := stamp, filter := i, new := true }
  if !s.can[ch].buf[b].new then put' s
  else
    let ovw := canBufOvw s ch b
    let s := (s.tally 128).record bCAN (8 + ch) 6 (b.val + put (b2n ovw) 8)
    if ovw then put' s else s

/-- A frame meets the filters (R352, R355). -/
def State.canFilter (s : State) (ch : Fin 6) (stamp : Nat) (f : CanFrame) : State :=
  match (List.range 128).find? fun i => filterHits s ch f i with
  | none => s.tally 127
  | some i =>
    match canFltActAction s ch i with
    | 0 =>
      let b : Fin 64 := Fin.ofNat 64 (canFltActBuf s ch i)
      if canBufEn s ch b && !canBufDir s ch b then s.storeFrame ch b i stamp f else s.tally 127
    | 1 =>
      let r := s.offer (Fin.ofNat 32 (canFltActRing s ch i)) (canEntries s ch stamp f)
      if r.2 then r.1 else r.1.tally 130
    | _ => s

end Sys2Proof.Machine
end

