-- ==== Sys2Proof/Machine/Token.lean ====
section
/-!
DEFINITION. Drive tokens, gate groups, safe patterns and gate-link frames: what the scheduler, the
redundancy block and the island share (R171, R172, R178, R191, R300 to R306).
-/

namespace Sys2Proof.Machine

open Sys2Proof

/-! ### Small changes of state -/

/-- Token g changed by `f`. -/
def State.modTok (s : State) (g : Fin 4) (f : Token → Token) : State :=
  { s with red := { s.red with tok := vupd s.red.tok g f } }

/-- Scheduler group g changed by `f`. -/
def State.modGroup (s : State) (g : Fin 4) (f : Group → Group) : State :=
  { s with gsc := { s.gsc with g := vupd s.gsc.g g f } }

/-- Leg l changed by `f`. -/
def State.modLeg (s : State) (l : Fin 24) (f : Leg → Leg) : State :=
  { s with gsc := { s.gsc with leg := vupd s.gsc.leg l f } }

/-- Link l changed by `f`. -/
def State.modLink (s : State) (l : Fin 12) (f : Link → Link) : State :=
  { s with glk := vupd s.glk l f }

/-- Engine e changed by `f`. -/
def State.modCe (s : State) (e : Fin 8) (f : Engine → Engine) : State :=
  { s with ce := vupd s.ce e f }

/-- Machine m changed by `f`. -/
def State.modTrx (s : State) (m : Fin 2) (f : Traction → Traction) : State :=
  { s with trx := { s.trx with m := vupd s.trx.m m f } }

def all2 : List (Fin 2) := [0, 1]
def all3 : List (Fin 3) := [0, 1, 2]
def all4 : List (Fin 4) := [0, 1, 2, 3]
def all8 : List (Fin 8) := [0, 1, 2, 3, 4, 5, 6, 7]
def all12 : List (Fin 12) := [0, 1, 2, 3, 4, 5, 6, 7, 8, 9, 10, 11]
def all16 : List (Fin 16) := [0, 1, 2, 3, 4, 5, 6, 7, 8, 9, 10, 11, 12, 13, 14, 15]
def all24 : List (Fin 24) :=
  [0, 1, 2, 3, 4, 5, 6, 7, 8, 9, 10, 11, 12, 13, 14, 15, 16, 17, 18, 19, 20, 21, 22, 23]

/-- A change of every index in turn. -/
def State.each {ι : Type} (s : State) (l : List ι) (f : State → ι → State) : State := l.foldl f s

/-! ### Configuration read by several blocks -/

/-- TRX_CFG.CONFIG with 3 treated as 0 (R117). -/
def trxConfig (s : State) : Nat := if trxCfgConfig s = 3 then 0 else trxCfgConfig s

/-- Machine m is configured (R117). -/
def machOn (s : State) (m : Fin 2) : Bool := m.val < trxConfig s

/-- The configured machines. -/
def machines (s : State) : List (Fin 2) := all2.filter fun m => machOn s m

/-- The gate group of a machine (R117). -/
def groupOf (m : Fin 2) : Fin 4 := if m = 0 then 0 else 1

/-- The machine of a gate group, for TA and TB. -/
def machineOf (g : Fin 4) : Option (Fin 2) := if g = 0 then some 0 else if g = 1 then some 1 else none

/-- The update count of a group (R160). -/
def updateOf (s : State) (g : Fin 4) : Nat :=
  let u := if g.val < 2 then trxMachUpdate s g else gscGroupUpdate s g
  if u = 2 then 2 else 1

/-- A carrier period within the limits of R159, bit 0 ignored. -/
def clampPeriod (g : Fin 4) (p : Nat) : Nat :=
  clampN (p / 2 * 2) (if g.val < 2 then 16000 else 3200) 800000

/-- The carrier period in effect (R159): before the first period start, the one written. -/
def periodOf (s : State) (g : Fin 4) : Nat :=
  clampPeriod g (if s.gsc.g[g].started then s.gsc.g[g].period else s.gsc.g[g].periodW)

/-- The carrier phase in effect. -/
def phaseOf (s : State) (g : Fin 4) : Nat :=
  if s.gsc.g[g].started then s.gsc.g[g].phase else s.gsc.g[g].phaseW

/-- The group of link l, if GLK_CFGl.GROUP names one (R156, R179). -/
def linkGroup (s : State) (l : Fin 12) : Option (Fin 4) :=
  let g := glkCfgGroup s l
  if h : g < 4 then some ⟨g, h⟩ else none

/-- The carrier period written, within its limits. -/
def writtenPeriod (s : State) (g : Fin 4) : Nat := clampPeriod g s.gsc.g[g].periodW

/-- The first tick after t on a lattice of period p and phase q. -/
def latticeAfter (p q t : Nat) : Nat := t + 1 + (((q : Int) - (t + 1)) % p).toNat

/-- The next period start of group g: a written PERIOD and PHASE take effect then (R159). -/
def nextStart (s : State) (g : Fin 4) : Nat :=
  if s.gsc.g[g].started then latticeAfter (periodOf s g) (phaseOf s g) s.gsc.g[g].pstart else 0

/-- The start of the period of group g that contains tick t, which does not lie before the present one
(R159, R160). -/
def periodStart (s : State) (g : Fin 4) (t : Nat) : Nat :=
  let k := s.gsc.g[g]
  let n := nextStart s g
  if k.started ∧ t < n then k.pstart
  else
    let x := t - (((t : Int) - k.phaseW) % writtenPeriod s g).toNat
    if k.started then max n x else x

/-- The links of group g. -/
def linksOf (s : State) (g : Fin 4) : List (Fin 12) := all12.filter fun l => linkGroup s l = some g

/-- Leg l is an enabled leg of group g. -/
def legIn (s : State) (g : Fin 4) (l : Fin 24) : Bool := gscLegEn s l && gscLegGroup s l = g.val

/-! ### Gate-link frames (R173 to R178)

A control character stands in an emission as the byte it encodes: K27.7 0xFB, K29.7 0xFD, K23.7
0xF7, K30.7 0xFE. -/

/-- The characters of a frame: SOF, header, payload, CRC-8, EOF (R175). -/
def linkFrame (typ low : Nat) (payload : List Byte) : List Byte :=
  let body := BitVec.ofNat 8 (put typ 4 + low) :: payload
  0xFB :: (body ++ [crc8 body, 0xFD])

/-- The port of link l sends nothing but K28.5. -/
def portFree (s : State) (l : Fin 12) : Bool := decide (s.glk[l].busyTo ≤ s.clk.now)

/-- The first character boundary of link l from now on: characters of 40 tk follow each other without a
gap, idle or not (R169, R171, R173). -/
def charTick (s : State) (l : Fin 12) : Nat :=
  s.clk.now + (((s.glk[l].busyTo : Int) - s.clk.now) % 40).toNat

/-- The tick at which the next frame of link l can start. -/
def frameTick (s : State) (l : Fin 12) : Nat := max (charTick s l) s.glk[l].busyTo

/-- What a port sends from tick t on is taken back: the characters of a frame that start then or later
do not leave (R171). -/
def cutAt (port t : Nat) (e : Emission) : Option Emission :=
  if e.port ≠ port ∨ e.tick + 40 * e.bytes.length ≤ t then some e
  else if t ≤ e.tick then none
  else some { e with bytes := e.bytes.take ((t - e.tick + 39) / 40) }

/-- A frame leaves link l from tick t on, in place of what the port would have sent from then on; the port
is busy for its characters (R173). -/
def State.sendFrom (s : State) (l : Fin 12) (t : Nat) (bs : List Byte) : State :=
  { s with emitted := ⟨14 + l.val, t, bs⟩ :: s.emitted.filterMap (cutAt (14 + l.val) t) }.modLink l
    fun k => { k with busyTo := t + 40 * bs.length, beaconOut := false }

/-- A frame that interrupts whatever the port sends, at the next character boundary (R171). -/
def State.sendLink (s : State) (l : Fin 12) (bs : List Byte) : State := s.sendFrom l (charTick s l) bs

/-- A frame sent as soon as the port is free. -/
def State.sendNext (s : State) (l : Fin 12) (bs : List Byte) : State := s.sendFrom l (frameTick s l) bs

/-- A pattern byte P and its complement (R174). -/
def patternBytes (p : BitVec 4) : List Byte :=
  let b := BitVec.ofNat 8 (0xA0 + p.toNat)
  [b, ~~~b]

/-- A link carries safe patterns and LOSS frames in SYNC and UP (R178). -/
def linkCarries (k : Link) : Bool := k.state == .sync || k.state == .up

/-- A safe-pattern command on link l, which pre-empts whatever the port sends (R171). -/
def State.sendPattern (s : State) (l : Fin 12) (p : BitVec 4) : State :=
  if linkCarries s.glk[l] then s.sendLink l (0xF7 :: patternBytes p) else s

/-! ### Patterns on a group (R132, R172, R174, R191) -/

/-- Channel c (0 to 47) is on in a pattern: the low or high side of an enabled complementary leg. -/
def chanOn (s : State) (p : Pattern) (c : Nat) : Bool :=
  all24.any fun l => gscLegEn s l && !gscLegKind s l &&
    match p with
    | .lowShort => gscLegLoCh s l = c
    | .highShort => gscLegHiCh s l = c
    | _ => false

/-- The four channel states of a pattern on link l (R174); a group other than TA and TB takes all
off (R271). -/
def patternBits (s : State) (l : Fin 12) (p : Pattern) : BitVec 4 :=
  match linkGroup s l with
  | some 0 | some 1 =>
    BitVec.ofNat 4 (maskOf ([0, 1, 2, 3].map fun j => chanOn s p (4 * l.val + j)))
  | _ => 0

/-- The tracked state a leg takes from a pattern (R172); a single leg that is off is low (R157). -/
def legPattern (s : State) (l : Fin 24) (p : Pattern) : Nat :=
  if gscLegKind s l then 2
  else match p with
    | .lowShort => 2
    | .highShort => 1
    | _ => 0

/-- The legs of a group set from a pattern. -/
def State.legsFrom (s : State) (g : Fin 4) (p : Pattern) : State :=
  s.each all24 fun s l =>
    if legIn s g l then s.modLeg l fun k => { k with
        tracked := legPattern s l p, before := legPattern s l p, beforeLast := k.last }
    else s

/-- The legs of a group with both sides off (R172). -/
def State.legsOff (s : State) (g : Fin 4) : State :=
  s.each all24 fun s l =>
    if legIn s g l then s.modLeg l fun k => { k with tracked := 0, before := 0, beforeLast := k.last }
    else s

/-- The unsent edges of group g leave the queues (R20). The interval targeted latest stays targeted: a
later commit to it is one to an interval already targeted (R166). -/
def State.flush (s : State) (g : Fin 4) : State :=
  (s.each all12 fun s l => s.modLink l fun k => { k with
      queue := k.queue.filter fun e => e.group ≠ g
      armDue := k.armDue && linkGroup s l != some g }).modGroup g
    fun k => { k with commits := [] }

/-- An entry whose epoch is no longer that of its group's token, or whose token is revoked (R170). -/
def staleEntry (s : State) (e : Entry) : Bool :=
  s.red.tok[e.group].state == .revoked || s.red.tok[e.group].epoch != e.epoch

/-- The token of group g has changed: on a link that is not UP its old entries leave the queue (R179). -/
def State.dropStale (s : State) (g : Fin 4) : State :=
  s.each all12 fun s l =>
    if s.glk[l].state = .up then s
    else s.modLink l fun k => { k with queue := k.queue.filter fun e => e.group ≠ g || !staleEntry s e }

/-- The ARM frame that is due on link l leaves: at once, or behind the frame in progress unless that is a
beacon, which an edge frame may yet abort (R171, R172). -/
def State.serveArm (s : State) (l : Fin 12) : State :=
  if s.glk[l].armDue && linkCarries s.glk[l] && (portFree s l || !s.glk[l].beaconOut) then
    (s.sendNext l (linkFrame 4 0 [])).modLink l fun k => { k with armDue := false }
  else s

/-- The island supplies a link-loss pattern to the links of a group (R178, R192). -/
def State.supplyLoss (s : State) (g : Fin 4) (p : Pattern) : State :=
  s.each (linksOf s g) fun s l =>
    s.modLink l fun k => { k with lossP := patternBits s l p, lossDue := linkCarries k }

/-! ### Drive tokens (R300 to R306) -/

/-- CE_CFG.GROUPS of engine e includes group g. -/
def ceHas (s : State) (e : Fin 8) (g : Nat) : Bool := bit (ceCfgGroups s e) g

/-- Engine e is eligible for the token of g (R300). -/
def eligible (s : State) (g : Fin 4) (e : Fin 8) : Bool :=
  bit (redTokEligible s g) e && ceHas s e g && s.ce[e].state != .fault

/-- The loop interval P of a group (R160, R300), from the registers as they stand. -/
def loopOf (s : State) (g : Fin 4) : Nat :=
  clampPeriod g s.gsc.g[g].periodW / updateOf s g

/-- The block condition of R303. -/
def blockCond (s : State) (g : Fin 4) : Bool :=
  match machineOf g with
  | some m => !machOn s m || (s.trx.m[m].state == .idle && !s.rng.lifted[g])
  | none => g = 2 && !s.obc.run

/-- The groups that an active row names: GROUPS with a traction action, and the OBC group of a row
with CHG_OFF (R271). -/
def rowGroup (s : State) (r : Nat) (g : Fin 4) : Bool :=
  (rngActTraction s r ≠ 0 && bit (rngScopeGroups s r) g) || (g = 2 && rngActChgOff s r)

/-- An active row, the reaction of R278 or an island failure holds the group revoked. -/
def revokedBy (s : State) (g : Fin 4) : Bool :=
  !s.rng.lifted[g] && (s.rng.failed || (s.rng.brakeHold && g.val < 2)
    || s.rng.shutdown || s.rng.active.any fun a => rowGroup s a.row g)

/-- The state a token takes when it is revoked or released (R303). -/
def tokNext (s : State) (g : Fin 4) : TokState :=
  if revokedBy s g then .revoked else if blockCond s g then .blocked else .free

/-- Any other change of the token cancels a pending hand-over (R306). -/
def State.cancelHand (s : State) (g : Fin 4) : State :=
  match s.red.tok[g].handing with
  | none => s
  | some e =>
    (s.modTok g fun k => { k with handing := none, result := 2 }).record bRED (0xC0 + g) 5
      (2 + put e 4)

/-- The token leaves its holder for state `st`; the last holder is remembered (R303). -/
def State.dropTok (s : State) (g : Fin 4) (st : TokState) : State :=
  ((s.cancelHand g).modTok g fun k => { k with
    state := st
    former := if k.holder.isSome then k.holder else k.former
    holder := none
    fresh := false }).dropStale g

/-- The token of g re-decided after its block condition or its revocation may have changed: a token
that is held or expired keeps its state unless it must be blocked or revoked (R300, R303). -/
def State.refreshTok (s : State) (g : Fin 4) : State :=
  let k := s.red.tok[g]
  let n := tokNext s g
  if k.state = n then s
  else match n, k.state with
    | .free, .held => s
    | .free, .expired => s
    | _, _ => s.dropTok g n

/-- A lease ends: the token becomes EXPIRED (R300). -/
def State.expireTok (s : State) (g : Fin 4) : State :=
  if s.red.tok[g].state = .held then
    (s.dropTok g .expired).modTok g fun k => { k with expiredAt := s.clk.now, unclaimed := false }
  else s

/-- A holder that enters FAULT or STOPPED ends its leases (R300). -/
def State.engineGone (s : State) (e : Fin 8) : State :=
  s.each all4 fun s g => if s.red.tok[g].holder = some e then s.expireTok g else s

/-- TOKEN_CLAIMED and TOKEN_HANDED detail (R313). -/
def claimDetail (s : State) (g : Fin 4) (e : Fin 8) : Nat :=
  let k := s.red.tok[g]
  let f := match k.holder, k.former with
    | some h, _ => h.val
    | none, some h => h.val
    | none, none => 0xF
  e.val + put f 4 + put ((k.epoch.toNat + 1) % 65536) 16

/-! ### Group state (R172) -/

/-- All-off safe patterns to each hub of a group. -/
def State.allOff (s : State) (g : Fin 4) : State :=
  s.each (linksOf s g) fun s l => s.sendPattern l 0

/-- The holder, or the island on its behalf, releases the token of g (R172, R303). -/
def State.releaseGroup (s : State) (g : Fin 4) : State :=
  let s := if s.gsc.g[g].state = .driven then
      (((s.flush g).allOff g).legsOff g).modGroup g fun k => { k with state := .opened }
    else s
  s.dropTok g (tokNext s g)

/-! ### Traction machines and patterns (R135, R138) -/

/-- The pattern the island holds on the machine's group. -/
def machPattern (s : State) (m : Fin 2) : Pattern := s.rng.pattern[groupOf m]

/-- An active short circuit (R135). -/
def isShort (p : Pattern) : Bool := p == .lowShort || p == .highShort

/-- The island has revoked the group of m or the axle has left for SAFE_HOLD or LOCKOUT: the machine
enters SAFE with ENABLE and TDEM 0 (R138). -/
def State.trxSafe (s : State) (m : Fin 2) : State :=
  match s.trx.m[m].state with
  | .idle => s
  | .safe => s
  | .relocked => s
  | _ => s.modTrx m fun k => { k with state := .safe, tdem := 0, lockRun := 0, dirty := true
                                      restart := false }

/-- The pattern on the machine's group has changed (R135, R138). -/
def State.trxPattern (s : State) (m : Fin 2) : State :=
  if s.trx.m[m].state = .relocked && !isShort (machPattern s m) then
    s.modTrx m fun k => { k with state := .safe, lockRun := 0, dirty := true, restart := false }
  else s.modTrx m fun k => { k with dirty := true }

/-- The island puts pattern `p` on group g: the token is revoked, the unsent edges are flushed, the
pattern goes to every hub and becomes the link-loss pattern (R20, R171, R172, R192, R271); `trac` is
the TRACTION value in force. -/
def State.dispatch (s : State) (g : Fin 4) (p : Pattern) (trac : Nat) : State :=
  let same := s.rng.pattern[g] = p
  let s := { s with rng := { s.rng with
    pattern := s.rng.pattern.set g p
    trac := s.rng.trac.set g trac } }
  let s := (s.dropTok g .revoked).flush g
  let s := s.each (linksOf s g) fun s l => if same then s else s.sendPattern l (patternBits s l p)
  let s := (s.supplyLoss g p).legsFrom g p
  let s := s.modGroup g fun k => { k with state := .safe }
  match machineOf g with
  | some m => (s.trxSafe m).trxPattern m
  | none => s

/-- The revocation of group g ends: SAFE becomes OPEN with the hubs holding the pattern (R172,
R272). The pattern in force on the group is none from then on (R133). -/
def State.liftGroup (s : State) (g : Fin 4) : State :=
  let s := { s with rng := { s.rng with
    pattern := s.rng.pattern.set g .none
    trac := s.rng.trac.set g 0 } }
  (s.modGroup g fun k => { k with state := if k.state = .safe then .opened else k.state }).refreshTok g

end Sys2Proof.Machine
end

