-- ==== Sys2Proof/Machine/MemOps.lean ====
section
/-!
DEFINITION. The shared SRAM and the tightly coupled memories: where they lie, their SEC-DED code and
their accesses (R33, R365 to R372).
-/

namespace Sys2Proof.Machine

open Sys2Proof

/-- SYS changed by `f`. -/
def State.modSys (s : State) (f : Sys → Sys) : State := { s with sys := f s.sys }

/-! ### Where memory lies (R33, R365, R366) -/

def sramBase : Nat := 0x10000000
def sramEnd : Nat := 0x10800000
def tcmBase : Nat := 0x20000000
def tcmEnd : Nat := 0x20300000

/-- An address lies in the shared SRAM. -/
def inSram (a : Nat) : Bool := sramBase ≤ a && a < sramEnd

/-- The core whose tightly coupled memory holds an address. -/
def tcmCore (a : Nat) : Option Nat :=
  if tcmBase ≤ a && a < tcmEnd then some ((a - tcmBase) / 0x40000) else none

/-- Pair k runs as two independent cores (R299). -/
def pairSplit (s : State) (k : Fin 6) : Bool := s.red.splitEn && s.red.pair[k].splitReq

/-- The pair of a core. -/
def pairOfCore (c : Nat) : Fin 6 := Fin.ofNat 6 (c / 2)

/-- The bus address that an initiator's address names: a core's private range is its own alias
(R33, R365). -/
def busAddr (id : Fin 64) (a : Nat) : Nat :=
  if id.val < 12 ∧ a < 0x40000 then tcmBase + id.val * 0x40000 + a else a

/-- The domain of a pair. -/
def pairDom (k : Fin 6) : Fin 10 := ⟨k.val, by omega⟩

/-- The error that an access to a memory address meets before the memory is read: 0 none. A place
outside the memories answers UNMAPPED. -/
def memReach (s : State) (a : Nat) : Nat :=
  if inSram a then 0
  else match tcmCore a with
    | some c =>
      if !domOn s (pairDom (pairOfCore c)) then 5
      else if c % 2 = 1 && !pairSplit s (pairOfCore c) then 1 else 0
    | none => 1

/-- The 256-bit word that holds an address. -/
def wordOf (a : Nat) : Nat := a / 32 * 32

/-! ### The code (R368 to R371) -/

/-- Flips that have come to those a word had: a bit that flips twice is as it was. -/
def mergeFlips (old new : List (Fin 266)) : List (Fin 266) :=
  new.foldl (fun l b => if l.contains b then l.filter (· ≠ b) else l ++ [b]) old

/-- New flips of the word at `a`. -/
def State.upset (s : State) (a : Nat) (new : List (Fin 266)) : State :=
  if new.isEmpty then s else s.setFlips a (mergeFlips (flipsAt s a) new)

/-- SOURCE_UNIT of an error met by an initiator; none is the scrubber (R388). -/
def eccUnit (id : Option (Fin 64)) : Nat := match id with
  | some i => 0x40 + i.val
  | none => 0xFF

/-- A word at `a` with flipped bits is checked: a single-bit error is corrected and noted, a double-bit
error is recorded and reported. The second component tells of a double-bit error (R370, R371). -/
def State.eccNote (s : State) (id : Option (Fin 64)) (a : Nat) (flips : List (Fin 266)) : State × Bool :=
  match flips with
  | [] => (s, false)
  | [b] =>
    let w := winOf s.clk.now + 1
    let s := (s.tally 133).modSys fun k => { k with eccAddr := a }
    if s.sys.eccWin = w then (s, false)
    else ((s.modSys fun k => { k with eccWin := w }).record bSYS (eccUnit id) 2 a b.val, false)
  | _ =>
    let i := match id with
      | some i => i.val
      | none => 0x3F
    (((s.tally 134).modSys fun k => { k with eccBad := a }).recordReport bSYS (eccUnit id) 3 a i, true)

/-- The word stored at `a` is checked. -/
def State.eccCheck (s : State) (id : Option (Fin 64)) (a : Nat) : State × Bool :=
  s.eccNote id a (flipsAt s a)

/-- A corrected word waits for its write-back (R370). -/
def State.queueWriteback (s : State) (a : Nat) : State :=
  if (flipsAt s a).length = 1 && !s.sys.writeback.contains a then
    s.modSys fun k => { k with writeback := k.writeback ++ [a] }
  else s

/-- A word has been written whole with check bits of its own: its flips are gone. -/
def State.repaired (s : State) (a : Nat) : State :=
  (s.setFlips a []).modSys fun k => { k with writeback := k.writeback.filter (· ≠ a) }

/-- The word at `a` is read by an initiator: the state, and whether it holds a double-bit error. -/
def State.readCheck (s : State) (id : Option (Fin 64)) (a : Nat) : State × Bool :=
  let r := s.eccCheck id a
  (r.1.queueWriteback a, r.2)

/-- Successive words are read; whether one of them holds a double-bit error. -/
def State.readRows (s : State) (id : Fin 64) : Nat → Nat → State × Bool
  | _, 0 => (s, false)
  | a, n + 1 =>
    let r := s.readCheck (some id) a
    if r.2 then r else r.1.readRows id (a + 32) n

/-- The other copy of a tightly coupled address in a lockstep pair (R366). -/
def otherCopy (s : State) (a : Nat) : Option Nat :=
  match tcmCore a with
  | some c => if c % 2 = 0 && !pairSplit s (pairOfCore c) then some (a + 0x40000) else none
  | none => none

/-- Bytes stored at a bus address, in both copies of a lockstep pair. -/
def State.storeCopies (s : State) (a : Nat) (bs : List Byte) : State :=
  let s := s.store a bs
  match otherCopy s a with
  | some b => s.store b bs
  | none => s

/-- The word at `a` and its copy are repaired. -/
def State.repairCopies (s : State) (a : Nat) : State :=
  let s := s.repaired a
  match otherCopy s a with
  | some b => s.repaired b
  | none => s

/-- The word at `a`, and in a lockstep pair its copy, are read and checked before a narrow write (R366,
R369). A double-bit error in either refuses the write (DEDUCED, log 94). -/
def State.checkCopies (s : State) (id : Fin 64) (a : Nat) : State × Bool :=
  let r := s.eccCheck (some id) a
  if r.2 then r
  else match otherCopy s a with
    | some b => r.1.eccCheck (some id) b
    | none => r

/-- A write inside one word by an access at `addr`: a narrower one reads the word first (R369). -/
def State.memWrite (s : State) (id : Fin 64) (addr a : Nat) (bs : List Byte) : State :=
  let w := wordOf a
  if bs.length = 32 then ((s.storeCopies a bs).repairCopies w).busDone []
  else
    let r := s.checkCopies id w
    if r.2 then r.1.busError id addr 4 else ((r.1.storeCopies a bs).repairCopies w).busDone []

/-- A read inside one word by an access at `addr`: the initiator checks the word as it arrives, with what
flipped in the memory and on the interconnect (R368, R370, R371). -/
def State.memRead (s : State) (id : Fin 64) (addr a n : Nat) (wire : List (Fin 266)) : State :=
  let w := wordOf a
  let r := s.eccNote (some id) w (mergeFlips (flipsAt s w) wire)
  if r.2 then r.1.busError id addr 4 else (r.1.queueWriteback w).busDone (memBytes r.1 a n)

/-- Both memories of the cores of a pair are cleared under valid check bits (R376, R405). -/
def State.clearPair (s : State) (k : Fin 6) : State :=
  let lo := tcmBase + 2 * k.val * 0x40000
  let hi := lo + 0x80000
  let out (a : Nat) : Bool := decide (a < lo ∨ hi ≤ a)
  { s with
    mem := s.mem.filter fun c => out c.1
    sys := { s.sys with
      flips := s.sys.flips.filter fun c => out c.1
      writeback := s.sys.writeback.filter out } }

/-! ### The scrubber (R372) -/

/-- The word the scrubber visits after `a`, in the order of R372. -/
def scrubNext (a : Nat) : Nat :=
  let b := a + 32
  if b = sramEnd then tcmBase else if tcmEnd ≤ b then sramBase else b

/-- The first word from `a` on whose memory has power; at most every core is skipped. -/
def scrubSkip (s : State) : Nat → Nat → Nat
  | 0, a => a
  | fuel + 1, a =>
    match tcmCore a with
    | some c =>
      if domOn s (pairDom (pairOfCore c)) then a
      else scrubSkip s fuel (if c = 11 then sramBase else tcmBase + (c + 1) * 0x40000)
    | none => a

/-! ### Mailboxes (R378 to R382) -/

/-- Mailbox m changed by `f`. -/
def State.modMbx (s : State) (m : Fin 64) (f : Mailbox → Mailbox) : State :=
  { s with mbx := vupd s.mbx m f }

/-- The mailbox emptied. -/
def Mailbox.empty (k : Mailbox) : Mailbox := { k with full := false, word := 0, collision := false }

/-- The domain of mailbox m, if it is not always on. -/
def mbxDom (s : State) (m : Fin 64) : Option (Fin 10) :=
  let d := mbxCfgDomain s m
  if h : d < 10 then some ⟨d, h⟩ else none

/-- The error that an access to the window of mailbox m meets: 0 none (R374, R382). -/
def mbxReach (s : State) (m : Fin 64) : Nat :=
  if !mbxCfgEn s m then 1
  else match mbxDom s m with
    | some d => if domOn s d then 0 else 5
    | none => 0

/-- The word as stored: the initiator and the count in bits 255 to 240 (R378). -/
def stampWord (id : Fin 64) (seq : Nat) (w : Word256) : Word256 :=
  BitVec.ofNat 256 (w.toNat % 2 ^ 240 + put (seq + 1024 * id.val) 240)

/-- An accepted write to mailbox m. -/
def State.mbxStore (s : State) (id m : Fin 64) (w : Word256) (collision : Bool) : State :=
  s.modMbx m fun k =>
    let q := k.seq % 1023 + 1
    { full := true, word := stampWord id q w, collision := collision, sender := id.val, seq := q }

end Sys2Proof.Machine
end

