-- ==== Sys2Proof/Machine/Pass.lean ====
section
/-!
DEFINITION. Passes of a control engine: data-memory writes, triggers, the start and the end of a
pass, and engine faults (R90 to R97, R112, R114).
-/

namespace Sys2Proof.Machine

open Sys2Proof

/-! ### Data memory (R90, R95, R114) -/

/-- Data word x, taken modulo 1,024 (R99). -/
def Engine.peek (k : Engine) (j : Nat) : Word24 := sget 0 k.dmem (j % 1024)

/-- The flipped bits of the row that holds data word x (R90). -/
def Engine.dataFlips (k : Engine) (j : Nat) : List (Fin 266) := sget [] k.dflips (j % 1024 / 8)

/-- Data word x lies in a row with a double-bit error (R90). -/
def Engine.rowBad (k : Engine) (j : Nat) : Bool := decide (2 ≤ (k.dataFlips j).length)

/-- The row of data word x is written whole with good check bits. -/
def Engine.cleanRow (k : Engine) (j : Nat) : Engine := { k with dflips := sput [] k.dflips (j % 1024 / 8) [] }

/-- A data word written. A word of a row with a double-bit error keeps its content (R369). -/
def Engine.poke (k : Engine) (j : Nat) (v : Word24) : Engine :=
  if k.rowBad j then k else { k.cleanRow j with dmem := sput 0 k.dmem (j % 1024) v }

/-- The bus address of the row that holds data word x of engine e (R116). -/
def rowAddr (e : Fin 8) (j : Nat) : Nat := 0x40081000 + 0x2000 * e.val + 32 * (j % 1024 / 8)

/-- The row of data word x is read by an initiator: a single-bit error is corrected, counted and written
back; whether it holds a double-bit error (R90, R370, R371). -/
def State.rowCheck (s : State) (id : Fin 64) (e : Fin 8) (j : Nat) : State × Bool :=
  let f := s.ce[e].dataFlips j
  let r := s.eccNote (some id) (rowAddr e j) f
  if r.2 || f.isEmpty then r else (r.1.modCe e fun k => k.cleanRow j, false)

/-- The initiator ID of engine e (R35). -/
def ceId (e : Fin 8) : Fin 64 := ⟨16 + e.val, by omega⟩

/-- A data word written in engine e by a block: the row is read, checked and written back (R90, R369).
A block that has no ID of R35 is noted under that of the engine (DESIGN CHOICE, log 124). -/
def State.pokeRow (s : State) (e : Fin 8) (j : Nat) (v : Word24) : State :=
  (s.rowCheck (ceId e) e j).1.modCe e fun k => k.poke j v

/-- The held writes of engine e applied in order (R95). -/
def State.applyHeld (s : State) (e : Fin 8) : State :=
  s.ce[e].hold.foldl (fun (s : State) w => s.pokeRow e w.1 w.2) (s.modCe e fun k => { k with
    hold := [] })

/-- A write of one engine's data memory by another initiator (R95). -/
def State.ceWriteOne (s : State) (e : Fin 8) (j : Nat) (v : Word24) : State :=
  let k := s.ce[e]
  if k.state = .running then
    if k.hold.length < 192 then s.modCe e fun k => { k with hold := k.hold ++ [(j % 1024, v)] }
    else ((s.pokeRow e j v).tally 46).record bCE (0x50 + e) 4 (j % 1024)
  else s.pokeRow e j v

/-- CE7 mirrors engine e (R114). -/
def mirrored (s : State) (e : Fin 8) : Bool :=
  4 ≤ e.val && e.val ≤ 6 && s.ce[(7 : Fin 8)].state != .stopped && s.ce[(7 : Fin 8)].mirror = e.val

/-- A write of a data word by another initiator, and its copy to CE7 (R95, R114). -/
def State.ceWrite (s : State) (e : Fin 8) (j : Nat) (v : Word24) : State :=
  let s' := s.ceWriteOne e j v
  if mirrored s e then s'.ceWriteOne 7 j v else s'

/-- Successive words written from `j` on. -/
def State.ceWrites (s : State) (e : Fin 8) : Nat → List Word24 → State
  | _, [] => s
  | j, v :: vs => (s.ceWrite e j v).ceWrites e (j + 1) vs

/-- Engines whose bit is set in a mask. -/
def enginesOf (mask : Nat) : List (Fin 8) := all8.filter fun e => bit mask e

/-! ### Triggers (R92 to R94, R114) -/

/-- A trigger: a window set with its completion tick, the timer, or software. -/
inductive Trig where
  | set (n : Fin 16) (tick : Nat)
  | timer
  | software
deriving DecidableEq, Repr

/-- Any trigger latch is pending. -/
def Engine.anyPend (k : Engine) : Bool := k.setPend || k.timerPend || k.swPend

/-- The latch of a trigger set. -/
def Engine.latchTrig (k : Engine) : Trig → Engine
  | .set n tick =>
    if k.setPend then { k with setMask := k.setMask ||| BitVec.ofNat 16 (2 ^ n.val) }
    else { k with setPend := true, setMask := BitVec.ofNat 16 (2 ^ n.val), setTick := tick }
  | .timer => { k with timerPend := true }
  | .software => { k with swPend := true }

/-- A trigger finds its latch pending, a set of the same completion tick apart (R94). -/
def Engine.overruns (k : Engine) : Trig → Bool
  | .set _ tick => k.setPend && k.setTick != tick
  | .timer => k.timerPend
  | .software => k.swPend

/-- Detail bit of TRIGGER_OVERRUN (R115). -/
def Trig.detail : Trig → Nat
  | .set _ _ => 1
  | .timer => 2
  | .software => 4

/-- A trigger of one engine (R91, R94). -/
def State.triggerOne (s : State) (e : Fin 8) (q : Trig) : State :=
  let k := s.ce[e]
  if k.state = .stopped ∨ k.state = .fault then s
  else
    let s' := s.modCe e fun k => { k.latchTrig q with
      raised := if k.anyPend then k.raised else s.clk.now }
    if k.overruns q then (s'.tally (32 + e)).record bCE (0x50 + e) 2 q.detail else s'

/-- A trigger of engine e and its copy to CE7 (R114). -/
def State.trigger (s : State) (e : Fin 8) (q : Trig) : State :=
  let s' := s.triggerOne e q
  if mirrored s e then s'.triggerOne 7 q else s'

/-! ### Start and end of a pass (R91, R93, R95, R97) -/

/-- The pass of an engine with a latch pending starts on a tick (R93). -/
def Engine.start (k : Engine) (tick : Nat) : Engine :=
  let k' := { k with state := .running, pstart := tick, cycles := 0, stack := [], staged := [] }
  if k.setPend then
    { k' with setPend := false, pc := k.entrySet, trig := k.setMask.setWidth 18 }
  else if k.timerPend then
    { k' with timerPend := false, pc := k.entryTimer, trig := BitVec.ofNat 18 (2 ^ 16) }
  else { k' with swPend := false, pc := k.entrySet, trig := BitVec.ofNat 18 (2 ^ 17) }

/-- Flags of a mask set; a flag that was 0 has risen (R96, R97). -/
def Engine.raise (k : Engine) (m : BitVec 6) : Engine :=
  { k with flags := k.flags ||| m, rose := k.rose ||| (m &&& ~~~k.flags) }

/-- FLAG_RAISED, if a flag rose since the end of the previous pass (R97). -/
def State.flagCheck (s : State) (e : Fin 8) : State :=
  let k := s.ce[e]
  let s' := s.modCe e fun k => { k with flagsEnd := k.flags, rose := 0 }
  if k.rose = 0 then s'
  else (s'.tally 45).record bCE (0x50 + e) 3 (k.flagsEnd.toNat + put k.flags.toNat 8)

/-- The pass of engine e ends on a tick: the held writes are applied at one word per cycle of 4 tk, and
the next pass starts after them if a latch is pending (R91, R93, R95, R97). -/
def State.passEnd (s : State) (e : Fin 8) (tick : Nat) : State :=
  let ready := tick + 4 * s.ce[e].hold.length
  let s := ((s.flagCheck e).applyHeld e).modCe e fun k => { k with
    passLast := min k.cycles 65535
    passMax := max k.passMax (min k.cycles 65535)
    readyAt := ready
    staged := []
    stack := [] }
  let k := s.ce[e]
  if !k.run then
    (s.modCe e fun k => { k with state := .stopped, setPend := false, timerPend := false
                                 swPend := false }).engineGone e
  else if k.anyPend then s.modCe e fun k => k.start ready
  else s.modCe e fun k => { k with state := .idle }

/-- Engine e enters FAULT with a cause (R91, R95, R97, R112, R300). -/
def State.engineFault (s : State) (e : Fin 8) (cause : Nat) : State :=
  let ready := s.clk.now + 4 * s.ce[e].hold.length
  let s := ((s.flagCheck e).applyHeld e).modCe e fun k => { k with
    state := .fault, cause := cause, readyAt := ready, staged := [], stack := [] }
  ((s.tally 44).recordReport bCE (0x50 + e) 1 (cause + put (s.ce[e].pc % 4096) 16)).engineGone e

end Sys2Proof.Machine
end

