-- ==== Sys2Proof/Machine/BridgeOps.lean ====
section
/-!
DEFINITION. The auxiliary bridges: pulse placement, gates and the commutation sequencer (R199 to
R219). The rows of the command table that drive them are in Bridge.lean.
-/

namespace Sys2Proof.Machine

open Sys2Proof

/-- Bridge b changed by `f`. -/
def State.modAxb (s : State) (b : Fin 3) (f : Bridge → Bridge) : State :=
  { s with axb := { s.axb with b := vupd s.axb.b b f } }

/-- AXB_STATEb.STATE code (R212). -/
def BState.code : BState → Nat
  | .stopped => 0
  | .direct => 1
  | .precharge => 2
  | .align => 3
  | .ramp => 4
  | .run => 5
  | .brake => 6
  | .coast => 7
  | .stalled => 8
  | .held => 9

/-- "Running" of R212. -/
def BState.running : BState → Bool
  | .stopped | .stalled | .held => false
  | _ => true

/-- Six-step operation from PRECHARGE to RUN. -/
def BState.sixStep : BState → Bool
  | .precharge | .align | .ramp | .run => true
  | _ => false

/-- The carrier period of R201: a multiple of 40 tk within 25,000 to 100,000. -/
def axbPeriod (p : Nat) : Nat := clampN (p / 40 * 40) 25000 100000

def deadOf (s : State) (b : Fin 3) : Nat := max (axbTimingDead s b) 1
def refreshOf (s : State) (b : Fin 3) : Nat := max (axbTimingRefresh s b) 1
def swinOf (s : State) (b : Fin 3) : Nat := max (axbTimingSwin s b) 40
def settleOf (s : State) (b : Fin 3) : Nat := max (axbTimingSettle s b) 1

/-- The high interval [a, b) of R203 in cycles, for duty `d` in a period of `n` cycles. -/
def placement (s : State) (b : Fin 3) (n duty : Nat) (bootLow : Bool) : Nat × Nat :=
  let d := deadOf s b
  let r := refreshOf s b
  let w := swinOf s b
  let st := settleOf s b
  let x := if duty = 0x7FFFFF then n else (duty * n + 2 ^ 22) / 2 ^ 23
  let x := if x ≤ d then 0 else x
  let x := if n < x + 2 * d then n else x
  let x := if bootLow then min x (n - r - 2 * d) else x
  let a := (n - x) / 2
  let a := if axbCtlSample s b && decide (w + st + d ≤ n - x) then clampN a w (n - st - d - x) else a
  let a := if bootLow then max a (r + d) else a
  (a, a + x)

/-- What a phase does in a period. -/
inductive PhaseMode where
  /-- Both sides off. -/
  | off
  /-- The low side on. -/
  | low
  /-- Complementary PWM with a duty. -/
  | pwm (duty : Nat)
  /-- High-side PWM with the low side off. -/
  | high (duty : Nat)
deriving DecidableEq, Repr

/-- The PWM, low and floating phases of a step (R214). -/
def stepPhases (step : Nat) : Fin 3 × Fin 3 × Fin 3 :=
  match step with
  | 0 => (0, 1, 2)
  | 1 => (0, 2, 1)
  | 2 => (1, 2, 0)
  | 3 => (1, 0, 2)
  | 4 => (2, 0, 1)
  | _ => (2, 1, 0)

/-- The duty of six-step operation (R214). -/
def sixDuty (s : State) (b : Fin 3) : Nat :=
  let k := s.axb.b[b]
  if k.state = .run ∧ k.runDuty then (clampI k.slots[0].toInt 0 0x7FFFFF).toNat
  else axbStartDuty s b * 128

/-- The mode of phase p of bridge b (R202, R212, R214, R216, R218). -/
def phaseMode (s : State) (b : Fin 3) (p : Fin 3) : PhaseMode :=
  let k := s.axb.b[b]
  match k.state with
  | .held => if k.island = 2 then .low else .off
  | .precharge | .brake => .low
  | .direct =>
    let duty := (clampI (k.slots.getD p.val 0).toInt 0 0x7FFFFF).toNat
    match bits k.slots[3].toNat (2 * p.val + 1) (2 * p.val) with
    | 0 => .off
    | 1 => .pwm duty
    | 2 => .low
    | _ => .high duty
  | .align | .ramp | .run =>
    let q := stepPhases k.step
    if p = q.1 then .pwm (sixDuty s b) else if p = q.2.1 then .low else .off
  | _ => .off

/-- The edges that bring a phase to a static state from tick `t`: a side turns on when its partner
has been off for DEAD (R200). -/
def staticEdges (k : Phase) (p : Fin 3) (hs ls : Bool) (t dead : Nat) : List PEdge :=
  let hOff : List PEdge := if k.gh && !hs then [⟨t, p, true, false⟩] else []
  let lOff : List PEdge := if k.gl && !ls then [⟨t, p, false, false⟩] else []
  let hOn : List PEdge := if hs && !k.gh then
    [⟨if k.gl then t + dead else max t (min (k.glOff + dead) (t + dead)), p, true, true⟩] else []
  let lOn : List PEdge := if ls && !k.gl then
    [⟨if k.gh then t + dead else max t (min (k.ghOff + dead) (t + dead)), p, false, true⟩] else []
  hOff ++ lOff ++ hOn ++ lOn

/-- The edges of a phase for a period that starts on `t` (R203). In mode 3 a phase that shows BOOT_LOW
gets the refresh of its low side before each pulse (R208). -/
def phaseEdges (s : State) (b p : Fin 3) (t n : Nat) : List PEdge :=
  let k := s.axb.b[b].phase[p]
  let d := deadOf s b
  let e (c : Nat) (high on : Bool) : PEdge := ⟨t + 40 * c, p, high, on⟩
  match phaseMode s b p with
  | .off => staticEdges k p false false t (40 * d)
  | .low => staticEdges k p false true t (40 * d)
  | .pwm duty =>
    let q := placement s b n duty k.lowAt
    if q.2 = q.1 then staticEdges k p false true t (40 * d)
    else if q.2 - q.1 = n then staticEdges k p true false t (40 * d)
    else if k.gh && q.1 < 2 * d then [e 0 true false, e (q.1 + d) true true, e q.2 true false, e (q.2 + d) false true]
    else staticEdges k p false true t (40 * d) ++
      [e q.1 false false, e (q.1 + d) true true, e q.2 true false, e (q.2 + d) false true]
  | .high duty =>
    let q := placement s b n duty k.lowAt
    if q.2 = q.1 then staticEdges k p false false t (40 * d)
    else if q.2 - q.1 = n then staticEdges k p true false t (40 * d)
    else if k.lowAt then
      staticEdges k p false true t (40 * d) ++
        [e q.1 false false, e (q.1 + d) true true, e q.2 true false]
    else staticEdges k p false false t (40 * d) ++ [e (q.1 + d) true true, e q.2 true false]

/-- Edges in order of their ticks, a new one after its equals. -/
def insEdge (e : PEdge) : List PEdge → List PEdge
  | [] => [e]
  | x :: xs => if e.tick < x.tick then e :: x :: xs else x :: insEdge e xs

/-- Edges sorted by tick. -/
def sortEdges (l : List PEdge) : List PEdge := l.foldl (fun acc e => insEdge e acc) []

/-- A gate of a phase. -/
def Phase.gate (k : Phase) (high : Bool) : Bool := if high then k.gh else k.gl

/-- A gate of a phase set, the tick of the change noted. -/
def Phase.setGate (k : Phase) (high on : Bool) (t : Nat) : Phase :=
  if high then { k with
    gh := on, ghOff := if k.gh && !on then t else k.ghOff, ghOn := if !k.gh && on then t else k.ghOn }
  else { k with
    gl := on, glOff := if k.gl && !on then t else k.glOff, glOn := if !k.gl && on then t else k.glOn }

/-- A request the interlock ignores: the partner is on, or turned off less than DEAD ago (R200). -/
def interlocked (k : Phase) (high : Bool) (t dead : Nat) : Bool :=
  if high then k.gl || (k.glOff ≠ 0 && t < k.glOff + dead)
  else k.gh || (k.ghOff ≠ 0 && t < k.ghOff + dead)

/-- The high side of a phase cannot turn on: its supply is below UVLO, or has been since the latest
period start (R209). -/
def Phase.locked (k : Phase) : Bool := k.uvlo || k.hold

/-- A gate of bridge b changes on tick `t`, and CAP gets the edge notice (R74, R201). -/
def State.gateEdge (s : State) (b p : Fin 3) (high on : Bool) (t : Nat) : State :=
  let s := s.modAxb b fun k => { k with
    phase := vupd k.phase p fun q => q.setGate high on t
    recent := t :: k.recent }
  { s with cap := { s.cap with notices := (4 + b.val, t) :: s.cap.notices } }

/-- An edge executed: the interlock, the driver supply, the change of the gate (R200, R201, R209). -/
def State.doEdge (s : State) (b : Fin 3) (e : PEdge) : State :=
  let k := s.axb.b[b].phase[e.phase]
  if e.on && interlocked k e.high e.tick (40 * deadOf s b) then
    (s.tally 74).recordReport bAXB (0xC0 + b) 3 e.phase
  else if e.on && e.high && k.locked || k.gate e.high == e.on then s
  else s.gateEdge b e.phase e.high e.on e.tick

/-- All edges planned up to tick `t` executed in order. -/
def State.edgesUpTo (s : State) (b : Fin 3) (t : Nat) : List PEdge → State
  | [] => s.modAxb b fun k => { k with edges := [] }
  | e :: es =>
    if e.tick ≤ t then (s.doEdge b e).edgesUpTo b t es else s.modAxb b fun k => { k with edges := e :: es }

/-- All gates of a bridge set at once: FREEWHEEL, or the low sides on (R212, R218). Low sides whose
high side was on follow after DEAD. -/
def State.gatesNow (s : State) (b : Fin 3) : State :=
  let t := s.clk.power
  let es := sortEdges (all3.flatMap fun p =>
    let k := s.axb.b[b].phase[p]
    match phaseMode s b p with
    | .low => staticEdges k p false true t (40 * deadOf s b)
    | _ => staticEdges k p false false t (40 * deadOf s b))
  s.edgesUpTo b t es

/-- The level of a gate output: the request, held low while VDRV is low, while PD_AXB is off and, for
a high side, while its supply does not work (R199, R209, R211). -/
def gateOut (s : State) (b p : Fin 3) (high : Bool) : Bool :=
  let k := s.axb.b[b].phase[p]
  (if high then k.gh && !k.uvlo else k.gl) && !s.axb.vdrvLow && s.sys.dom[(8 : Fin 10)] != .off

/-- The earliest tick from `t` on at which a side may turn on whose partner turns off now or has
turned off at `off` (R200). -/
def onFrom (partner : Bool) (off t dead : Nat) : Nat :=
  if partner then t + dead else max t (min (off + dead) (t + dead))

/-- The edges of a PWM phase for the rest of a period of `n` cycles that started on `t0`, from tick `t`,
with the placement [a, b) (R200, R203, R208, R214). A phase that shows BOOT_LOW has its low side on for
`r` ticks in this period before its high side turns on. A side that could turn on only at or after the
tick at which it turns off stays off. -/
def pwmFrom (k : Phase) (p : Fin 3) (t0 n a b t d r : Nat) : List PEdge :=
  let lowFor := onFrom k.gh k.ghOff t d
  let lowOn := if k.gl then max k.glOn t0 else lowFor
  if b - a = n ∧ !k.lowAt then staticEdges k p true false t d
  else if a = b ∨ t0 + 40 * b ≤ t then staticEdges k p false true t d
  else
    let fresh := k.gh || decide (max k.glOn t0 + r ≤ k.glOff)
    let rise := if k.lowAt && !fresh then max (t0 + 40 * a) (lowOn + r) else t0 + 40 * a
    let fall := t0 + 40 * b
    let tail : List PEdge := [⟨fall, p, true, false⟩, ⟨fall + d, p, false, true⟩]
    if rise ≤ t then
      let on := if k.gh then t else onFrom k.gl k.glOff t d
      if fall ≤ on then staticEdges k p false true t d else staticEdges k p true false t d ++ tail
    else if fall ≤ rise + d then staticEdges k p false true t d
    else if !k.gl && decide (rise ≤ lowFor) then
      staticEdges k p false false t d ++ ⟨max (rise + d) lowFor, p, true, true⟩ :: tail
    else staticEdges k p false true t d ++ ⟨rise, p, false, false⟩ :: ⟨rise + d, p, true, true⟩ :: tail

/-- A step pattern takes effect at once; the new PWM phase takes the commanded state of the present
placement (R214). -/
def State.stepNow (s : State) (b : Fin 3) : State :=
  let t := s.clk.power
  let k := s.axb.b[b]
  let d := 40 * deadOf s b
  let es := all3.flatMap fun p =>
    let q := k.phase[p]
    match phaseMode s b p with
    | .pwm _ => pwmFrom q p k.pstart (k.period / 40) k.pa k.pb t d (40 * refreshOf s b)
    | .low => staticEdges q p false true t d
    | _ => staticEdges q p false false t d
  s.edgesUpTo b t (sortEdges es)

/-- The placement of this period for the PWM phase of a step, at the period's duty (R203, R214). -/
def State.place (s : State) (b : Fin 3) : State :=
  let k := s.axb.b[b]
  let q := placement s b (k.period / 40) k.pduty k.phase[(stepPhases k.step).1].lowAt
  s.modAxb b fun k => { k with pa := q.1, pb := q.2 }

/-- The sequencer enters a state (R212). The phases of DIRECT follow the period start at which it is
entered. -/
def State.toB (s : State) (b : Fin 3) (st : BState) : State :=
  let s := s.modAxb b fun k => { k with state := st, since := s.clk.now, nextStep := none }
  if st = .direct then s else s.gatesNow b

/-- SYNC_LOST with a cause, and COAST (R212, R217). -/
def State.coast (s : State) (b : Fin 3) (cause : Nat) : State :=
  (((s.tally 75).record bAXB (0xC0 + b) 4 (cause + put (wrapN 24 s.axb.b[b].steps) 8)).toB b .coast)

/-- The direction of a step: ±1. -/
def Bridge.sign (k : Bridge) : Int := if k.dir then -1 else 1

/-- The step after the present one in the direction in use (R214). -/
def Bridge.nextOf (k : Bridge) : Nat := if k.dir then (k.step + 5) % 6 else (k.step + 1) % 6

/-- Length of a ramp step that starts `tau` ticks after the ramp start (R215). -/
def rampLen (s : State) (b : Fin 3) (tau : Nat) : Nat :=
  let t0 : Int := 16000 * axbRampTStart s b
  let t1 : Int := 16000 * axbRampTEnd s b
  (t0 + ((t1 - t0) * tau).tdiv (max (axbRamp2RampMs s b) 1 * msTk : Nat)).toNat

/-- A step starts on tick `t` (R214, R215, R217). In RAMP its scheduled length is the latest step
interval. -/
def State.startStep (s : State) (b : Fin 3) (t len : Nat) : State :=
  ((s.modAxb b fun k => { k with
    step := k.nextOf
    steps := k.steps + k.sign
    done := (if k.state = .run then t - k.stepAt else k.stepLen) :: k.done.take 5
    stepAt := t
    stepLen := len
    t60 := if k.state = .run then k.t60 else len
    crossed := false
    filtRun := 0
    filtSeen := false
    nextStep := none }).place b).stepNow b

/-- SPEED of the input block: 1 / (6 × mean of the six latest step intervals) in Q0.23 of 3,200 Hz
(R205, R217). -/
def axbSpeed (k : Bridge) : Word24 :=
  match k.state with
  | .ramp | .run =>
    let l := (k.t60 :: k.done).take 6
    if l.sum = 0 then 0
    else BitVec.ofInt 24 (satI 24 (k.sign * (250000 * 2 ^ 23 * l.length / (3 * l.sum) : Nat)))
  | _ => 0

/-- A drive request of slot 4 (R202, R212): 0 STOP, 1 DIRECT, 2 SIX_STEP, 3 BRAKE. -/
def State.driveRequest (s : State) (b : Fin 3) (v : Nat) : State :=
  let k := s.axb.b[b]
  let rev := v.testBit 2
  let start (s : State) : State :=
    (s.modAxb b fun k => { k with dir := rev, reqDir := rev, restarts := 0 }).toB b .precharge
  match k.state with
  | .held => s
  | st =>
    match v % 4 with
    | 0 => if st.running then s.toB b .stopped else s
    | 1 => if st = .coast ∨ st = .direct then s else s.toB b .direct
    | 2 =>
      if st.sixStep then
        if rev = k.dir then s
        else (s.modAxb b fun k => { k with reqDir := rev, restarts := 0 }).toB b .coast
      else if st = .coast then s
      else start s
    | _ => if st = .brake then s else s.toB b .brake

/-- The island applies a pattern to bridge b: 1 FREEWHEEL, 2 BRAKE_SHORT (R218). -/
def State.axbPattern (s : State) (b : Fin 3) (p : Nat) : State :=
  (s.modAxb b fun k => { k with state := .held, island := p, since := s.clk.now }).gatesNow b

/-- The island releases bridge b. A drive request that arrived before the release starts nothing (R212,
R218). -/
def State.axbRelease (s : State) (b : Fin 3) : State :=
  if s.axb.b[b].state = .held then
    (s.modAxb b fun k => { k with
      state := .stopped, island := 0, since := s.clk.now
      commits := k.commits.map fun c => { c with slots := c.slots.filter fun x => x.1 ≠ 4 } }).gatesNow b
  else s

/-- The lease of a drive request lapses (R213). -/
def State.axbLapse (s : State) (b : Fin 3) : State :=
  let k := s.axb.b[b]
  if (k.state.running || k.state == .stalled)
      && decide (k.lastCommit + max (axbCtlWatch s b) 1 * msTk ≤ s.clk.now) then
    ((s.tally 77).record bAXB (0xC0 + b) 7 k.state.code).toB b .stopped
  else s

/-- A commit reaches bridge b. A lease that has run out lapses first (R4, R108, R202, R213). -/
def State.commitAxb (s : State) (b : Fin 3) (slots : List (Nat × Word24)) : State :=
  let s := s.axbLapse b
  s.modAxb b fun k => { k with
    commits := k.commits ++ [⟨s.clk.power, slots, k.state == .run⟩]
    lastCommit := s.clk.now }

/-- The slots of a commit in effect (R202). -/
def Bridge.take (k : Bridge) (slots : List (Nat × Word24)) : Bridge :=
  { k with slots := slots.foldl (fun v x => v.setIfInBounds x.1 x.2) k.slots }

/-- A commit takes effect at a period start; the first one that arrived in RUN ends the start duty
(R202, R212, R214). -/
def State.takeCommit (s : State) (b : Fin 3) (c : BCommit) : State :=
  let s := s.modAxb b fun k => { (k.take c.slots) with
    runDuty := k.runDuty || (c.run && k.state == .run) }
  match c.slots.find? fun x => x.1 = 4 with
  | some x => s.driveRequest b (x.2.toNat % 8)
  | none => s

/-- CMD of the input block: an accepted actuator command for bridge b (R205, R219). -/
def State.axbCmd (s : State) (b : Fin 3) (arg : Int) : State :=
  s.modAxb b fun k => { k with cmdCount := (k.cmdCount + 1) % 16, cmdArg := arg }

end Sys2Proof.Machine
end

