-- ==== Sys2Proof/Machine/F64.lean ====
section
/-!
DEFINITION. IEEE 754 binary64 arithmetic with round-to-nearest-even, on bit patterns, for the
tracking observer (R464, R465).
-/

namespace Sys2Proof.Machine

/-- A binary64 bit pattern. -/
abbrev F64 := BitVec 64

namespace F

/-- Infinity of a sign. -/
def inf (neg : Bool) : F64 := if neg then 0xFFF0000000000000 else 0x7FF0000000000000

/-- The quiet NaN the model answers. -/
def nan : F64 := 0x7FF8000000000000

/-- The sign bit. -/
def sign (x : F64) : Bool := x.getLsbD 63

/-- The biased exponent. -/
def expo (x : F64) : Nat := bits x.toNat 62 52

/-- The significand of a finite value as an integer, its unit 2^(`unit x`). -/
def mant (x : F64) : Nat :=
  if expo x = 0 then bits x.toNat 51 0 else bits x.toNat 51 0 + 2 ^ 52

/-- The exponent of the significand's unit. -/
def unit (x : F64) : Int := if expo x = 0 then -1074 else (expo x : Int) - 1075

def isNan (x : F64) : Bool := expo x = 2047 && bits x.toNat 51 0 != 0
def isInf (x : F64) : Bool := expo x = 2047 && bits x.toNat 51 0 == 0

/-- `m / 2^k` rounded to the nearest integer, ties to even. -/
def rneShift (m k : Nat) : Nat :=
  let q := m / 2 ^ k
  let r := m % 2 ^ k
  if 2 * r < 2 ^ k then q else if 2 ^ k < 2 * r then q + 1 else q + q % 2

/-- The binary64 value nearest to ±m·2^e, ties to even. -/
def pack (neg : Bool) (m : Nat) (e : Int) : F64 :=
  if m = 0 then (if neg then 0x8000000000000000 else 0)
  else
    let q : Int := max ((Nat.log2 m : Int) + e - 52) (-1074)
    let v := if q ≤ e then m * 2 ^ (e - q).toNat else rneShift m (q - e).toNat
    let b := if v < 2 ^ 52 then v else (q + 1075).toNat * 2 ^ 52 + (v - 2 ^ 52)
    if 0x7FF0000000000000 ≤ b then inf neg
    else BitVec.ofNat 64 (b + if neg then 2 ^ 63 else 0)

/-- The significand of a finite value with its sign. -/
def val (x : F64) : Int := if sign x then -(mant x : Int) else mant x

/-- x + y. -/
def add (x y : F64) : F64 :=
  if isNan x || isNan y then nan
  else if isInf x then (if isInf y && sign x != sign y then nan else x)
  else if isInf y then y
  else
    let e := min (unit x) (unit y)
    let v := val x * 2 ^ (unit x - e).toNat + val y * 2 ^ (unit y - e).toNat
    if v = 0 then pack (sign x && sign y) 0 0 else pack (v < 0) v.natAbs e

/-- x × y. -/
def mul (x y : F64) : F64 :=
  let n := sign x != sign y
  if isNan x || isNan y then nan
  else if isInf x || isInf y then
    (if (!isInf x && mant x = 0) || (!isInf y && mant y = 0) then nan else inf n)
  else pack n (mant x * mant y) (unit x + unit y)

/-- x ÷ y. -/
def div (x y : F64) : F64 :=
  let n := sign x != sign y
  if isNan x || isNan y then nan
  else if isInf x then (if isInf y then nan else inf n)
  else if isInf y then pack n 0 0
  else if mant y = 0 then (if mant x = 0 then nan else inf n)
  else
    let a := mant x * 2 ^ 120
    pack n (2 * (a / mant y) + (if a % mant y = 0 then 0 else 1)) (unit x - unit y - 121)

/-- The binary64 value nearest to an integer. -/
def ofInt (i : Int) : F64 := pack (i < 0) i.natAbs 0

/-- The binary64 value nearest to p / q. -/
def ofRatio (p q : Nat) : F64 :=
  let a := p * 2 ^ 160
  pack false (2 * (a / q) + (if a % q = 0 then 0 else 1)) (-161)

/-- The binary64 value nearest to i / 2^16, exact for an i below 2^53. -/
def ofFix16 (i : Int) : F64 := pack (i < 0) i.natAbs (-16)

/-- A number no finite value reaches, for an infinite one. -/
def huge (x : F64) : Int := if isNan x then 0 else if sign x then -(2 ^ 1100 : Nat) else (2 ^ 1100 : Nat)

/-- Rounded down to an integer. -/
def floor (x : F64) : Int :=
  if expo x = 2047 then huge x
  else if 0 ≤ unit x then val x * 2 ^ (unit x).toNat else floorDiv (val x) (2 ^ (-unit x).toNat)

/-- Truncated toward zero. -/
def trunc (x : F64) : Int :=
  if expo x = 2047 then huge x
  else if 0 ≤ unit x then val x * 2 ^ (unit x).toNat else truncDiv (val x) (2 ^ (-unit x).toNat)

/-- Rounded to the nearest integer, ties away from zero. -/
def nearestAway (x : F64) : Int :=
  if expo x = 2047 then huge x
  else if 0 ≤ unit x then val x * 2 ^ (unit x).toNat else roundDiv (val x) (2 ^ (-unit x).toNat)

/-- Rounded to the nearest integer, ties to even. -/
def nearestEven (x : F64) : Int :=
  if expo x = 2047 then huge x
  else if 0 ≤ unit x then val x * 2 ^ (unit x).toNat
  else
    let r : Int := rneShift (mant x) (-unit x).toNat
    if sign x then -r else r

/-- x taken modulo a positive integer, into [0, n), rounded to nearest even. -/
def modNat (x : F64) (n : Nat) : F64 :=
  if expo x = 2047 then nan
  else
    let e := min (unit x) 0
    pack false (val x * 2 ^ (unit x - e).toNat % ((n * 2 ^ (-e).toNat : Nat) : Int)).toNat e

/-- |x| > y for finite values, with an infinite |x| above every y. -/
def absGt (x y : F64) : Bool := y.toNat < x.toNat % 2 ^ 63

end F

end Sys2Proof.Machine
end

