-- ==== Sys2Proof/Machine/Angle.lean ====
section
/-!
DEFINITION. The tracking observer of an encoder and the outputs derived from it (R148, R149, R464,
R465).
-/

namespace Sys2Proof.Machine

open Sys2Proof

/-- LINES, 0 used as 1 (R155). -/
def linesOf (s : State) (e : Fin 2) : Nat := max (posEncLines s e) 1

/-- Counts per revolution: 4 × LINES. -/
def countsOf (s : State) (e : Fin 2) : Nat := 4 * linesOf s e

/-- Encoder e changed by `f`. -/
def State.modEnc (s : State) (e : Fin 2) (f : Encoder → Encoder) : State :=
  { s with pos := { s.pos with enc := vupd s.pos.enc e f } }

/-- A difference taken into (−2 × LINES, 2 × LINES], all in units of 2^-f count (R145, R464). -/
def wrapCounts (x : Int) (turn : Nat) : Int :=
  let y := x % (turn : Int)
  if (turn : Int) < 2 * y then y - turn else y

/-- m of R148: the count including revolutions. -/
def countOf (s : State) (e : Fin 2) : Int := s.pos.enc[e].cnt + (countsOf s e : Int) * s.pos.enc[e].rev

/-- T: the binary64 value nearest to 1.0 × 10^-7 s (R464). -/
def obsT : F64 := F.ofRatio 1 10000000

/-- ωb = 2π × BW, BW used within 10 to 5,000 Hz (R148). -/
def omegaB (s : State) (e : Fin 2) : F64 :=
  F.mul (F.mul (F.ofInt 2) 0x400921FB54442D18) (F.ofInt (clampN (posObsBw s e) 10 5000))

def gainL1 (w : F64) : F64 := F.mul (F.ofInt 3) w
def gainL2 (w : F64) : F64 := F.mul (F.mul (F.ofInt 3) w) w
def gainL3 (w : F64) : F64 := F.mul (F.mul w w) w

/-- The error e of R148 in 2^-16 counts. -/
def obsError (s : State) (e : Fin 2) : Int :=
  wrapCounts (countOf s e * 65536 - s.pos.enc[e].theta) (countsOf s e * 65536)

/-- Δ of R149 in seconds: ticks at 0.625 ns. -/
def secondsOf (ticks : Int) : F64 :=
  let x := F.ofRatio (625 * ticks.natAbs) 1000000000000
  if ticks < 0 then x ^^^ 0x8000000000000000 else x

/-- θ̂(t) in counts, θ̂ taken modulo 4 × LINES first (R149, R464). -/
def thetaAt (s : State) (e : Fin 2) (t : Tick) : F64 :=
  let k := s.pos.enc[e]
  let d := secondsOf ((t : Int) - k.stepTick)
  F.add (F.add (F.ofFix16 (k.theta % (countsOf s e * 65536 : Nat))) (F.mul k.omega d))
    (F.div (F.mul k.alpha (F.mul d d)) (F.ofInt 2))

/-- The electrical angle at a tick (R149, R465). -/
def angleAt (s : State) (e : Fin 2) (t : Tick) : Word24 :=
  let x := F.div (F.mul (F.mul (F.modNat (thetaAt s e t) (countsOf s e)) (F.ofInt (posObsPoles s e))) (F.ofInt (2 ^ 24)))
    (F.ofInt (countsOf s e))
  BitVec.ofInt 24 (F.floor (F.add x (F.ofInt (posOffsetOffset s e))))

/-- POS_SPDe in 0.1 rpm (R465). -/
def speedOf (s : State) (e : Fin 2) : Int :=
  satI 32 (F.trunc (F.div (F.mul s.pos.enc[e].omega (F.ofInt 600)) (F.ofInt (countsOf s e))))

/-- POS_ACCe in rpm/s (R465). -/
def accelOf (s : State) (e : Fin 2) : Int :=
  satI 32 (F.trunc (F.div (F.mul s.pos.enc[e].alpha (F.ofInt 60)) (F.ofInt (countsOf s e))))

/-- The speed word of R151: signed electrical Q0.23 of 3,200 Hz (R465). -/
def speedWord (s : State) (e : Fin 2) : Word24 :=
  let x := F.div (F.mul s.pos.enc[e].omega (F.ofInt (posObsPoles s e))) (F.ofInt (countsOf s e))
  BitVec.ofInt 24 (satI 24 (F.nearestAway (F.mul (F.div x (F.ofInt 3200)) (F.ofInt (2 ^ 23)))))

/-- POS_LPOSe: θ̂(t) modulo 4 × LINES in 1/256 count (R465). -/
def lposAt (s : State) (e : Fin 2) (t : Tick) : Word32 :=
  BitVec.ofInt 32 (F.floor (F.mul (F.modNat (thetaAt s e t) (countsOf s e)) (F.ofInt 256)))

/-- A latch of encoder e on a tick (R150). -/
def State.latchEnc (s : State) (e : Fin 2) (t : Tick) : State :=
  s.modEnc e fun k => { k with latch :=
    { cnt := k.cnt, rev := k.rev, lpos := lposAt s e t, lang := angleAt s e t
      lspd := BitVec.ofInt 32 (speedOf s e), acc := BitVec.ofInt 32 (accelOf s e), stamp := t } }

end Sys2Proof.Machine
end

