-- ==== Sys2Proof/Machine/Traction.lean ====
section
/-!
DEFINITION. Traction control: the speed of a machine, standstill, the choice of a safe pattern, the
evaluation at a commit, the engine input block and the machine states (R117 to R138). The rows of
the command table that drive it are in Drive.lean.
-/

namespace Sys2Proof.Machine

open Sys2Proof

/-! ### Speed and standstill (R133, R134) -/

/-- The encoder of machine m. -/
def encOf (s : State) (m : Fin 2) : Fin 2 := if trxMachEnc s m then 1 else 0

/-- The speed of machine m in 0.1 rpm and whether it is valid (R133). -/
def machSpeed (s : State) (m : Fin 2) : Int × Bool :=
  let k := s.trx.m[m]
  if k.observer then (k.ospd, k.locked)
  else if k.relockRun && k.locked then (k.ospd, true)
  else (k.encSpeed, s.pos.enc[encOf s m].state != .fault)

/-- |speed| in 0.1 rpm. -/
def absSpeed (s : State) (m : Fin 2) : Nat := (machSpeed s m).1.natAbs

/-- The machine moves below the standstill speed, by a valid speed. -/
def isSlow (s : State) (m : Fin 2) : Bool :=
  (machSpeed s m).2 && absSpeed s m < trxStandstillSpeed s

/-- The standstill timer of machine m follows its speed (R134). -/
def State.speedChanged (s : State) (m : Fin 2) : State :=
  if isSlow s m then
    s.modTrx m fun k => { k with slowSince := some (k.slowSince.getD s.clk.now) }
  else s.modTrx m fun k => { k with slowSince := none, standstill := false }

/-- TRX_STATUS.STANDSTILL: every configured machine stands still (R134). -/
def axleStill (s : State) : Bool := (machines s).all fun m => s.trx.m[m].standstill

/-! ### The choice of a pattern (R132, R191) -/

/-- The side of a group that an active short circuit may use. -/
inductive Side where
  | low | high | neither
deriving DecidableEq, Repr

/-- The permitted side of a group: by its reporting set (R191), and the low side without one
(R132). -/
def permitted (s : State) (g : Fin 4) : Side :=
  let r := s.psp.set[g]
  if !r.inForce then .low
  else match r.low, r.high with
    | false, false => .low
    | true, false => .high
    | false, true => .low
    | true, true => .neither

/-- The short circuit of a side. -/
def Side.short : Side → Pattern
  | .low => .lowShort
  | .high => .highShort
  | .neither => .allOpen

/-- The pattern of R132 and R191 for the speed of the machine, given the pattern present. The short
circuit of the other side is kept where no reporting set restricts the choice (R132), and gives way to
the choice by speed where one does (R191). -/
def speedPattern (s : State) (m : Fin 2) (present : Pattern) (side : Side) : Pattern :=
  let v := absSpeed s m
  let asc := 10 * trxAscAscSpeed s m
  let hyst := 10 * trxAscHyst s m
  if side = .neither then .allOpen
  else if !(machSpeed s m).2 then (if present = .none then .allOpen else present)
  else if present = side.short then (if v + hyst < asc then .allOpen else present)
  else if present = .none ∨ present = .allOpen ∨ s.psp.set[groupOf m].inForce then
    (if asc ≤ v then side.short else .allOpen)
  else present

/-! ### The engine input block (R120) -/

/-- A fraction x / full as Q0.23, truncated toward zero and saturated to 24 bits. A full scale of 0
is used as 1. -/
def q23 (x : Int) (full : Nat) : Word24 :=
  BitVec.ofInt 24 (satI 24 ((x * (2 ^ 23 : Nat)).tdiv (max full 1 : Nat)))

/-- TMAX in 0.01 N·m. -/
def tmaxOf (s : State) (m : Fin 2) : Nat := 10 * trxTrateTmax s m

/-- TRX_STATEm.STATE code (R138). -/
def TState.code : TState → Nat
  | .idle => 0
  | .run => 1
  | .exit => 2
  | .safe => 3
  | .relocked => 4
  | .fly => 5

/-- ENABLE: the machine drives (R138), or a brake test is in B3 (R279). -/
def enabled (s : State) (m : Fin 2) : Bool :=
  s.rng.test.step = 3 ||
    (match s.trx.m[m].state with
    | .run | .exit | .fly => true
    | _ => false)

/-- CTRL.RELOCK: SAFE or RELOCKED with an active short circuit on the group (R135). -/
def relockBit (s : State) (m : Fin 2) : Bool :=
  (s.trx.m[m].state == .safe || s.trx.m[m].state == .relocked) && isShort (machPattern s m)

/-- The demand of the input block in 0.01 N·m: +TMAX in speed mode but for the ramps of FLY and
EXIT, the test torque in B3, 0 while ENABLE is 0 (R120, R279). -/
def demandOf (s : State) (m : Fin 2) : Int :=
  let k := s.trx.m[m]
  if s.rng.test.step = 3 then s.rng.test.torque
  else if !enabled s m then 0
  else if k.speedMode && k.state == .run then tmaxOf s m
  else k.tdem

/-- SREQ clamped to ±MAX_RPM, in 0.1 rpm (R118). -/
def sreqClamped (s : State) (m : Fin 2) : Int :=
  let x : Int := (10 * trxMachMaxRpm s m : Nat)
  clampI s.trx.m[m].sreq (-x) x

/-- TTHERM of machine m (R120, R420). -/
def ttherm (s : State) (m : Fin 2) : Word24 := (s.thm.model.getD m {}).limit

/-- The four words of the input block (R120). -/
def inputBlock (s : State) (m : Fin 2) : List Word24 :=
  let k := s.trx.m[m]
  [BitVec.ofNat 24 (put k.state.code 20 + put (b2n (relockBit s m)) 3 + put (b2n k.observer) 2
      + put (b2n (k.speedMode && s.rng.test.step ≠ 3)) 1 + b2n (enabled s m)),
    q23 (demandOf s m) (tmaxOf s m),
    q23 (sreqClamped s m) (10 * trxMachMaxRpm s m),
    ttherm s m]

/-- The engines of the pair of machine m (R88, R117). -/
def pairOf (m : Fin 2) : List (Fin 8) := if m = 0 then [0, 1] else [2, 3]

/-- The input block written to both engines of the pair. -/
def State.writeInput (s : State) (m : Fin 2) : State :=
  let ws := inputBlock s m
  let s := s.each (pairOf m) fun s e => s.ceWrites e (trxMapInWord s m) ws
  s.modTrx m fun k => { k with dirty := false }

/-- A value moved toward a target by at most `d`. -/
def rampTo (x target : Int) (d : Nat) : Int :=
  if x < target then min (x + d) target else max (x - d) target

/-! ### What TRX does at an encoder fault (R129 to R131) -/

/-- The speed field of POSITION_LOST, in rpm, 24 bits (R139). -/
def rpm24 (x : Int) : Nat := wrapN 24 (x.tdiv 10)

/-- POSITION_LOST of machine m with a cause (R129, R130, R139). -/
def State.positionLost (s : State) (m : Fin 2) (cause : Nat) (speed : Int) : State :=
  (s.tally 48).recordReport bTRX (0xC0 + m) 3 (cause + put (rpm24 speed) 8) 0 cause

/-- VERIFIED as it stood before an evaluation on the present tick (R129). -/
def verifiedBefore (s : State) (m : Fin 2) : Bool :=
  let k := s.trx.m[m]
  if k.evalAt = some s.clk.now then k.verifiedWas else k.verified

/-- The encoder of a configured machine m has gone to FAULT (R129, R130). -/
def State.encFaultTo (s : State) (m : Fin 2) : State :=
  let k := s.trx.m[m]
  let rpm := wrapN 32 (k.ospd.tdiv 10)
  if k.observer then (s.tally 49).record bTRX (0xC0 + m) 4 rpm
  else match k.state with
    | .run | .exit | .fly =>
      if trxFlyTakeoverEn s m && verifiedBefore s m then
        ((s.modTrx m fun k => { k with observer := true, dirty := true }).tally 49).record bTRX
          (0xC0 + m) 2 rpm
      else s.positionLost m 1 (machSpeed s m).1
    | _ => s

/-- On entry to IDLE the angle source returns to a healthy encoder (R131). -/
def State.toIdle (s : State) (m : Fin 2) : State :=
  let ok := s.pos.enc[encOf s m].state == .referenced
  (s.modTrx m fun k => { k with
    state := .idle, tdem := 0, lockRun := 0, dirty := true, restart := false
    speedMode := false
    observer := k.observer && !ok }).refreshTok (groupOf m)

/-! ### The evaluation at a commit (R121, R127, R128, R130, R135) -/

/-- The engine whose stores and commits TRX follows (R121). -/
def reporting (s : State) (g : Fin 4) : Option (Fin 8) :=
  match s.red.tok[g].state with
  | .held => s.red.tok[g].holder
  | .revoked => s.red.tok[g].former
  | _ => none

/-- The engine whose commits group g accepts (R108). -/
def accepting (s : State) (g : Fin 4) : Option (Fin 8) :=
  if s.red.tok[g].state = .held then s.red.tok[g].holder else none

/-- A store of engine e to data word j, as TRX sees it (R121, R122). -/
def State.observeStore (s : State) (e : Fin 8) (j : Nat) (v : Word24) : State :=
  s.each all2 fun s m =>
    let o := trxMapOutWord s m
    if machOn s m && reporting s (groupOf m) = some e && o ≤ j && j < o + 4 then
      s.modTrx m fun k => { k with out := k.out.setIfInBounds (j - o) v }
    else s

/-- POLES, 0 used as 1. -/
def polesOf (s : State) (m : Fin 2) : Nat := max (trxMachPoles s m) 1

/-- The values of the output block converted (R121). -/
def State.convertOut (s : State) (m : Fin 2) : State :=
  s.modTrx m fun k => { k with
    oang := k.out[0]
    ospd := (k.out[1].toInt * 1920000).tdiv (polesOf s m * 2 ^ 23 : Nat)
    locked := k.out[2].getLsbD 0
    relockRun := k.out[2].getLsbD 1
    tref := (k.out[3].toInt * (tmaxOf s m : Nat)).tdiv (2 ^ 23 : Nat) }

/-- The observer runs fast enough to be used (R128, R130, R135). -/
def obsFast (s : State) (m : Fin 2) : Bool := 10 * trxObsMinRpm s m ≤ s.trx.m[m].ospd.natAbs

/-- The comparison with the encoder while it is the angle source (R128, R139). -/
def State.verify (s : State) (m : Fin 2) (pstart : Tick) : State :=
  let k := s.trx.m[m]
  let diff := k.oang - angleAt s (encOf s m) pstart
  let angOk := diff.toInt.natAbs ≤ trxObsAngTol s m * 16384
  let ok := k.locked && obsFast s m
  if ok && angOk then
    s.modTrx m fun k => { k with
      adiff := diff
      agree := k.agree + 1
      verified := k.verified || max (trxObsAgreePasses s m) 1 ≤ k.agree + 1
      disagreed := k.disagreed && !(k.verified || max (trxObsAgreePasses s m) 1 ≤ k.agree + 1) }
  else
    let s := s.modTrx m fun k => { k with
      adiff := diff, agree := 0, verified := false, disagreed := k.disagreed && !k.verified }
    if ok then
      let s := s.tally 50
      if s.trx.m[m].disagreed then s
      else (s.modTrx m fun k => { k with disagreed := true }).record bTRX (0xC0 + m) 5
        (wrapN 32 (diff.toInt.tdiv 256))
    else s

/-- The re-lock rules in SAFE and RELOCKED (R135, R138). -/
def State.relockEval (s : State) (m : Fin 2) : State :=
  let k := s.trx.m[m]
  match k.state with
  | .safe =>
    if relockBit s m && k.locked && obsFast s m then
      let n := k.lockRun + 1
      let s := s.modTrx m fun k => { k with lockRun := n }
      if max (trxFlyLockPasses s m) 1 ≤ n then
        ((s.modTrx m fun k => { k with state := .relocked, dirty := true }).tally 51).record bTRX
          (0xC0 + m) 6 (wrapN 32 (k.ospd.tdiv 10))
      else s
    else s.modTrx m fun k => { k with lockRun := 0 }
  | .relocked =>
    if k.locked then s
    else s.modTrx m fun k => { k with state := .safe, lockRun := 0, dirty := true, restart := false }
  | _ => s

/-- The observer as the angle source loses lock or speed while the machine drives (R130). -/
def State.sourceEval (s : State) (m : Fin 2) : State :=
  let k := s.trx.m[m]
  match k.observer, k.state with
  | true, .run | true, .exit | true, .fly =>
    if k.locked && obsFast s m then s else s.positionLost m 2 k.ospd
  | _, _ => s

/-- In B3 of a brake test |TREF| of machine m has reached 90 % of the test torque (R279). -/
def State.torqueSeen (s : State) (m : Fin 2) : State :=
  let q := s.rng.test
  if q.step = 3 ∧ 9 * q.torque.natAbs ≤ 10 * s.trx.m[m].tref.natAbs then
    { s with rng := { s.rng with test := { q with torqueOk := q.torqueOk.set m true } } }
  else s

/-- The evaluation of machine m at a commit from a pass that started on `pstart` (R121). -/
def State.evaluate (s : State) (m : Fin 2) (pstart : Tick) : State :=
  let s := (s.convertOut m).torqueSeen m
  let s := s.modTrx m fun k => { k with verifiedWas := verifiedBefore s m, evalAt := some s.clk.now }
  let s := if s.trx.m[m].observer then s else s.verify m pstart
  ((s.sourceEval m).relockEval m).speedChanged m

end Sys2Proof.Machine
end

