-- ==== Sys2Proof/Machine/ChargerOps.lean ====
section
/-!
DEFINITION. The on-board charger: inlet classification, setpoints, the supervisor's changes of state
and the first steps of hand-over (R240 to R256). The rows of the command table that drive it are in
Charger.lean.
-/

namespace Sys2Proof.Machine

open Sys2Proof

/-- CHG changed by `f`. -/
def State.modChg (s : State) (f : Chg → Chg) : State := { s with chg := f s.chg }

/-- OBC changed by `f`. -/
def State.modObc (s : State) (f : Obc → Obc) : State := { s with obc := f s.obc }

/-- CHG_SUP.STATE code (R251). -/
def SState.code : SState → Nat
  | .idle => 0
  | .wait => 1
  | .precond => 2
  | .cc => 3
  | .cv => 4
  | .topoff => 5
  | .maintain => 6
  | .handover => 7

/-- A running session: states 1 to 6 (R50, R251). -/
def SState.session : SState → Bool
  | .idle | .handover => false
  | _ => true

/-- CC, CV and TOPOFF. -/
def SState.charging : SState → Bool
  | .cc | .cv | .topoff => true
  | _ => false

/-! ### The inlet (R241 to R246) -/

/-- The pilot state of a level, PWM or not (R241); levels in 0.1 V. -/
def levelState (v : Int) : Nat :=
  if 105 ≤ v ∧ v < 135 then 0
  else if 75 ≤ v ∧ v < 105 then 1
  else if 45 ≤ v ∧ v < 75 then 2
  else if 15 ≤ v ∧ v < 45 then 3
  else 7

/-- The pilot state of a reading (R240, R241): period in samples of 0.5 µs, levels in 0.1 V. -/
def pilotOf (vh vl : Int) (period : Nat) : Nat :=
  if 1960 ≤ period ∧ period ≤ 2040 then (if vl ≤ -105 then levelState vh else 7)
  else if -15 < vh ∧ vh < 15 then 4
  else if vh ≤ -105 then 5
  else levelState vh

/-- PWM is present (R240). -/
def pwmOf (vl : Int) (period : Nat) : Bool := 1960 ≤ period && period ≤ 2040 && vl ≤ -105

/-- PILOT_A in 0.1 A for a duty in 0.1 % (R243). -/
def pilotAmps (s : State) : Nat :=
  let d := s.chg.duty
  if !s.chg.pwm || !(s.chg.pilot = 1 || s.chg.pilot = 2) then 0
  else if d < 30 then 0
  else if d ≤ 70 then chgDiglimAmps s
  else if d < 80 then 0
  else if d < 100 then 60
  else if d ≤ 850 then d * 6 / 10
  else if d ≤ 960 then (d - 640) * 5 / 2
  else if d ≤ 970 then 800
  else 0

/-- The cable code of a resistance in Ω (R244). -/
def cableOf (ohms : Nat) : Nat :=
  if 4500 ≤ ohms then 0
  else if 1100 ≤ ohms ∧ ohms < 2500 then 1
  else if 400 ≤ ohms ∧ ohms < 1100 then 2
  else if 164 ≤ ohms ∧ ohms < 400 then 3
  else if 75 ≤ ohms ∧ ohms < 164 then 4
  else 7

/-- Cable current in 0.1 A (R244). -/
def cableAmps (code : Nat) : Nat :=
  match code with
  | 1 => 130
  | 2 => 200
  | 3 => 320
  | 4 => 630
  | _ => 0

/-- A cable code that names a cable. -/
def goodCable (c : Nat) : Bool := 1 ≤ c && c ≤ 4

/-! ### Setpoints (R247 to R249, R252) -/

/-- OBC_STATUS.THERMAL (R248). -/
def obcThermal (s : State) : Bool := s.obc.limiter = 3

/-- CHG_SUP.PAUSED (R249). -/
def chgPaused (s : State) : Bool := s.chg.state.charging && s.obc.iset == 0

/-- CHG_SUP.REDUCED (R252). -/
def chgReduced (s : State) : Bool := s.chg.band = 1 || s.chg.band = 3 || obcThermal s

/-- ISET in mA and VSET in 0.1 V for the present state and band (R249). -/
def setpoints (s : State) : Int × Int :=
  let i := min s.chg.ilim (chgMaxImax s)
  let v : Int := s.chg.vlim
  if !s.chg.state.charging then (0, v)
  else
    let v := if s.chg.band = 3 then v - 10 * chgTpctWarmDv s else v
    if s.obc.iinLim = 0 then (0, v)
    else match s.chg.band with
      | 1 => ((i * chgTpctCoolPct s : Nat), v)
      | 2 => ((100 * i : Nat), v)
      | 3 => ((i * chgTpctWarmPct s : Nat), v)
      | _ => (0, v)

/-- ISET and VSET computed anew; the ramp of hand-over keeps its own ISET (R254). -/
def State.setSetpoints (s : State) : State :=
  let p := setpoints s
  s.modObc fun k => { k with
    vset := p.2
    iset := if s.chg.state = .handover ∧ k.rampDown then k.iset else p.1 }

/-- ITHERM of the input block (R247, R420). -/
def itherm (s : State) : Word24 := s.thm.model[2].limit

/-- The input block of R247. -/
def obcBlock (s : State) : List Word24 :=
  let k := s.obc
  [BitVec.ofNat 24 (put s.chg.state.code 20 + put (b2n (obcCfgThreePhase s)) 3
      + put (b2n (s.chg.state == .precond)) 2 + put (b2n k.rampDown) 1 + b2n k.run),
    q23 k.iset (100 * obcScaleIoutFs s), q23 k.vset (10 * obcScaleVoutFs s),
    q23 k.iinLim (obcCfgIinFs s), itherm s]

/-- The input block written to CE4 (R247). -/
def State.writeObc (s : State) : State :=
  let b := obcBlock s
  (s.ceWrites 4 (obcMapInWord s) b).modObc fun k => { k with
    dirty := false, isetWord := b.getD 1 0 }

/-! ### Changes of supervisor state (R242, R246, R247, R251, R257) -/

/-- The supervisor enters a state: the change is recorded, S2 and CTRL.RUN follow (R242, R247). -/
def State.chgTo (s : State) (st : SState) : State :=
  let old := s.chg.state
  let running : Bool := st == .precond || st.charging
  let closes := running && !s.chg.s2
  let s := s.record bCHG 0xFF 3 (old.code + put st.code 4)
  let s := s.modChg fun k => { k with
    state := st
    since := s.clk.now
    s2 := running || (k.s2 && st == .handover)
    s2At := if closes then s.clk.now else k.s2At
    busSeen := if closes then s.obc.busOk else k.busSeen
    busLostAt := if closes then none else k.busLostAt
    elapsed := if st = .cc then 0 else k.elapsed
    lowVoltage := none
    lowCurrent := none }
  let s := s.modObc fun k => { k with run := running || (k.run && st == .handover), dirty := true }
  s.refreshTok 2

/-- A session ends: TERM, TERMINATED and tally counter 88 (R257). -/
def State.terminate (s : State) (term : Nat) : State :=
  let detail := term + put (b2n s.chg.thermalAtExpiry) 4
    + put (b2n (s.chg.band = 1 || s.chg.band = 3)) 5 + put (b2n (obcThermal s)) 6
    + put s.chg.state.code 8
  ((s.modChg fun k => { k with term := term }).tally 88).record bCHG 0xFF 4 detail s.chg.elapsed

/-- Steps H1 to H3: the token is released, S2 opens, H3 begins (R254). -/
def State.handRelease (s : State) : State :=
  let s := s.modObc fun k => { k with run := false, rampDown := false, iset := 0, dirty := true }
  (s.releaseGroup 2).modChg fun k => { k with
    s2 := false, step := 3, h3At := s.clk.now, offRun := 0, gridMax := 0 }

/-- An island charger-off reaction is active (R254, R271). -/
def chargerOff (s : State) : Bool := s.rng.active.any fun a => rngActChgOff s a.row

/-- Hand-over starts; a running session ends with `term` (R251, R254). With the island's charger-off
reaction active H1 ends at once. -/
def State.handOver (s : State) (term : Nat) : State :=
  if s.chg.state = .handover then s
  else
    let s := if s.chg.state.session then s.terminate term else s
    let s := (s.tally 89).chgTo .handover
    let s := s.modChg fun k => { k with
      qualified := false, step := 1, start := s.clk.now, ignored := 0 }
    let s := s.modObc fun k => { k with rampDown := true }
    if chargerOff s then s.handRelease else s

/-- The island's charger-off reaction (R251, R254). -/
def State.chgOff (s : State) : State :=
  if s.chg.state = .handover then (if s.chg.step = 1 then s.handRelease else s) else s.handOver 6

/-- The exit row: MODE_REQ STANDBY, or pilot A (R40, R251, R255). -/
def State.chgExit (s : State) : State :=
  (s.handOver 4).modChg fun k => { k with exitPending := true }

/-- The charger stops as the mode becomes OFF (R40): a running session is stopped. -/
def State.chgStop (s : State) : State := if s.chg.state.session then s.handOver 3 else s

/-! ### What a change at the inlet does (R241, R246, R251, R255) -/

/-- The inlet ends a session: pilot D, E, F or invalid, or cable code 7 (R251). -/
def inletBad (s : State) : Bool := 3 ≤ s.chg.pilot || s.chg.cable = 7

/-- A session ends on what the inlet shows (R251). -/
def State.inletFault (s : State) : State := (s.tally 86).handOver 5

/-- The supervisor takes an accepted change of pilot state or cable code; the exit row comes before the
inlet row. -/
def State.inletChanged (s : State) : State :=
  let k := s.chg
  if k.state = .handover then
    (s.tally 87).modChg fun k => { k with ignored := min (k.ignored + 1) 255 }
  else
    let s := if (k.pilot = 1 || k.pilot = 2) && goodCable k.cable then s
      else s.modChg fun k => { k with qualified := false }
    if k.pilot = 0 then s.chgExit
    else if k.state.session && inletBad s then s.inletFault
    else s

/-- A pilot state is accepted (R241). -/
def State.acceptPilot (s : State) (new : Nat) : State :=
  let old := s.chg.pilot
  if old = new then s
  else
    let s := (s.tally 85).record bCHG 31 1 (old + put new 4 + put s.chg.duty 8)
    (s.modChg fun k => { k with pilot := new, bAt := if new = 1 then s.clk.now else k.bAt }).inletChanged

/-- The pilot state that the cycles so far support, if any (R241). -/
def pilotReady (s : State) : Option Nat :=
  let k := s.chg
  if k.candRun < 3 ∨ (k.cand = 4 ∧ s.clk.now < k.candAt + 160000000) then none else some k.cand

/-- A cable code is accepted, and with it pilot A or the pilot state already seen (R241, R244). -/
def State.acceptCable (s : State) (new : Nat) : State :=
  let old := s.chg.cable
  if old = new then s
  else
    let s := (s.tally 85).record bCHG 31 2 (new + put s.chg.ohms 16)
    let s := (s.modChg fun k => { k with cable := new, cableAt := s.clk.now }).inletChanged
    if new = 0 then s.acceptPilot 0
    else if old = 0 then (match pilotReady s with | some p => s.acceptPilot p | none => s)
    else s

/-! ### What OBC observes (R248) -/

/-- A store to the output block of the charger (R121, R248). -/
def State.obcStore (s : State) (e : Fin 8) (j : Nat) (v : Word24) : State :=
  let o := obcMapOutWord s
  if reporting s 2 = some e && o ≤ j && j < o + 2 then
    s.modObc fun k => { k with out := k.out.setIfInBounds (j - o) v }
  else s

/-- The evaluation at a commit of the reporting engine of group OBC (R248, R251). -/
def State.obcEvaluate (s : State) : State :=
  let w := s.obc.out[0]
  let bus := w.getLsbD 1
  let s := s.modObc fun k => { k with pll := w.getLsbD 0, busOk := bus, iappl := k.out[1] }
  s.modChg fun k =>
    if bus then { k with busSeen := true, busLostAt := none }
    else if k.busSeen then { k with busLostAt := some (k.busLostAt.getD s.clk.now) }
    else k

/-- A winner index published for group OBC (R106, R248, R251). -/
def State.obcLimiter (s : State) (i : Nat) : State :=
  (s.modObc fun k => { k with limiter := i }).modChg fun k => { k with
    limSince := if i = 1 then some (k.limSince.getD s.clk.now) else none }

/-! ### What the windows of OBC_WIN bring (R251, R254) -/

/-- Output voltage in 0.1 V of a MEAN. -/
def chgVolts (s : State) (m : Word24) : Int := (m.toInt * (10 * obcScaleVoutFs s : Nat)).tdiv (2 ^ 23 : Nat)

/-- The output voltage lies below VLIM − RECHG_DV. -/
def rechargeLow (s : State) : Bool :=
  decide (chgVolts s s.chg.vout < (s.chg.vlim : Int) - chgVminRechgDv s)

/-- The output voltage window seals. -/
def State.chgVoltage (s : State) (mean : Word24) : State :=
  let s := s.modChg fun k => { k with vout := mean }
  s.modChg fun k => { k with
    lowVoltage := if k.state = .maintain && rechargeLow s then some (k.lowVoltage.getD s.clk.now) else none }

/-- |measured output current| is at most IOFF, in 0.01 A, without rounding (R254). -/
def currentGone (s : State) : Bool :=
  decide (s.chg.iout.toInt.natAbs * (10 * obcScaleIoutFs s) ≤ obcRampIoff s * 2 ^ 23)

/-- The output current window seals. -/
def State.chgCurrent (s : State) (mean : Word24) : State :=
  let s := s.modChg fun k => { k with iout := mean }
  let low : Bool := mean.toInt * (obcScaleIoutFs s : Nat) < (chgTermIterm s * 2 ^ 23 : Nat)
  s.modChg fun k => { k with
    lowCurrent := if k.state = .cv && low then some (k.lowCurrent.getD s.clk.now) else none }

/-- A grid voltage window seals (R254). -/
def State.chgGrid (s : State) (mean : Word24) : State :=
  s.modChg fun k => { k with gridMax := max k.gridMax mean.toInt.natAbs }

/-! ### Temperature bands (R250) -/

/-- Temperature thresholds in 0.1 °C. -/
def tThr (x : Nat) : Int := 10 * sgn 8 x

/-- The battery temperature in 0.1 °C. -/
def chgT (s : State) : Int := sgn 16 (chgTempTemp s)

/-- The band of a temperature without hysteresis. -/
def rawBand (s : State) (t : Int) : Nat :=
  if t < tThr (chgTbandT1 s) then 0
  else if t < tThr (chgTbandT2 s) then 1
  else if t < tThr (chgTbandT3 s) then 2
  else if t < tThr (chgTbandT4 s) then 3
  else 4

/-- The band that follows `old` (R250). -/
def nextBand (s : State) (old : Nat) (t : Int) : Nat :=
  let h : Int := chgTpctHyst s
  let raw := rawBand s t
  if old = 2 ∨ old = 5 then raw
  else if old < 2 then
    if raw ≤ old ∨ 2 < raw then raw
    else if tThr (chgTbandT2 s) + h ≤ t then 2
    else if tThr (chgTbandT1 s) + h ≤ t then max old 1
    else old
  else
    if old ≤ raw ∨ raw < 2 then raw
    else if t + h < tThr (chgTbandT3 s) then 2
    else if t + h < tThr (chgTbandT4 s) then min old 3
    else old

/-- A band taken; a change is recorded (R250, R257). -/
def State.setBand (s : State) (b : Nat) : State :=
  if s.chg.band = b then s
  else (s.modChg fun k => { k with band := b }).record bCHG 0xFF 7 (b + put (wrapN 16 (chgT s)) 16)

/-- CHG_TEMP has been written within the latest second. -/
def tempFresh (s : State) : Bool :=
  match s.chg.tempAt with
  | some x => decide (s.clk.now < x + 1600000000)
  | none => false

end Sys2Proof.Machine
end

