-- ==== Sys2Proof/Machine/GateOps.lean ====
section
/-!
DEFINITION. From duty to edges: transitions of a leg, edge entries and the edge queues of the links
(R161 to R168).
-/

namespace Sys2Proof.Machine

open Sys2Proof

/-! ### Transitions of a leg (R162 to R164) -/

/-- A transition: its stamp, its lateness and the state it leads to, 1 high or 2 low. -/
structure Trans where
  stamp : Nat
  late : Nat
  next : Nat
deriving DecidableEq, Repr

/-- The other of the two states. -/
def flipState (st : Nat) : Nat := 3 - st

/-- The crossing offset X of R162. -/
def crossing (d h : Nat) : Nat := if d = 0x7FFFFF then h else (d * h + 2 ^ 22) / 2 ^ 23

/-- The commanded state at the start of a half and how long it lasts (R162). -/
def halfOf (inv down : Bool) (x h : Nat) : Nat × Nat := if inv = down then (1, x) else (2, h - x)

/-- The nominal transitions of a leg through the halves, from the state it is in (R162). -/
def nominals (inv : Bool) (x h : Nat) : List (Nat × Bool) → Nat → List (Nat × Nat)
  | [], _ => []
  | (hs, down) :: rest, cur =>
    let f := halfOf inv down x h
    let at0 := if f.2 = 0 then flipState f.1 else f.1
    let atStart := if at0 = cur then [] else [(hs, at0)]
    if 0 < f.2 ∧ f.2 < h then
      atStart ++ (hs + f.2, flipState f.1) :: nominals inv x h rest (flipState f.1)
    else atStart ++ nominals inv x h rest at0

/-- The first rule of R164, latest transition first: the transitions left and the pairs removed. -/
def removePairs (gap : Nat) : List Trans → List Trans → List Trans × Nat
  | acc, [] => (acc.reverse, 0)
  | [], t :: ts => removePairs gap [t] ts
  | a :: acc, t :: ts =>
    if t.stamp < a.stamp + gap then
      let r := removePairs gap acc ts
      (r.1, r.2 + 1)
    else removePairs gap (t :: a :: acc) ts

/-- The second rule of R164. -/
def moveFirst (gap : Nat) (last : Option Nat) : List Trans → List Trans
  | [] => []
  | t :: ts =>
    match last with
    | none => t :: ts
    | some l =>
      if t.stamp < l + gap then { t with stamp := l + gap, late := t.late + (l + gap - t.stamp) } :: ts
      else t :: ts

/-- KERF, at least 16 tk (R163). -/
def kerfOf (s : State) (g : Fin 4) : Nat := max (gscGroupKerf s g) 16

/-! ### Edge entries and queues (R163, R166, R168) -/

/-- A change of one channel of a leg. -/
structure ChanEdge where
  leg : Nat
  chan : Nat
  stamp : Nat
  on : Bool
deriving DecidableEq, Repr

/-- The channel changes of a transition of leg l (R163). -/
def chanEdges (s : State) (g : Fin 4) (l : Fin 24) (t : Trans) : List ChanEdge :=
  if gscLegKind s l then [⟨l, gscLegHiCh s l, t.stamp, t.next = 1⟩]
  else
    let hi := gscLegHiCh s l
    let lo := gscLegLoCh s l
    let on := if t.next = 1 then hi else lo
    let off := if t.next = 1 then lo else hi
    [⟨l, off, t.stamp, false⟩, ⟨l, on, t.stamp + kerfOf s g, true⟩]

/-- The part of an entry that a channel change makes. -/
def ChanEdge.part (c : ChanEdge) (interval : Nat) : Part :=
  let m : BitVec 4 := BitVec.ofNat 4 (2 ^ (c.chan % 4))
  ⟨c.leg, interval, m, if c.on then m else 0⟩

/-- A part put into a queue in stamp order; entries with equal stamp and epoch merge (R168). -/
def insertPart (g : Fin 4) (epoch : Word32) (stamp : Nat) (p : Part) : List Entry → List Entry
  | [] => [⟨stamp, g, epoch, [p]⟩]
  | e :: es =>
    if stamp < e.stamp then ⟨stamp, g, epoch, [p]⟩ :: e :: es
    else if e.stamp = stamp ∧ e.epoch = epoch then { e with parts := e.parts ++ [p] } :: es
    else e :: insertPart g epoch stamp p es

/-- The parts of the legs in `legs` for one interval taken out of a queue (R166). -/
def withoutParts (legs : List Nat) (interval : Nat) (q : List Entry) : List Entry :=
  q.filterMap fun e =>
    let ps := e.parts.filter fun p => !(p.interval = interval && legs.contains p.leg)
    if ps.isEmpty then none else some { e with parts := ps }

/-- The queue of link l with channel changes put in. -/
def queueWith (g : Fin 4) (epoch : Word32) (interval : Nat) (l : Fin 12) (cs : List ChanEdge)
    (q : List Entry) : List Entry :=
  cs.foldl (fun q c => if c.chan / 4 = l.val then insertPart g epoch c.stamp (c.part interval) q else q) q

/-- The stamps that link l gets an entry of its own for. -/
def newStamps (epoch : Word32) (l : Fin 12) (cs : List ChanEdge) (q : List Entry) : List Nat :=
  (cs.filterMap fun c =>
    if c.chan / 4 = l.val && !(q.any fun e => e.stamp = c.stamp && e.epoch = epoch)
    then some c.stamp else none).eraseDups

/-- An edge notice to CAP (R74). -/
def State.notice (s : State) (g stamp : Nat) : State :=
  { s with cap := { s.cap with notices := s.cap.notices ++ [(g, stamp)] } }

/-- The first link without room for its entries, all queues first rid of the parts they replace
(R168). -/
def firstFull (s : State) (g : Fin 4) (epoch : Word32) (interval : Nat) (legs : List Nat)
    (cs : List ChanEdge) : Option (Fin 12) :=
  all12.find? fun l =>
    64 < (queueWith g epoch interval l cs (withoutParts legs interval s.glk[l].queue)).length
      && cs.any fun c => c.chan / 4 = l.val

/-- Channel changes queued on their links, each new entry with its edge notice. -/
def State.enqueue (s : State) (g : Fin 4) (epoch : Word32) (interval : Nat) (legs : List Nat)
    (cs : List ChanEdge) : State :=
  s.each all12 fun s l =>
    let q := withoutParts legs interval s.glk[l].queue
    let s := (newStamps epoch l cs q).foldl (fun s t => s.notice g t) s
    s.modLink l fun k => { k with queue := queueWith g epoch interval l cs q }

/-- A receiver refuses an accepted commit of engine e (R109, R158, R168). -/
def State.refuseCommit (s : State) (g : Fin 4) (e : Fin 8) (cause : Nat) : State :=
  ((s.modCe e fun k => k.raise 8).tally 58).record bGSC (0xC0 + g) 1
    (cause + put e 8)

/-- The first accepted commit of an OPEN group: the group is DRIVEN and ARM goes to each hub, now or as
soon as its link can carry it (R171, R172). -/
def State.drive (s : State) (g : Fin 4) : State :=
  if s.gsc.g[g].state = .opened then
    (s.each (linksOf s g) fun s l =>
      (s.modLink l fun k => { k with armDue := true }).serveArm l).modGroup g
        fun k => { k with state := .driven }
  else s

/-! ### Conversion of a commit (R161) -/

/-- The loop interval that a commit targets: its start, its halves with true for a down half, and H. -/
structure Target where
  start : Nat
  halves : List (Nat × Bool)
  h : Nat
deriving DecidableEq, Repr

/-- The target interval of a commit (R159 to R161): PERIOD and PHASE as they will be in effect then. -/
def targetOf (s : State) (g : Fin 4) (earliest : Nat) : Target :=
  let n := nextStart s g
  let p := if earliest < n then periodOf s g else writtenPeriod s g
  let ps := periodStart s g earliest
  if updateOf s g = 2 then
    if ps + p / 2 ≤ earliest then ⟨ps + p / 2, [(ps + p / 2, true)], p / 2⟩ else ⟨ps, [(ps, false)], p / 2⟩
  else ⟨ps, [(ps, false), (ps + p / 2, true)], p / 2⟩

/-- What a commit makes of one leg: its new tracked state, its last stamp and its transitions, with
the pairs that rule 1 of R164 removed. -/
structure LegPlan where
  leg : Fin 24
  trans : List Trans
  removed : Nat
  base : Nat
  baseLast : Option Nat
deriving DecidableEq, Repr

/-- The plan of leg l for duty `d` and target `tg`. -/
def planLeg (s : State) (g : Fin 4) (earliest : Nat) (again : Bool) (tg : Target) (l : Fin 24) (d : Nat) :
    LegPlan :=
  let k := s.gsc.leg[l]
  let base := if again then k.before else k.tracked
  let baseLast := if again then k.beforeLast else k.last
  let gap := kerfOf s g + gscGroupMinPulse s g
  let ns := nominals (gscLegInv s l) (crossing d tg.h) tg.h tg.halves base
  let ts := ns.map fun n => (⟨max n.1 earliest, max n.1 earliest - n.1, n.2⟩ : Trans)
  let r := removePairs gap [] ts
  ⟨l, moveFirst gap baseLast r.1, r.2, base, baseLast⟩

/-- The largest lateness of transitions. -/
def worstLate (ts : List Trans) : Nat := ts.foldl (fun m t => max m t.late) 0

/-- The plan of a leg takes effect on its tracked state (R164, R165). -/
def State.applyPlan (s : State) (p : LegPlan) : State :=
  s.modLeg p.leg fun k =>
    match p.trans.getLast? with
    | none => { k with tracked := p.base, last := p.baseLast }
    | some t => { k with tracked := t.next, last := some t.stamp, late := min (worstLate p.trans) 65535 }

/-- Engines whose CE_CFG.GROUPS includes g; CE7 is left out where it copies another of them. -/
def groupEngines (s : State) (g : Nat) : List (Fin 8) :=
  all8.filter fun e => ceHas s e g && !(e.val = 7 && all8.any fun x => ceHas s x g && mirrored s x)

/-- The lateness of a commit reported (R165). -/
def State.reportLate (s : State) (g : Fin 4) (late : Nat) : State :=
  let s := s.modGroup g fun k => { k with
    lateLast := min late 65535, lateMax := max k.lateMax (min late 65535) }
  let s := s.each (groupEngines s g) fun s e =>
    s.ceWrite e (gscGroupLateWord s g) (BitVec.ofNat 24 late)
  if 0 < late then s.tally 57 else s

/-- The duties a commit leaves the group with. -/
def newDuties (k : Group) (slots : List (Nat × Word24)) : Vector (Option Word24) 16 :=
  slots.foldl (fun v x => v.setIfInBounds x.1 (some x.2)) k.duty

/-- The earliest stamp of a transition that commit c makes (R161). -/
def Commit.earliest (c : Commit) : Nat := c.tick + 64 + 480

/-- The interval that commit c of group g targets. -/
def commitTarget (s : State) (g : Fin 4) (c : Commit) : Target := targetOf s g c.earliest

/-- An earlier commit has targeted the same interval (R166). -/
def targetAgain (s : State) (g : Fin 4) (c : Commit) : Bool :=
  s.gsc.g[g].target = some (commitTarget s g c).start

/-- Leg l belongs to group g, and entries of the interval that c targets anew have been sent for it
(R166). -/
def legSent (s : State) (g : Fin 4) (c : Commit) (l : Fin 24) : Bool :=
  targetAgain s g c && s.gsc.leg[l].sentOf = some (commitTarget s g c).start

/-- The plans of the legs that commit c sets (R161, R166). -/
def plansOf (s : State) (g : Fin 4) (c : Commit) : List LegPlan :=
  (all24.filter fun l => legIn s g l).filterMap fun l =>
    if legSent s g c l then none
    else ((newDuties s.gsc.g[g] c.slots).getD (gscLegSlot s l) none).map fun d =>
      planLeg s g c.earliest (targetAgain s g c) (commitTarget s g c) l d.toNat

/-- The channel changes of commit c. -/
def commitEdges (s : State) (g : Fin 4) (c : Commit) : List ChanEdge :=
  (plansOf s g c).flatMap fun p => p.trans.flatMap (chanEdges s g p.leg)

/-- The legs whose earlier entries for the interval commit c takes back (R166). -/
def legsRetaken (s : State) (g : Fin 4) (c : Commit) : List Nat :=
  if targetAgain s g c then
    (all24.filter fun l => legIn s g l && !legSent s g c l).map (·.val)
  else []

/-- The conversion of a commit of group g (R161 to R168). -/
def State.convert (s : State) (g : Fin 4) (c : Commit) : State :=
  let tok := s.red.tok[g]
  if tok.state = .revoked ∨ tok.epoch ≠ c.epoch then s
  else
    let tg := commitTarget s g c
    let duties := newDuties s.gsc.g[g] c.slots
    let again := targetAgain s g c
    let legs := all24.filter fun l => legIn s g l
    let sent := legs.filter fun l => legSent s g c l
    let plans := plansOf s g c
    let cs := commitEdges s g c
    let drop := legsRetaken s g c
    match firstFull s g c.epoch tg.start drop cs with
    | some l => s.refuseCommit g c.engine l
    | none =>
      let s := s.tallyBy 61 sent.length
      let s := s.tallyBy 60 (plans.map (·.removed)).sum
      let s := if again then s else s.each legs fun s l =>
        s.modLeg l fun k => { k with before := k.tracked, beforeLast := k.last }
      let s := s.modGroup g fun k => { k with target := some tg.start, duty := duties }
      let s := s.drive g
      let s := s.enqueue g c.epoch tg.start drop cs
      let s := s.each plans State.applyPlan
      let s := s.reportLate g ((plans.map fun p => worstLate p.trans).foldl max 0)
      if s.rng.test.step = 3 ∧ s.rng.test.first = none ∧ g.val < 2 then
        { s with rng := { s.rng with test := { s.rng.test with first := some c.tick } } }
      else s

end Sys2Proof.Machine
end

