-- ==== Sys2Proof/Machine/ConverterOps.lean ====
section
/-!
DEFINITION. The low-voltage converter: thresholds, entries, states, reference and start test (R222 to
R236). The rows of the command table that drive it are in Converter.lean.
-/

namespace Sys2Proof.Machine

open Sys2Proof

/-- DCC changed by `f`. -/
def State.modDcc (s : State) (f : Dcc → Dcc) : State := { s with dcc := f s.dcc }

/-- Phase p changed by `f`. -/
def State.modPhase (s : State) (p : Fin 2) (f : DPhase → DPhase) : State :=
  s.modDcc fun k => { k with phase := vupd k.phase p f }

/-- DCC_STATUS.STATE code (R230). -/
def DState.code : DState → Nat
  | .idle => 0
  | .softStart => 1
  | .run => 2
  | .retryWait => 3
  | .lockedOff => 4
  | .held => 5

/-- The states in which the converter switches (R226). -/
def DState.converting : DState → Bool
  | .softStart | .run => true
  | _ => false

/-- LEAD, used within 800 to 4,000 tk (R223). -/
def leadOf (s : State) : Nat := clampN (dccTimingLead s) 800 4000

/-- The leg of phase p (R222). -/
def dccLeg (s : State) (p : Fin 2) : Nat := if p = 0 then dccPhaseLeg0 s else dccPhaseLeg1 s

/-- VOUT full scale in µV (R227). -/
def voutFs (s : State) : Nat := 10000 * dccScaleVoutFs s

/-- The latest vout in µV, rounded to nearest: 52,429 at a full scale of 40 V is 250,001 µV, as in the
worked example of chapter 10 (R232, R234). -/
def voutUv (s : State) : Int := roundDiv (s.dcc.vout.toInt * (voutFs s : Nat)) (2 ^ 23)

/-- TMAX for a period of `n` ticks (R223). -/
def tmaxTicks (s : State) (n : Nat) : Nat := max (dccTimingDmax s) 1 * n / 4096

/-- PRED of R224. -/
def predNow (s : State) : Word24 :=
  let x : Int := floorDiv ((dccPredKin s : Int) * s.dcc.vin.toInt
    - (dccPredKout s : Int) * s.dcc.vout.toInt) (2 ^ 15)
  BitVec.ofInt 24 (clampI x 0 (dccIlimIlim s))

/-- The peak at turn-on, min(IPK, ILIM) − PRED (R224, R225). -/
def peakAt (s : State) (ipk : Int) : Int := min ipk (dccIlimIlim s) - s.dcc.pred.toInt

/-- The threshold of R224 a number of CLK_ADC cycles after turn-on. -/
def thrAt (s : State) (ipk : Int) (cycles : Nat) : Int := max 0 (peakAt s ipk - dccSlopeSlope s * cycles)

/-! ### Entries (R222, R223, R231) -/

/-- The first link without room for entries of the converter (R167, R168). -/
def dccFull (s : State) (cs : List ChanEdge) : Option (Fin 12) :=
  firstFull s 3 s.dcc.epoch s.gsc.g[(3 : Fin 4)].pstart [] cs

/-- Entries of the converter are refused: SAT_OUT where the token has a holder, the record and the count
(R109, R168). Which engine COMMIT_REFUSED names without a holder the spec does not say: 0xF (DESIGN
CHOICE, log 129). -/
def State.dccRefused (s : State) (l : Fin 12) : State :=
  match s.red.tok[(3 : Fin 4)].holder with
  | some e => s.refuseCommit 3 e l
  | none => (s.tally 58).record bGSC (0xC0 + 3) 1 (l + put 0xF 8)

/-- Channel changes of a leg of the converter are queued for group DCC with the epoch of the latest
accepted commit, and the leg takes its new state; or they are refused whole where a link lacks room, and
nothing of them is kept (R167, R168, R226). -/
def State.dccEdges (s : State) (l : Fin 24) (cs : List ChanEdge) (stamp next : Nat) : State :=
  match dccFull s cs with
  | some x => s.dccRefused x
  | none => (s.enqueue 3 s.dcc.epoch s.gsc.g[(3 : Fin 4)].pstart [] cs).modLeg l fun k =>
      { k with tracked := next, last := some stamp }

/-- The leg of a phase goes to a state at a stamp; the channels change as R163 says. -/
def State.dccTurn (s : State) (p : Fin 2) (stamp next : Nat) : State :=
  if h : dccLeg s p < 24 then
    s.dccEdges ⟨dccLeg s p, h⟩ (chanEdges s 3 ⟨dccLeg s p, h⟩ ⟨stamp, 0, next⟩) stamp next
  else s

/-- The links have room for the entries of such a change. -/
def dccFits (s : State) (p : Fin 2) (stamp next : Nat) : Bool :=
  if h : dccLeg s p < 24 then (dccFull s (chanEdges s 3 ⟨dccLeg s p, h⟩ ⟨stamp, 0, next⟩)).isNone else true

/-- One entry that turns both channels of a phase's leg off (R231). -/
def State.dccOffBoth (s : State) (p : Fin 2) (stamp : Nat) : State :=
  if h : dccLeg s p < 24 then
    let l : Fin 24 := ⟨dccLeg s p, h⟩
    s.dccEdges l [⟨l, gscLegHiCh s l, stamp, false⟩, ⟨l, gscLegLoCh s l, stamp, false⟩] stamp 0
  else s

/-- The converter stops: no further turn-on, and one entry per phase turns its leg off (R231). -/
def State.dccStop (s : State) (tick : Nat) (next : DState) : State :=
  let s := s.each all2 fun s p =>
    (s.dccOffBoth p (max (tick + leadOf s) (s.dcc.phase[p].lastOff + kerfOf s 3))).modPhase p
      fun k => { k with ton := none }
  s.modDcc fun k => { k with
    state := next, stopAt := tick, lowRun := none, lowTold := false, syncOut := false }

/-! ### States and reference (R230, R232, R233) -/

/-- Entry to SOFT_START (R230, R232). -/
def State.softStart (s : State) (target attempt : Nat) : State :=
  s.modDcc fun k => { k with
    state := .softStart, target := target, attempt := attempt, vref := (voutUv s).toNat
    since := s.clk.now, lowRun := none, lowTold := false, minOns := 0 }

/-- The step rate in µV per 1,600 tk (R232). -/
def slewRate (s : State) : Nat :=
  if s.dcc.state = .softStart then max (dccSlewSsRate s) 1 else max s.dcc.rate 1

/-- An accepted CONV_SETPOINT (R230, R233). -/
def State.dccSetpoint (s : State) (mv rate : Nat) : State :=
  let k := s.dcc
  let r := if rate = 0 then max (dccSlewDefSlew s) 1 else rate
  let near := mv = (k.vref + 500) / 1000
  match k.state with
  | .held => s.modDcc fun k => { k with target := mv }
  | .idle => if mv = 0 then s else s.softStart mv 0
  | .retryWait | .lockedOff =>
    if mv = 0 then s.modDcc fun k => { k with state := .idle } else s.softStart mv 0
  | .softStart =>
    if mv = 0 then s.dccStop s.clk.now .idle
    else if near then s.modDcc fun k => { k with target := mv, vref := 1000 * mv, state := .run }
    else s.modDcc fun k => { k with target := mv }
  | .run =>
    if mv = 0 then s.dccStop s.clk.now .idle
    else if near then s.modDcc fun k => { k with target := mv, vref := 1000 * mv }
    else s.modDcc fun k => { k with target := mv, rate := r }

/-- The mode has gone from OFF to STANDBY (R230). -/
def State.dccStandby (s : State) : State :=
  if s.dcc.state = .idle && dccCfgAutostart s && 0 < dccSetDefaultMv s then
    s.softStart (dccSetDefaultMv s) 0
  else s

/-- The mode has become OFF (R230). -/
def State.dccOff (s : State) : State :=
  match s.dcc.state with
  | .idle | .held => s
  | _ => s.dccStop s.clk.now .idle

/-- The island's converter-off reaction (R230). -/
def State.dccHold (s : State) : State :=
  if s.dcc.state = .held then s else s.dccStop s.clk.now .held

/-- The island releases the reaction (R230). -/
def State.dccUnhold (s : State) : State :=
  if s.dcc.state = .held then
    if 0 < s.dcc.target then s.softStart s.dcc.target 0 else s.modDcc fun k => { k with state := .idle }
  else s

/-- A commit to group DCC (R226): from the token holder, with the leg map good. -/
def State.dccCommit (s : State) (slots : List (Nat × Word24)) : State :=
  let s := s.modDcc fun k => { k with
    ipk := match slots.find? fun x => x.1 = 0 with
      | some x => max x.2.toInt 0
      | none => k.ipk
    enable := match slots.find? fun x => x.1 = 1 with
      | some x => x.2.setWidth 2
      | none => k.enable
    epoch := s.red.tok[(3 : Fin 4)].epoch }
  s.drive 3

/-! ### Periods and synchronisation (R227, R228) -/

/-- The period starts run free: SYNC_EN 0, or no SYNC_IN edge is accepted (R228). -/
def dccFree (s : State) : Bool := !dccCfgSyncEn s || s.dcc.edges = 0

/-- The next period start while they run free: with SYNC_EN 1, PERIOD after the latest one (R159,
R228). -/
def dccNext (s : State) : Nat :=
  let g := s.gsc.g[(3 : Fin 4)]
  if g.started && dccCfgSyncEn s then g.pstart + periodOf s 3 else nextStart s 3

/-- Tick `x` is a period start of group DCC, past or to come (R159, R228). -/
def isDccStart (s : State) (x : Nat) : Bool :=
  let g := s.gsc.g[(3 : Fin 4)]
  let n := dccNext s
  (g.started && x == g.pstart) || s.dcc.starts.contains x
    || (dccFree s &&
        (if !g.started then ((x : Int) - g.phaseW) % writtenPeriod s 3 == 0
          else x == n || (decide (n < x) &&
            (if dccCfgSyncEn s then (x - n) % writtenPeriod s 3 == 0
              else ((x : Int) - g.phaseW) % writtenPeriod s 3 == 0))))

/-- The length of the period that starts on `x`: the measured spacing of a synchronised one, else PERIOD
as it is in effect from `x` on (R159, R228). -/
def dccLength (s : State) (x : Nat) : Nat :=
  if s.dcc.starts.contains x then s.dcc.spacing
  else if s.gsc.g[(3 : Fin 4)].started && x = s.gsc.g[(3 : Fin 4)].pstart && s.dcc.period ≠ 0 then s.dcc.period
  else writtenPeriod s 3

/-- The input block of R227. -/
def dccBlock (s : State) : List Word24 :=
  let k := s.dcc
  [BitVec.ofNat 24 (put k.state.code 20 + put (b2n (k.vref != 1000 * k.target)) 19
      + put (b2n k.locked) 18 + put (b2n (k.state == .run && k.lowRun.isSome)) 17
      + put (b2n k.phase[1].prevMin) 16 + put (b2n k.phase[0].prevMin) 15),
    q23 k.vref (voutFs s), q23 (1000 * k.target) (voutFs s), k.pred]

/-- A period of group DCC starts: PRED is computed and the input block written (R224, R227). -/
def State.dccPeriod (s : State) (prev : Nat) : State :=
  let x := s.clk.now
  let len := if s.dcc.starts.contains x then s.dcc.spacing else periodOf s 3
  let s := s.modDcc fun k => { k with
    period := len
    starts := k.starts.filter fun y => x < y
    pred := predNow s
    phase := k.phase.map fun q => { q with
      prevMin := match q.minAt with | some o => decide (prev ≤ o) && decide (o < x) | none => false } }
  s.ceWrites 5 (dccMapInWord s) (dccBlock s)

/-- VREF takes its step at a multiple of 1,600 tk, once (R230, R232). -/
def State.slewStep (s : State) : State :=
  let k := s.dcc
  if s.clk.now % 1600 ≠ 0 ∨ !k.state.converting ∨ k.slewAt = some s.clk.now then s
  else
    let v := (rampTo k.vref (1000 * k.target : Nat) (slewRate s)).toNat
    s.modDcc fun k => { k with
      vref := v, slewAt := some s.clk.now
      state := if k.state = .softStart ∧ v = 1000 * k.target then .run else k.state }

/-! ### Start test and fault record (R234 to R236) -/

/-- vin at stop in 0.1 V: the full scale is that of PBA_VDC (DESIGN CHOICE, log 67). -/
def vinDeci (s : State) : Nat := ((s.dcc.vin.toInt * (10 * pbaVdcVfs s : Nat)).tdiv (2 ^ 23 : Nat)).toNat

/-- A start test fails on a close tick (R230, R234, R236). -/
def State.startFails (s : State) (close run : Nat) : State :=
  let k := s.dcc
  let next : DState := if k.attempt < 3 then .retryWait else .lockedOff
  let detail := put (wrapN 16 ((voutUv s).tdiv 1000)) 16 + put next.code 4 + k.attempt
  let payload := k.vref % 2 ^ 32 + put (k.target % 65536) 32 + put (vinDeci s % 65536) 48
    + put (min (close - run) (2 ^ 32 - 1)) 64 + put k.pred.toNat 96 + put (min k.minOns 255) 120
  let w := eventWord s close bDCC 0xFF 1 detail payload
  let s := (s.tally 83).recordAt close bDCC 0xFF 1 detail payload
  let s := (s.logRecord w).dccStop close next
  if next = .lockedOff then s.recordReport bDCC 0xFF 2 k.target else s

/-- The VOUT window seals; VREF is that after a step on the close tick (R224, R234, R235). -/
def State.dccVout (s : State) (mean : Word24) (close : Nat) (usable : Bool) : State :=
  let s := if close = s.clk.now then s.slewStep else s
  let s := s.modDcc fun k => { k with vout := mean }
  let below := usable && 0 < s.dcc.vref && decide (2 * voutUv s < s.dcc.vref)
  if !below then s.modDcc fun k => { k with lowRun := none, lowTold := false }
  else
    let run := s.dcc.lowRun.getD close
    let s := s.modDcc fun k => { k with lowRun := some run }
    if close ≤ run + 3200000 then s
    else match s.dcc.state with
      | .softStart => s.startFails close run
      | .run =>
        if s.dcc.lowTold then s
        else ((s.modDcc fun k => { k with lowTold := true }).tally 84).recordReport bDCC 0xFF 3
          (wrapN 32 ((voutUv s).tdiv 1000))
      | _ => s

/-- The VIN window seals (R224). -/
def State.dccVin (s : State) (mean : Word24) : State := s.modDcc fun k => { k with vin := mean }

end Sys2Proof.Machine
end

