-- ==== Sys2Proof/Machine/IslandOps.lean ====
section
/-!
DEFINITION. The ranger island: causes, row matching, patterns of a group and the release of rows
(R190 to R194, R267 to R272).
-/

namespace Sys2Proof.Machine

open Sys2Proof

/-- RNG changed by `f`. -/
def State.modRng (s : State) (f : Rng → Rng) : State := { s with rng := f s.rng }

/-- SBC channel n changed by `f`. -/
def State.modSbc (s : State) (n : Fin 2) (f : Brake → Brake) : State :=
  { s with sbc := { s.sbc with ch := vupd s.sbc.ch n f } }

/-- Reporting set g changed by `f`. -/
def State.modSet (s : State) (g : Fin 4) (f : RSet → RSet) : State :=
  { s with psp := { s.psp with set := vupd s.psp.set g f } }

/-! ### Row fields as used (R270, R284) -/

def rowTraction (s : State) (r : Nat) : Nat :=
  let t := rngActTraction s r
  if 5 ≤ t then 1 else t

def rowAux (s : State) (r : Nat) : Nat := if rngActAux s r = 3 then 1 else rngActAux s r

/-- The MODE of a row: 3 as 2, and 1 for a row with BRAKE bits and MODE 0. -/
def rowMode (s : State) (r : Nat) : Nat :=
  let m := rngActMode s r
  if m = 3 then 2 else if m = 0 ∧ rngActBrake s r ≠ 0 then 1 else m

/-! ### Causes (R267) -/

/-- PSP_STATUS.PRESENT of group g: the latest STATUS frame of one of its links shows a present
fault (R186, R194). -/
def pspPresent (s : State) (g : Fin 4) : Bool :=
  all12.any fun l => linkGroup s l = some g && (s.glk[l].hGates.toNat / 16 != 0)

/-- The cause of a report is present (R267). An interlock violation, kind 4 of a fault comma, never is
(R186). -/
def causePresent (s : State) (r : Report) : Bool :=
  let lnk : Option (Fin 12) := if h : r.unit - 14 < 12 then some ⟨r.unit - 14, h⟩ else none
  match r.block, r.event with
  | 0x0E, 3 => (s.psp.mon.getD (r.unit - 0xC0) {}).past
  | 0x0D, 4 => match lnk with
    | some l => match linkGroup s l with
      | some g => bits r.f.toNat 6 4 ≠ 4 && pspPresent s g
      | none => false
    | none => false
  | 0x0D, 2 | 0x0D, 3 => match lnk with
    | some l => s.glk[l].state != .up
    | none => false
  | 0x09, 1 => (s.ce.getD (r.unit - 0x50) {}).state == .fault
  | 0x0A, 3 => r.sub = 1 && (s.pos.enc[encOf s (Fin.ofNat 2 (r.unit - 0xC0))]).state == .fault
  | 0x0A, 1 => s.trx.cfgBad
  | 0x0C, 2 => s.gsc.cfgBad
  | 0x23, 9 => (s.axb.b.getD (r.unit - 0xC0) {}).vsBad
  | 0x23, 11 => s.axb.vdrvLow
  | 0x30, 1 => (s.rng.clock.getD (r.unit - 0xC0) {}).bad
  | 0x30, 2 => (s.rng.supply.getD (r.unit - 0xC0) {}).bad
  | 0x30, 4 => bit (s.sbc.ch.getD (r.unit - 0xC0) {}).faults.toNat r.sub
  | _, _ => false

/-- Every cause an active row reacted to is gone. -/
def rowGone (s : State) (a : ActiveRow) : Bool := !(a.causes.any fun c => causePresent s c)

/-! ### Matching (R268, R269) -/

/-- The configured machines whose speed a row tests. -/
def rowMachines (s : State) (r : Nat) : List (Fin 2) :=
  let g := rngScopeGroups s r
  if g % 4 = 0 then machines s else (machines s).filter fun m => bit g (groupOf m).val

/-- The speed condition of a row holds (R269): machines without a valid speed count as moving. -/
def speedCond (s : State) (r : Nat) : Bool :=
  let ms := rowMachines s r
  let ok := !ms.isEmpty && ms.all fun m => (machSpeed s m).2
  let top := (ms.map fun m => absSpeed s m).foldl max 0
  let rpm := 10 * rngScopeSpdRpm s r
  match rngScopeSpdCond s r with
  | 1 => !ok || rpm ≤ top
  | 2 => ok && top < rpm
  | 3 => ok && ms.all fun m => s.trx.m[m].standstill
  | 4 => !(ok && ms.all fun m => s.trx.m[m].standstill)
  | _ => true

/-- A row fires for a report (R268). -/
def rowFires (s : State) (q : Report) (r : Nat) : Bool :=
  rngMatchEn s r && (rngMatchBlock s r = 0x3F || rngMatchBlock s r = q.block)
    && 1 ≤ q.event && q.event ≤ 15 && bit (rngMatchEvents s r) (q.event - 1)
    && (rngMatchUnit s r = 0xFF || rngMatchUnit s r = q.unit)
    && (!(q.block = bGLK && q.event = 4) || rngScopeCommaKinds s r = 0
        || bit (rngScopeCommaKinds s r) (bits q.f.toNat 6 4))
    && speedCond s r

/-- The rows that fire for a report, lowest first: row 127 where no row matches (R268). -/
def firing (s : State) (q : Report) : List Nat :=
  match (List.range 128).filter fun r => rowFires s q r with
  | [] => [127]
  | l => l

/-! ### Reporting sets (R189, R190, R193, R197) -/

/-- The sides of channel c: low and high (R189). -/
def sidesOf (s : State) (c : Nat) : Bool × Bool :=
  let hi := all24.any fun l => gscLegEn s l && !gscLegKind s l && gscLegHiCh s l = c
  let lo := all24.any fun l => gscLegEn s l && !gscLegKind s l && gscLegLoCh s l = c
  if hi || lo then (lo, hi) else (true, true)

/-- A fault comma of link l with byte F joins a set (R189). -/
def RSet.join (k : RSet) (s : State) (l : Fin 12) (f : Byte) (rx : Nat) : RSet :=
  let kind := bits f.toNat 6 4
  let cs := ([0, 1, 2, 3].filter fun j => bit f.toNat j).map fun j => 4 * l.val + j
  let sd := if kind = 4 then [] else cs.map (sidesOf s)
  let k := if k.inForce then k else { inForce := true, opened := rx, firstKind := kind }
  { k with
    ch := cs.foldl (fun m c => m ||| BitVec.ofNat 48 (2 ^ c)) k.ch
    kinds := k.kinds ||| BitVec.ofNat 5 (2 ^ kind)
    low := k.low || sd.any (·.1)
    high := k.high || sd.any (·.2)
    reports := k.reports + 1 }

/-- Code of a pattern in PSP_DEC and SET_DECIDED (R197, R198). -/
def Pattern.code : Pattern → Nat
  | .none => 0
  | .allOpen => 1
  | .lowShort => 2
  | .highShort => 3

/-- A decision of set g is kept and recorded as SET_DECIDED (1) or SET_GROWN (2) (R197). -/
def State.decided (s : State) (g : Fin 4) (p : Pattern) (ev : Nat) : State :=
  let k := s.psp.set[g]
  let v := match machineOf g with
    | some m => if machOn s m then absSpeed s m / 10 else 0
    | none => 0
  let sides := maskOf [k.low, k.high]
  let both := k.low && k.high && !k.counted
  let s := s.modSet g fun k => { k with
    decided := true, counted := k.counted || both, decSpeed := v
    decSides := BitVec.ofNat 2 sides, decPattern := p }
  let s := (s.tally (66 + ev)).record bPSP (0xC0 + g) ev
    (g.val + put k.firstKind 2 + put sides 8 + put p.code 12 + put (v % 65536) 16)
    (k.ch.toNat + put (k.reports % 256) 48)
  if both then s.tally 69 else s

/-! ### Patterns (R132, R191, R193, R271) -/

/-- The pattern that a TRACTION value asks for on group g (R191, R270, R271). -/
def patternFor (s : State) (g : Fin 4) (trac : Nat) : Pattern :=
  match machineOf g with
  | none => .allOpen
  | some m =>
    if !machOn s m then .allOpen
    else
      let side := permitted s g
      match trac with
      | 2 => .allOpen
      | 3 => if s.psp.set[g].inForce && side != .low then .allOpen else .lowShort
      | 4 => if s.psp.set[g].inForce && side != .high then .allOpen else .highShort
      | _ => speedPattern s m s.rng.pattern[g] side

/-- The set of group g is in force and not yet decided. -/
def setOpen (s : State) (g : Fin 4) : Bool := s.psp.set[g].inForce && !s.psp.set[g].decided

/-- A firing or a re-choice puts a pattern on group g; one already in force is not sent again
(R193, R268, R271). -/
def State.applyTraction (s : State) (g : Fin 4) (p : Pattern) (trac : Nat) : State :=
  if s.rng.pattern[g] = p ∧ s.red.tok[g].state = .revoked then
    (s.modRng fun k => { k with trac := k.trac.set g trac }).supplyLoss g p
  else s.dispatch g p trac

/-- The link-loss pattern of group g while no pattern is in force (R22, R192). -/
def lossPattern (s : State) (g : Fin 4) : Pattern :=
  if s.rng.pattern[g] = .none then patternFor s g 1 else s.rng.pattern[g]

/-! ### Combined TRACTION (R270) -/

/-- The lowest of some rows that a test admits. -/
def lowestRow (rows : List Nat) (p : Nat → Bool) : Option Nat :=
  rows.foldl (fun (m : Option Nat) r => if !p r then m else some (match m with
    | some x => min x r
    | none => r)) none

/-- TRACTION for group g: of the lowest firing row that names it; a charger-off row gives the OBC
group all off (R270, R271). -/
def tractionOf (s : State) (rows : List Nat) (g : Fin 4) : Nat :=
  let t := match lowestRow rows fun r => bit (rngScopeGroups s r) g with
    | some r => rowTraction s r
    | none => 0
  if t = 0 ∧ g = 2 ∧ rows.any (fun r => rngActChgOff s r) then 1 else t

/-- TRACTION of the lowest active row that names group g, 0 without one. -/
def activeTraction (s : State) (g : Fin 4) : Nat :=
  tractionOf s ((s.rng.active.map (·.row)).filter fun r => rowGroup s r g) g

/-! ### Brakes (R274) -/

/-- Channel n commanded applied; a cause that is checked only while energised is gone (R277). -/
def State.applyBrake (s : State) (n : Fin 2) : State :=
  s.modSbc n fun k =>
    if k.energised then
      { k with
        energised := false, changed := s.clk.now, fails := Vector.replicate 7 0, pulse := false
        pulseFails := 0, retryAt := none
        faults := k.faults &&& 0x82 }
    else k

/-- Both channels commanded applied. -/
def State.applyBrakes (s : State) : State := (s.applyBrake 0).applyBrake 1

/-! ### Release of rows (R272) -/

/-- Groups on which a row has an action (R271). -/
def rowGroups (s : State) (r : Nat) : List (Fin 4) := all4.filter fun g => rowGroup s r g

/-- Bridges on which a row has an action. -/
def rowBridges (s : State) (r : Nat) : List (Fin 3) :=
  all3.filter fun b => rowAux s r ≠ 0 && bit (rngScopeBridges s r) b

/-- The reporting set of group g clears; what the latest decision gave stays shown (R11, R194, R198,
R272). -/
def State.clearSet (s : State) (g : Fin 4) : State :=
  s.modSet g fun k => { decSpeed := k.decSpeed, decSides := k.decSides, decPattern := k.decPattern }

/-- The revocation of group g is lifted unless something else holds it (R172, R272). -/
def State.freeGroup (s : State) (g : Fin 4) : State := if revokedBy s g then s else s.liftGroup g

/-- Groups that a row names, with an action or not: its release clears their sets (R194, R272). -/
def namedGroups (s : State) (r : Nat) : List (Fin 4) :=
  all4.filter fun g => bit (rngScopeGroups s r) g || rowGroup s r g

/-- An active row is released. -/
def State.releaseRow (s : State) (a : ActiveRow) : State :=
  let s := s.modRng fun k => { k with active := k.active.filter fun x => x.row ≠ a.row }
  let s := s.each (namedGroups s a.row) State.clearSet
  let s := s.each (rowGroups s a.row) State.freeGroup
  let s := s.each (rowBridges s a.row) fun s b =>
    if s.rng.active.any fun x => (rowBridges s x.row).contains b then s else s.axbRelease b
  let s := if rngActConvOff s a.row && !(s.rng.active.any fun x => rngActConvOff s x.row) then s.dccUnhold
    else s
  (s.tally 93).record bRNG 0xFF 7 a.row

/-- The rows that a test admits are released, lowest first; an island that has failed releases none
(R262). -/
def State.releaseRows (s : State) (p : ActiveRow → Bool) : State :=
  if s.rng.failed then s else s.each (s.rng.active.filter p) State.releaseRow

end Sys2Proof.Machine
end

