-- ==== Sys2Proof/Machine/SkdOps.lean ====
section
/-!
DEFINITION. The skid fabric: frames, queues and credits, the coordinator view, routes and streams
(R315 to R341). The rows of the command table that drive them are in Skid.lean.
-/

namespace Sys2Proof.Machine

open Sys2Proof

/-- SKD changed by `f`. -/
def State.modSkd (s : State) (f : Skd → Skd) : State := { s with skd := f s.skd }

/-- Port p changed by `f`. -/
def State.modPort (s : State) (p : Fin 8) (f : SkdPort → SkdPort) : State :=
  s.modSkd fun k => { k with port := vupd k.port p f }

/-- An event of SKD (R343). -/
def State.skdEvent (s : State) (unit ev : Nat) (detail : Nat := 0) (payload : Nat := 0) : State :=
  s.record bSKD unit ev detail payload

/-! ### Frames (R317, R318) -/

/-- CRC-32 of IEEE 802.3, reflected (R318). -/
def crcIeee (bs : List Byte) : Nat := crc32 0xEDB88320 bs

/-- A header and payload with HCRC and CRC-32. -/
def buildFrame (dest src cls hops kind stream : Nat) (payload : List Byte) : List Byte :=
  let h := leBytes 1 dest ++ leBytes 1 src ++ leBytes 1 (put cls 6 + hops)
    ++ leBytes 2 (put kind 12 + stream) ++ leBytes 2 payload.length
  let b := h ++ [crc8 h] ++ payload
  b ++ leBytes 4 (crcIeee b)

def frDest (b : List Byte) : Nat := byteAt b 0
def frSrc (b : List Byte) : Nat := byteAt b 1
def frClass (b : List Byte) : Nat := byteAt b 2 / 64
def frHops (b : List Byte) : Nat := byteAt b 2 % 16
def frKind (b : List Byte) : Nat := leAt b 3 2 / 4096
def frStream (b : List Byte) : Nat := leAt b 3 2 % 4096
def frLen (b : List Byte) : Nat := leAt b 5 2 % 512
def frPayload (b : List Byte) : List Byte := (b.drop 8).take (frLen b)

/-- The header has arrived whole, with a good HCRC (R318). -/
def headGood (b : List Byte) : Bool := 8 ≤ b.length && crc8 (b.take 7) = b.getD 7 0

/-- The receiver's tests of R318. -/
def frameGood (b : List Byte) : Bool :=
  12 ≤ b.length && crc8 (b.take 7) = b.getD 7 0 && leAt b 5 2 ≤ 256
    && b.length = 12 + frLen b && frKind b ≤ 10
    && crcIeee (b.take (8 + frLen b)) = leAt b (8 + frLen b) 4

/-- The same frame with another hop count, its codes formed anew (R318, R328). -/
def withHops (b : List Byte) (hops : Nat) : List Byte :=
  buildFrame (frDest b) (frSrc b) (frClass b) hops (frKind b) (frStream b) (frPayload b)

/-- Units of 64 bytes that a frame takes (R336). -/
def unitsOf (b : List Byte) : Nat := (frLen b + 12 + 63) / 64

/-! ### Queues and credits (R336, R337, R340) -/

/-- Pool sizes of C0, C1 and C2 in units. -/
def poolUnits (c : Nat) : Nat := if c = 0 then 64 else 256

/-- Credits of class c that port p holds (R336). -/
def creditsOf (k : SkdPort) (c : Nat) : Nat :=
  poolUnits c - (k.sent.getD c 0 + 65536 - k.theirs.getD c 0) % 65536

/-- A copy of frame `n` still waits in an output queue. -/
def stillHeld (s : State) (n : Nat) : Bool := all8.any fun p => s.skd.port[p].out.any fun f => f.ident = n

/-- Units of a receive pool become free on port p (R336). -/
def State.freeUnits (s : State) (p : Fin 8) (cls n : Nat) : State :=
  if 3 ≤ cls then s
  else s.modPort p fun k => { k with
    freed := k.freed.setIfInBounds cls ((k.freed.getD cls 0 + n) % 65536), untold := k.untold + n }

/-- A frame has left the switch: its receive units are free once no copy waits. -/
def State.frameGone (s : State) (f : SkdFrame) : State :=
  match f.src with
  | none => s
  | some p => if stillHeld s f.ident then s else s.freeUnits p f.cls (unitsOf f.bytes)

/-- Bytes of the shared C3 pool in use, in units of 64 bytes (R336). -/
def c3Used (s : State) : Nat :=
  ((all8.flatMap fun p => s.skd.port[p].out.filter fun f => f.cls = 3).foldl
    (fun (acc : List Nat × Nat) f =>
      if acc.1.contains f.ident then acc else (f.ident :: acc.1, acc.2 + unitsOf f.bytes)) ([], 0)).2

/-- C3_FLOOR in KiB, used at most as 64. -/
def c3Floor (s : State) : Nat := min (skdClassC3Floor s) 64

/-- A drop of a DATA frame counts for its stream (R341). -/
def State.dropData (s : State) (b : List Byte) : State :=
  if frKind b = 0 then
    s.modSkd fun k => { k with
      drops := sput 0 k.drops (frStream b) (min (sget 0 k.drops (frStream b) + 1) 16777215) }
  else s

/-- A frame put into the output queues of some ports. A C3 frame that the pool does not admit is
dropped (R340). -/
def State.enqueueOut (s : State) (ps : List (Fin 8)) (b : List Byte) (src : Option (Fin 8)) : State :=
  let cls := frClass b
  if ps.isEmpty then s
  else if cls = 3 && 1024 < c3Used s + unitsOf b + 16 * c3Floor s then (s.tally 115).dropData b
  else
    let n := s.skd.nextIdent
    let s := s.modSkd fun k => { k with nextIdent := n + 1 }
    s.each ps fun s p => s.modPort p fun k => { k with
      out := k.out ++ [⟨b, cls, frKind b, s.clk.now, src, n⟩] }

/-- A link-local frame for port p (R319). -/
def State.enqueueLink (s : State) (p : Fin 8) (kind : Nat) (payload : List Byte) : State :=
  let b := buildFrame 255 s.skd.node 0 0 kind 0 payload
  s.modPort p fun k => { k with link := k.link ++ [⟨b, 0, kind, s.clk.now, none, 0⟩] }

/-! ### The view (R320 to R322) -/

/-- CRUISE fields of a payload. -/
def cruiseOf (b : List Byte) : CruiseInfo :=
  ⟨leAt b 0 8, leAt b 8 8, leAt b 16 2, leAt b 18 1, leAt b 19 1, leAt b 20 1, leAt b 21 1⟩

/-- The UP ports. -/
def upPorts (s : State) : List (Fin 8) := all8.filter fun p => s.skd.port[p].state == .up

/-- `x` is later than `y` in serial-number order modulo 2^16. -/
def serialAfter (x y : Nat) : Bool := let d := (x + 65536 - y) % 65536; 0 < d && d < 32768

/-- What port p has seen of a COORD_ID (R321). -/
def SkdPort.seqOf (k : SkdPort) (coord : Nat) : Option CoordSeq := k.seqs.find? fun q => q.coord = coord

/-- A CRUISE frame arrives on tick `t`: the CSEQ of its COORD_ID has advanced if it is later than the one
that the port has seen of this COORD_ID; the first sight counts as an advance (DEDUCED, log 88). -/
def SkdPort.see (k : SkdPort) (i : CruiseInfo) (t : Nat) : SkdPort :=
  let adv := match k.seqOf i.coord with
    | some q => if serialAfter i.cseq q.cseq then t else q.advAt
    | none => t
  { k with
    info := some i, infoAt := t
    seqs := ⟨i.coord, i.cseq, adv⟩ :: k.seqs.filter fun q => q.coord ≠ i.coord }

/-- The offer of a port to the view: COORD_ID not 0 and a CSEQ that has advanced within 5 ms. -/
def portOffer (s : State) (p : Fin 8) : Option CruiseInfo :=
  let k := s.skd.port[p]
  let fresh (c : Nat) : Bool := match k.seqOf c with
    | some q => decide (s.clk.now < q.advAt + 8000000)
    | none => false
  match k.info with
  | some i => if k.state = .up && i.coord ≠ 0 && fresh i.coord then some i else none
  | none => none

/-- A view is preferred to another: COORD_ID, then distance; ports are met in rising order. -/
def viewLess (a b : SkdView) : Bool := a.coord < b.coord || (a.coord = b.coord && a.dist < b.dist)

/-- The view that the candidates of R321 give. -/
def bestView (s : State) : Option SkdView :=
  let own : Option SkdView := if skdCfgEligible s then some ⟨s.skd.dieId, 0, none⟩ else none
  all8.foldl (fun best p =>
    match portOffer s p with
    | some i =>
      if 14 < i.dist then best
      else
        let v : SkdView := ⟨i.coord, i.dist + 1, some p⟩
        match best with
        | none => some v
        | some w => if viewLess v w then some v else best
    | none => best) own

/-- The only offer lies beyond 15 hops (R321). -/
def viewFar (s : State) : Bool :=
  (bestView s).isNone && all8.any fun p =>
    match portOffer s p with
    | some i => i.dist = 15
    | none => false

/-- The parent port. -/
def parentPort (s : State) : Option (Fin 8) := s.skd.view.bind (·.port)

/-- A device is its own view. -/
def ownView (s : State) : Bool := match s.skd.view with
  | some v => v.port.isNone
  | none => false

/-- The tree ports (R328). -/
def treePorts (s : State) : List (Fin 8) :=
  (upPorts s).filter fun p => parentPort s = some p ||
    (match s.skd.port[p].info with
    | some i => bit i.flags 1
    | none => false)

/-- CSEQ that this device repeats (R321). -/
def cseqNow (s : State) : Nat :=
  match parentPort s with
  | some p => match s.skd.port[p].info with
    | some i => i.cseq
    | none => 0
  | none => s.skd.cseq

/-- The payload of a CRUISE frame for port p (R320). -/
def cruisePayload (s : State) (p : Fin 8) : List Byte :=
  let k := s.skd
  let coord := match k.view with
    | some v => v.coord
    | none => 0
  let dist := match k.view with
    | some v => v.dist
    | none => 0
  leBytes 8 k.dieId ++ leBytes 8 coord ++ leBytes 2 (cseqNow s) ++ leBytes 1 dist ++ leBytes 1 k.node
    ++ leBytes 1 (skdCfgReqNode s)
    ++ leBytes 1 (maskOf [skdCfgEligible s, parentPort s = some p, k.cruise == .unblazed, k.aligned])
    ++ leBytes 2 0

/-- TB_ALIGNED takes a value; a change is recorded (R335). -/
def State.setAligned (s : State) (v : Bool) : State :=
  if s.skd.aligned = v then s
  else (s.modSkd fun k => { k with aligned := v }).skdEvent 0xFF 11 (b2n v)

/-- The device is, or is no longer, the coordinator (R322, R323, R335). A new coordinator begins with
an empty number table and no allocations. -/
def State.setCoord (s : State) (v : Bool) : State :=
  if s.skd.isCoord = v then s
  else if v then
    (s.modSkd fun k => { k with isCoord := true, nums := [], reqWait := [], owner := [], unblazed := 0 }).setAligned true
  else s.modSkd fun k => { k with isCoord := false, exchangedAt := s.clk.now, close := 0 }

/-- The view is formed (R321, R322). -/
def State.formView (s : State) : State :=
  let v := bestView s
  let far := viewFar s
  let old := s.skd.view
  let s := s.modSkd fun k => { k with
    coordFar := far, view := v, viewAt := if v = old then k.viewAt else s.clk.now }
  match v with
  | none => (s.modSkd fun k => { k with cruise := .listen, coordNode := 0 }).setCoord false
  | some w =>
    if s.skd.cruise = .listen then s.modSkd fun k => { k with cruise := .elect }
    else if old.map (·.coord) = some w.coord then s
    else ((s.modSkd fun k => { k with cruise := .elect, coordNode := 0 }).setCoord false).skdEvent
      0xFF 3 (w.dist % 16) w.coord

/-! ### Routes (R325, R326, R328) -/

/-- The route to node n. -/
def routeOf (s : State) (n : Nat) : Route := sget {} s.skd.routes n

/-- SKD_ROUTEn.REACH: 3 for the own number. -/
def reachOf (s : State) (n : Nat) : Nat :=
  if n = s.skd.node ∧ n ≠ 0 then 3 else (routeOf s n).reach

/-- The offer of port p for node n. -/
def offerOf (s : State) (n p : Nat) : Offer := sget {} s.skd.offers (8 * n + p)

/-- The lowest offer for node n and its port. -/
def bestOffer (s : State) (n : Nat) : Option (Nat × Nat) :=
  all8.foldl (fun (best : Option (Nat × Nat)) (p : Fin 8) =>
    let h := (offerOf s n p).hops
    if h = 0 then best
    else match best with
      | none => some (h, p.val)
      | some b => if h < b.1 then some (h, p.val) else best) (none : Option (Nat × Nat))

/-- The route that follows from the offers (R326): the present route stays while its port offers 15
hops or fewer, unless another offer is strictly lower. -/
def newRoute (s : State) (n : Nat) : Route :=
  let r := routeOf s n
  match bestOffer s n with
  | none => {}
  | some x =>
    let h := x.1
    let p := x.2
    if 15 < h then { reach := 2 }
    else
      let mine := (offerOf s n r.port).hops
      if r.reach = 1 ∧ 0 < mine ∧ mine ≤ h then ⟨1, mine, r.port⟩ else ⟨1, h, p⟩

/-- The holders of the number table that cannot be reached (R323). -/
def State.watchHolders (s : State) : State :=
  s.modSkd fun k => { k with
    nums := k.nums.map fun e =>
      if reachOf s e.num % 2 = 1 then { e with lost := none }
      else { e with lost := some (e.lost.getD s.clk.now) } }

/-- The route of node n is formed anew; a change is advertised (R325, R326). -/
def State.reroute (s : State) (n : Nat) : State :=
  let old := routeOf s n
  let new := newRoute s n
  if new = old then s
  else
    let s := s.modSkd fun k => { k with
      routes := sput {} k.routes n new
      port := k.port.map fun q => { q with changed := if q.changed.contains n then q.changed else q.changed ++ [n] } }
    let s := if new.reach = 2 ∧ old.reach ≠ 2 then s.skdEvent 0xFF 12 n else s
    s.watchHolders

/-- An entry of a ROUTE frame for node n on port p, with poisoned reverse (R325). -/
def routeEntry (s : State) (p : Fin 8) (n : Nat) : List Byte :=
  let r := routeOf s n
  let h := if n = s.skd.node then 0
    else if r.reach = 1 then (if r.port = p.val then 255 else r.hops)
    else if r.reach = 2 then 16 else 255
  leBytes 1 n ++ leBytes 1 h

/-- Entries in frames of at most 128; `fuel` bounds the number of frames. -/
def State.sendRoutes (s : State) (p : Fin 8) : Nat → List Nat → State
  | 0, _ => s
  | fuel + 1, ns =>
    if ns.isEmpty then s
    else (s.enqueueLink p 2 ((ns.take 128).flatMap (routeEntry s p))).sendRoutes p fuel (ns.drop 128)

/-- Nodes that a whole table names: every known route and the own number. -/
def tableNodes (s : State) : List Nat :=
  (if s.skd.node = 0 then [] else [s.skd.node]) ++
    (s.skd.routes.map (·.1)).filter fun n => n ≠ s.skd.node

/-! ### Sending and forwarding (R328, R331, R338) -/

/-- A frame discarded under the routing rules (R328). -/
def State.discard (s : State) (b : List Byte) : State := (s.tally 118).dropData b

/-- What a routed frame does at this device (R328). -/
inductive RouteTo where
  | deliver
  | forward (p : Fin 8)
  | both (ps : List (Fin 8))
  | discard
deriving DecidableEq, Repr

/-- The first matching rule of R328; `p` is the port of arrival, none at the source. -/
def routeRule (s : State) (p : Option (Fin 8)) (b : List Byte) : RouteTo :=
  let d := frDest b
  if (d = 0 ∨ frSrc b = 0) ∧ frKind b ≠ 3 then .discard
  else if d = s.skd.node ∧ d ≠ 0 then .deliver
  else if d = 254 then
    if s.skd.isCoord then .deliver
    else match parentPort s with
      | some q => .forward q
      | none => .discard
  else if d = 255 then
    match p with
    | some q => if (treePorts s).contains q then .both ((treePorts s).filter (· ≠ q)) else .discard
    | none => .both (treePorts s)
  else if reachOf s d = 1 then .forward (Fin.ofNat 8 (routeOf s d).port)
  else .discard

/-- Tokens of the C0 bucket fill up to 1,024 bytes (R338). -/
def State.fillTokens (s : State) : State :=
  let rate := min (skdC0Rate s) 1000
  s.modSkd fun k => { k with
    tokens := min 131072000 (k.tokens + rate * (s.clk.now - k.tokensAt)), tokensAt := s.clk.now }

/-- Tokens that a frame needs, in 1/128,000 byte. -/
def tokensOf (b : List Byte) : Nat := 128000 * (frLen b + 12)

/-- A routed frame of this device goes to its output queues; the ports come from R328. -/
def State.sendOut (s : State) (b : List Byte) : State :=
  match routeRule s none b with
  | .forward p => s.enqueueOut [p] b none
  | .both ps => s.enqueueOut ps b none
  | _ => s.discard b

/-- Shaped frames leave in order as tokens allow; `fuel` is the number of frames that wait. -/
def State.releaseShaped : Nat → State → State
  | 0, s => s
  | fuel + 1, s =>
    match s.skd.shaped with
    | [] => s
    | f :: fs =>
      if s.skd.tokens < tokensOf f.bytes then s
      else
        let s := s.modSkd fun k => { k with shaped := fs, tokens := k.tokens - tokensOf f.bytes }
        State.releaseShaped fuel (s.sendOut f.bytes)

/-- Tokens are filled and shaped frames released. -/
def State.shape (s : State) : State :=
  let s := s.fillTokens
  State.releaseShaped s.skd.shaped.length s

/-- A DATA frame of stream `st` may leave (R331). -/
def streamSends (s : State) (st : Nat) : Bool :=
  skdStrTx s st && sget 0 s.skd.result st = 1 && s.skd.node ≠ 0

/-- A DATA frame of this device in class `cls` (R328, R338). A frame to the own number is delivered by the caller. -/
def State.sendData (s : State) (st cls : Nat) (payload : List Byte) : State :=
  let b := buildFrame (skdStrDest s st) s.skd.node cls 0 0 st payload
  if cls = 0 then
    (s.modSkd fun k => { k with shaped := k.shaped ++ [⟨b, 0, 0, s.clk.now, none, 0⟩] }).shape
  else s.sendOut b

/-- A frame refused under the stream rules (R331). -/
def State.txRefused (s : State) (st : Nat) : State := (s.tally 122).skdEvent 0xFF 9 (st % 4096)

/-- A response in its stream's class, or a Blaze frame in class C0, sent on a stream by its own path
(R287, R331). -/
def State.skdSend (s : State) (st cls : Nat) (payload : List Byte) : State :=
  if domOn s 6 && streamSends s st && payload.length ≤ 256 then s.sendData st cls payload
  else s.txRefused st

end Sys2Proof.Machine
end

