-- ==== Sys2Proof/Machine/CommandOps.lean ====
section
/-!
DEFINITION. The command gate: axle command frames and their sources, the queue, refusals and
responses, and battery-limit frames (R42 to R53, R60, R61). The rows of the command table for the
single commands are in Gate.lean.
-/

namespace Sys2Proof.Machine

open Sys2Proof

/-- PBA changed by `f`. -/
def State.modPba (s : State) (f : Pba → Pba) : State := { s with pba := f s.pba }

/-- Mode codes of R38. -/
def Mode.code : Mode → Nat
  | .off => 0
  | .standby => 1
  | .drive => 2
  | .charge => 3
  | .service => 4
  | .safeHold => 5
  | .lockout => 6

/-! ### Frames (R42, R43, R46) -/

def Cmd.code (c : Cmd) : Nat := byteAt c.bytes 0
def Cmd.target (c : Cmd) : Nat := byteAt c.bytes 1
def Cmd.seq (c : Cmd) : Nat := leAt c.bytes 2 2
/-- ARG1 to ARG3, signed. -/
def Cmd.arg (c : Cmd) (i : Nat) : Int := sgn 32 (leAt c.bytes (4 * i) 4)

/-- The GROUPS bit of a command code; none for a code that R43 does not list (R46). -/
def groupBit (code : Nat) : Option Nat :=
  match code with
  | 0x01 => some 0
  | 0x10 | 0x11 => some 1
  | 0x20 | 0x21 | 0x22 => some 2
  | 0x30 => some 3
  | 0x40 | 0x41 | 0x42 => some 4
  | 0x50 | 0x51 => some 5
  | 0x60 => some 6
  | _ => none

/-- SOURCE_UNIT of a port: the skid port, or 8 and the CAN channel (R32). -/
def Path.unit (p : Path) : Nat := if p.stream then p.chan else 8 + p.chan

/-- PBA_SRC entry i names the medium of a path (R45). -/
def srcNames (s : State) (p : Path) (i : Nat) : Bool :=
  pbaSrcValid s i && pbaSrcKind s i == p.stream && pbaSrcStream s i = p.ident
    && (p.stream || pbaSrcChannel s i = p.chan)

/-- The GROUPS that the sources of a path admit; none where no enabled entry names it (R45). -/
def srcGroups (s : State) (p : Path) : Option Nat :=
  match (List.range 16).filter (srcNames s p) with
  | [] => none
  | l => some (l.foldl (fun m i => Nat.lor m (pbaSrcGroups s i)) 0)

/-! ### Responses (R52, R290) -/

/-- The 16 bytes of R52. -/
def responseBytes (cmd result seq mode outcome limiter : Nat) (v1 v2 : Int) : List Byte :=
  leBytes 1 cmd ++ leBytes 1 result ++ leBytes 2 seq ++ leBytes 1 mode ++ leBytes 1 outcome
    ++ leBytes 1 limiter ++ leBytes 1 0 ++ leBytes 4 (wrapN 32 v1) ++ leBytes 4 (wrapN 32 v2)

/-- A payload for the transmit entry that REPLY of receive entry i names (R290). -/
def State.blzReply (s : State) (i : Fin 64) (bs : List Byte) : State :=
  let j : Fin 64 := Fin.ofNat 64 (blzCoptReply s i)
  if blzCdefEn s j && blzCdefDir s j then
    { s with blz := { s.blz with conn := vupd s.blz.conn j fun k => { k with txq := k.txq ++ [bs] } } }
  else s.tally 151

/-- A response or notice on the response path of a command's path (R52, R59). -/
def State.reply (s : State) (p : Path) (bs : List Byte) : State :=
  match p.blaze with
  | some i => s.blzReply i bs
  | none =>
    if p.stream then
      if p.ident = 4095 then s.tally 122 else s.skdSend (p.ident + 1) (skdStrClass s (p.ident + 1)) bs
    else if p.ident = 0x7FF then s.tally 130
    else
      let ch : Fin 6 := Fin.ofNat 6 p.chan
      s.canQueue ch (fdFrame s ch (p.ident + 1) bs)

/-- The machines a TORQUE_REQ or SPEED_REQ reaches by TARGET; none where R118 refuses it. -/
def reach (s : State) (target : Nat) : List (Fin 2) :=
  match trxConfig s, target with
  | 1, 0 | 1, 1 => [0]
  | 2, 0 => [0, 1]
  | 2, 1 => [0]
  | 2, 2 => [1]
  | _, _ => []

/-- The LIMITER byte of a response to command `c` (R127). -/
def limiterByte (s : State) (c : Cmd) : Nat :=
  if c.code = 0x10 ∨ c.code = 0x11 then
    match reach s c.target with
    | m :: _ => s.trx.m[m].limiter
    | [] => 0xFF
  else 0xFF

/-- A refusal: the record, the tally count and the response, and nothing else (R48, R51). -/
def State.refuse (s : State) (c : Cmd) (result : Nat) : State :=
  let s := (s.tally (if result = 1 then 17 else 18)).record bPBA c.path.unit 1
    (c.code + put result 8 + put s.pba.mode.code 16)
  s.reply c.path (responseBytes c.code result c.seq s.pba.mode.code 0xFF (limiterByte s c) 0 0)

/-- The response of an accepted command that draws no power, with the mode in which it was taken
(R53). -/
def State.accepted (s : State) (c : Cmd) (mode : Mode) : State :=
  s.reply c.path (responseBytes c.code 0 c.seq mode.code 0xFF 0xFF 0 0)

/-- An accepted command that draws power: its response waits for the next arbiter cycle (R53). -/
def State.awaits (s : State) (c : Cmd) (mode : Mode) (consumer : Fin 7) (machine : Option (Fin 2)) :
    State :=
  s.modPba fun k => { k with waiting := k.waiting ++ [⟨c, mode, consumer, machine⟩] }

/-! ### The queue (R45, R47, R48) -/

/-- A command put into the queue by its stamp, then by its port (R47). -/
def insCmd (c : Cmd) : List Cmd → List Cmd
  | [] => [c]
  | x :: xs =>
    if c.stamp < x.stamp ∨ (c.stamp = x.stamp ∧ c.path.unit < x.path.unit) then c :: x :: xs
    else x :: insCmd c xs

/-- Commands of unknown code at the head of the queue are answered as they are taken (R46, R48). -/
def State.dropUnknown : List Cmd → State → State
  | [], s => s.modPba fun k => { k with queue := [] }
  | c :: cs, s =>
    if (groupBit c.code).isSome then s.modPba fun k => { k with queue := c :: cs }
    else State.dropUnknown cs (s.refuse c 4)

/-- A frame that may be a command: ignored from a source that is not enabled, discarded below 16
bytes, answered BUSY while the queue is full (R42, R45, R47). -/
def State.commandFrame (s : State) (p : Path) (stamp : Nat) (bs : List Byte) : State :=
  if (srcGroups s p).isNone then s
  else if bs.length < 16 then s.tally 18
  else
    let c : Cmd := ⟨p, stamp, bs.take 16⟩
    if 16 ≤ s.pba.queue.length then s.refuse c 7
    else State.dropUnknown (insCmd c s.pba.queue) s

/-- The checks of R48 on a command of a known code, in order, and its effect if it passes them. -/
def State.check (s : State) (c : Cmd) (blaze range state cond : Bool) (effect : State → State) : State :=
  if !bit ((srcGroups s c.path).getD 0) ((groupBit c.code).getD 7) then s.refuse c 5
  else if blaze && c.path.blaze.isNone then s.refuse c 6
  else if !range then s.refuse c 3
  else if !state then s.refuse c 1
  else if !cond then s.refuse c 2
  else effect (s.tally 16)

/-- The gate takes the command at the head of its queue if it has the code of the step (R47). -/
def State.take (s : State) (code : Nat) (f : Cmd → State → State) : State :=
  match s.pba.queue with
  | [] => s
  | c :: cs =>
    if c.code = code then
      let s := f c (s.modPba fun k => { k with queue := cs })
      State.dropUnknown s.pba.queue s
    else s

/-! ### Battery limits (R60, R61) -/

/-- STALE_MS, 0 as 5 (R60). -/
def staleMs (s : State) : Nat := if pbaCfgStaleMs s = 0 then 5 else pbaCfgStaleMs s

/-- New limits with a stamp: the age restarts and a stale state ends (R55, R60, R61). -/
def State.limits (s : State) (stamp : Nat) (dis chg : Word32) : State :=
  let was := s.pba.stale
  let s := s.modPba fun k => { k with
    oldDis := if k.limStamp = stamp then k.oldDis else k.limDis
    oldChg := if k.limStamp = stamp then k.oldChg else k.limChg
    oldStale := if k.limStamp = stamp then k.oldStale
      else k.stale || decide (k.limStamp + staleMs s * msTk ≤ stamp)
    limDis := dis, limChg := chg, limStamp := stamp, stale := false }
  if was then s.record bPBA 0xFF 6 else s

/-- A battery-limit frame (R61). -/
def State.limitFrame (s : State) (stamp : Nat) (bs : List Byte) : State :=
  if bs.length < 8 then s.tally 22
  else s.limits stamp (BitVec.ofNat 32 (leAt bs 0 4)) (BitVec.ofNat 32 (leAt bs 4 4))

/-- PBA_LIMSRC names CAN channel ch with identifier `ident` (R61, R351). -/
def limCan (s : State) (ch : Fin 6) (ident : Nat) : Bool :=
  pbaLimsrcValid s && !pbaLimsrcKind s && pbaLimsrcChannel s = ch.val && pbaLimsrcStream s = ident

/-- PBA_LIMSRC names a fabric stream (R61). -/
def limStream (s : State) (st : Nat) : Bool :=
  pbaLimsrcValid s && pbaLimsrcKind s && pbaLimsrcStream s = st

/-- The DC-link voltage of a MEAN of the PBA_VDC window, in V (R39). What a negative MEAN shows in the
unsigned field the spec does not say: 0 V (DESIGN CHOICE, log 113). -/
def State.vdcResult (s : State) (mean : Word24) : State :=
  let v := (mean.toInt * (pbaVdcVfs s : Nat)).tdiv (2 ^ 23 : Nat)
  let volts := v.toNat
  s.modPba fun k => { k with
    volts := volts
    hvLow := if volts < pbaModeCfgHvOff s then some (k.hvLow.getD s.clk.now) else none }

end Sys2Proof.Machine
end

