-- ==== Sys2Proof/Machine/CaptureOps.lean ====
section
/-!
DEFINITION. Fast capture: windows in effect, their validity, sealing, taint, set delivery and the
blocks that take sealed results (R65 to R78, R195, R196, R419).
-/

namespace Sys2Proof.Machine

open Sys2Proof

/-- CAP changed by `f`. -/
def State.modCap (s : State) (f : Cap → Cap) : State := { s with cap := f s.cap }

/-- The results of window w of channel k changed by `f`. -/
def State.modRes (s : State) (k : Fin 24) (w : Fin 8) (f : WinRes → WinRes) : State :=
  s.modCap fun c => { c with res := vupd c.res k fun v => vupd v w f }

def all7 : List (Fin 7) := [0, 1, 2, 3, 4, 5, 6]

/-- Every window, by channel and then by number. -/
def allWins : List (Fin 24 × Fin 8) := all24.flatMap fun k => all8.map fun w => (k, w)

/-- The windows of all channels in one carrier period. -/
abbrev Wins := Vector (Vector Win 8) 24

/-- One of them. -/
def Wins.at (ws : Wins) (y : Fin 24 × Fin 8) : Win := ws[y.1][y.2]

/-! ### Windows in effect (R69, R70) -/

/-- The carrier group of set i. What becomes of a set whose GROUP is 7, which is no group, the spec
does not say: its windows are never loaded and never seal (DESIGN CHOICE, log 121). -/
def setGroup (s : State) (i : Nat) : Option (Fin 7) :=
  let g := capSetGroup s i
  if h : g < 7 then some ⟨g, h⟩ else none

/-- The registers of window w of channel k, taken into effect. -/
def loadWin (s : State) (k : Fin 24) (w : Fin 8) : Win :=
  { en := capWopenEn s k w, set := Fin.ofNat 16 (capWopenSet s k w), opn := capWopenOpen s k w
    close := capWcloseClose s k w, mask := capWcloseTaintMask s k w, slot := capWstatSlot s k w }

/-- Offset of the sealing tick from the period start: CLOSE, or the period where the window cannot
close within it (R69). -/
def sealOff (x : Win) (period : Nat) : Nat :=
  if x.opn < x.close ∧ x.close ≤ period then x.close else period

/-- The first three conditions of R69, for the carrier periods `per`. -/
def winFits (s : State) (per : Vector Nat 7) (x : Win) : Bool :=
  x.en && decide (x.opn < x.close) && capSetEn s x.set && decide (capSetBaseWord s x.set ≤ 959)
    && (match setGroup s x.set with
      | some g => decide (x.close ≤ per[g])
      | none => false)

/-- The enabled windows of set i. -/
def membersOf (ws : Wins) (i : Fin 16) : List (Fin 24 × Fin 8) :=
  allWins.filter fun x => (ws.at x).en && (ws.at x).set = i

/-- A window is valid (R69). -/
def winValid (s : State) (ws : Wins) (per : Vector Nat 7) (y : Fin 24 × Fin 8) : Bool :=
  let x := ws.at y
  winFits s per x && !((membersOf ws x.set).any fun z =>
    z != y && winFits s per (ws.at z) && (ws.at z).slot = x.slot)

/-- The valid windows of set i. -/
def validOf (s : State) (ws : Wins) (per : Vector Nat 7) (i : Fin 16) : List (Fin 24 × Fin 8) :=
  (membersOf ws i).filter fun x => winValid s ws per x

/-! ### A carrier period starts (R70, R77) -/

/-- A window of group g, by the set in effect, or by the set of its registers while it is not
enabled. -/
def winInGroup (s : State) (g : Fin 7) (k : Fin 24) (w : Fin 8) : Bool :=
  let x := s.cap.win[k][w]
  if x.en then setGroup s x.set = some g
  else capWopenEn s k w && setGroup s (capWopenSet s k w) = some g

/-- A window that closes on the period start and has not been sealed is owed its seal. -/
def priorWin (s : State) (g : Fin 7) (start : Nat) (x : Win) : Win :=
  { x with owed := x.en && !x.sealed && (match s.cap.pstart[g] with
    | some p => decide (p + sealOff x s.cap.period[g] = start)
    | none => false) }

/-- CAP learns of a period start of group g with its length: the registers of the group's windows take
effect; the windows of the period that ends are kept for those that close on its end (R70, R74). -/
def State.capPeriod (s : State) (g : Fin 7) (start len : Nat) : State :=
  let wins : Wins := Vector.ofFn fun k => Vector.ofFn fun w =>
    if winInGroup s g k w then loadWin s k w else s.cap.win[k][w]
  let prior : Wins := Vector.ofFn fun k => Vector.ofFn fun w =>
    if winInGroup s g k w then priorWin s g start s.cap.win[k][w] else s.cap.prior[k][w]
  let inG (i : Fin 16) : Bool := setGroup s i = some g
  s.modCap fun c => { c with
    win := wins, prior := prior
    priorDelivered := Vector.ofFn fun i => if inG i then c.delivered[i] else c.priorDelivered[i]
    delivered := Vector.ofFn fun i => if inG i then false else c.delivered[i]
    pstart := c.pstart.set g (some start)
    period := c.period.set g len
    priorPeriod := c.priorPeriod.set g c.period[g]
    notices := c.notices.filter fun n => start < n.2 + 900000 }

/-- POS learns of a period start of group g: the deliveries of the period fall due OFFSET after it, and
with TWICE half a period later as well (R151). -/
def State.posPeriod (s : State) (g : Fin 7) (start len : Nat) : State :=
  s.each all2 fun s e =>
    if posDelivEn s e && posDelivGroup s e = g.val then
      let x := start + posDoffOffset s e
      s.modEnc e fun k => { k with
        due := (k.due.filter fun t => start < t + 4) ++ (if posDelivTwice s e then [x, x + len / 2] else [x]) }
    else s

/-- CAP and POS are told of a period start. -/
def State.periodStarts (s : State) (g : Fin 7) (start len : Nat) : State :=
  (s.capPeriod g start len).posPeriod g start len

/-! ### Sealing (R65, R71, R73, R75) -/

/-- The reference of a channel (R64). -/
def refOf (s : State) (k : Fin 24) : Fin 3 :=
  match capChRef s k with
  | 1 => 1
  | 2 => 2
  | _ => 0

/-- A sample of stamp x is taken while reference r is unsettled (R67, R68). -/
def unsettledAt (s : State) (r : Fin 3) (x : Nat) : Bool :=
  decide (s.cap.unsetFrom[r] ≤ x)
    && (s.cap.settling[r] || (r = 1 && s.cap.extBad) || decide (x < s.cap.settledAt[r]))

/-- A raw code corrected with the trims of converter c, in 1/16 LSB (R65). -/
def corrected (s : State) (c : Fin 24) (raw : BitVec 12) : Int :=
  let v := s.cap.conv[c]
  clampI (roundDiv ((raw.toInt * 16 - v.offset) * v.gain) 32768) (-32768) 32752

/-- A clipped sample (R65). -/
def clipped (raw : BitVec 12) : Bool := raw = 0x800#12 || raw = 0x7FF#12

/-- An edge taints a window [opn, close) with a TAINT_MASK (R75). -/
def taints (s : State) (mask opn close : Nat) (n : Nat × Nat) : Bool :=
  bit mask n.1 && decide (n.2 + 80 < close) && decide (opn < n.2 + 80 + capSettleTicks s n.1)

/-- The converter that fed channel k up to tick x. -/
def feedAt (s : State) (k : Fin 24) (x : Nat) : Option (Fin 24) :=
  if x ≤ s.cap.moved[k] then s.cap.was[k] else s.cap.feed[k]

/-- A spare feeds another channel than its own. -/
def isShadow (k c : Fin 24) : Bool := c != k

/-- What a valid window seals with (R71, R73): the samples are those whose stamps lie in it. Whether an
empty window of a channel that a spare carries shows SHADOWED, as R85 gives for every window of it, or
not, as R73 needs a sample, the spec leaves open: it does not (DESIGN CHOICE, log 120). -/
def sealValues (s : State) (k : Fin 24) (x : Win) (r : WinRes) (close : Nat) (samples : List Sample) :
    WinRes :=
  let opn := close - x.close + x.opn
  let taint := s.cap.notices.any fun n => taints s x.mask opn close n
  match feedAt s k close with
  | none => { r with sum := 0, count := 0, mean := 0, stamp := close
                     flags := BitVec.ofNat 6 (maskOf [false, true, false, false, false, taint]) }
  | some c =>
    let xs := samples.filter fun q => opn ≤ q.stamp && q.stamp < close
    let sum := (xs.map fun q => corrected s c q.raw).sum
    let n := xs.length
    { r with
      sum := sum, count := n, stamp := close
      mean := if n = 0 then 0 else BitVec.ofInt 24 (satI 24 ((sum * 256).tdiv n))
      flags := BitVec.ofNat 6 (maskOf [false, n = 0, isShadow k c && n ≠ 0,
        xs.any fun q => unsettledAt s (refOf s k) q.stamp, xs.any fun q => clipped q.raw, taint]) }

/-- What an invalid window seals with (R69). Whether an edge in its interval also sets TAINT and counts
the spec does not say: it does not (DESIGN CHOICE, log 119). -/
def sealInvalid (r : WinRes) (close : Nat) : WinRes :=
  { r with sum := 0, count := 0, mean := 0, stamp := close, flags := 3 }

/-- A result that the consumers skip: EMPTY or INVALID. -/
def WinRes.blank (x : WinRes) : Bool := x.flags &&& 3 != 0

/-- A member of a delivery that the consumers skip. -/
def Member.blank (x : Member) : Bool := x.flags &&& 3 != 0

/-! ### What takes a sealed result (R39, R195, R196, R224, R251, R419) -/

/-- Monitor i is over for a MEAN; LIMIT is a signed Q0.23 value (R5, R195, R198). -/
def monitorOver (s : State) (i : Fin 8) (mean : Int) : Bool :=
  let lim : Int := sgn 24 (pspMonLimLimit s i)
  match pspMonCfgKind s i with
  | 1 => lim < mean
  | 2 => mean < lim
  | _ => decide (lim < mean.natAbs)

/-- PSP monitor i takes a result of the window it names (R195 to R197). -/
def State.monitor (s : State) (x : Member) (i : Fin 8) : State :=
  if !(pspMonCfgEn s i && pspMonCfgCh s i = x.ch.val && pspMonCfgWin s i = x.win.val) then s
  else if x.blank || (pspMonCfgSkipTaint s i && x.flags.getLsbD 5) then s
  else
    let o := monitorOver s i x.mean.toInt
    let n := if s.psp.mon[i].runOver == o then s.psp.mon[i].run + 1 else 1
    let s := { s with psp := { s.psp with mon := vupd s.psp.mon i fun k => { k with
      run := n, runOver := o, last := x.mean } } }
    let d := wrapN 32 x.mean.toInt
    if n < max (pspMonCfgCount s i) 1 ∨ s.psp.mon[i].past = o then s
    else
      let s := { s with psp := { s.psp with mon := vupd s.psp.mon i fun k => { k with past := o } } }
      if o then (s.tally 70).recordReport bPSP (0xC0 + i) 3 d x.stamp
      else s.record bPSP (0xC0 + i) 4 d x.stamp

/-- The command gate takes a delivered result of the PBA_VDC window (R39). -/
def State.gateResult (s : State) (x : Member) : State :=
  if pbaVdcCh s = x.ch.val && pbaVdcW s = x.win.val && !x.blank then s.vdcResult x.mean else s

/-- A thermal model takes a result (R419). -/
def State.thermal (s : State) (y : Fin 24 × Fin 8) (x : WinRes) (m : Fin 3) : State :=
  let n := if thmMsrcW s m = y.2.val then
      ([thmMsrcCh0 s m, thmMsrcCh1 s m, thmMsrcCh2 s m].filter fun c => c = y.1.val).length else 0
  let v := thmVdcCh s = y.1.val && thmVdcW s = y.2.val
  let a := x.mean.toInt.natAbs
  { s with thm := { s.thm with model := vupd s.thm.model m fun k => { k with
    n := k.n + n, sumSq := k.sumSq + n * (a * a), sumAbs := k.sumAbs + n * a
    nv := if v then k.nv + 1 else k.nv, sumV := if v then k.sumV + x.mean.toInt else k.sumV } } }

/-- The blocks that take every sealed result: the converter, the charger and the thermal models. -/
def State.sealedResult (s : State) (y : Fin 24 × Fin 8) : State :=
  let x := s.cap.res[y.1][y.2]
  let k := y.1.val
  let w := y.2.val
  let s := if dccWinVinCh s = k && dccWinVinW s = w then s.dccVin x.mean else s
  let s := if dccWinVoutCh s = k && dccWinVoutW s = w then s.dccVout x.mean x.stamp !x.blank else s
  if x.blank then s
  else
    let s := if obcWinVoutCh s = k && obcWinVoutW s = w then s.chgVoltage x.mean else s
    let s := if obcWinIoutCh s = k && obcWinIoutW s = w then s.chgCurrent x.mean else s
    let s := if obcWinGridW s = w && obcWinGridCh s ≤ k && k < obcWinGridCh s + 3 then s.chgGrid x.mean
      else s
    s.each all3 fun s m => s.thermal y x m

/-! ### Delivery (R77, R78) -/

/-- The member whose words a slot carries: the valid one, else the first invalid one. -/
def slotMember (d : Delivery) (slot : Nat) : Option Member :=
  match d.members.find? fun y => y.valid && y.slot = slot with
  | some y => some y
  | none => d.members.find? fun y => y.slot = slot

/-- The words of a delivery with their addresses. -/
def deliveryWords (d : Delivery) (base : Nat) : List (Nat × Word24) :=
  (base, BitVec.ofNat 24 d.tick) :: (List.range 32).flatMap fun j =>
    match slotMember d j with
    | some x =>
      [(base + 1 + 2 * j, x.mean), (base + 2 + 2 * j, BitVec.ofNat 24 (put x.flags.toNat 18 + x.count))]
    | none => []

/-- A set reaches the control die: its words are written, its engines are triggered, and the command
gate takes the results of its valid members (R39, R77, R92). -/
def State.deliver (s : State) (d : Delivery) : State :=
  let ws := deliveryWords d (capSetBaseWord s d.set)
  let es := enginesOf (capSetEngines s d.set)
  let s := s.each es fun s e => (ws.foldl (fun (s : State) x => s.ceWrite e x.1 x.2) s)
  let s := s.each es fun s e => s.trigger e (.set d.set d.tick)
  s.each (d.members.filter (·.valid)) State.gateResult

/-- PSP compares the results of the valid members of a set (R195, R196). -/
def State.compared (s : State) (d : Delivery) : State :=
  s.each (d.members.filter (·.valid)) fun s x => s.each all8 fun s i => s.monitor x i

/-- Window y as a member of a delivery, with its latest sealed values. -/
def memberOf (s : State) (ws : Wins) (valid : Bool) (y : Fin 24 × Fin 8) : Member :=
  let r := s.cap.res[y.1][y.2]
  { ch := y.1, win := y.2, valid := valid, slot := (ws.at y).slot, mean := r.mean, count := r.count
    flags := r.flags, stamp := r.stamp }

/-- A set that has not been delivered is complete: its valid windows have all been sealed (R77). -/
def setComplete (s : State) (ws : Wins) (per : Vector Nat 7) (i : Fin 16) (done : Bool) : Bool :=
  let valid := validOf s ws per i
  !done && !valid.isEmpty && valid.all fun y => (ws.at y).sealed

/-- The delivery of a complete set: its valid members and the invalid ones that have been sealed. -/
def deliveryOf (s : State) (ws : Wins) (per : Vector Nat 7) (i : Fin 16) (tick : Nat) : Delivery :=
  { set := i, tick := tick
    members := (membersOf ws i).filterMap fun y =>
      let v := winValid s ws per y
      if v || (ws.at y).sealed then some (memberOf s ws v y) else none }

/-- A complete set leaves for the control die: it has been delivered 120 tk after its completion (R18),
and PSP acts on its results 16 tk after it has received them (R196). -/
def State.sendSet (s : State) (d : Delivery) : State :=
  (s.launch (d.tick + 120) (.results d)).launch (d.tick + 136) (.compared d)

/-- A member in its place by channel and then by window. -/
def insMember (x : Member) : List Member → List Member
  | [] => [x]
  | y :: ys =>
    if x.ch < y.ch ∨ (x.ch = y.ch ∧ x.win < y.win) then x :: y :: ys else y :: insMember x ys

/-- An invalid member that seals on the completion tick of its set joins the delivery (R77). -/
def State.joinDelivery (s : State) (i : Fin 16) (x : Member) : State :=
  { s with flights := s.flights.map fun f => match f.2 with
    | .results d =>
      if d.set = i ∧ d.tick = x.stamp then (f.1, .results { d with members := insMember x d.members }) else f
    | _ => f }

/-- The tick on which a window is to be sealed next, if any: the end of the period before for a window
that closes on it, else its sealing tick in the present period (R69); with it, whether it is the
former. -/
def sealTick (s : State) (k : Fin 24) (w : Fin 8) : Option (Nat × Bool) :=
  let ends (x : Win) : Option (Fin 7 × Nat) := match setGroup s x.set with
    | some g => (s.cap.pstart[g]).map fun p => (g, p)
    | none => none
  if s.cap.prior[k][w].owed then (ends s.cap.prior[k][w]).map fun q => (q.2, true)
  else
    let x := s.cap.win[k][w]
    if !x.en || x.sealed then none
    else (ends x).map fun q => (q.2 + sealOff x s.cap.period[q.1], false)

end Sys2Proof.Machine
end

