-- ==== Sys2Proof/Machine/ModeOps.lean ====
section
/-!
DEFINITION. Changes of the axle mode, the brake test and the steps of the deliberate reset (R40, R41,
R138, R272, R274, R279, R280, R294, R377).
-/

namespace Sys2Proof.Machine

open Sys2Proof

/-! ### Steps of the deliberate reset (R280) -/

def LockStep.code : LockStep → Nat
  | .none => 0
  | .locked => 1
  | .armed => 2
  | .pressed => 3
  | .testing => 4

/-- RNG_LOCK.STEP changes; the change is recorded. -/
def State.lockTo (s : State) (st : LockStep) : State :=
  let old := s.rng.lock
  if old = st then s
  else (s.modRng fun k => { k with lock := st }).record bRNG 0xFF 8 (old.code + put st.code 4)

/-- The sequence is abandoned and starts again at LOCKED. -/
def State.abandonReset (s : State) : State :=
  ((s.tally 97).record bRNG 0xFF 10 s.rng.lock.code).lockTo .locked

/-! ### What a mode change does (R41, R138, R272, R274) -/

/-- Machine m takes a mode change (R41, R138). -/
def State.trxMode (s : State) (new : Mode) (m : Fin 2) : State :=
  let s := s.modTrx m fun k => { k with treq := 0, sreq := 0, reqSpeed := false, dirty := true }
  match new, s.trx.m[m].state with
  | .drive, .idle =>
    (s.modTrx m fun k => { k with state := .run, speedMode := false, tdem := 0 }).refreshTok (groupOf m)
  | .safeHold, .idle | .lockout, .idle => s
  | .safeHold, _ | .lockout, _ =>
    s.modTrx m fun k => { k with state := .safe, tdem := 0, lockRun := 0, restart := false }
  | .standby, .safe | .standby, .relocked | .off, .safe | .off, .relocked => s.toIdle m
  | _, _ => s

/-- Brakes are applied on entry to these modes (R274). -/
def Mode.appliesBrakes : Mode → Bool
  | .off | .charge | .service | .safeHold | .lockout => true
  | _ => false

/-- A row of MODE 0 that a mode change from `old` releases (R272). -/
def modeReleases (s : State) (old : Mode) (a : ActiveRow) : Bool :=
  rowMode s a.row = 0 && !rngActAuto s a.row && rowGone s a
    && (!rngActRestartable s a.row || old == .drive)

/-- LOCKOUT begins or ends with the mode (R280). -/
def State.modeLock (s : State) (old new : Mode) : State :=
  if new = .lockout then s.lockTo .locked else if old = .lockout then s.lockTo .none else s

/-- What the converter and the charger do as the mode enters or leaves OFF (R212, R230, R251). -/
def State.modeSupply (s : State) (old new : Mode) : State :=
  if new = .off then (if old = .standby then s.dccOff.chgStop else s.dccOff)
  else if old = .off ∧ new = .standby then s.dccStandby else s

/-- The axle mode changes with a cause: 0 command, 1 DC-link voltage, 2 reaction, 3 end of a ramp or
hand-over (R41). A charge-start request that still waits is cleared: the supervisor returns to IDLE
(R41; that IDLE is where it returns to is a DESIGN CHOICE, log 127). -/
def State.setMode (s : State) (new : Mode) (cause : Nat) : State :=
  let old := s.pba.mode
  if old = new then s
  else
    let s := s.modPba fun k => { k with
      mode := new, prev := old, toMode := none
      traction := if new = .drive then Vector.replicate 2 none else k.traction }
    let s := s.record bPBA 0xFF 2 (old.code + put new.code 8 + put cause 16)
    let s := s.each (machines s) fun s m => s.trxMode new m
    let s := if s.chg.state = .wait then s.chgTo .idle else s
    let s := if new.appliesBrakes then s.applyBrakes else s
    let s := (s.modeLock old new).modeSupply old new
    if cause = 0 ∨ cause = 3 then s.releaseRows (modeReleases s old) else s

/-- STANDBY, or OFF while the DC link is below HV_OFF (R40). -/
def restMode (s : State) : Mode := if s.pba.volts < pbaModeCfgHvOff s then .off else .standby

/-! ### Domains that a mode needs (R377) -/

/-- The domains that hold a block enabled in the image: SKD, CAN, AXB and OBC. -/
def neededDomains (s : State) : List (Fin 10) :=
  ([(6, all8.any fun p => skdPortEn s p), (7, (List.range 6).any fun c => canCfgEn s c),
    (8, all3.any fun b => axbCtlEn s b), (9, obcCfgEn s)] : List (Fin 10 × Bool)).filterMap fun x =>
      if x.2 then some x.1 else none

/-- Every needed domain shows ON. -/
def domainsReady (s : State) : Bool := (neededDomains s).all fun d => domOn s d

/-- Domain d requested on (R376). -/
def State.turnOn (s : State) (d : Fin 10) : State :=
  { s with sys := { s.sys with
    pdctl := s.sys.pdctl ||| BitVec.ofNat 10 (2 ^ d.val)
    dom := if s.sys.dom[d] = .on then s.sys.dom else s.sys.dom.set d .turningOn } }

/-- A mode change that first turns on the domains it needs (R377). -/
def State.enterMode (s : State) (new : Mode) : State :=
  if domainsReady s then s.setMode new 0
  else (s.each (neededDomains s) State.turnOn).modPba fun k => { k with toMode := some new }

/-! ### The end of an exit ramp (R138) -/

/-- Some machine ramps out, and TDEM is 0 on every machine: none drives still, or again (R138). -/
def exitDone (s : State) : Bool :=
  (machines s).any (fun m => s.trx.m[m].state == .exit) &&
    (machines s).all fun m =>
      s.trx.m[m].tdem == 0 && s.trx.m[m].state != .run && s.trx.m[m].state != .fly

/-- The machines that ramped out reach IDLE, their groups are held open, the mode is STANDBY. -/
def State.finishExit (s : State) : State :=
  let ms := (machines s).filter fun m => s.trx.m[m].state == .exit
  let s := s.each ms fun s m => (s.releaseGroup (groupOf m)).toIdle m
  s.setMode .standby 3

/-- An accepted MODE_REQ STANDBY in DRIVE (R40, R138): machines in RUN and FLY ramp out; with none the
mode becomes STANDBY at once. -/
def State.startExit (s : State) : State :=
  let ms := (machines s).filter fun m => s.trx.m[m].state == .run || s.trx.m[m].state == .fly
  let s := s.each ms fun s m =>
    let full : Int := tmaxOf s m
    s.modTrx m fun k => { k with
      state := .exit, dirty := true, restart := false
      tdem := if k.speedMode && k.state == .run then full else k.tdem }
  if ms.isEmpty && !((machines s).any fun m => s.trx.m[m].state == .exit) then s.setMode .standby 0 else s

/-! ### The brake test (R279) -/

/-- The RESULT codes of a brake test. -/
def testPass : Nat := 1
def testMoved : Nat := 2
def testTorque : Nat := 3
def testAborted : Nat := 4

/-- RNG_BTEST changed by `f`. -/
def State.modTest (s : State) (f : BrakeTest → BrakeTest) : State :=
  s.modRng fun k => { k with test := f k.test }

/-- Every FAILED receive entry waits again as the deliberate reset completes (R294). -/
def State.blzRestart (s : State) (i : Fin 64) : State :=
  if s.blz.conn[i].state = .failed then
    ({ s with blz := { s.blz with conn := vupd s.blz.conn i fun k => { k with
        state := .waiting, since := s.clk.now } } }).record bBLZ (0xC0 + blzCoptRgrp s i) 8
      (i.val + put s.blz.conn[i].seq 16)
  else s

/-- The deliberate reset completes: every row and the reaction of R278 are released (R272, R280). R41
names no cause for this mode change: it is shown as 0 (DESIGN CHOICE, log 128). -/
def State.completeReset (s : State) : State :=
  let s := s.lockTo .none
  let s := s.releaseRows fun _ => true
  let s := s.modRng fun k => { k with brakeHold := false }
  let s := s.each [0, 1] State.clearSet
  let s := s.each [0, 1] State.freeGroup
  let s := s.each all64 State.blzRestart
  s.setMode (restMode s) 0

/-- The TRACTION value that holds group g revoked: of its lowest active row, else 1, that of the fixed
reactions (R262, R270, R278). -/
def heldTraction (s : State) (g : Fin 4) : Nat :=
  if activeTraction s g = 0 then 1 else activeTraction s g

/-- B4: ENABLE and TDEM 0, the tokens released on the holders' behalf; in LOCKOUT the revocations return,
each with its TRACTION value, so that a speed-dependent pattern goes on following the speed (R271,
R279). -/
def State.testB4 (s : State) : State :=
  let s := s.modRng fun k => { k with lifted := (k.lifted.set 0 false).set 1 false }
  let s := s.each [0, 1] fun s g =>
    let s := s.releaseGroup g
    if revokedBy s g then s.dispatch g (patternFor s g (heldTraction s g)) (heldTraction s g) else s
  s.each (machines s) fun s m => s.modTrx m fun k => { k with dirty := true }

/-- A brake test ends with a result; B4 runs after every ending (R279, R280). -/
def State.endTest (s : State) (result : Nat) : State :=
  let k := s.rng.test
  let s := s.modTest fun k => { k with step := 0, result := result, reset := false }
  let s := s.testB4
  let s := s.tally 95
  let s := if result = testMoved ∨ result = testTorque then
      (s.tally 96).recordReport bRNG 0xFF 5 (result + put (min (max k.move[0] k.move[1]) 65535) 16)
    else s.record bRNG 0xFF 9 result
  if k.reset && s.rng.lock == .testing then
    (if result = testPass then s.completeReset else s.lockTo .locked)
  else s

/-- Both channels are applied and show no cause (R279). -/
def brakesSound (s : State) : Bool :=
  all2.all fun n => !s.sbc.ch[n].energised && s.sbc.ch[n].faults == 0

/-- A brake test starts with a torque in 0.01 N·m: B1, B2 and the start of B3 (R279). -/
def State.startTest (s : State) (torque : Int) (reset : Bool) : State :=
  let s := s.modTest fun k => { k with
    torque := torque, reset := reset, start := s.clk.now, first := none, torqueOk := Vector.replicate 2 false
    startCnt := Vector.replicate 2 0, move := Vector.replicate 2 0 }
  if !(axleStill s && brakesSound s) then s.endTest testAborted
  else
    let s := s.each (machines s) fun s m =>
      let e := encOf s m
      (s.latchEnc e s.clk.now).modTest fun k => { k with startCnt := k.startCnt.set m (countOf s e) }
    let s := s.modTest fun k => { k with step := 3 }
    let s := s.modRng fun k => { k with lifted := (k.lifted.set 0 true).set 1 true }
    let s := s.each [0, 1] State.liftGroup
    s.each (machines s) fun s m => s.modTrx m fun k => { k with dirty := true }

/-- A row fires or standstill is lost: steps 2 to 4 of the reset are abandoned and a running test is
aborted (R279, R280). -/
def State.haltTest (s : State) : State :=
  let s := match s.rng.lock with
    | .armed | .pressed | .testing => s.abandonReset
    | _ => s
  if s.rng.test.step = 3 then s.endTest testAborted else s

/-- The test and the reset watch standstill. -/
def State.watchStill (s : State) : State := if axleStill s then s else s.haltTest

end Sys2Proof.Machine
end

