-- ==== Sys2Proof/Machine/ReactionOps.lean ====
section
/-!
DEFINITION. The reaction unit: evaluation of fault reports, combined actions, decisions of reporting
sets, the fixed reactions and the watch over causes (R22, R190 to R194, R262, R268 to R272, R278).
-/

namespace Sys2Proof.Machine

open Sys2Proof

/-! ### Causes over time (R272) -/

/-- The ticks since which the causes of the active rows have been gone. -/
def State.watchRows (s : State) : State :=
  s.modRng fun k => { k with active := k.active.map fun a => { a with
    goneSince := if rowGone s a then some (a.goneSince.getD s.clk.now) else none } }

/-- Two reports of the same cause; fault commas of different kinds have different causes (R186). -/
def sameCause (a b : Report) : Bool :=
  a.block = b.block && a.unit = b.unit && a.event = b.event && a.sub = b.sub
    && bits a.f.toNat 6 4 = bits b.f.toNat 6 4

/-- A row becomes active for a report, in row order, or takes a further cause. -/
def addCause (r : Nat) (q : Report) : List ActiveRow → List ActiveRow
  | [] => [{ row := r, causes := [q] }]
  | a :: as =>
    if r < a.row then { row := r, causes := [q] } :: a :: as
    else if a.row = r then
      { a with causes := q :: a.causes.filter fun c => !sameCause c q, goneSince := none } :: as
    else a :: addCause r q as

/-- Row r is active. -/
def rowActive (s : State) (r : Nat) : Bool := s.rng.active.any fun a => a.row = r

/-! ### The oldest reports (R268) -/

/-- Reports in ascending block and then unit. -/
def insReport (q : Report) : List Report → List Report
  | [] => [q]
  | x :: xs =>
    if q.block < x.block ∨ (q.block = x.block ∧ q.unit < x.unit) then q :: x :: xs
    else x :: insReport q xs

/-- The receipt tick of the oldest report. -/
def oldestRx (l : List Report) : Option Nat :=
  l.foldl (fun (m : Option Nat) q => some (match m with
    | some x => min x q.rx
    | none => q.rx)) none

/-- The reports received on one tick, in the order of their evaluation. -/
def batchOf (rx : Nat) (l : List Report) : List Report :=
  (l.filter fun q => q.rx = rx).foldl (fun acc q => insReport q acc) []

/-- A FAULT_COMMA report that has not joined a set: its link and group (R190, R193). -/
def lateComma (s : State) (q : Report) : Option (Fin 12 × Fin 4) :=
  if h : q.unit - 14 < 12 then
    let l : Fin 12 := ⟨q.unit - 14, h⟩
    if q.block = bGLK && q.event = 4 && q.sub = 0 then (linkGroup s l).map fun g => (l, g) else none
  else none

/-! ### Combined actions (R270) -/

/-- The mode code that firing rows ask for: 0 none, 1 SAFE_HOLD, 2 LOCKOUT. -/
def askedMode (s : State) (rows : List Nat) : Nat := rows.foldl (fun m r => max m (rowMode s r)) 0

/-- The mode after a reaction (R40). -/
def modeAfter (s : State) (rows : List Nat) : Mode :=
  match askedMode s rows with
  | 0 => s.pba.mode
  | 1 => if s.pba.mode = .lockout then .lockout else .safeHold
  | _ => .lockout

/-- AUX for bridge b: of the lowest firing row with an action on it. -/
def auxOf (s : State) (rows : List Nat) (b : Fin 3) : Nat :=
  match lowestRow rows fun r => rowAux s r ≠ 0 && bit (rngScopeBridges s r) b with
  | some r => rowAux s r
  | none => 0

/-- One firing recorded: REACTION, its counts and its fault-log copy (R268, R281, R283). -/
def State.recordFiring (s : State) (q : Report) (lowest : Nat) (mode : Mode) (r : Nat) : State :=
  let detail := r + put q.block 8 + put q.event 16 + put q.f.toNat 24
  let payload := rd s (0x70000408 + lowest * 0x10) + put mode.code 32
  let w := eventWord s s.clk.now bRNG q.unit 6 detail payload
  let s := (s.tally 91).record bRNG q.unit 6 detail payload
  let s := if rowActive s r then s.tally 92 else s
  if rngActLog s r then s.logRecord w else s

/-- The rows that fire for a report, recorded and made active. -/
def State.fireReport (s : State) (mode : Mode) (q : Report) (rows : List Nat) : State :=
  let low := (lowestRow rows fun _ => true).getD 127
  let s := s.modRng fun k => { k with last := some q }
  rows.foldl (fun (s : State) r =>
    (s.recordFiring q low mode r).modRng fun k => { k with active := addCause r q k.active }) s

/-! ### Patterns of a reaction (R191 to R193, R271) -/

/-- A late report joins the set of its group (R193). -/
def State.joinLate (s : State) (q : Report) : State :=
  match lateComma s q with
  | some (l, g) => s.modSet g fun k => k.join s l q.f q.rx
  | none => s

/-- The pattern of a set that has grown: kept where the permitted side still matches, all open
otherwise (R193). -/
def grownPattern (s : State) (g : Fin 4) : Pattern :=
  if g.val < 2 && s.rng.pattern[g] = (permitted s g).short then s.rng.pattern[g] else .allOpen

/-- TRACTION `trac` of the firing rows takes effect on group g, or waits for the decision of an open
set; `grown` says that the set has grown. -/
def State.reactGroup (s : State) (rows : List Nat) (grown : Bool) (g : Fin 4) : State :=
  let trac := tractionOf s rows g
  if setOpen s g then
    if trac = 0 then s else s.modRng fun k => { k with trac := k.trac.set g trac }
  else if grown then
    let p := grownPattern s g
    let s := s.decided g p 2
    if trac = 0 && s.rng.pattern[g] = .none then s.supplyLoss g p
    else s.applyTraction g p (if trac = 0 then s.rng.trac[g] else trac)
  else if trac = 0 then s
  else s.applyTraction g (patternFor s g trac) trac

/-- AUX of the firing rows takes effect on bridge b (R271). -/
def State.reactBridge (s : State) (rows : List Nat) (b : Fin 3) : State :=
  let a := auxOf s rows b
  if a = 0 || (s.axb.b[b].state == .held && s.axb.b[b].island = a) then s else s.axbPattern b a

/-- A channel named by BRAKE is commanded applied (R271). -/
def State.reactBrake (s : State) (rows : List Nat) (n : Fin 2) : State :=
  if rows.any fun r => bit (rngActBrake s r) n then s.applyBrake n else s

/-- The combined actions of firing rows (R270, R271); `grown` are the groups whose set has grown. -/
def State.react (s : State) (rows : List Nat) (grown : List (Fin 4)) : State :=
  let mode := modeAfter s rows
  let s := s.each all4 fun s g => s.reactGroup rows (grown.contains g) g
  let s := s.each all3 fun s b => s.reactBridge rows b
  let s := if rows.any (fun r => rngActConvOff s r) then s.dccHold else s
  let s := if rows.any (fun r => rngActChgOff s r) then s.chgOff else s
  let s := s.each all2 fun s n => s.reactBrake rows n
  s.setMode mode 2

/-- The reports received on one tick are evaluated (R268). -/
def State.evaluateReports (s : State) (batch : List Report) : State :=
  let fired := batch.map fun q => (q, firing s q)
  let rows := fired.flatMap (·.2)
  let mode := modeAfter s rows
  let grown := (batch.filterMap fun q => (lateComma s q).map (·.2)).filter fun g => s.psp.set[g].inForce
  let s := s.haltTest
  let s := fired.foldl (fun (s : State) x => s.fireReport mode x.1 x.2) s
  let s := batch.foldl State.joinLate s
  s.react rows grown

/-- A report of the batch waits for the decision of its set (R190, R193). -/
def batchWaits (s : State) (batch : List Report) : Bool :=
  batch.any fun q => match lateComma s q with
    | some x => setOpen s x.2
    | none => false

/-! ### The decision of a set (R190, R191) -/

/-- The set of group g is decided; the pattern is dispatched where an active row names the group, and
is the link-loss pattern in any case (R191, R192). -/
def State.decideSet (s : State) (g : Fin 4) : State :=
  let trac := if s.rng.trac[g] ≠ 0 then s.rng.trac[g] else activeTraction s g
  let p := patternFor s g (if trac = 0 then 1 else trac)
  let s := s.decided g p 1
  if activeTraction s g ≠ 0 then s.applyTraction g p trac else s.supplyLoss g p

/-! ### Speed (R22, R132, R271) -/

/-- The speed-dependent pattern of group g is chosen anew. -/
def State.rechoose (s : State) (g : Fin 4) : State :=
  match machineOf g with
  | none => s
  | some m =>
    if s.rng.trac[g] = 1 && s.rng.pattern[g] ≠ .none && !setOpen s g && !s.rng.failed && machOn s m then
      let p := speedPattern s m s.rng.pattern[g] (permitted s g)
      if p = s.rng.pattern[g] then s else s.dispatch g p 1
    else s

/-! ### Fixed reactions (R262, R278, R418) -/

/-- TA and TB take the action of TRACTION 1 without reference to the table. -/
def State.fixedTraction (s : State) : State :=
  s.each [0, 1] fun s g => s.applyTraction g (patternFor s g 1) 1

/-- An island failure (R262). A brake test in progress ends with it: the cores that run it have failed
(DESIGN CHOICE, log 72). What its fault-log record holds beside its stamp and source the spec
does not say. -/
def State.failIsland (s : State) : State :=
  if s.rng.failed then s
  else
    let s := s.modRng fun k => { k with
      failed := true, alive := false, lifted := Vector.replicate 4 false, test := { k.test with step := 0 } }
    let s := s.fixedTraction
    let s := s.each [2, 3] fun s g => s.applyTraction g .allOpen 1
    let s := s.each all3 fun s b => s.axbPattern b 1
    let s := s.applyBrakes
    let d := s.draw
    d.1.logRecord (eventWord s s.clk.now bRNG 0xFF (d.2 % 1024) (d.2 / 1024 % 2 ^ 32) (d.2 / 2 ^ 42))

end Sys2Proof.Machine
end

