-- ==== Sys2Proof/Machine/Elapse.lean ====
section
/-!
DEFINITION. Time passes up to the tick of a command: what is under way inside the device arrives on its
tick, in order (R18, R20, R39, R77, R190, R196).
-/

namespace Sys2Proof.Machine

open Sys2Proof

/-- The island will hold a comma that it receives on tick `rx` in the set of its group: the set is not
in force or still collects its first reports (R190). -/
def joinsSet (s : State) (l : Fin 12) (rx : Nat) : Option (Fin 4) :=
  match linkGroup s l with
  | some g =>
    if !s.rng.failed && (!s.psp.set[g].inForce || decide (rx < s.psp.set[g].opened + 80)) then some g
    else none
  | none => none

/-- The report of a comma of link l received on tick `rx` is marked as held by its set. -/
def markJoined (l : Fin 12) (f : Byte) (rx : Nat) (q : Report) : Report :=
  if q.rx = rx ∧ q.block = bGLK ∧ q.unit = 14 + l.val ∧ q.event = 4 ∧ q.f = f then { q with sub := 1 } else q

/-- The island receives a fault comma of link l with byte F on tick `rx` (R20, R190). -/
def State.receiveComma (s : State) (l : Fin 12) (f : Byte) (rx : Nat) : State :=
  match joinsSet s l rx with
  | some g => (s.modSet g fun k => k.join s l f rx).modRng fun k => { k with
      net := k.net.map (markJoined l f rx) }
  | none => s

/-- What has been under way arrives on tick `t`. -/
def State.land (s : State) (t : Nat) : Flight → State
  | .results d => s.deliver d
  | .compared d => (s.compared d).watchRows
  | .comma l f => s.receiveComma l f t

/-- Ticks of the crystal that pass before a command whose tick is `t`: a command brings the tick that the
time base would show if no slewed tick fell since the latest command. -/
def passed (s : State) (t : Tick) : Nat := if s.clk.locked then t - s.clk.now else 0

/-- The slewed ticks among them: every 2,000th, until the correction is reached (R334). -/
def slewedTicks (s : State) (t : Tick) : Nat := min s.skd.slew.natAbs ((s.skd.slewFor + passed s t) / 2000)

/-- The correction that the slewed ticks add to the count. -/
def slewShift (s : State) (t : Tick) : Int := s.skd.slew.sign * slewedTicks s t

/-- The count of the time base at the tick of a command: a slewed tick advances it by 2 or holds it
(R334). -/
def countAt (s : State) (t : Tick) : Nat := ((t : Int) + slewShift s t).toNat

/-- The correction in progress after `n` ticks of the crystal with a shift of `d`. The power die's copy
runs on CLK_ADC and follows through its beacons (R29, R334). -/
def State.slewed (s : State) (n : Nat) (d : Int) : State :=
  if s.skd.slew = 0 then s
  else
    let q : Int := s.clk.phase - d
    { s with
      clk := { s.clk with power := (s.clk.power + 40 * (q / 40)).toNat, phase := (q % 40).toNat }
      skd := { s.skd with slew := s.skd.slew - d, slewFor := (s.skd.slewFor + n) % 2000 } }

/-- The state at the tick of a command: what arrives by then arrives, each on its own tick, and the time
base moves on. -/
def State.at (s : State) (t : Tick) : State :=
  let c := countAt s t
  let due := s.flights.filter fun x => x.1 ≤ max c s.clk.now
  let u := { s with flights := s.flights.filter fun x => !(x.1 ≤ max c s.clk.now) }
  ((due.foldl (fun (s : State) x => (s.clockTo x.1).land x.1 x.2) u).clockTo c).slewed (passed s t)
    (slewShift s t)

end Sys2Proof.Machine
end

