-- ==== Sys2Proof/Machine/Image.lean ====
section
/-!
DEFINITION. The Fuost image in the NOR: slots, headers, partitions and records (R395 to R397).
-/

namespace Sys2Proof.Machine

open Sys2Proof

/-- Half the size of the NOR, where slot B starts (DESIGN CHOICE, log 10). -/
def slotSize : Nat := 0x2000000

/-- The base of a slot; true is slot B. -/
def slotBase (b : Bool) : Nat := if b then slotSize else 0

/-- A byte of the NOR; a byte nothing has written reads 0xFF (PRESUMED, log 10). -/
def norByte (s : State) (a : Nat) : Byte := sget 0xFF s.nor a

/-- Bytes of the NOR. -/
def norBytes (s : State) (a n : Nat) : List Byte := (List.range n).map fun i => norByte s (a + i)

/-- A little-endian number in the NOR. -/
def norNat (s : State) (a n : Nat) : Nat := leNat (norBytes s a n)

/-- Where the header of a slot begins. -/
def hdrBase (b : Bool) : Nat := slotBase b + 0x1000

/-- GENERATION of a slot. -/
def generation (s : State) (b : Bool) : Nat := norNat s (slotBase b) 4

def hdrVersion (s : State) (b : Bool) : Nat := norNat s (hdrBase b + 4) 4
def hdrSecver (s : State) (b : Bool) : Nat := norNat s (hdrBase b + 8) 1
def hdrSplit (s : State) (b : Bool) : Nat := norNat s (hdrBase b + 9) 1
def hdrParts (s : State) (b : Bool) : Nat := norNat s (hdrBase b + 10) 1
def hdrImage (s : State) (b : Bool) : Nat := norNat s (hdrBase b + 16) 8

/-- An entry of the header. -/
structure PartEntry where
  typ : Nat
  offset : Nat
  length : Nat
  digest : List Byte
deriving DecidableEq, Repr

/-- Entry e of a header. -/
def hdrEntry (s : State) (b : Bool) (e : Nat) : PartEntry :=
  let a := hdrBase b + 32 + 48 * e
  ⟨norNat s a 1, norNat s (a + 4) 4, norNat s (a + 8) 4, norBytes s (a + 16) 32⟩

/-- The entries in use, at most eight. -/
def hdrEntries (s : State) (b : Bool) : List PartEntry :=
  (List.range (min (hdrParts s b) 8)).map (hdrEntry s b)

/-- The entry of a TYPE. -/
def partEntry (s : State) (b : Bool) (typ : Nat) : Option PartEntry :=
  (hdrEntries s b).find? fun p => p.typ = typ

/-- The bytes of a partition. -/
def partBytes (s : State) (b : Bool) (p : PartEntry) : List Byte :=
  norBytes s (hdrBase b + p.offset) p.length

/-- A record: an address and the words written from it on. -/
structure ImgRec where
  addr : Nat
  words : List Word32
deriving DecidableEq, Repr

/-- Little-endian words of bytes; a last incomplete word is dropped. -/
def wordsOf : List Byte → List Word32
  | a :: b :: c :: d :: t => BitVec.ofNat 32 (leNat [a, b, c, d]) :: wordsOf t
  | _ => []

/-- The records of a partition; none where the bytes do not end with a record. `fuel` bounds their
number. -/
def parseRecs : Nat → List Byte → Option (List ImgRec)
  | _, [] => some []
  | 0, _ => none
  | fuel + 1, bs =>
    let n := leAt bs 4 4
    if bs.length < 8 + 4 * n then none
    else (parseRecs fuel (bs.drop (8 + 4 * n))).map fun rs =>
      ⟨leAt bs 0 4, wordsOf ((bs.drop 8).take (4 * n))⟩ :: rs

/-- The records of a partition of a slot. -/
def partRecs (s : State) (b : Bool) (typ : Nat) : Option (List ImgRec) :=
  match partEntry s b typ with
  | some p => let bs := partBytes s b p; parseRecs bs.length bs
  | none => none

/-- The address of the program record of an engine. -/
def progAddr (e : Fin 8) : Nat := 0xF0000000 + e.val * 0x10000

/-- The engine whose program a record is. -/
def progEngine (r : ImgRec) : Option (Fin 8) :=
  if r.addr % 0x10000 = 0 then
    (if h : r.addr / 0x10000 - 0xF000 < 8 then
      (if 0xF000 ≤ r.addr / 0x10000 then some ⟨r.addr / 0x10000 - 0xF000, h⟩ else none) else none)
  else none

/-- The program that records give an engine. -/
def progOf (rs : List ImgRec) (e : Fin 8) : Option (List Word32) :=
  (rs.find? fun r => progEngine r = some e).map (·.words)

/-- The words of a record with their addresses. -/
def ImgRec.items (r : ImgRec) : List (Nat × Word32) :=
  (List.range r.words.length).map fun i => (r.addr + 4 * i, r.words.getD i 0)

/-- The engine and the data word at a bus address (R116). -/
def dmemAt (a : Nat) : Option (Fin 8 × Nat) :=
  let d := a - 0x40080000
  if h : d / 0x2000 < 8 then
    (if 0x40080000 ≤ a ∧ 0x1000 ≤ d % 0x2000 then some (⟨d / 0x2000, h⟩, (d % 0x2000 - 0x1000) / 4) else none)
  else none

/-- The data words that records give an engine. -/
def dataOf (rs : List ImgRec) (e : Fin 8) : List (Nat × Word24) :=
  (rs.flatMap ImgRec.items).filterMap fun x =>
    match dmemAt x.1 with
    | some (e', j) => if e' = e then some (j, x.2.setWidth 24) else none
    | none => none

end Sys2Proof.Machine
end

