-- ==== Sys2Proof/Machine/StepOps.lean ====
section
/-!
DEFINITION. Standby engines in step and hand-over requests (R305, R306), and the RUN bit of an engine
(R91).
-/

namespace Sys2Proof.Machine

open Sys2Proof

/-! ### Comparison of commits (R305) -/

/-- Comparison group c changed by `f`. -/
def State.modStep (s : State) (c : Fin 7) (f : Step → Step) : State :=
  { s with red := { s.red with step := vupd s.red.step c f } }

/-- The token group of a comparison group 0 to 3. -/
def tokGroup (c : Fin 7) : Option (Fin 4) := if h : c.val < 4 then some ⟨c.val, h⟩ else none

/-- The comparison group of a token group. -/
def stepGroup (g : Fin 4) : Fin 7 := ⟨g.val, by omega⟩

/-- The active engine of a comparison group. -/
def stepActive (s : State) (c : Fin 7) : Option (Fin 8) :=
  match tokGroup c with
  | some g => s.red.tok[g].holder
  | none => some 6

/-- The partner of the active engine: RED_STBYg.PARTNER. -/
def stepPartner (s : State) (c : Fin 7) : Option (Fin 8) :=
  match tokGroup c with
  | some g => match s.red.tok[g].holder with
    | some h => all8.find? fun e => e != h && eligible s g e
    | none => none
  | none => if s.ce[(7 : Fin 8)].mirror = 6 then some 7 else none

/-- Both stage the same slots, and every slot differs by at most TOL. -/
def slotsMatch (tol : Nat) : List (Nat × Word24) → List (Nat × Word24) → Bool
  | [], [] => true
  | (i, x) :: xs, (j, y) :: ys => i == j && decide ((x.toInt - y.toInt).natAbs ≤ tol) && slotsMatch tol xs ys
  | _, _ => false

/-- The outcome of a comparison. -/
def State.stepResult (s : State) (c : Fin 7) (ok : Bool) : State :=
  let k := s.red.step[c]
  if ok then
    s.modStep c fun k => { k with
      run := min (k.run + 1) 255
      inStep := k.inStep || decide (max (redStepcfgStepPasses s) 1 ≤ k.run + 1) }
  else
    let s' := s.modStep c fun k => { k with run := 0, inStep := false }
    if k.inStep then
      (s'.tally 109).record bRED (0xC0 + c) 6
        ((match stepPartner s c with
          | some p => p.val
          | none => 0xF) + put k.run 8)
    else s'

/-- The partner runs a pass with this pass-start tick, so its commit may still come. -/
def partnerDue (s : State) (c : Fin 7) (pstart : Nat) : Bool :=
  match stepPartner s c with
  | some p => s.ce[p].state == .running && s.ce[p].pstart == pstart
  | none => false

/-- A kept commit of the active engine that never met its partner counts as a mismatch. -/
def State.stepOverdue (s : State) (c : Fin 7) (pstart : Nat) : State :=
  match s.red.step[c].act with
  | some a => if a.pstart = pstart then s
      else (s.modStep c fun k => { k with act := none }).stepResult c false
  | none => s

/-- Engine e commits slots to a group: comparison with the other engine's commit of the same
pass-start tick. -/
def State.compareCommit (s : State) (c : Fin 7) (e : Fin 8) (slots : List (Nat × Word24)) : State :=
  let pstart := s.ce[e].pstart
  let mine : Kept := ⟨e, pstart, slots⟩
  let tol := redStepcfgTol s
  if !redStbyEn s c then s
  else if stepActive s c = some e then
    let s := s.stepOverdue c pstart
    match s.red.step[c].part with
    | some p =>
      if p.pstart = pstart then
        (s.modStep c fun k => { k with act := none, part := none }).stepResult c
          (slotsMatch tol slots p.slots)
      else if partnerDue s c pstart then s.modStep c fun k => { k with act := some mine }
      else s.stepResult c false
    | none =>
      if partnerDue s c pstart then s.modStep c fun k => { k with act := some mine }
      else s.stepResult c false
  else if stepPartner s c = some e then
    match s.red.step[c].act with
    | some a =>
      if a.pstart = pstart then
        (s.modStep c fun k => { k with act := none, part := none }).stepResult c
          (slotsMatch tol a.slots slots)
      else s.modStep c fun k => { k with part := some mine }
    | none => s.modStep c fun k => { k with part := some mine }
  else s

/-! ### Hand-over requests (R306) -/

/-- A refused request. -/
def State.handRefused (s : State) (g : Fin 4) (target res : Nat) : State :=
  (s.modTok g fun k => { k with result := res, handing := none }).record bRED (0xC0 + g) 5
    (res + put target 4)

/-- A request to hand the token of g over to an engine. -/
def State.handRequest (s : State) (g : Fin 4) (target : Nat) (force : Bool) : State :=
  let k := s.red.tok[g]
  if h : target < 8 then
    let e : Fin 8 := ⟨target, h⟩
    let ready := eligible s g e && (s.ce[e].state == .idle || s.ce[e].state == .running)
    if k.state ≠ .held ∨ !ready ∨ k.holder = some e then s.handRefused g target 2
    else if !s.red.step[stepGroup g].inStep && !force then s.handRefused g target 3
    else s.modTok g fun k => { k with result := 1, handing := some e, handAt := s.clk.now }
  else s.handRefused g target 2

/-! ### CE_CTL.RUN (R91) -/

/-- CE_CTL.RUN of engine e written. -/
def State.writeRun (s : State) (e : Fin 8) (v : Bool) : State :=
  match s.ce[e].state, v with
  | .stopped, true => s.modCe e fun k => { k with
      state := .idle, run := true, setPend := false, timerPend := false, swPend := false }
  | .stopped, false => s.modCe e fun k => { k with run := false }
  | .idle, false => (s.modCe e fun k => { k with state := .stopped, run := false }).engineGone e
  | .idle, true => s
  | .running, v => s.modCe e fun k => { k with run := v }
  | .fault, false => s.modCe e fun k => { k with state := .stopped, run := false, cause := 0 }
  | .fault, true => s

/-! ### Program loads (R113) -/

/-- Words put into the program memory from instruction `i` on; a row that is written whole is free
of errors. -/
def Engine.loadWords (k : Engine) : Nat → List Word32 → Engine
  | _, [] => k
  | i, w :: ws => { k with
      pmem := sput 0 k.pmem i w
      pflips := sput [] k.pflips (i / 8) [] }.loadWords (i + 1) ws

/-- The bytes of program words as they lie in memory. -/
def wordBytes (ws : List Word32) : List Byte := ws.flatMap fun w => leBytes 4 w.toNat

/-- Words padded to whole rows of eight. -/
def padRows (ws : List Word32) : List Word32 := ws ++ List.replicate ((8 - ws.length % 8) % 8) 0

/-- A program is loaded from instruction `dest` on: CE_PCRC, the flag word, PROGRAM_LOADED. -/
def State.loadProgram (s : State) (e : Fin 8) (dest : Nat) (ws : List Word32) : State :=
  let crc := crc32c (wordBytes ws)
  (s.modCe e fun k => { k.loadWords dest ws with
    loadBusy := false, loadResult := 0, pcrc := BitVec.ofNat 32 crc
    flags := 0, flagsEnd := 0, rose := 0 }).record bCE (0x50 + e) 5 crc

end Sys2Proof.Machine
end

