-- ==== Sys2Proof/Machine/BootOps.lean ====
section
/-!
DEFINITION. The engine replacement of an activation: its steps, its end and its failures (R402 to
R404).
-/

namespace Sys2Proof.Machine

open Sys2Proof

/-- BOOT changed by `f`. -/
def State.modBoot (s : State) (f : Boot → Boot) : State := { s with boot := f s.boot }

/-- The activation changed by `f`. -/
def State.modAct (s : State) (f : Activation → Activation) : State :=
  s.modBoot fun k => { k with act := f k.act }

/-! ### Steps (R402, R403) -/

/-- The engine a step is about. -/
def BootTask.engine : BootTask → Fin 8
  | .stop e => e
  | .mirror _ => 7
  | .load e _ => e
  | .run e => e
  | .inStep _ e => e
  | .handOver _ e => e
  | .runAtCommit e => e

/-- The steps that bring new code to one standby engine of a group. -/
def standbyTasks (c : Fin 7) (e : Fin 8) : List BootTask := [.stop e, .load e true, .run e, .inStep c e]

/-- The steps for one traction pair: standby, hand-over, former holder. -/
def tracTasks (s : State) (m : Fin 2) : List BootTask :=
  let g := groupOf m
  let a := if m = 0 then (0 : Fin 8) else 2
  let holder := s.red.tok[g].holder.getD a
  let standby := if holder = a then a + 1 else a
  standbyTasks (stepGroup g) standby ++ [.handOver g standby] ++ standbyTasks (stepGroup g) holder

/-- The steps of a partition. -/
def actTasks (s : State) (part : Nat) : List BootTask :=
  let through (c : Fin 7) (e : Fin 8) (g : Fin 4) : List BootTask :=
    [.stop 7, .mirror e.val] ++ (standbyTasks c 7).drop 1 ++ [.handOver g 7] ++ standbyTasks c e
      ++ [.handOver g e]
  match part with
  | 2 => (machines s).flatMap (tracTasks s)
  | 3 => through 2 4 2
  | 4 => through 3 5 3
  | 5 => [.stop 7, .mirror 6] ++ (standbyTasks 6 7).drop 1 ++ [.stop 6, .load 6 true, .runAtCommit 6]
  | _ => []

/-- The engines a partition replaces. -/
def partEngines (part : Nat) : List (Fin 8) :=
  match part with
  | 2 => [0, 1, 2, 3]
  | 3 => [4, 7]
  | 4 => [5, 7]
  | 5 => [6, 7]
  | _ => []

/-- A step begins. -/
def State.beginTask (s : State) : BootTask → State
  | .stop e => s.writeRun e false
  | .mirror m => s.modCe 7 fun k => if k.state = .stopped then { k with mirror := m } else k
  | .load e _ => s.modCe e fun k => { k with loadBusy := true, loadFrom := s.clk.now }
  | .run e => s.writeRun e true
  | .handOver g e => s.handRequest g e.val s.boot.act.force
  | .inStep _ _ | .runAtCommit _ => s

/-- A step has ended. -/
def taskDone (s : State) : BootTask → Bool
  | .stop e => s.ce[e].state == .stopped
  | .mirror _ => true
  | .load e _ => !s.ce[e].loadBusy
  | .run _ => true
  | .inStep c _ => s.red.step[c].inStep
  | .handOver g e => s.red.tok[g].holder == some e
  | .runAtCommit e => s.ce[e].state != .stopped

/-- The activation ends with a RESULT (R404). -/
def State.endAct (s : State) (res : Nat) : State :=
  let p := s.boot.act.part
  let s := s.modAct fun k => { k with busy := false, staged := false, tasks := [], begun := false, result := res }
  if res = 0 then
    (s.modBoot fun k => { k with partSrc := k.partSrc ||| BitVec.ofNat 8 (2 ^ (p - 1)) }).record bBOOT 0xFF
      5 p
  else (s.tally 140).record bBOOT 0xFF 6 (p + put res 8)

/-- The activation fails with a RESULT: the engine concerned is reloaded from the started slot. -/
def State.failAct (s : State) (res : Nat) : State :=
  match s.boot.act.tasks with
  | [] => s.endAct res
  | t :: _ =>
    let e := t.engine
    s.modAct fun k => { k with
      tasks := [.stop e, .load e false, .run e], begun := false, ending := res }

/-- The step in front begins and ends as far as it can; `fuel` bounds the steps taken at once. -/
def State.runTasks : Nat → State → State
  | 0, s => s
  | fuel + 1, s =>
    let a := s.boot.act
    match a.tasks with
    | [] => s.endAct a.ending
    | t :: ts =>
      let s := if a.begun then s
        else (s.beginTask t).modAct fun k => { k with begun := true, since := s.clk.now }
      let refused := match t with
        | .handOver g _ => decide (s.red.tok[g].result = 2 ∨ s.red.tok[g].result = 3)
        | _ => false
      if taskDone s t then
        State.runTasks fuel (s.modAct fun k => { k with tasks := ts, begun := false })
      else if refused && a.ending = 0 then State.runTasks fuel (s.failAct 4)
      else s

/-- The boot controller goes on with an activation as far as it can. -/
def State.bootPoll (s : State) : State :=
  if s.boot.act.busy && s.boot.act.staged then State.runTasks 24 s else s

/-- Engine e has entered FAULT, which ends an activation that replaces it (R404). -/
def State.bootFault (s : State) (e : Fin 8) : State :=
  let a := s.boot.act
  if a.busy && a.staged && a.ending = 0 && (partEngines a.part).contains e then s.failAct 4 else s

/-- The group of an engine that is being loaded is held by a reaction. -/
def engineHeld (s : State) (e : Fin 8) : Bool :=
  (all4.any fun g => ceHas s e g && revokedBy s g)
    || (all3.any fun b => ceHas s e (4 + b.val) && s.axb.b[b].state == .held)

/-- A reaction has held a group whose engine is being loaded, which ends the activation (R404). -/
def State.bootReact (s : State) : State :=
  let a := s.boot.act
  match a.tasks with
  | .load e _ :: _ | .stop e :: _ | .run e :: _ | .inStep _ e :: _ =>
    if a.busy && a.staged && a.ending = 0 && engineHeld s e then (s.failAct 4).bootPoll else s
  | _ => s

/-! ### Loads by the boot controller (R395, R402, R403) -/

/-- The program of engine e in partition `part` of a slot: CE7 takes that of the engine it mirrors
where the partition has none of its own. -/
def imageProgram (s : State) (slot : Bool) (part : Nat) (e : Fin 8) : List Word32 :=
  let rs := (partRecs s slot part).getD []
  match progOf rs e with
  | some ws => ws
  | none => if e = 7 then (progOf rs (Fin.ofNat 8 (part + 1))).getD [] else []

/-- The boot controller's load of engine e ends: program, then the CAL data words of the same slot. -/
def State.bootLoad (s : State) (slot : Bool) (part : Nat) (e : Fin 8) : State :=
  let s' := s.loadProgram e 0 (padRows (imageProgram s slot part e))
  let rs := (partRecs s slot 8).getD []
  let own := dataOf rs e
  own.foldl (fun (s : State) x => s.pokeRow e x.1 x.2) s'

/-- The slot that a load of the activation in progress takes, if engine e waits for one. -/
def bootLoadSlot (s : State) (e : Fin 8) : Option Bool :=
  let a := s.boot.act
  match a.tasks with
  | .load e' other :: _ =>
    if a.busy && a.begun && e' = e then some (s.boot.slot != other) else none
  | _ => none

end Sys2Proof.Machine
end

