-- ==== Sys2Proof/Machine/Flags.lean ====
section
/-!
DEFINITION. The flag word of a control engine (R96) and the results that set its flags: rounding to
nearest with ties away from zero, then saturation (R89).
-/

namespace Sys2Proof.Machine

open Sys2Proof

/-- The six sticky flags, by bit (R96). -/
def SAT_ADD : Nat := 0
def SAT_MUL : Nat := 1
def SAT_ACC : Nat := 2
def SAT_OUT : Nat := 3
def DIV_ZERO : Nat := 4
def TABLE_RANGE : Nat := 5

/-- Flag `f` set if `b`; a flag never clears here (R96). -/
def Engine.flag (k : Engine) (f : Nat) (b : Bool) : Engine :=
  if b then k.raise (BitVec.ofNat 6 (2 ^ f)) else k

/-- Work register i (R89). -/
def Engine.reg (k : Engine) (i : Nat) : Word24 := k.w.getD i 0

/-- Work register i as a signed number. -/
def Engine.regI (k : Engine) (i : Nat) : Int := (k.reg i).toInt

/-- Work register i written. -/
def Engine.setReg (k : Engine) (i : Nat) (v : Word24) : Engine := { k with w := k.w.setIfInBounds i v }

/-- A signed result saturated to 24 bits and written; the flag tells of saturation (R89). -/
def Engine.setSat (k : Engine) (i : Nat) (x : Int) (f : Nat) : Engine :=
  (k.setReg i (BitVec.ofInt 24 (satI 24 x))).flag f (overflows 24 x)

/-- Accumulator k as a signed number. -/
def Engine.accI (k : Engine) (i : Nat) : Int := (k.acc.getD i 0).toInt

/-- A result saturated to 48 bits and written to an accumulator; SAT_ACC tells of saturation. -/
def Engine.setAcc (k : Engine) (i : Nat) (x : Int) : Engine :=
  { k with acc := k.acc.setIfInBounds i (BitVec.ofInt 48 (satI 48 x)) }.flag SAT_ACC (overflows 48 x)

/-- A duty: clamped to 0 … 0x7F_FFFF; SAT_OUT tells of clamping (R89, R105, R108). -/
def dutyOf (x : Int) : Int := clampI x 0 0x7FFFFF

/-! ### Sine table (R102) -/

/-- π × 2^100. -/
def piFix : Nat := 3982441812995697363688351113952

/-- The Taylor series of the sine at x / 2^100 from the term of order `n` on. -/
def sinSeries (x : Int) : Nat → Nat → Int → Int
  | 0, _, _ => 0
  | fuel + 1, n, term =>
    term + sinSeries x fuel (n + 2)
      (-(term * x / (2 ^ 100 : Nat) * x / (2 ^ 100 : Nat)) / ((n + 1) * (n + 2) : Nat))

/-- round(sin(π i / 512) × 2^23) for i from 0 to 256, limited to 0x7F_FFFF. -/
def quarterSine (i : Nat) : Nat :=
  let x : Int := (piFix * i / 512 : Nat)
  min (((sinSeries x 20 1 x * (2 ^ 23 : Nat) + (2 ^ 99 : Nat)) / (2 ^ 100 : Nat)).toNat) 0x7FFFFF

/-- Entry i of the sine table, modulo 1,024 (R102). -/
def sineEntry (i : Nat) : Int :=
  let j := i % 1024
  if j ≤ 256 then quarterSine j
  else if j ≤ 512 then quarterSine (512 - j)
  else if j ≤ 768 then -(quarterSine (j - 512) : Int)
  else -(quarterSine (1024 - j) : Int)

/-- The table at an angle, interpolated (R102); `shift` is 0 for the sine and 256 for the cosine. -/
def sineAt (angle shift : Nat) : Int :=
  let i := bits angle 23 14 + shift
  roundDiv (sineEntry i * 2 ^ 14 + (sineEntry (i + 1) - sineEntry i) * (bits angle 13 0 : Nat)) (2 ^ 14)

/-! ### Exact rounding of results with √3 (R103, R105) -/

/-- x / √3 rounded to the nearest integer. -/
def divSqrt3 (x : Int) : Int :=
  let r : Int := ((isqrt (4 * x.natAbs * x.natAbs / 3) + 1) / 2 : Nat)
  if x < 0 then -r else r

/-- q√3 rounded down. -/
def floorSqrt3 (q : Int) : Int :=
  let r : Int := isqrt (3 * q.natAbs * q.natAbs)
  if q < 0 then -r - 1 else r

/-- p + q√3 > 0, exactly. -/
def posSqrt3 (p q : Int) : Bool :=
  if 0 ≤ p && 0 ≤ q then (p != 0 || q != 0)
  else if p ≤ 0 && q ≤ 0 then false
  else if 0 < p then 3 * q * q < p * p
  else p * p < 3 * q * q

end Sys2Proof.Machine
end

