-- ==== Sys2Proof/Machine/Operands.lean ====
section
/-!
DEFINITION. The fields of an engine instruction, the illegal cases of R100, and the operation of
each instruction on its engine (R98 to R107). What an instruction does beyond its engine is in
Engine.lean.
-/

namespace Sys2Proof.Machine

open Sys2Proof

/-! ### Fields (R98, R99) -/

def opcode (w : Word32) : Nat := bits w.toNat 31 26
def fD (w : Word32) : Nat := bits w.toNat 25 22
def fA (w : Word32) : Nat := bits w.toNat 21 18
def fB (w : Word32) : Nat := bits w.toNat 17 14
def fK (w : Word32) : Nat := bits w.toNat 13 12
def fAddr (w : Word32) : Nat := bits w.toNat 9 0
/-- Bit 11: X, W, C, M or I. -/
def fX (w : Word32) : Bool := bit w.toNat 11
def fSh (w : Word32) : Nat := bits w.toNat 3 0
def fTarget (w : Word32) : Nat := bits w.toNat 11 0
/-- The group of DUTY, COMMIT and RENEW. -/
def fGroup (w : Word32) : Nat := bits w.toNat 17 15
/-- The slot of DUTY. -/
def fSlot (w : Word32) : Nat := bits w.toNat 14 11
/-- n of MINS and MAXS. -/
def fN (w : Word32) : Nat := bits w.toNat 13 11 + 1
/-- The event code of POST. -/
def fCode (w : Word32) : Nat := bits w.toNat 9 0

/-- The opcodes of R99. -/
def isOpcode (o : Nat) : Bool :=
  o ∈ [0x00, 0x01, 0x02, 0x03, 0x04, 0x05, 0x08, 0x09, 0x0A, 0x0B, 0x0C, 0x0D, 0x0E, 0x0F, 0x10,
    0x14, 0x15, 0x16, 0x17, 0x18, 0x19, 0x1A, 0x1B, 0x1C, 0x20, 0x21, 0x22, 0x23, 0x28, 0x29, 0x2A,
    0x2B, 0x2C]

/-- An illegal instruction: an undefined opcode or a case of R100. -/
def illegal (w : Word32) : Bool :=
  let d := fD w
  let a := fA w
  let b := fB w
  !isOpcode (opcode w) ||
  match opcode w with
  | 0x14 => d % 2 = 1
  | 0x15 => 15 < a + (if fX w then 1 else 2) || d = 15
  | 0x16 => a = 15 || b = 15 || d = 15
  | 0x18 => a = 15 || 13 < d
  | 0x1A | 0x1B => fN w = 1 || 15 < a + fN w - 1
  | 0x20 => 10 ≤ d
  | 0x28 | 0x29 => fGroup w = 7
  | 0x2A => 3 < fGroup w
  | 0x2B => fCode w < 0x200 || 10 < a
  | _ => false

/-- The effective address of LD and ST (R99). -/
def effAddr (k : Engine) (w : Word32) : Nat :=
  fAddr w + if fX w then bits (k.reg (fA w)).toNat 9 0 else 0

/-! ### Data movement -/

def opLd (k : Engine) (w : Word32) : Engine := k.setReg (fD w) (k.peek (effAddr k w))

def opLdi (k : Engine) (w : Word32) : Engine :=
  let v := sgn 21 (bits w.toNat 20 0)
  k.setReg (fD w) (BitVec.ofInt 24 (if bit w.toNat 21 then v * 8 else v))

def opMov (k : Engine) (w : Word32) : Engine := k.setReg (fD w) (k.reg (fA w))

/-- The special registers of R101 for engine e. -/
def special (e : Fin 8) (k : Engine) (s : Nat) : Nat :=
  match s with
  | 0 => k.flags.toNat
  | 1 => k.trig.toNat
  | 2 => k.pstart
  | 3 => k.win
  | 4 => k.tokEpoch.toNat + put k.tok 16
  | 5 => b2n k.postr
  | 6 => k.cycles
  | _ => e.val + put (b2n (e.val = 7 && 4 ≤ k.mirror && k.mirror ≤ 6)) 3

def opMovs (e : Fin 8) (k : Engine) (w : Word32) : Engine :=
  k.setReg (fD w) (BitVec.ofNat 24 (special e k (bits w.toNat 2 0)))

/-! ### Arithmetic -/

/-- ADD and SUB: a result that wraps (W) or saturates with SAT_ADD. -/
def addLike (k : Engine) (w : Word32) (x : Int) : Engine :=
  if fX w then k.setReg (fD w) (BitVec.ofInt 24 x) else k.setSat (fD w) x SAT_ADD

def opAdd (k : Engine) (w : Word32) : Engine := addLike k w (k.regI (fA w) + k.regI (fB w))

def opSub (k : Engine) (w : Word32) : Engine := addLike k w (k.regI (fA w) - k.regI (fB w))

def opAbs (k : Engine) (w : Word32) : Engine := k.setSat (fD w) (k.regI (fA w)).natAbs SAT_ADD

def opShf (k : Engine) (w : Word32) : Engine :=
  let n := clampI (sgn 6 (bits w.toNat 5 0)) (-23) 23
  let x := k.regI (fA w)
  k.setSat (fD w) (if 0 ≤ n then x * 2 ^ n.toNat else roundDiv x (2 ^ (-n).toNat)) SAT_ADD

/-- x × 2^(sh − 23), rounded (R99). -/
def scaleSh (x : Int) (sh : Nat) : Int := roundDiv (x * 2 ^ sh) (2 ^ 23)

def opMul (k : Engine) (w : Word32) : Engine :=
  k.setSat (fD w) (scaleSh (k.regI (fA w) * k.regI (fB w)) (fSh w)) SAT_MUL

/-- MAC and MSU with the sign of the product. -/
def macLike (k : Engine) (w : Word32) (sg : Int) : Engine :=
  k.setAcc (fK w) ((if fX w then 0 else k.accI (fK w)) + sg * (k.regI (fA w) * k.regI (fB w)))

def opMac (k : Engine) (w : Word32) : Engine := macLike k w 1

def opMsu (k : Engine) (w : Word32) : Engine := macLike k w (-1)

def opMva (k : Engine) (w : Word32) : Engine :=
  k.setSat (fD w) (scaleSh (k.accI (fK w)) (fSh w)) SAT_ACC

def opDiv (k : Engine) (w : Word32) : Engine :=
  let x := k.regI (fA w)
  let y := k.regI (fB w)
  if y = 0 then
    (k.setReg (fD w) (if x = 0 then 0 else if 0 < x then 0x7FFFFF else 0x800000)).flag DIV_ZERO true
  else k.setSat (fD w) ((x * 2 ^ (23 - fSh w)).tdiv y) SAT_MUL

/-! ### Vector operations (R102, R103, R105) -/

def opSincos (k : Engine) (w : Word32) : Engine :=
  let a := (k.reg (fA w)).toNat
  (k.setReg (fD w) (BitVec.ofInt 24 (sineAt a 0))).setReg (fD w + 1) (BitVec.ofInt 24 (sineAt a 256))

def opClarke (k : Engine) (w : Word32) : Engine :=
  let u := k.regI (fA w)
  let v := k.regI (fA w + 1)
  let x := k.regI (fA w + 2)
  if fX w then (k.setSat (fD w) u SAT_ADD).setSat (fD w + 1) (divSqrt3 (u + 2 * v)) SAT_ADD
  else
    (k.setSat (fD w) (roundDiv (2 * u - v - x) 3) SAT_ADD).setSat (fD w + 1) (divSqrt3 (v - x)) SAT_ADD

def opPark (k : Engine) (w : Word32) : Engine :=
  let x := k.regI (fA w)
  let y := k.regI (fA w + 1)
  let sn := k.regI (fB w)
  let cs := k.regI (fB w + 1)
  let p := if fX w then x * cs - y * sn else x * cs + y * sn
  let q := if fX w then x * sn + y * cs else -(x * sn) + y * cs
  (k.setSat (fD w) (roundDiv p (2 ^ 23)) SAT_ADD).setSat (fD w + 1) (roundDiv q (2 ^ 23)) SAT_ADD

/-- The three phase values of R105, each p + q√3 in units of a half. -/
def svmPhases (x y : Int) : List (Int × Int) := [(2 * x, 0), (-x, y), (-x, -y)]

/-- The middle one of three values p + q√3: not the largest and not the smallest. -/
def svmMid (l : List (Int × Int)) : Int × Int :=
  let lt (a b : Int × Int) : Bool := posSqrt3 (b.1 - a.1) (b.2 - a.2)
  match l with
  | [a, b, c] =>
    if lt a b then (if lt b c then b else if lt a c then c else a)
    else (if lt a c then a else if lt b c then c else b)
  | _ => (0, 0)

/-- The duty of a phase before clamping: 0.5 + vx − (max + min)/2, rounded to nearest. As the
phases sum to 0, −(max + min) is the middle one. -/
def svmDuty (v mid : Int × Int) : Int :=
  let p := 4 * 2 ^ 22 + 2 * v.1 + mid.1
  let q := 2 * v.2 + mid.2
  if q = 0 then roundDiv p 4 else floorDiv (p + 2 + floorSqrt3 q) 4

def opSvm (k : Engine) (w : Word32) : Engine :=
  let l := svmPhases (k.regI (fA w)) (k.regI (fA w + 1))
  let mid := svmMid l
  let ds := l.map fun v => svmDuty v mid
  let set (k : Engine) (i : Nat) : Engine :=
    let d := ds.getD i 0
    (k.setReg (fD w + i) (BitVec.ofInt 24 (dutyOf d))).flag SAT_OUT (dutyOf d != d)
  set (set (set k 0) 1) 2

/-! ### Limits, regulator and table (R99, R104, R106, R107) -/

def opLim (k : Engine) (w : Word32) : Engine :=
  k.setReg (fD w) (BitVec.ofInt 24 (clampI (k.regI (fA w)) (k.peek (fAddr w)).toInt
    (k.peek (fAddr w + 1)).toInt))

def opPi (k : Engine) (w : Word32) : Engine :=
  let m (i : Nat) : Int := (k.peek (fAddr w + i)).toInt
  let e := k.regI (fA w)
  let p0 := roundDiv (m 0 * e) (2 ^ 16)
  let p := satI 24 p0
  let i1 := clampI (m 2 + roundDiv (m 1 * e) (2 ^ 16)) (m 3 - p) (m 4 - p)
  let i2 := clampI i1 (m 3) (m 4)
  let out := clampI (p + i2) (m 3) (m 4)
  ((k.poke (fAddr w + 2) (BitVec.ofInt 24 i2)).setReg (fD w) (BitVec.ofInt 24 out)).flag SAT_MUL
    (overflows 24 p0)

/-- The position of the best of the first `n` registers from `a`, the lowest on a tie (R106). -/
def bestOf (k : Engine) (better : Int → Int → Bool) (a : Nat) : Nat → Nat
  | 0 => 0
  | n + 1 =>
    let i := bestOf k better a n
    if better (k.regI (a + n)) (k.regI (a + i)) then n else i

/-- MINS or MAXS by the order of values. -/
def minMax (k : Engine) (w : Word32) (better : Int → Int → Bool) : Engine :=
  let i := bestOf k better (fA w) (fN w)
  { k.setReg (fD w) (k.reg (fA w + i)) with win := i }

def opMins (k : Engine) (w : Word32) : Engine := minMax k w fun x y => x < y
def opMaxs (k : Engine) (w : Word32) : Engine := minMax k w fun x y => y < x

/-- The number of points and the spacing exponent of a table (R107). -/
def lutN (k : Engine) (w : Word32) : Nat := (clampI (k.peek (fAddr w)).toInt 2 64).toNat
def lutE (k : Engine) (w : Word32) : Nat := (clampI (k.peek (fAddr w + 2)).toInt 0 23).toNat

def opLut (k : Engine) (w : Word32) : Engine :=
  let n := lutN k w
  let e := lutE k w
  let x := k.regI (fA w) - (k.peek (fAddr w + 1)).toInt
  let y (i : Nat) : Int := (k.peek (fAddr w + 3 + i)).toInt
  if x < 0 then (k.setReg (fD w) (BitVec.ofInt 24 (y 0))).flag TABLE_RANGE true
  else if ((n - 1) * 2 ^ e : Nat) ≤ x then
    (k.setReg (fD w) (BitVec.ofInt 24 (y (n - 1)))).flag TABLE_RANGE true
  else
    let i := x.toNat / 2 ^ e
    let r := x.toNat % 2 ^ e
    k.setReg (fD w) (BitVec.ofInt 24 (roundDiv (y i * 2 ^ e + (y (i + 1) - y i) * r) (2 ^ e)))

/-- The data words an instruction reads (R90, R112): LD, PI, LIM and LUT. -/
def readsOf (k : Engine) (w : Word32) : List Nat :=
  let a := fAddr w
  match opcode w with
  | 0x01 => [effAddr k w]
  | 0x17 => [a, a + 1, a + 2, a + 3, a + 4]
  | 0x19 => [a, a + 1]
  | 0x1C =>
    let x := k.regI (fA w) - (k.peek (a + 1)).toInt
    let i := x.toNat / 2 ^ lutE k w
    [a, a + 1, a + 2] ++
      (if x < 0 then [a + 3] else if lutN k w ≤ i + 1 then [a + 2 + lutN k w] else [a + 3 + i, a + 4 + i])
  | _ => []

/-! ### Branches (R100) -/

/-- The condition of BR. -/
def brCond (k : Engine) (w : Word32) : Bool :=
  let x := k.regI (fA w)
  match fD w with
  | 0 => true
  | 1 => x == 0
  | 2 => x != 0
  | 3 => x < 0
  | 4 => 0 ≤ x
  | 5 => 0 < x
  | 6 => x ≤ 0
  | 7 => k.flags != 0
  | 8 => k.renewed
  | _ => k.trig.getLsbD 16

end Sys2Proof.Machine
end

