-- ==== Sys2Proof/Machine/EngineOps.lean ====
section
/-!
DEFINITION. How an engine issues an instruction: the fetch and its faults, the drive token at RENEW,
commits, posts and the end of a pass (R90 to R112, R300 to R304).
-/

namespace Sys2Proof.Machine

open Sys2Proof

/-! ### Issue (R93, R98, R112) -/

/-- Cycles of an instruction that does not branch (R99). -/
def cyclesOf (w : Word32) : Nat :=
  match opcode w with
  | 0x10 => 12
  | 0x14 | 0x15 | 0x16 => 3
  | 0x17 | 0x1C => 4
  | 0x18 => 6
  | 0x19 => 2
  | 0x1A | 0x1B => fN w
  | 0x21 | 0x22 => 2
  | 0x29 | 0x2A => 2
  | 0x2B => 6
  | _ => 1

/-- Cycles that must lie within PASS_LIMIT: RENEW and POST act on their first cycle (R111, R300). -/
def neededCycles (w : Word32) : Nat := if opcode w = 0x2A ∨ opcode w = 0x2B then 1 else cyclesOf w

/-- PASS_LIMIT of engine e (R116). -/
def passLimit (s : State) (e : Fin 8) : Nat := if ceCfgPassLimit s e = 0 then 4095 else ceCfgPassLimit s e

/-- The word at the program counter. -/
def fetchWord (k : Engine) : Word32 := sget 0 k.pmem k.pc

/-- The flipped bits of the program row at the program counter (R90). -/
def pcFlips (k : Engine) : List (Fin 266) := sget [] k.pflips (k.pc / 8)

/-- The tick on which the next instruction issues. -/
def issueTick (k : Engine) : Nat := k.pstart + 4 * k.cycles

/-- The fault that the next instruction meets before it acts: 0 none. -/
def issueFault (s : State) (e : Fin 8) : Nat :=
  let k := s.ce[e]
  let w := fetchWord k
  if passLimit s e ≤ k.cycles then 4
  else if 2 ≤ (pcFlips k).length then 5
  else if illegal w then 1
  else if passLimit s e < k.cycles + neededCycles w then 4
  else 0

/-- The engine has taken `n` cycles and goes on at `pc`. -/
def Engine.advance (k : Engine) (n pc : Nat) : Engine := { k with cycles := k.cycles + n, pc := pc }

/-- Engine e goes on at the next instruction after `n` cycles; past 4,095 it faults (R112). -/
def State.goOn (s : State) (e : Fin 8) (n pc : Nat) : State :=
  let s := s.modCe e fun k => k.advance n pc
  if 4095 < pc then (s.at (issueTick s.ce[e])).engineFault e 2 else s

/-- A single-bit error in the program row that engine e fetches from is corrected, counted and written
back. The program memory has no bus address, so the spec does not state the address that is noted
(R90, R116, R370): a free value (log 124). -/
def State.fetchFix (s : State) (e : Fin 8) : State :=
  match pcFlips s.ce[e] with
  | [b] =>
    let d := s.draw
    (d.1.eccNote (some (ceId e)) (d.2 % 2 ^ 32) [b]).1.modCe e fun k => { k with
      pflips := sput [] k.pflips (k.pc / 8) [] }
  | _ => s

/-- Single-bit errors in the data rows that an instruction of engine e reads are corrected. -/
def State.readFix (s : State) (e : Fin 8) (js : List Nat) : State :=
  s.each js fun s j => (s.rowCheck (ceId e) e j).1

/-- A row of an engine instruction of opcode `op`: the engine meets a fault, or issues the instruction
if the word has that opcode. -/
def State.engineRow (s : State) (e : Fin 8) (op : Nat) (f : State → Word32 → State) : State :=
  let k := s.ce[e]
  if k.state ≠ .running then s
  else
    let w := fetchWord k
    let c := issueFault s e
    if c = 0 ∧ opcode w ≠ op then s
    else
      let s := s.at (if c = 4 then k.pstart + 4 * passLimit s e else issueTick k)
      let s := if c ≠ 0 then s.engineFault e c
        else if (readsOf k w).any k.rowBad then (s.fetchFix e).engineFault e 6
        else f ((s.fetchFix e).readFix e (readsOf k w)) w
      (if s.ce[e].state = .fault then s.bootFault e else s).bootPoll

/-- An instruction whose effect lies within its engine. -/
def State.plain (s : State) (e : Fin 8) (f : Engine → Word32 → Engine) (w : Word32) : State :=
  (s.modCe e fun k => f k w).goOn e (cyclesOf w) (s.ce[e].pc + 1)

/-! ### RENEW (R300 to R304, R306) -/

/-- The engines whose RENEW of group g falls on tick r and has not yet been served. -/
def callersAt (s : State) (g : Fin 4) (r : Nat) : List (Fin 8) :=
  all8.filter fun e =>
    let k := s.ce[e]
    let w := fetchWord k
    k.state == .running && decide (issueTick k = r) && decide (issueFault s e = 0)
      && opcode w == 0x2A && fGroup w == g.val

/-- The caller to whom R302 gives a free or expired token. -/
def winner (s : State) (g : Fin 4) (r : Nat) : Option (Fin 8) :=
  let k := s.red.tok[g]
  let cs := (callersAt s g r).filter fun e => eligible s g e
  match k.state with
  | .free =>
    (match cs.find? fun e => k.former = some e with
    | some e => some e
    | none => match cs.find? fun e => e.val = redTokPrefer s g with
      | some e => some e
      | none => cs.head?)
  | _ =>
    match cs.find? fun e => k.former ≠ some e with
    | some e => some e
    | none => cs.head?

/-- The lease of a token has ended (R300). -/
def leaseOver (k : Token) (t : Nat) : Bool := k.state == .held && decide (k.leaseEnd ≤ t)

/-- The token of g expires if its lease has ended by tick t. -/
def State.lapse (s : State) (g : Fin 4) (t : Nat) : State :=
  let k := s.red.tok[g]
  if leaseOver k t then (s.expireTok g).modTok g fun q => { q with expiredAt := k.leaseEnd } else s

/-- Engine e claims the token of g on tick r (R301, R304). -/
def State.claim (s : State) (g : Fin 4) (e : Fin 8) (r : Nat) : State :=
  let d := claimDetail s g e
  let s := s.modTok g fun k => { k with
    state := .held, holder := some e, epoch := k.epoch + 1, leaseEnd := r + loopOf s g + 32000
    unclaimed := false, fresh := false }
  ((s.dropStale g).tally 107).record bRED (0xC0 + g) 3 d

/-- The answer to RENEW: 0 RENEWED, 1 CLAIMED, 2 HELD_BY_OTHER, 3 REVOKED (R301, R302). -/
def State.renew (s : State) (g : Fin 4) (e : Fin 8) (r : Nat) : State × Nat :=
  let s := s.lapse g r
  let k := s.red.tok[g]
  if !eligible s g e && !(k.state == .blocked || k.state == .revoked) then (s, 2)
  else match k.state with
    | .blocked | .revoked => (s, 3)
    | .held =>
      if k.holder = some e then
        (s.modTok g fun k => { k with leaseEnd := r + loopOf s g + 32000, fresh := false },
          if k.fresh then 1 else 0)
      else (s, 2)
    | _ => if winner s g r = some e then (s.claim g e r, 1) else (s, 2)

/-- The special register TOK after a RENEW (R101). -/
def Engine.setTok (k : Engine) (res : Nat) (epoch : Word32) : Engine :=
  { k with tok := res, tokEpoch := epoch.setWidth 16, renewed := decide (res ≤ 1) }

/-- RENEW (R110). -/
def doRenew (e : Fin 8) (s : State) (w : Word32) : State :=
  let g : Fin 4 := Fin.ofNat 4 (fGroup w)
  let r := s.renew g e (issueTick s.ce[e])
  let ep := r.1.red.tok[g].epoch
  (r.1.modCe e fun k => k.setTok r.2 ep).goOn e 2 (s.ce[e].pc + 1)

/-! ### Staging and commits (R108, R109) -/

/-- The staged slots of a group in slot order. -/
def stagedOf (k : Engine) (g : Nat) : List (Nat × Word24) :=
  k.staged.filterMap fun x => if x.1 / 16 = g then some (x.1 % 16, x.2) else none

/-- A value staged in a slot, key 16 × group + slot, keys rising. -/
def stage (key : Nat) (v : Word24) : List (Nat × Word24) → List (Nat × Word24)
  | [] => [(key, v)]
  | (k, x) :: t =>
    if key < k then (key, v) :: (k, x) :: t
    else if key = k then (key, v) :: t
    else (k, x) :: stage key v t

/-- DUTY. -/
def doDuty (e : Fin 8) (s : State) (w : Word32) : State :=
  let g := fGroup w
  let x := s.ce[e].regI (fA w)
  let s := if ceHas s e g then
      s.modCe e fun k => ({ k with
        staged := stage (16 * g + fSlot w) (BitVec.ofInt 24 (dutyOf x)) k.staged }).flag SAT_OUT (dutyOf x != x)
    else s.modCe e fun k => k.flag SAT_OUT true
  s.goOn e 1 (s.ce[e].pc + 1)

/-- TRX follows the commits of the reporting engine of a traction group (R121). -/
def State.commitSeen (s : State) (g : Fin 4) (e : Fin 8) (pstart : Nat) : State :=
  match machineOf g with
  | some m => if machOn s m && reporting s g = some e then s.evaluate m pstart else s
  | none => if g = 2 && reporting s 2 = some e then s.obcEvaluate else s

/-- A commit to a group with a token (R108, R109, R119, R158, R226). -/
def State.commitTok (s : State) (g : Fin 4) (e : Fin 8) (tick : Nat) (slots : List (Nat × Word24)) :
    State :=
  let s := s.lapse g tick
  let s := s.compareCommit (stepGroup g) e slots
  let s := if accepting s g ≠ some e then s
    else if s.gsc.cfgBad then s.refuseCommit g e 0xF
    else if g = 3 then s.dccCommit slots
    else s.modGroup g fun k => { k with commits := k.commits ++ [⟨tick, e, s.red.tok[g].epoch, slots⟩] }
  s.commitSeen g e s.ce[e].pstart

/-- An AXB group accepts commits from CE6, and from CE7 that stands by for a CE6 that does not run
(R108). -/
def axbAccepts (s : State) (e : Fin 8) : Bool :=
  e = 6 || (e = 7 && s.ce[(7 : Fin 8)].mirror == 6 &&
    (s.ce[(6 : Fin 8)].state == .stopped || s.ce[(6 : Fin 8)].state == .fault))

/-- A commit to an AXB group (R108, R202, R377). -/
def State.commitBridge (s : State) (b : Fin 3) (e : Fin 8) (slots : List (Nat × Word24)) : State :=
  let s := s.compareCommit ⟨4 + b.val, by omega⟩ e slots
  if !axbAccepts s e then s
  else if s.sys.dom[(8 : Fin 10)] ≠ .on then s.modCe e fun k => k.flag SAT_OUT true
  else s.commitAxb b slots

/-- The staged slots of group g are handed to its receiver. -/
def State.commitGroup (s : State) (e : Fin 8) (g tick : Nat) : State :=
  let slots := stagedOf s.ce[e] g
  let s := s.modCe e fun k => { k with staged := k.staged.filter fun y => y.1 / 16 ≠ g }
  if !ceHas s e g then s.modCe e fun k => k.flag SAT_OUT true
  else if h : g < 4 then s.commitTok ⟨g, h⟩ e tick slots
  else s.commitBridge (Fin.ofNat 3 (g - 4)) e slots

/-- COMMIT; with E = 1 the pass ends, and CE6 of an activation starts on that tick (R403). -/
def doCommit (e : Fin 8) (s : State) (w : Word32) : State :=
  let tick := issueTick s.ce[e] + 8
  let pc := s.ce[e].pc + 1
  let s := (s.at tick).commitGroup e (fGroup w) tick
  if bit w.toNat 0 then
    let s := (s.modCe e fun k => k.advance 2 pc).passEnd e tick
    match e, s.boot.act.tasks with
    | 7, .runAtCommit x :: _ => s.writeRun x true
    | _, _ => s
  else s.goOn e 2 pc

/-- END. -/
def doEnd (e : Fin 8) (s : State) (_ : Word32) : State :=
  let tick := issueTick s.ce[e] + 4
  ((s.at tick).modCe e fun k => k.advance 1 (k.pc + 1)).passEnd e tick

/-! ### Other instructions with an effect beyond the engine -/

/-- ST, and what TRX and OBC see of it (R121, R248). A store to a row with a double-bit error changes
nothing (R369): R112 names a data read alone as the cause of a fault. -/
def doSt (e : Fin 8) (s : State) (w : Word32) : State :=
  let j := effAddr s.ce[e] w % 1024
  let v := s.ce[e].reg (fD w)
  let s := if s.ce[e].rowBad j then s else s.pokeRow e j v
  ((s.observeStore e j v).obcStore e j v).goOn e 1 (s.ce[e].pc + 1)

/-- The lowest group in CE_CFG.GROUPS. -/
def lowestGroup (s : State) (e : Fin 8) : Option Nat := (List.range 7).find? fun g => ceHas s e g

/-- A winner index published with P = 1 (R106, R127, R248). -/
def State.publish (s : State) (e : Fin 8) (i : Nat) : State :=
  match lowestGroup s e with
  | some 0 => if machOn s 0 && accepting s 0 = some e then s.modTrx 0 fun k => { k with limiter := i } else s
  | some 1 => if machOn s 1 && accepting s 1 = some e then s.modTrx 1 fun k => { k with limiter := i } else s
  | some 2 => if accepting s 2 = some e then s.obcLimiter i else s
  | _ => s

/-- MINS and MAXS. -/
def doBest (e : Fin 8) (f : Engine → Word32 → Engine) (s : State) (w : Word32) : State :=
  let s' := s.modCe e fun k => f k w
  let s' := if bit w.toNat 10 then s'.publish e s'.ce[e].win else s'
  s'.goOn e (cyclesOf w) (s.ce[e].pc + 1)

/-- BR. -/
def doBr (e : Fin 8) (s : State) (w : Word32) : State :=
  if brCond s.ce[e] w then s.goOn e 2 (fTarget w) else s.goOn e 1 (s.ce[e].pc + 1)

/-- CALL; a fifth return address is a STACK fault (R100). -/
def doCall (e : Fin 8) (s : State) (w : Word32) : State :=
  let k := s.ce[e]
  if 4 ≤ k.stack.length then s.engineFault e 3
  else (s.modCe e fun k => { k with stack := (k.pc + 1) :: k.stack }).goOn e 2 (fTarget w)

/-- RET; an empty stack is a STACK fault. -/
def doRet (e : Fin 8) (s : State) (_ : Word32) : State :=
  match s.ce[e].stack with
  | [] => s.engineFault e 3
  | a :: as => (s.modCe e fun k => { k with stack := as }).goOn e 2 a

/-- The PAYLOAD of POST: five registers after the first (R111). -/
def postPayload (k : Engine) (a : Nat) : Nat :=
  ((List.range 5).map fun i => put (k.reg (a + 1 + i)).toNat (24 * i)).sum

/-- POST (R111). -/
def doPost (e : Fin 8) (s : State) (w : Word32) : State :=
  let k := s.ce[e]
  let a := fA w
  let r := s.offer (Fin.ofNat 32 (bits w.toNat 17 13))
    [eventWord s (issueTick k) bCE (0x50 + e) (fCode w) (wrapN 32 (k.regI a)) (postPayload k a)]
  let s' := r.1.modCe e fun k => { k with postr := !r.2 }
  (if r.2 then s' else s'.tally 47).goOn e 6 (k.pc + 1)

/-- FCLR. -/
def doFclr (e : Fin 8) (s : State) (w : Word32) : State :=
  (s.modCe e fun k => { k with flags := k.flags &&& ~~~BitVec.ofNat 6 (bits w.toNat 5 0) }).goOn e 1
    (s.ce[e].pc + 1)

end Sys2Proof.Machine
end

