-- ==== Sys2Proof/Machine/LinkOps.lean ====
section
/-!
DEFINITION. Gate links: what the port sends and in which order, bring-up, loss and register exchanges
(R169 to R180). The rows of the command table are in Links.lean.
-/

namespace Sys2Proof.Machine

open Sys2Proof

/-! ### The port (R171, R173) -/

/-- The character that link l carries from the character boundary t on: that of a frame, else K28.5
(R173). -/
def laneChar (s : State) (l : Fin 12) (t : Nat) : Byte :=
  match s.emitted.find? fun e => e.port = 14 + l.val ∧ e.tick ≤ t ∧ t < e.tick + 40 * e.bytes.length with
  | some e => e.bytes.getD ((t - e.tick) / 40) 0xBC
  | none => 0xBC

/-- TICKS of GSC_HORIZON within its limits (R169). -/
def horizonOf (s : State) : Nat := clampN (gscHorizonTicks s) 1600 32000

/-- An entry is sendable (R169). -/
def sendable (s : State) (e : Entry) : Bool := decide (e.stamp ≤ s.clk.now + horizonOf s)

/-- An edge frame is due on link l. -/
def edgeReady (s : State) (l : Fin 12) : Bool :=
  s.glk[l].state == .up && s.glk[l].queue.any fun e => sendable s e

/-! ### Edge frames (R169, R170, R176) -/

/-- The first sendable entry of a queue that is not stale, the rest, and how many were discarded. -/
def nextEntry (s : State) : List Entry → Option Entry × List Entry × Nat
  | [] => (none, [], 0)
  | e :: es =>
    if !sendable s e then (none, e :: es, 0)
    else if staleEntry s e then
      let r := nextEntry s es
      (r.1, r.2.1, r.2.2 + 1)
    else (some e, es, 0)

/-- STATE of an entry: the mask and the levels of its parts (R176). -/
def entryByte (e : Entry) : Byte :=
  let m := e.parts.foldl (fun (x : BitVec 4) p => x ||| p.mask) 0
  let v := e.parts.foldl (fun (x : BitVec 4) p => (x &&& ~~~p.mask) ||| p.level) 0
  BitVec.ofNat 8 (put m.toNat 4 + v.toNat)

/-- The bytes of an entry. -/
def entryBytes (e : Entry) : List Byte := leBytes 2 e.stamp ++ [entryByte e]

/-- The legs of an entry that has been sent. -/
def State.entrySent (s : State) (e : Entry) : State :=
  e.parts.foldl (fun (s : State) p =>
    if h : p.leg < 24 then s.modLeg ⟨p.leg, h⟩ fun k => { k with sentOf := some p.interval } else s) s

/-- An edge frame of one or two entries leaves at the next character boundary, after `cut` where that
aborts a beacon; an entry stamped within 600 tk of the start of the frame leaves alone (R4, R169 to
R171). -/
def State.sendEdges (s : State) (l : Fin 12) (cut : List Byte) : State :=
  let t := charTick s l
  let start := t + 40 * cut.length
  let a := nextEntry s s.glk[l].queue
  match a.1 with
  | none => (s.tallyBy 59 a.2.2).modLink l fun k => { k with queue := a.2.1 }
  | some e =>
    let b := if e.stamp < start + 600 then (none, a.2.1, 0) else nextEntry s a.2.1
    let es := e :: b.1.toList
    let s := (s.tallyBy 59 (a.2.2 + b.2.2)).modLink l fun k => { k with queue := b.2.1 }
    let s := s.sendFrom l t (cut ++ linkFrame 1 es.length (es.flatMap entryBytes))
    let s := if cut.isEmpty then s else s.modLink l fun k => { k with beaconDue := true }
    s.each es State.entrySent

/-- EDGE_FRAME on link l: ARM goes first; a beacon in progress is aborted (R171). -/
def State.edgeFrame (s : State) (l : Fin 12) : State :=
  let k := s.glk[l]
  if !edgeReady s l then s
  else if portFree s l then
    if k.armDue then s.serveArm l else s.sendEdges l []
  else if k.beaconOut then
    if k.armDue then
      (s.sendFrom l (charTick s l) (0xFE :: linkFrame 4 0 [])).modLink l fun k => { k with
        beaconDue := true, armDue := false }
    else s.sendEdges l [0xFE]
  else s

/-- This device holds the axle token of group g (R309, R311). -/
def axHeld (s : State) (g : Fin 4) : Bool := s.red.ax[g].state == 3 || s.red.ax[g].state == 4

/-- The payload of a beacon loaded at tick t (R175, R177). -/
def beaconBytes (s : State) (l : Fin 12) (t : Nat) : List Byte :=
  match linkGroup s l with
  | some g => leBytes 4 t ++ leBytes 2 s.red.ax[g].aepoch.toNat ++ [if axHeld s g then 1 else 0]
  | none => leBytes 4 t ++ [0, 0, 0]

/-- A CONFIG frame leaves link l: a read (`data` 0) or a write of a hub register. -/
def State.sendConfig (s : State) (l : Fin 12) (read : Bool) (addr : Nat) (data : Word32) : State :=
  let q := s.glk[l].cmdSeq
  let a : Byte := BitVec.ofNat 8 (put (b2n read) 7 + addr % 128)
  (s.sendNext l (linkFrame 3 q (a :: leBytes 4 (if read then 0 else data.toNat)))).modLink l fun k =>
    { k with cmdSeq := (q + 1) % 16 }

/-- The CONFIG frame that GLK_CMDl waits to send leaves (R171, R180). -/
def State.serveConfig (s : State) (l : Fin 12) : State :=
  match s.glk[l].cmdDue with
  | none => s
  | some x =>
    (s.sendConfig l x.1 x.2.1 x.2.2).modLink l fun k => { k with cmdDue := none, cmdSent := k.busyTo }

/-- What goes before LOSS and CONFIG frames is due on link l (R171). -/
def ahead (s : State) (l : Fin 12) : Bool := s.glk[l].armDue || edgeReady s l

/-- A BEACON on link l falls due at a multiple of 1,600 tk, and leaves when nothing goes before it: an ARM
or CONFIG frame that is due leaves first (R171, R177). -/
def State.beaconFrame (s : State) (l : Fin 12) : State :=
  if !linkCarries s.glk[l] then s
  else
    let s := if s.clk.now % 1600 = 0 then s.modLink l fun k => { k with beaconDue := true } else s
    let k := s.glk[l]
    if !portFree s l then s
    else if k.armDue then s.serveArm l
    else if edgeReady s l || k.lossDue then s
    else if k.cmdDue.isSome then s.serveConfig l
    else if k.beaconDue then
      (s.sendNext l (linkFrame 2 0 (beaconBytes s l (frameTick s l)))).modLink l fun k => { k with
        beaconDue := false, beaconOut := true }
    else s

/-- A LOSS frame on link l; an ARM frame that is due leaves first, and a CONFIG frame where no LOSS frame
is due (R171, R178). -/
def State.lossFrame (s : State) (l : Fin 12) : State :=
  let k := s.glk[l]
  if !(linkCarries k && portFree s l) then s
  else if k.armDue then s.serveArm l
  else if edgeReady s l then s
  else if k.lossDue then
    (s.sendNext l (linkFrame 5 0 (patternBytes k.lossP))).modLink l fun k => { k with lossDue := false }
  else s.serveConfig l

/-! ### Exchanges (R175, R179, R180) -/

/-- The link goes to a state of bring-up. A CONFIG frame that still waits is not sent: its reply goes
missing (R180). -/
def State.linkTo (s : State) (l : Fin 12) (st : LState) : State :=
  s.modLink l fun k => { k with
    state := st, since := s.clk.now, step := 0, good := 0, lossDue := false, beaconDue := false
    cmdDue := none, cmdSent := if k.cmdDue.isSome then s.clk.now else k.cmdSent }

/-- Bring-up of link l fails with a cause (R179). -/
def State.linkFails (s : State) (l : Fin 12) (cause : Nat) : State :=
  (s.linkTo l .failed).recordReport bGLK (14 + l) 3 cause

/-- Link l starts to align; a link that names no gate group fails (R179). -/
def State.linkStart (s : State) (l : Fin 12) : State :=
  if (linkGroup s l).isSome then s.linkTo l .align
  else if s.glk[l].state = .failed then s
  else s.linkFails l 7

/-- PAIRS of hub register 0x03 from the leg map (R179, R181). -/
def pairsOf (s : State) (l : Fin 12) : Nat :=
  maskOf ([0, 1].map fun j => all24.any fun g =>
    gscLegEn s g && !gscLegKind s g && gscLegHiCh s g / 2 = 2 * l.val + j)

/-- The registers that CONFIGURE writes: PAIRS, then the hub entries of the image (R179, R188). -/
def hubWrites (s : State) (l : Fin 12) : List (Nat × Word32) :=
  (3, BitVec.ofNat 32 (pairsOf s l)) :: s.boot.hubs.filterMap fun x =>
    if x.1 / 128 = l.val ∧ x.1 % 128 ≠ 3 then some (x.1 % 128, x.2) else none

/-- The exchange that bring-up needs next on link l is sent: TURN, eight ECHOs and DELAY in MEASURE,
HUB_ID and CAPS in IDENTIFY, writes and readbacks in CONFIGURE (R179). -/
def State.bringExchange (s : State) (l : Fin 12) : State :=
  let k := s.glk[l]
  let s := match k.state with
    | .measure =>
      if k.step = 0 then s.sendConfig l true 2 0
      else if k.step ≤ 8 then s.sendNext l (linkFrame 6 0 [BitVec.ofNat 8 k.step])
      else s.sendConfig l false 1 (BitVec.ofNat 32 k.delay)
    | .identify => s.sendConfig l true (if k.step = 0 then 0 else 4) 0
    | .configure =>
      match (hubWrites s l)[k.step / 2]? with
      | some x => s.sendConfig l (k.step % 2 = 1) x.1 x.2
      | none => s
    | _ => s
  s.modLink l fun k => { k with sent := k.busyTo }

/-- Bring-up goes on at its next exchange. -/
def State.bringNext (s : State) (l : Fin 12) : State :=
  (s.modLink l fun k => { k with step := k.step + 1 }).bringExchange l

/-- The link enters a state of bring-up and sends its first exchange. -/
def State.bringTo (s : State) (l : Fin 12) (st : LState) : State := (s.linkTo l st).bringExchange l

/-- The cause of a failure in a state of bring-up (R179). -/
def LState.cause : LState → Nat
  | .align => 1
  | .measure => 2
  | .identify => 3
  | .configure => 4
  | _ => 5

/-- DELAY from the round trips and TURN, rounded to nearest (R179). -/
def delayOf (k : Link) : Nat := wrapN 32 (roundDiv (((k.trips.sum : Nat) : Int) - 8 * (k.turn : Int)) 16)

/-- The spread of the round trips (R179). -/
def spreadOf (k : Link) : Nat :=
  k.trips.foldl max 0 - k.trips.foldl min (k.trips.headD 0)

/-- CONFIGURE is done: SYNC, the first LOSS frame (R179). -/
def State.toSync (s : State) (l : Fin 12) : State :=
  (s.linkTo l .sync).modLink l fun k => { k with lossDue := true }

/-- A CONFIG_REPLY that bring-up waits for (R179). -/
def State.bringReply (s : State) (l : Fin 12) (data : Word32) (refused : Bool) : State :=
  let k := s.glk[l]
  if refused then s.linkFails l k.state.cause
  else match k.state with
    | .measure =>
      if k.step = 0 then (s.modLink l fun k => { k with turn := data.toNat, trips := [] }).bringNext l
      else if k.step = 9 then s.bringTo l .identify
      else s
    | .identify =>
      if k.step = 0 then (s.modLink l fun k => { k with hubId := data }).bringNext l
      else
        let want := glkHubidId s l
        if (want = 0 || k.hubId.toNat = want) && decide (16 ≤ bits data.toNat 7 0)
            && (!glkCfgRedundant s l || data.getLsbD 8) then s.bringTo l .configure
        else s.linkFails l 3
    | .configure =>
      match (hubWrites s l)[k.step / 2]? with
      | none => s
      | some x =>
        if k.step % 2 = 0 then s.bringNext l
        else if data ≠ x.2 then s.linkFails l 4
        else if (hubWrites s l).length ≤ k.step / 2 + 1 then s.toSync l
        else s.bringNext l
    | _ => s

/-- An ECHO_REPLY: the round trip runs from the end of the ECHO frame to the start of the reply
(R179). -/
def State.bringEcho (s : State) (l : Fin 12) (token : Byte) : State :=
  let k := s.glk[l]
  if k.state ≠ .measure ∨ k.step = 0 ∨ 8 < k.step ∨ token.toNat ≠ k.step then s
  else
    let s := s.modLink l fun k => { k with trips := (s.clk.now - 200 - k.sent) :: k.trips }
    if k.step < 8 then s.bringNext l
    else if 8 < spreadOf s.glk[l] then s.linkFails l 2
    else (s.modLink l fun k => { k with delay := delayOf k }).bringNext l

/-- A reply is missing (R179, R180). -/
def State.replyMissing (s : State) (l : Fin 12) : State :=
  let k := s.glk[l]
  let bringing := k.state == .measure || k.state == .identify || k.state == .configure
  let s := if k.cmdBusy && k.cmdDue.isNone && decide (k.cmdSent + 16000 ≤ s.clk.now) then
      s.modLink l fun k => { k with cmdBusy := false, cmdResult := 1 }
    else s
  if bringing && decide (k.sent + 16000 ≤ s.clk.now) then s.linkFails l k.state.cause else s

/-- The reply that link l waits for comes too late: it counts as missing (R4, R179, R180). -/
def replyLate (s : State) (l : Fin 12) : Bool :=
  let k := s.glk[l]
  decide ((if linkCarries k then k.cmdSent else k.sent) + 16000 ≤ s.clk.now)

/-- A CONFIG_REPLY ends the exchange of GLK_CMDl (R180). -/
def State.cmdReply (s : State) (l : Fin 12) (data : Word32) (refused : Bool) : State :=
  s.modLink l fun k => { k with
    cmdBusy := false
    cmdResult := if refused then 2 else 0
    cmdData := if k.cmdFly && !refused then data else k.cmdData }

/-- GLK_CMDl written: the CONFIG frame waits for its turn on the port (R171, R180). -/
def State.cmdWrite (s : State) (id : Fin 64) (l : Fin 12) (v : Word32) : State :=
  let go := v.getLsbD 31
  if go && s.glk[l].cmdBusy then s.busError id (0x400C0114 + 0x40 * l.val) 7
  else
    let s := (s.busDone []).modLink l fun k => { k with
      cmdRead := v.getLsbD 7, cmdAddr := bits v.toNat 6 0 }
    let k := s.glk[l]
    if !go then s
    else if !linkCarries k || (s.boot.locked && !k.cmdRead && k.cmdAddr < 0x20) then
      s.modLink l fun k => { k with cmdResult := 3 }
    else
      let s := s.modLink l fun k => { k with
        cmdBusy := true, cmdFly := k.cmdRead, cmdDue := some (k.cmdRead, k.cmdAddr, k.cmdData) }
      if portFree s l && !ahead s l && !k.lossDue then s.serveConfig l else s

/-! ### STATUS, fault commas and loss (R174, R175, R179, R182) -/

/-- The port decodes what the hub sends. -/
def linkHears (k : Link) : Bool :=
  match k.state with
  | .measure | .identify | .configure | .sync | .up => true
  | _ => false

/-- What the port makes of characters from a hub: a frame with its TYPE, low header bits and payload, one
that K30.7 aborts, or one that it discards. -/
inductive Heard where
  | frame (typ low : Nat) (payload : List Byte)
  | aborted
  | discarded
deriving DecidableEq, Repr

/-- The data byte of a character. -/
def dataByte : LinkChar → Option Byte
  | .data b => some b
  | _ => none

/-- Payload length of a TYPE that a hub sends (R175). -/
def hubLength (typ : Nat) : Option Nat :=
  match typ with
  | 8 | 9 => some 6
  | 10 => some 1
  | _ => none

/-- A frame from a hub: SOF, header, payload, CRC-8, EOF. A CRC failure, a code error (any other control
character is one), a wrong length and an unknown TYPE discard it; K30.7 discards it as well (R173,
R175). -/
def heardOf (cs : List LinkChar) : Heard :=
  let body := (cs.drop 1).takeWhile fun c => (dataByte c).isSome
  let rest := (cs.drop 1).dropWhile fun c => (dataByte c).isSome
  match cs.head?, rest with
  | some (.ctl 0xFB), [.ctl 0xFD] =>
    let bs := body.filterMap dataByte
    let h := (bs.headD 0).toNat
    let p := (bs.drop 1).dropLast
    if hubLength (h / 16) = some p.length ∧ bs.length = p.length + 2 ∧ crc8 bs.dropLast = bs.getLast?.getD 0 then
      .frame (h / 16) (h % 16) p
    else .discarded
  | some (.ctl 0xFB), .ctl 0xFE :: _ => .aborted
  | _, _ => .discarded

/-- The characters of a frame that a hub sends. -/
def hubFrame (typ low : Nat) (payload : List Byte) : List LinkChar :=
  let body := BitVec.ofNat 8 (put typ 4 + low) :: payload
  .ctl 0xFB :: ((body ++ [crc8 body]).map .data ++ [.ctl 0xFD])

/-- The increase of a count modulo 256. -/
def rise8 (old new : Byte) : Nat := (new - old).toNat

/-- A valid STATUS frame (R175, R179, R182). -/
def State.statusFrame (s : State) (l : Fin 12) (st gates supply late err drop : Byte) : State :=
  let k := s.glk[l]
  let s := ((s.tallyBy 64 (rise8 k.hLate late)).tallyBy 62 (rise8 k.hErr err)).tallyBy 66
    (rise8 k.hDrop drop)
  let fit := st.getLsbD 2 && st.toNat % 4 = 0
  let s := s.modLink l fun k => { k with
    hState := st, hGates := gates, hSupply := supply, hLate := late, hErr := err, hDrop := drop
    lastStatus := s.clk.now
    good := if k.state = .sync ∧ fit then k.good + 1 else 0 }
  if 16 ≤ s.glk[l].good then
    (s.linkTo l .up |>.modLink l fun q => { q with lossDue := k.lossDue, beaconDue := k.beaconDue }).record
      bGLK (14 + l) 1 (k.delay % 65536)
  else s

/-- The byte F that the island receives, and whether it has been substituted (R174). -/
def commaByte (b1 b2 : Byte) : Byte × Bool :=
  if b2 ≠ ~~~b1 ∨ 5 ≤ bits b1.toNat 6 4 then (0x2F, true) else (b1, false)

/-- A fault comma (R174, R182, R189, R197). -/
def State.faultComma (s : State) (l : Fin 12) (b1 b2 : Byte) : State :=
  let f := commaByte b1 b2
  let s := (s.tally 65).record bGLK (14 + l) 4
    (f.1.toNat + put b1.toNat 8 + put b2.toNat 16 + put (b2n f.2) 24)
  let s := if bits f.1.toNat 6 4 = 1 then s.tally 71 else s
  (s.report bGLK (14 + l) 4 f.1 0).launch (s.clk.now + 40) (.comma l f.1)

/-- LINK_LOST with a cause (R179, R182). -/
def State.lostEvent (s : State) (l : Fin 12) (cause : Nat) : State :=
  (s.tally 63).recordReport bGLK (14 + l) 2 cause

/-- An UP link is lost (R179). -/
def State.linkLost (s : State) (l : Fin 12) (cause : Nat) : State :=
  if s.glk[l].state = .up then
    (s.lostEvent l cause).linkTo l (if glkCfgAutoRetry s l then .align else .failed)
  else s

/-- RETRAIN is written 1 (R179). -/
def State.retrain (s : State) (l : Fin 12) : State :=
  let s := if linkCarries s.glk[l] then s.lostEvent l 3 else s
  s.linkStart l

end Sys2Proof.Machine
end

