-- ==== Sys2Proof/Machine/Redundancy.lean ====
section
/-!
DEFINITION. The commands of lockstep pairs, drive-token hand-overs and axle tokens (R297 to R313).
-/

namespace Sys2Proof.Machine

open Sys2Proof

/-- RED changed by `f`. -/
def State.modRed (s : State) (f : Red → Red) : State := { s with red := f s.red }

/-- Axle token g changed by `f`. -/
def State.modAx (s : State) (g : Fin 4) (f : AxTok → AxTok) : State :=
  s.modRed fun k => { k with ax := vupd k.ax g f }

/-- Axle peer p changed by `f`. -/
def State.modPeer (s : State) (p : Fin 4) (f : Peer → Peer) : State :=
  s.modRed fun k => { k with peer := vupd k.peer p f }

/-- Lockstep pair k changed by `f`. -/
def State.modPair (s : State) (k : Fin 6) (f : Pair → Pair) : State :=
  s.modRed fun r => { r with pair := vupd r.pair k f }

/-! ### Lockstep and the self-test (R298, R307) -/

/-- RED_AXCFG.MODE, 3 used as 2 (R314). -/
def axMode (s : State) : Nat := min (redAxcfgMode s) 2

/-- Group g is in RED_AXCFG.GROUPS. -/
def axGroup (s : State) (g : Fin 4) : Bool := bit (redAxcfgGroups s) g

/-- The groups shared by axle token. -/
def axGroups (s : State) : List (Fin 4) := all4.filter fun g => axGroup s g

/-- Ticks since the end of start-up, a positive multiple of `p`. -/
def everySince (s : State) (p : Nat) : Bool :=
  match s.red.started with
  | some st => decide (st < s.clk.now) && (s.clk.now - st) % p == 0
  | none => false

/-- The comparator of pair k finds a mismatch: both cores stop (R298). -/
def doMismatch (s : State) (k : Fin 6) (pc : Word32) : State :=
  if s.red.pair[k].state = 0 && s.red.pair[k].released then
    ((s.modPair k fun p => { p with state := 2 }).tally 106).recordReport bRED (0x40 + 2 * k) 1 pc.toNat
  else s

/-- Pairs in lockstep. -/
def lockedPairs (s : State) : List (Fin 6) :=
  [0, 1, 2, 3, 4, 5].filter fun k : Fin 6 => s.red.pair[k].state == 0

/-- RED_HEALTH.HEALTH as the self-test finds it (R307). -/
def healthNow (s : State) (detected : BitVec 6) : Nat :=
  let gs := axGroups s
  b2n ((lockedPairs s).all fun k => bit detected.toNat k)
    + put (b2n (gs.all fun g => !redStbyEn s (stepGroup g) || s.red.step[stepGroup g].inStep)) 1
    + put (b2n (gs.all fun g => (linksOf s g).all fun l => !glkCfgEn s l || s.glk[l].state == .up)) 2
    + put (b2n (!(gs.any fun g => s.rng.active.any fun a => rowGroup s a.row g))) 3
    + put (b2n (gs.all fun g => s.red.tok[g].state == .held && !leaseOver s.red.tok[g] s.clk.now)) 4

/-- The self-test, every 10 ms from the end of start-up (R307). -/
def doSelfTest (s : State) (detected : BitVec 6) : State :=
  if !everySince s (10 * msTk) then s
  else
    let bad := (lockedPairs s).filter fun k : Fin 6 => !bit detected.toNat k
    let s := s.each bad fun s k => (s.tally 112).recordReport bRED (0x40 + 2 * k) 8 k
    s.modRed fun r => { r with health := healthNow s detected, hcycle := (r.hcycle + 1) % 256 }

/-! ### Hand-over of drive tokens (R306) -/

/-- RED_TOKg is written: TARGET, and with GO a request. -/
def doHandOver (s : State) (g : Fin 4) (v : Word32) : State :=
  let target := bits v.toNat 11 8
  let s := s.modTok g fun k => { k with target := target }
  if bit v.toNat 15 then (s.lapse g s.clk.now).handRequest g target (bit v.toNat 14) else s

/-- An accepted request executes on the pass start of a set pass of the holder. -/
def doHanded (s : State) (g : Fin 4) : State :=
  let s := s.lapse g s.clk.now
  let k := s.red.tok[g]
  match k.handing, k.holder with
  | some e, some h =>
    let c := s.ce[h]
    if c.state = .running && c.trig.toNat % 65536 != 0 && decide (k.handAt ≤ c.pstart)
        && decide (c.pstart ≤ s.clk.now) then
      let d := claimDetail s g e
      let s := s.modTok g fun k => { k with
        holder := some e, former := some h, epoch := k.epoch + 1, handing := none, result := 0
        leaseEnd := c.pstart + loopOf s g + 32000, fresh := true }
      ((s.dropStale g).tally 108).record bRED (0xC0 + g) 4 d
    else s
  | _, _ => s

/-! ### Axle tokens (R309 to R312) -/

/-- A payload for Blaze transmit entry j; one that is not an enabled transmit entry sends nothing. -/
def State.blzPush (s : State) (j : Fin 64) (bs : List Byte) : State :=
  if blzCdefEn s j && blzCdefDir s j then
    { s with blz := { s.blz with conn := vupd s.blz.conn j fun k => { k with txq := k.txq ++ [bs] } } }
  else s

/-- The enabled peers. -/
def axPeers (s : State) : List (Fin 4) := all4.filter fun p => redAxpeerEn s p

/-- The 40 bytes of an axle-token frame (R310). -/
def axFrame (s : State) (typ ygroups ynode : Nat) : List Byte :=
  leBytes 1 typ ++ leBytes 1 s.skd.node ++ leBytes 2 s.red.health ++ leBytes 1 s.red.hcycle
    ++ leBytes 1 ygroups ++ leBytes 1 ynode ++ leBytes 1 0
    ++ all4.flatMap fun g => leBytes 4 s.red.ax[g].aepoch.toNat
      ++ leBytes 1 (b2n (axHeld s g) + put (b2n (s.red.tok[g].state == .held
        && !leaseOver s.red.tok[g] s.clk.now)) 1) ++ leBytes 3 0

/-- A STATE frame to every peer. -/
def State.axState (s : State) : State :=
  s.each (axPeers s) fun s p => s.blzPush (Fin.ofNat 64 (redAxpeerTx s p)) (axFrame s 1 0 0)

/-- A peer is healthy (R310). -/
def peerOk (s : State) (p : Fin 4) : Bool :=
  let k := s.red.peer[p]
  redAxpeerEn s p && k.health == 0x1F && decide (s.clk.now < k.hcycleAt + 30 * msTk)
    && s.blz.conn[Fin.ofNat 64 (redAxpeerRx s p)].state == .running

/-- The ends of the 2 ms of the STATE frames that show group g held: those among the latest two of
each peer (R311). -/
def holdEnds (s : State) (g : Fin 4) : List Nat :=
  (axPeers s).flatMap fun p =>
    let k := s.red.peer[p]
    (if bit k.holds.toNat g then [k.at1 + 2 * msTk] else [])
      ++ (if bit k.holds2.toNat g then [k.at2 + 2 * msTk] else [])

/-- Tick from which group g is free in the device's view. -/
def freeFrom (s : State) (g : Fin 4) : Nat := (holdEnds s g).foldl max s.red.ax[g].freeSince

/-- RED_AXSTATg.HOLDER_NODE: the own node while the device holds, else the peer that claimed latest, 0
while the group is free (R311, R314). -/
def holderNode (s : State) (g : Fin 4) : Nat :=
  if axHeld s g then s.skd.node
  else if freeFrom s g ≤ s.clk.now then 0
  else s.red.ax[g].holderNode

/-- `a` is greater than `b` in serial-number order modulo 2^32 (R312). -/
def epochAfter (a b : Word32) : Bool :=
  let d := (a - b).toNat
  0 < d && d < 2 ^ 31

/-- The epoch a claim takes (R312). -/
def claimEpoch (s : State) (g : Fin 4) : Word32 :=
  let n := max (redAxcfgDevices s) 1
  let base := s.red.ax[g].seen
  let fits (d : Nat) : Bool := (base + BitVec.ofNat 32 d).toNat % n == redAxcfgRank s % n
  base + BitVec.ofNat 32 (((List.range 17).drop 1).find? fits |>.getD 1)

/-- The device claims the axle token of g (R311, R312). -/
def State.axClaim (s : State) (g : Fin 4) : State :=
  let ep := claimEpoch s g
  let s := s.modAx g fun k => { k with state := 3, aepoch := ep, seen := ep, holderNode := s.skd.node }
  ((s.tally 111).record bRED (0xC0 + g) 9 ep.toNat).axState

/-- A free group is claimed after RANK × 4 ms. -/
def doClaim (s : State) (g : Fin 4) : State :=
  if axMode s ≠ 0 && axGroup s g && s.red.ax[g].state = 1 && s.red.health = 0x1F
      && decide (freeFrom s g + redAxcfgRank s * (4 * msTk) ≤ s.clk.now) then
    s.axClaim g
  else s

/-- A holder of g without bits 3 and 4 of HEALTH gives the axle token up. -/
def State.axRenew (s : State) (g : Fin 4) : State :=
  if axHeld s g && s.red.health / 8 % 4 ≠ 3 then
    (s.modAx g fun k => { k with state := 1, holderNode := 0 }).recordReport bRED (0xC0 + g) 0xB
      s.red.health
  else s

/-- The 500 µs tick. -/
def doAxTick (s : State) : State :=
  if axMode s = 0 ∨ s.red.started.isNone ∨ s.clk.now % 800000 ≠ 0 then s
  else (s.each (axGroups s) State.axRenew).axState

/-- A peer that was healthy is found unhealthy (R310). -/
def State.peerCheck (s : State) (p : Fin 4) : State :=
  let k := s.red.peer[p]
  if peerOk s p then s.modPeer p fun k => { k with healthy := true }
  else if k.healthy then
    (s.modPeer p fun k => { k with healthy := false }).record bRED (0xC0 + 8 + p) 0xC
      (k.health % 32 + put k.node 8)
  else s

/-- What group g makes of a frame of peer p: its epoch, and whether the peer holds (R311). -/
def State.axSeen (s : State) (state : Bool) (yielded : Bool) (node : Nat) (body : List Byte) (g : Fin 4) :
    State :=
  let ep := BitVec.ofNat 32 (leAt body (8 + 8 * g) 4)
  let holding := state && bit (byteAt body (12 + 8 * g)) 0
  let s := s.modAx g fun k => { k with seen := if epochAfter ep k.seen then ep else k.seen }
  let k := s.red.ax[g]
  if holding && epochAfter ep k.aepoch then
    let held := axHeld s g
    let s := s.modAx g fun k => { k with aepoch := ep, holderNode := node, state := 1 }
    if held then s.record bRED (0xC0 + g) 0xA ep.toNat else s
  else if holding && k.state = 1 then s.modAx g fun k => { k with holderNode := node }
  else if yielded && k.state = 1 && s.red.health = 0x1F then s.axClaim g
  else s

/-- The end of a stretch in which group g was free, or the present tick while it is not free. -/
def State.axFreeMark (s : State) (g : Fin 4) : State :=
  let f := freeFrom s g
  s.modAx g fun k => { k with freeSince := if f ≤ s.clk.now then f else s.clk.now }

/-- An axle-token frame of peer p with its receipt stamp (R310, R311). -/
def State.axFrameIn (s : State) (p : Fin 4) (stamp : Nat) (body : List Byte) : State :=
  let typ := byteAt body 0
  if body.length ≠ 40 ∨ (typ ≠ 1 ∧ typ ≠ 2) ∨ axMode s = 0 then s
  else
    let node := byteAt body 1
    let cyc := byteAt body 4
    let holds := BitVec.ofNat 4 (maskOf (all4.map fun g : Fin 4 => bit (byteAt body (12 + 8 * g)) 0))
    let s := s.each (axGroups s) State.axFreeMark
    let s := s.modPeer p fun k => { k with
      node := node, health := leAt body 2 2, hcycle := cyc
      hcycleAt := if k.hcycle = cyc then k.hcycleAt else stamp
      holds := if typ = 1 then holds else k.holds
      at1 := if typ = 1 then stamp else k.at1
      holds2 := if typ = 1 then k.holds else k.holds2
      at2 := if typ = 1 then k.at1 else k.at2 }
    let s := s.peerCheck p
    s.each (axGroups s) fun s g =>
      s.axSeen (typ == 1) (typ == 2 && byteAt body 6 == s.skd.node && bit (byteAt body 5) g) node body g

/-- RED takes the oldest payload that waits. -/
def doAxFrame (s : State) : State :=
  match s.red.inbox with
  | [] => s
  | (p, stamp, body) :: rest => (s.modRed fun k => { k with inbox := rest }).axFrameIn p stamp body

/-- 4 ms of YIELDING without the peer's HOLDING at a greater epoch. -/
def doYieldTimeout (s : State) (g : Fin 4) : State :=
  if s.red.ax[g].state = 4 && decide (s.red.ax[g].yieldAt + 4 * msTk ≤ s.clk.now) then
    ((s.modAx g fun k => { k with state := 3 }).tally 110).record bRED (0xC0 + g) 7 1
  else s

/-! ### Role swaps (R308) -/

/-- The hand-over of group g that a role swap requests, or its skip. -/
def State.swapGroup (s : State) (g : Fin 4) : State :=
  let s := s.lapse g s.clk.now
  match stepPartner s (stepGroup g), s.red.step[stepGroup g].inStep with
  | some p, true => s.handRequest g p false
  | _, _ => (s.tally 110).record bRED (0xC0 + g) 7 0

/-- The axle tokens held are yielded to the lowest-numbered healthy peer. -/
def State.swapAxle (s : State) : State :=
  let gs := (axGroups s).filter fun g => s.red.ax[g].state = 3
  match gs, (axPeers s).find? fun p => peerOk s p with
  | _ :: _, some p =>
    let s := s.each gs fun s g => s.modAx g fun k => { k with state := 4, yieldAt := s.clk.now }
    s.blzPush (Fin.ofNat 64 (redAxpeerTx s p))
      (axFrame s 2 (maskOf (all4.map fun g => gs.contains g)) s.red.peer[p].node)
  | _, _ => s

/-- A multiple of PERIOD_S from the end of start-up. -/
def doRoleSwap (s : State) : State :=
  let n := clampN (redSwapPeriodS s) 1 3600
  if redSwapPeriodS s = 0 || axMode s = 2 || !everySince s (n * (1000 * msTk)) then s
  else
    let s := s.each all4 State.swapGroup
    if axMode s = 1 then s.swapAxle else s

/-! ### The commands -/

/-- LOCKSTEP_MISMATCH (R298). -/
def execLockstepMismatch (t : Tick) (k : Fin 6) (pc : Word32) (s : State) :
    Host.Outcome State Fault Refusal := .next (doMismatch (s.at t) k pc)

/-- SELF_TEST_CYCLE (R307). -/
def execSelfTestCycle (t : Tick) (detected : BitVec 6) (s : State) : Host.Outcome State Fault Refusal :=
  .next (doSelfTest (s.at t) detected)

/-- ROLE_SWAP (R308). -/
def execRoleSwap (t : Tick) (s : State) : Host.Outcome State Fault Refusal := .next (doRoleSwap (s.at t))

/-- HAND_OVER_REQUEST (R306). -/
def execHandOverRequest (t : Tick) (g : Fin 4) (v : Word32) (s : State) :
    Host.Outcome State Fault Refusal := .next (doHandOver (s.at t) g v)

/-- TOKEN_HANDED (R306). -/
def execTokenHanded (t : Tick) (g : Fin 4) (s : State) : Host.Outcome State Fault Refusal :=
  .next (doHanded (s.at t) g)

/-- AXLE_STATE_TICK (R311). -/
def execAxleStateTick (t : Tick) (s : State) : Host.Outcome State Fault Refusal :=
  .next (doAxTick (s.at t))

/-- AXLE_TOKEN_FRAME (R310, R311). -/
def execAxleTokenFrame (t : Tick) (s : State) : Host.Outcome State Fault Refusal :=
  .next (doAxFrame (s.at t))

/-- AXLE_CLAIM (R311, R312). -/
def execAxleClaim (t : Tick) (g : Fin 4) (s : State) : Host.Outcome State Fault Refusal :=
  .next (doClaim (s.at t) g)

/-- YIELD_TIMEOUT (R311). -/
def execYieldTimeout (t : Tick) (g : Fin 4) (s : State) : Host.Outcome State Fault Refusal :=
  .next (doYieldTimeout (s.at t) g)

/-- PEER_UNHEALTHY (R310). -/
def execPeerUnhealthy (t : Tick) (p : Fin 4) (s : State) : Host.Outcome State Fault Refusal :=
  .next ((s.at t).peerCheck p)

end Sys2Proof.Machine
end

