-- ==== Sys2Proof/Machine/Blaze.lean ====
section
/-!
DEFINITION. The Blaze layer: receive tests, states of the connections, silence, transmission (R287 to
R295).
-/

namespace Sys2Proof.Machine

open Sys2Proof

/-- Connection entry i changed by `f`. -/
def State.modConn (s : State) (i : Fin 64) (f : Conn → Conn) : State :=
  { s with blz := { s.blz with conn := vupd s.blz.conn i f } }

/-! ### Check values (R288) -/

/-- The CHECK of a frame whose bytes before CHECK are `body`. -/
def blazeCheck (dest const : Nat) (body : List Byte) : Nat := crc32c (leBytes 4 dest ++ leBytes 4 const ++ body)

/-- The fields of a received frame. -/
def BlzFrame.src (f : BlzFrame) : Nat := leAt f.data 0 4
def BlzFrame.conn (f : BlzFrame) : Nat := byteAt f.data 4
def BlzFrame.len (f : BlzFrame) : Nat := byteAt f.data 5
def BlzFrame.seq (f : BlzFrame) : Nat := leAt f.data 6 2
def BlzFrame.payload (f : BlzFrame) : List Byte := (f.data.drop 8).take f.len

/-! ### Receiving (R292, R294) -/

/-- Entry i is an enabled receive entry of the medium, sender and connection of a frame. -/
def connTakes (s : State) (f : BlzFrame) (i : Fin 64) : Bool :=
  blzCdefEn s i && !blzCdefDir s i && blzCdefMedium s i == f.stream && blzCdefStream s i == f.ident
    && (f.stream || blzCdefChannel s i == f.chan) && decide (6 ≤ f.data.length)
    && blzCpeerPeer s i == f.src && blzCdefConn s i == f.conn

/-- The outcome of the tests of R292 behind the first two: an event code, 0 for a good frame, or none
for a duplicate. -/
def blazeTest (s : State) (f : BlzFrame) (i : Fin 64) : Option Nat :=
  let k := s.blz.conn[i]
  let e := k.seq + 1
  let gap := (f.seq + 65536 - e % 65536) % 65536
  if 48 < f.len ∨ f.data.length < 12 + f.len ∨ (f.stream ∧ f.data.length ≠ 12 + f.len) then some 2
  else if leAt f.data (8 + f.len) 4 ≠ blazeCheck (blzIdId s) (blzCconstCconst s i) (f.data.take (8 + f.len))
  then some 1
  else if k.state ≠ .running then some 0
  else if gap = 65535 then none
  else if blzCoptMaxGap s i < gap then some 3
  else if f.stamp < k.p + blzCtimeMin s i * 160000 then some 4
  else if k.p + blzCtimeMax s i * 160000 ≤ f.stamp then some 5
  else some 0

/-- A payload of KIND 2 goes to DATA_RING (R290). -/
def State.blazeData (s : State) (i : Fin 64) (f : BlzFrame) : State :=
  let bs := f.payload
  let head := eventWord s f.stamp bBLZ (0xC0 + blzCoptRgrp s i) 0x100 (i.val + put f.len 8 + put f.seq 16)
    (leNat (bs.take 16))
  let more := if 16 < f.len then [BitVec.ofNat 256 (leNat (bs.drop 16))] else []
  let (s, ok) := s.offer (Fin.ofNat 32 (blzCfgDataRing s)) (head :: more)
  if ok then s else s.tally 151

/-- The payload of a good frame is delivered (R290). -/
def State.blazeDeliver (s : State) (i : Fin 64) (f : BlzFrame) : State :=
  match blzCoptKind s i with
  | 0 => s.commandFrame ⟨f.stream, f.chan, f.ident, some i⟩ f.stamp f.payload
  | 1 => match (axPeers s).find? fun p : Fin 4 => redAxpeerRx s p = i.val with
    | some p => s.modRed fun k => { k with inbox := k.inbox ++ [(p, f.stamp, f.payload)] }
    | none => s
  | _ => s.blazeData i f

/-- A good frame: p and SEQ are taken, the payload is delivered (R292, R294). -/
def State.blazeGood (s : State) (i : Fin 64) (f : BlzFrame) : State :=
  let k := s.blz.conn[i]
  let gap := (f.seq + 65536 - (k.seq + 1) % 65536) % 65536
  let s := s.tally 100
  let s := if k.got ∧ gap ≠ 0 then s.tallyBy 104 gap else s
  let s := s.modConn i fun k => { k with state := .running, seq := f.seq, got := true, p := f.stamp }
  let s := if k.state = .running then s
    else s.record bBLZ (0xC0 + blzCoptRgrp s i) 7 (i.val + put f.seq 16)
  s.blazeDeliver i f

/-- A fault of entry i: recorded, counted and reported; a RUNNING entry fails, or waits again with
AUTO; a WAITING entry fails by silence alone (R294, R295). -/
def State.blazeFault (s : State) (i : Fin 64) (ev seq : Nat) : State :=
  let k := s.blz.conn[i]
  let s := if k.state = .running then
      (if blzCoptAuto s i then s.modConn i fun k => { k with state := .waiting, since := s.clk.now }
      else s.modConn i fun k => { k with state := .failed })
    else if ev = 6 then s.modConn i fun k => { k with state := .failed }
    else s
  (s.tally 103).recordReport bBLZ (0xC0 + blzCoptRgrp s i) ev (i.val + put seq 16)

/-- The island tests a frame (R292). -/
def State.blazeFrame (s : State) (f : BlzFrame) : State :=
  match all64.find? fun i => connTakes s f i with
  | none => s.tally 101
  | some i =>
    if s.blz.conn[i].state = .failed ∨ s.blz.conn[i].state = .closed then s.tally 101
    else match blazeTest s f i with
      | none => s.tally 102
      | some 0 => s.blazeGood i f
      | some ev => s.blazeFault i ev (if 8 ≤ f.data.length then f.seq else 0)

/-- The oldest frame that waits for the island cores. -/
def doBlazeFrame (s : State) : State :=
  if !s.rng.powered then s
  else match s.blz.rx with
  | [] => s
  | f :: fs => { s with blz := { s.blz with rx := fs } }.blazeFrame f

/-! ### Silence (R293) -/

/-- WAIT in ticks, 0 used as 1 (R296). -/
def waitTicks (s : State) (i : Fin 64) : Nat := max (blzCoptWait s i) 1 * 160000000

/-- The close tick of a RUNNING or WAITING receive entry. -/
def closeTick (s : State) (i : Fin 64) : Option Nat :=
  let k := s.blz.conn[i]
  match k.state with
  | .running => some (k.p + blzCtimeMax s i * 160000)
  | .waiting => some (k.since + waitTicks s i)
  | _ => none

/-- The silence test of one entry. -/
def State.silence (s : State) (i : Fin 64) : State :=
  match closeTick s i with
  | some c =>
    if blzCdefEn s i && !blzCdefDir s i && decide (c + msTk ≤ s.clk.now) then
      s.blazeFault i 6 (if s.blz.conn[i].got then (s.blz.conn[i].seq + 1) % 65536 else 0)
    else s
  | none => s

/-- The frames stamped before the tick, which the island finishes before it tests for silence. -/
def State.finishFrames : Nat → State → State
  | 0, s => s
  | n + 1, s => match s.blz.rx with
    | [] => s
    | f :: _ => if f.stamp < s.clk.now then State.finishFrames n (doBlazeFrame s) else s

/-- The silence test at a multiple of 100 µs. -/
def doSilenceTest (s : State) : State :=
  if s.clk.now % 160000 ≠ 0 ∨ !s.rng.powered then s
  else (State.finishFrames s.blz.rx.length s).each all64 State.silence

/-! ### Transmission (R287, R291) -/

/-- The bytes of the next frame of transmit entry i. -/
def blazeBytes (s : State) (i : Fin 64) (seq : Nat) (payload : List Byte) : List Byte :=
  let body := leBytes 4 (blzIdId s) ++ leBytes 1 (blzCdefConn s i) ++ leBytes 1 payload.length
    ++ leBytes 2 seq ++ payload
  body ++ leBytes 4 (blazeCheck (blzCpeerPeer s i) (blzCconstCconst s i) body)

/-- Entry i sends one frame. SEQ is 0 after reset and is incremented for every frame, so the first
carries 1 (R291, R296). -/
def State.blazeSend (s : State) (i : Fin 64) (payload : List Byte) : State :=
  let k := s.blz.conn[i]
  let seq := (k.seq + 1) % 65536
  let bs := blazeBytes s i seq payload
  let s := (s.modConn i fun k => { k with seq := seq, got := true, lastTx := s.clk.now }).tally 105
  if blzCdefMedium s i then s.skdSend (blzCdefStream s i) 0 bs
  else
    let ch : Fin 6 := Fin.ofNat 6 (blzCdefChannel s i)
    s.canQueue ch (fdFrame s ch (blzCdefStream s i) bs)

/-- Entry i is an enabled transmit entry after start-up, and TX_MIN has passed since its latest
frame. -/
def mayTransmit (s : State) (i : Fin 64) : Bool :=
  blzCdefEn s i && blzCdefDir s i && s.red.started.isSome
    && (!s.blz.conn[i].got || decide (s.blz.conn[i].lastTx + blzCtimeMin s i * 160000 ≤ s.clk.now))

/-- The payload that waits longest leaves. -/
def doBlazeTransmit (s : State) (i : Fin 64) : State :=
  match s.blz.conn[i].txq with
  | [] => s
  | bs :: rest =>
    if mayTransmit s i then (s.modConn i fun k => { k with txq := rest }).blazeSend i bs else s

/-- No frame has left for HEART. -/
def doHeartbeat (s : State) (i : Fin 64) : State :=
  if mayTransmit s i && blzCtimeMax s i ≠ 0 && s.blz.conn[i].txq.isEmpty
      && decide (s.blz.conn[i].lastTx + blzCtimeMax s i * 160000 ≤ s.clk.now) then
    s.blazeSend i []
  else s

/-! ### The commands -/

/-- BLAZE_FRAME (R292). -/
def execBlazeFrame (t : Tick) (s : State) : Host.Outcome State Fault Refusal := .next (doBlazeFrame (s.at t))

/-- SILENCE_TEST (R293). -/
def execSilenceTest (t : Tick) (s : State) : Host.Outcome State Fault Refusal :=
  .next (doSilenceTest (s.at t))

/-- BLAZE_TRANSMIT (R291). -/
def execBlazeTransmit (t : Tick) (i : Fin 64) (s : State) : Host.Outcome State Fault Refusal :=
  .next (doBlazeTransmit (s.at t) i)

/-- HEARTBEAT (R291). -/
def execHeartbeat (t : Tick) (i : Fin 64) (s : State) : Host.Outcome State Fault Refusal :=
  .next (doHeartbeat (s.at t) i)

/-- RESTART (R294). -/
def execRestart (t : Tick) (i : Fin 64) (s : State) : Host.Outcome State Fault Refusal :=
  .next ((s.at t).blzRestart i)

end Sys2Proof.Machine
end

