-- ==== Sys2Proof/Machine/Crypto.lean ====
section
/-!
DEFINITION. SHA-256 and the verification of an ECDSA P-256 signature, which R396 names for the image
header. Their definitions are those of the published standards (PRESUMED, log 98).
-/

namespace Sys2Proof.Machine

open Sys2Proof

/-! ### SHA-256 -/

/-- The round constants: fractional parts of the cube roots of the first 64 primes. -/
def shaK : List Word32 := [
  0x428A2F98, 0x71374491, 0xB5C0FBCF, 0xE9B5DBA5, 0x3956C25B, 0x59F111F1, 0x923F82A4, 0xAB1C5ED5,
  0xD807AA98, 0x12835B01, 0x243185BE, 0x550C7DC3, 0x72BE5D74, 0x80DEB1FE, 0x9BDC06A7, 0xC19BF174,
  0xE49B69C1, 0xEFBE4786, 0x0FC19DC6, 0x240CA1CC, 0x2DE92C6F, 0x4A7484AA, 0x5CB0A9DC, 0x76F988DA,
  0x983E5152, 0xA831C66D, 0xB00327C8, 0xBF597FC7, 0xC6E00BF3, 0xD5A79147, 0x06CA6351, 0x14292967,
  0x27B70A85, 0x2E1B2138, 0x4D2C6DFC, 0x53380D13, 0x650A7354, 0x766A0ABB, 0x81C2C92E, 0x92722C85,
  0xA2BFE8A1, 0xA81A664B, 0xC24B8B70, 0xC76C51A3, 0xD192E819, 0xD6990624, 0xF40E3585, 0x106AA070,
  0x19A4C116, 0x1E376C08, 0x2748774C, 0x34B0BCB5, 0x391C0CB3, 0x4ED8AA4A, 0x5B9CCA4F, 0x682E6FF3,
  0x748F82EE, 0x78A5636F, 0x84C87814, 0x8CC70208, 0x90BEFFFA, 0xA4506CEB, 0xBEF9A3F7, 0xC67178F2]

/-- The initial hash value. -/
def shaH : List Word32 := [
  0x6A09E667, 0xBB67AE85, 0x3C6EF372, 0xA54FF53A, 0x510E527F, 0x9B05688C, 0x1F83D9AB, 0x5BE0CD19]

/-- A number as `n` bytes, most significant first. -/
def beBytes (n x : Nat) : List Byte := (leBytes n x).reverse

/-- A big-endian number. -/
def beNat (bs : List Byte) : Nat := leNat bs.reverse

/-- Big-endian words of bytes. -/
def beWords : List Byte → List Word32
  | a :: b :: c :: d :: t => BitVec.ofNat 32 (beNat [a, b, c, d]) :: beWords t
  | _ => []

/-- The message schedule: the next word from the latest sixteen, latest first. -/
def shaNext (l : List Word32) : Word32 :=
  let x := l.getD 14 0
  let y := l.getD 1 0
  ((y.rotateRight 17).xor (y.rotateRight 19)).xor (y >>> 10) + l.getD 6 0
    + (((x.rotateRight 7).xor (x.rotateRight 18)).xor (x >>> 3)) + l.getD 15 0

/-- The 64 words of the schedule from the sixteen of a block. -/
def shaSchedule (block : List Word32) : List Word32 :=
  (iter (fun l => shaNext l :: l) 48 block.reverse).reverse

/-- One round on the working variables a to h. -/
def shaRound : List Word32 → Word32 × Word32 → List Word32
  | [a, b, c, d, e, f, g, h], (k, w) =>
    let t1 := h + (((e.rotateRight 6).xor (e.rotateRight 11)).xor (e.rotateRight 25))
      + ((e &&& f).xor (~~~e &&& g)) + k + w
    let t2 := (((a.rotateRight 2).xor (a.rotateRight 13)).xor (a.rotateRight 22))
      + (((a &&& b).xor (a &&& c)).xor (b &&& c))
    [t1 + t2, a, b, c, d + t1, e, f, g]
  | l, _ => l

/-- The hash value after one block. -/
def shaBlock (h block : List Word32) : List Word32 :=
  List.zipWith (· + ·) h ((shaK.zip (shaSchedule block)).foldl shaRound h)

/-- The hash value after all blocks; `fuel` bounds their number. -/
def shaBlocks : Nat → List Word32 → List Word32 → List Word32
  | 0, h, _ => h
  | fuel + 1, h, ws => if ws.isEmpty then h else shaBlocks fuel (shaBlock h (ws.take 16)) (ws.drop 16)

/-- The message with its padding. -/
def shaPad (bs : List Byte) : List Byte :=
  bs ++ 0x80 :: (List.replicate ((119 - bs.length % 64) % 64) 0 ++ beBytes 8 (8 * bs.length))

/-- SHA-256 of a message. -/
def sha256 (bs : List Byte) : List Byte :=
  (shaBlocks (bs.length / 64 + 2) shaH (beWords (shaPad bs))).flatMap fun w => beBytes 4 w.toNat

/-! ### ECDSA on P-256 -/

/-- The field prime, the group order and the curve constant b. -/
def ecP : Nat := 0xFFFFFFFF00000001000000000000000000000000FFFFFFFFFFFFFFFFFFFFFFFF
def ecN : Nat := 0xFFFFFFFF00000000FFFFFFFFFFFFFFFFBCE6FAADA7179E84F3B9CAC2FC632551
def ecB : Nat := 0x5AC635D8AA3A93E7B3EBBD55769886BC651D06B0CC53B0F63BCE3C3E27D2604B

/-- A point; none is the point at infinity. -/
abbrev EcPoint := Option (Nat × Nat)

/-- The base point. -/
def ecG : EcPoint := some
  (0x6B17D1F2E12C4247F8BCE6E563A440F277037D812DEB33A0F4A13945D898C296,
   0x4FE342E2FE1A7F9B8EE7EB4A7C0F9E162BCE33576B315ECECBB6406837BF51F5)

/-- x to the power e modulo m; e has at most `fuel` bits. -/
def powMod (m : Nat) : Nat → Nat → Nat → Nat
  | 0, _, _ => 1
  | fuel + 1, x, e =>
    let y := powMod m fuel (x * x % m) (e / 2)
    if e % 2 = 1 then x * y % m else y

/-- The inverse modulo a prime. -/
def invMod (m x : Nat) : Nat := powMod m 256 (x % m) (m - 2)

/-- x - y in the field. -/
def ecSub (x y : Nat) : Nat := (x + (ecP - y % ecP)) % ecP

/-- The sum of two points. -/
def ecAdd : EcPoint → EcPoint → EcPoint
  | none, q => q
  | p, none => p
  | some (x1, y1), some (x2, y2) =>
    if x1 = x2 ∧ (y1 + y2) % ecP = 0 then none
    else
      let l := if x1 = x2 then (3 * x1 * x1 + (ecP - 3)) * invMod ecP (2 * y1) % ecP
        else ecSub y2 y1 * invMod ecP (ecSub x2 x1) % ecP
      let x3 := ecSub (ecSub (l * l % ecP) x1) x2
      some (x3, ecSub (l * ecSub x1 x3 % ecP) y1)

/-- k times a point; k has at most `fuel` bits. -/
def ecMul : Nat → Nat → EcPoint → EcPoint
  | 0, _, _ => none
  | fuel + 1, k, p =>
    let q := ecMul fuel (k / 2) (ecAdd p p)
    if k % 2 = 1 then ecAdd p q else q

/-- A point with coordinates in the field lies on the curve. -/
def ecOn (x y : Nat) : Bool :=
  decide (x < ecP) && decide (y < ecP) && (y * y % ecP == (x * x * x + (ecP - 3) * x + ecB) % ecP)

/-- The signature r, s of a digest under the public key (x, y) verifies. -/
def ecdsaOk (x y r s : Nat) (digest : List Byte) : Bool :=
  if ecOn x y ∧ 0 < r ∧ r < ecN ∧ 0 < s ∧ s < ecN then
    let w := invMod ecN s
    let u := beNat digest % ecN * w % ecN
    match ecAdd (ecMul 256 u ecG) (ecMul 256 (r * w % ecN) (some (x, y))) with
    | some (v, _) => v % ecN == r
    | none => false
  else false

end Sys2Proof.Machine
end

