-- ==== Sys2Proof/Machine/Budget.lean ====
section
/-!
DEFINITION. The power-budget arbiter: limits, grants, outcomes and notices (R40, R53 to R61).
-/

namespace Sys2Proof.Machine

open Sys2Proof

/-! ### Limits (R55, R60, R61) -/

/-- The limits have reached STALE_MS (R60). -/
def State.watchLimits (s : State) : State :=
  if !s.pba.stale && decide (s.pba.limStamp + staleMs s * msTk ≤ s.clk.now) then
    (s.modPba fun k => { k with stale := true }).record bPBA 0xFF 5
  else s

/-- What a cycle works with: discharge limit, charge limit and whether the limits are stale. A frame
stamped on the start tick is not used yet (R55, R60). -/
def cycleLimits (s : State) : Nat × Nat × Bool :=
  let k := s.pba
  let new := s.clk.now ≤ k.limStamp
  let stale := if new then k.oldStale else k.stale
  if stale then (pbaLimFallbackWatts s, 0, true)
  else if new then (k.oldDis.toNat, k.oldChg.toNat, false)
  else (k.limDis.toNat, k.limChg.toNat, false)

/-! ### Grants (R55) -/

/-- A reaction holds consumer n off (R57). -/
def heldOff (s : State) (n : Fin 7) : Bool :=
  match n with
  | 0 => s.dcc.state == .held || revokedBy s 3
  | 1 => revokedBy s 0
  | 2 => revokedBy s 1
  | 3 => s.axb.b[(0 : Fin 3)].state == .held
  | 4 => s.axb.b[(1 : Fin 3)].state == .held
  | 5 => s.axb.b[(2 : Fin 3)].state == .held
  | 6 => revokedBy s 2

/-- A share x × min(1, have ÷ want) (R55). To which whole watt a share is rounded R55 does not say: it
is truncated (DESIGN CHOICE, log 116). -/
def share (x have_ want : Nat) : Nat := if want ≤ have_ then x else x * have_ / want

/-- The seven grants of a cycle. -/
def grantsOf (s : State) (d c : Nat) : Vector Int 7 :=
  let r (n : Fin 7) : Int := if heldOff s n then 0 else s.pba.req[n]
  let pos (n : Fin 7) : Nat := (r n).toNat
  let neg (n : Fin 7) : Nat := (-(r n)).toNat
  let g0 := min (min (pos 0) (pbaDccReserveWatts s)) d
  let left := d - g0
  let absorb := c + g0
  let regen := neg 1 + neg 2
  let drive := pos 1 + pos 2
  let up (n : Fin 7) : Nat := share (pos n) left drive
  let tr (n : Fin 7) : Int := (up n : Int) - share (neg n) absorb regen
  let left := left - up 1 - up 2
  let g3 := min (pos 3) left
  let g4 := min (pos 4) (left - g3)
  let g5 := min (pos 5) (left - g3 - g4)
  let g6 : Int :=
    if s.pba.mode ≠ .charge then 0
    else if s.chg.state = .precond then (min (pos 6) (c + g0 + g3 + g4 + g5) : Nat)
    else r 6
  #v[(g0 : Int), tr 1, tr 2, (g3 : Int), (g4 : Int), (g5 : Int), g6]

/-- The limit of the step of consumer n, before consumers served earlier take from it. -/
def stepLimit (s : State) (d c : Nat) (g : Vector Int 7) (n : Fin 7) : Nat :=
  match n with
  | 0 => min (pbaDccReserveWatts s) d
  | 1 | 2 => if s.pba.req[n] < 0 then (c + g[(0 : Fin 7)]).toNat else d
  | 6 => (c + g[(0 : Fin 7)] + g[(3 : Fin 7)] + g[(4 : Fin 7)] + g[(5 : Fin 7)]).toNat
  | _ => d

/-- Outcome and reason of consumer n (R57). Of several causes of a zero grant stale limits come first
(R60), for the charger then the mode (R55), then a reaction, then the limit 0 (the rest of the order is
a DESIGN CHOICE, log 24). What a consumer other than a machine gets for a negative
request within its limits the spec does not state: `free` decides. -/
def outcomeOf (s : State) (d c : Nat) (stale : Bool) (g : Vector Int 7) (free : Nat) (n : Fin 7) :
    Nat × Nat :=
  let r := s.pba.req[n]
  if r = 0 ∨ g[n].natAbs = r.natAbs then (0, 0)
  else if g[n] ≠ 0 then (1, 1)
  else if stale then (3, 3)
  else if n = 6 ∧ s.pba.mode ≠ .charge then (3, 5)
  else if heldOff s n then (3, 4)
  else if stepLimit s d c g n = 0 then (3, 2)
  else if r < 0 ∧ n ≠ 1 ∧ n ≠ 2 then (free % 4, free / 4 % 16)
  else (2, 1)

/-! ### What a cycle does with a grant (R53, R56, R58, R59) -/

/-- The engine that serves consumer n (R54). -/
def grantEngine (s : State) (n : Fin 7) : Option (Fin 8) :=
  match n with
  | 0 => some 5
  | 1 => s.red.tok[(0 : Fin 4)].holder
  | 2 => s.red.tok[(1 : Fin 4)].holder
  | 6 => some 4
  | _ => some 6

/-- A grant as a fraction of RATED (R56). -/
def grantWord (s : State) (n : Fin 7) (g : Int) : Word24 := q23 g (100 * max (pbaConsRated s n) 1)

/-- The grant of consumer n written to its engine. -/
def State.giveGrant (s : State) (n : Fin 7) (g : Int) : State :=
  match grantEngine s n with
  | none => s
  | some e =>
    if n = 1 ∨ n = 2 then
      s.ceWrites e (pbaConsGrantWord s n) [grantWord s n (max g 0), grantWord s n (min g 0)]
    else s.ceWrite e (pbaConsGrantWord s n) (grantWord s n g)

/-- The path of the lowest enabled source that admits traction (R59). -/
def tractionSource (s : State) : Option Path :=
  ((List.range 16).find? fun i => pbaSrcValid s i && bit (pbaSrcGroups s i) 1).map fun i =>
    ⟨pbaSrcKind s i, pbaSrcChannel s i, pbaSrcStream s i, none⟩

/-- The notice of machine m with its grant and the deficit (R52, R59). -/
def State.sendNotice (s : State) (m : Fin 2) (outcome : Nat) (g deficit : Int) : State :=
  let due : Bool := match s.pba.notice[m] with
    | some x => decide (x + pbaCfgNoticeMs s * msTk ≤ s.clk.now)
    | none => true
  let path : Option Path := match s.pba.traction[m] with
    | some p => some p
    | none => tractionSource s
  match path, due with
  | some p, true =>
    (s.modPba fun k => { k with notice := k.notice.set m (some s.clk.now) }).reply p
      (responseBytes 0xF0 0 0 s.pba.mode.code outcome s.trx.m[m].limiter g deficit)
  | _, _ => s

/-- The consumer of machine m. -/
def consumerOf (m : Fin 2) : Fin 7 := if m = 0 then 1 else 2

/-- A regenerative grant of machine m below its request (R59). -/
def State.regenCheck (s : State) (m : Fin 2) : State :=
  let n := consumerOf m
  let r := s.pba.req[n]
  let g := s.pba.grant[n]
  if r < 0 ∧ g.natAbs < r.natAbs then
    let d := g - r
    (((s.modPba fun k => { k with regenShort := true }).tally 20).record bPBA (0xC0 + n.val) 4
      (wrapN 32 d)).sendNotice m s.pba.outcome[n] g d
  else s.modPba fun k => { k with notice := k.notice.set m none }

/-- The outcome of consumer n stored, and GRANT_WORSE if it is worse than before (R58). Which of the two
values of PAYLOAD[63:0] stands in the low half R58 does not say: the request (DESIGN CHOICE, log 117). -/
def State.setOutcome (s : State) (n : Fin 7) (o : Nat × Nat) : State :=
  let old := s.pba.outcome[n]
  let s := s.modPba fun k => { k with outcome := k.outcome.set n o.1, reason := k.reason.set n o.2 }
  if old < o.1 then
    s.record bPBA (0xC0 + n) 3 (n.val + put old 8 + put o.1 16)
      (wrapN 32 s.pba.req[n] + put (wrapN 32 s.pba.grant[n]) 32)
  else s

/-- The response of an accepted command that draws power (R53). -/
def State.answer (s : State) (w : Waiting) : State :=
  let lim := match w.machine with
    | some m => s.trx.m[m].limiter
    | none => 0xFF
  s.reply w.cmd.path (responseBytes w.cmd.code 0 w.cmd.seq w.mode.code s.pba.outcome[w.consumer] lim
    s.pba.grant[w.consumer] 0)

/-- A cycle of the arbiter at a multiple of 1 ms (R55 to R60). Limits that reach STALE_MS on the start
tick of a cycle are stale in that cycle: R60 says "from the next cycle on" and leaves open whether the
cycle of that tick is meant (DESIGN CHOICE, log 118). -/
def doArbiter (s : State) : State :=
  let t := s.clk.now
  if t % msTk ≠ 0 ∨ (t ≠ 0 ∧ s.pba.cycle = t) then s
  else
    let s := s.watchLimits
    let x := cycleLimits s
    let d := s.draw
    let s := d.1
    let g := grantsOf s x.1 x.2.1
    let s := s.modPba fun k => { k with cycle := t, grant := g, regenShort := false }
    let os : List (Fin 7 × (Nat × Nat)) :=
      ([0, 1, 2, 3, 4, 5, 6] : List (Fin 7)).map fun n => (n, outcomeOf s x.1 x.2.1 x.2.2 g (d.2 / 64 ^ n.val) n)
    let s := s.each os fun s o => (s.giveGrant o.1 g[o.1]).setOutcome o.1 o.2
    let s := if os.any fun o => o.2.1 ≠ 0 then s.tally 19 else s
    let s := if x.2.2 then s.tally 21 else s
    let s := s.each all2 State.regenCheck
    let ws := s.pba.waiting
    (s.modPba fun k => { k with waiting := [] }).each ws State.answer

/-- The DC link has stayed below HV_OFF for 10 ms in STANDBY (R40). -/
def doLinkLow (s : State) : State :=
  match s.pba.hvLow with
  | some x =>
    if s.pba.mode = .standby ∧ x + 10 * msTk ≤ s.clk.now then s.setMode .off 1 else s
  | none => s

/-- PBA_LIM_CHG or PBA_LIM_DIS is written by an initiator (R61). -/
def doLimitWrite (s : State) (chg : Bool) (v : Word32) : State :=
  if chg then s.limits s.clk.now s.pba.limDis v else s.limits s.clk.now v s.pba.limChg

/-! ### The commands -/

/-- ARBITER_CYCLE (R55). -/
def execArbiterCycle (t : Tick) (s : State) : Host.Outcome State Fault Refusal :=
  .next (doArbiter (s.at t))

/-- LIMITS_STALE (R60). -/
def execLimitsStale (t : Tick) (s : State) : Host.Outcome State Fault Refusal :=
  .next (s.at t).watchLimits

/-- DC_LINK_LOW_TIMEOUT (R40). -/
def execDcLinkLowTimeout (t : Tick) (s : State) : Host.Outcome State Fault Refusal :=
  .next (doLinkLow (s.at t))

/-- LIMIT_REGISTER_WRITE (R61). -/
def execLimitRegisterWrite (t : Tick) (chg : Bool) (v : Word32) (s : State) :
    Host.Outcome State Fault Refusal := .next (doLimitWrite (s.at t) chg v)

end Sys2Proof.Machine
end

