-- ==== Sys2Proof/Machine/SkidOps.lean ====
section
/-!
DEFINITION. The skid fabric: arrival of frames, ports, the number table, registrations and delivery
(R316, R322, R323, R328 to R332, R339).
-/

namespace Sys2Proof.Machine

open Sys2Proof

/-! ### Arrival (R318, R328) -/

/-- A frame of a kind arrives whole on port p; a bad one is counted, and a DATA frame whose header is good
for its stream too (R341). Frames are taken in UP, a CREDIT
frame in CREDIT as well (R316, R318). -/
def State.heard (s : State) (p : Fin 8) (kind : Nat) (bs : List Byte) (f : State → State) : State :=
  let st := s.skd.port[p].state
  if !domOn s 6 || st = .down || st = .align then s
  else if !frameGood bs then (if headGood bs then (s.tally 119).dropData bs else s.tally 119)
  else if frKind bs = kind && (st = .up || kind = 10) then f s
  else s

/-- A C3 frame that the shared pool does not admit (R340). -/
def c3Refused (s : State) (b : List Byte) : Bool :=
  frClass b = 3 && decide (1024 < c3Used s + unitsOf b + 16 * c3Floor s)

/-- A frame that came in on port p is forwarded on some ports, or its buffer becomes free. -/
def State.forward (s : State) (p : Fin 8) (ps : List (Fin 8)) (b : List Byte) : State :=
  if ps.isEmpty then s.freeUnits p (frClass b) (unitsOf b)
  else (if c3Refused s b then s else s.tally 113).enqueueOut ps b (some p)

/-- A routed frame that arrived on port p, and its delivery (R328). -/
def State.routed (s : State) (p : Fin 8) (bs : List Byte) (deliver : List Byte → State → State) : State :=
  let hops := min (frHops bs + 1) 15
  let b := withHops bs hops
  let free (s : State) : State := s.freeUnits p (frClass b) (unitsOf b)
  match routeRule s (some p) b with
  | .deliver => free (deliver b s)
  | .forward q => if hops < 15 then s.forward p [q] b else free (s.discard b)
  | .both ps => (deliver b s).forward p (if hops < 15 then ps else []) b
  | .discard => free (s.discard b)

/-! ### Ports (R316) -/

/-- Frames that leave the queues of port p unsent. -/
def State.flushPort (s : State) (p : Fin 8) : State :=
  let k := s.skd.port[p]
  let s := (s.modPort p fun k => { k with link := [], out := [] }).tallyBy 123
    (k.link.length + k.out.length)
  k.out.foldl (fun s f => (s.dropData f.bytes).frameGone f) s

/-- Node numbers for which port p makes an offer. -/
def offeredBy (s : State) (p : Fin 8) : List Nat :=
  (s.skd.offers.filter fun o => o.1 % 8 = p.val).map fun o => o.1 / 8

/-- Port p moves to ALIGN: its frames are discarded, its routes withdrawn, its credits start anew. -/
def State.toAlign (s : State) (p : Fin 8) (cause : Nat) : State :=
  let k := s.skd.port[p]
  let s := if k.state = .up then
      (s.tally 124).skdEvent p 2 cause
    else s
  let s := s.flushPort p
  let ns := offeredBy s p
  let s := s.modSkd fun k => { k with
    offers := k.offers.filter fun o => o.1 % 8 ≠ p.val
    port := k.port.map fun q => { q with
      out := q.out.map fun f => if f.src = some p then { f with src := none } else f } }
  let s := s.modPort p fun _ => { state := .align, busy := k.busy }
  ns.foldl State.reroute s

/-- 64 valid characters: a CREDIT frame leaves. -/
def doAligned (s : State) (p : Fin 8) : State :=
  if domOn s 6 && s.skd.port[p].state = .align then
    (s.modPort p fun k => { k with state := .credit, creditAt := s.clk.now }).enqueueLink p 10
      (leBytes 6 0)
  else s

/-- Silence, lost alignment or code errors. -/
def doSilence (s : State) (p : Fin 8) (cause : Nat) : State :=
  if s.skd.port[p].state = .credit ∨ s.skd.port[p].state = .up then s.toAlign p cause else s

/-- No valid CRUISE frame for 3 ms. -/
def doCruiseTimeout (s : State) (p : Fin 8) : State :=
  if s.skd.port[p].state = .up && decide (s.skd.port[p].infoAt + 3 * msTk ≤ s.clk.now) then s.toAlign p 3
  else s

/-- The neighbour's number as its latest CRUISE frame gave it. -/
def nbrNode (k : SkdPort) : Nat := match k.info with
  | some i => i.node
  | none => 0

/-- A CREDIT frame tells of freed units; the first one brings the port UP. -/
def State.creditIn (s : State) (p : Fin 8) (b : List Byte) : State :=
  let bs := frPayload b
  let s := s.modPort p fun k => { k with theirs := #v[leAt bs 0 2, leAt bs 2 2, leAt bs 4 2] }
  if s.skd.port[p].state = .credit then
    let now := s.clk.now
    let s := s.modPort p fun k => { k with state := .up, infoAt := now, advertAt := now, updateAt := now }
    let s := s.skdEvent p 1 (nbrNode s.skd.port[p])
    s.enqueueLink p 1 (cruisePayload s p)
  else s

/-- A CREDIT frame falls due on port p after 8 freed units or 10 µs (R336). -/
def doCreditUpdate (s : State) (p : Fin 8) : State :=
  let k := s.skd.port[p]
  if (k.state = .credit || k.state = .up) && (8 ≤ k.untold || decide (k.creditAt + 16000 ≤ s.clk.now)) then
    (s.modPort p fun k => { k with untold := 0, creditAt := s.clk.now }).enqueueLink p 10
      (k.freed.toList.flatMap fun n => leBytes 2 n)
  else s

/-! ### The own number (R322, R325) -/

/-- The device takes or gives up a number; both numbers are advertised. -/
def State.setNode (s : State) (n : Nat) : State :=
  let old := s.skd.node
  if old = n then s
  else
    (s.modSkd fun k => { k with
      node := n
      port := k.port.map fun q => { q with
        changed := (q.changed.filter fun x => x ≠ n ∧ x ≠ old) ++ [old, n].filter (· ≠ 0) } }).watchHolders

/-- An ASSIGN_REQ leaves for the coordinator. -/
def State.askNumber (s : State) (present : Nat) : State :=
  let s := s.modSkd fun k => { k with reqAt := s.clk.now }
  s.sendOut (buildFrame 254 s.skd.node 1 0 3 0
    (leBytes 8 s.skd.dieId ++ leBytes 1 (skdCfgReqNode s) ++ leBytes 1 present ++ leBytes 2 0))

/-! ### Registrations (R329, R330) -/

/-- The streams with TX set, in ascending order. -/
def txStreams (s : State) : List Nat :=
  s.regs.filterMap fun r =>
    if 0x40068000 ≤ r.1 && r.1 < 0x40070000 && r.1 % 8 = 0 && bit r.2.toNat 31 then
      some ((r.1 - 0x40068000) / 8)
    else none

/-- The coordinator's answer to a registration (R330). -/
def State.regAnswer (s : State) (st node : Nat) : State × Nat :=
  let o := sget 0 s.skd.owner st
  if o = node then (s, 1)
  else if 4096 ≤ s.skd.owner.length then (s, 2)
  else if o ≠ 0 then (s, 3)
  else (s.modSkd fun k => { k with owner := sput 0 k.owner st node }, 1)

/-- A REGISTER for stream st leaves for the coordinator. -/
def State.sendRegister (s : State) (st : Nat) : State :=
  s.sendOut (buildFrame 254 s.skd.node 1 0 5 0
    (leBytes 2 st ++ leBytes 1 (skdStrClass s st) ++ leBytes 1 (skdStrDest s st)))

/-- A stream's registration has an answer (R330). -/
def State.regResult (s : State) (st res : Nat) : State :=
  let s := s.modSkd fun k => { k with
    regWait := k.regWait.filter (·.1 ≠ st), result := sput 0 k.result st res }
  if res = 1 then s else (s.tally 121).skdEvent 0xFF 7 (st + put res 16)

/-- A device without a number refuses its own registrations (R330). It does so where it starts without a
number, where its request or its number is refused, and as a coordinator for which no number is free
(DEDUCED, log 89). -/
def State.refuseOwn (s : State) : State :=
  let s := s.modSkd fun k => { k with regLeft := [], regWait := [], result := [] }
  (txStreams s).foldl (fun s st => s.regResult st 5) s

/-- Registrations leave while fewer than 16 are unanswered; `fuel` is the number that waits. The
coordinator answers its own at once. -/
def State.pumpRegs : Nat → State → State
  | 0, s => s
  | fuel + 1, s =>
    match s.skd.regLeft with
    | [] => s
    | st :: rest =>
      if 16 ≤ s.skd.regWait.length then s
      else
        let s := s.modSkd fun k => { k with regLeft := rest }
        if s.skd.isCoord then
          let r := s.regAnswer st s.skd.node
          State.pumpRegs fuel (r.1.regResult st r.2)
        else
          State.pumpRegs fuel
            ((s.modSkd fun k => { k with regWait := k.regWait ++ [(st, s.clk.now)] }).sendRegister st)

/-- More registrations leave. -/
def State.pump (s : State) : State := State.pumpRegs s.skd.regLeft.length s

/-- The device enters NUMBERED: every TX stream is registered; granted streams flow on (R329). -/
def State.enterNumbered (s : State) : State :=
  if s.skd.node = 0 then (s.modSkd fun k => { k with cruise := .numbered }).refuseOwn
  else
  let ts := txStreams s
  let s := s.modSkd fun k => { k with
    cruise := .numbered, regLeft := ts, regWait := []
    result := ts.foldl (fun m st => if sget 0 m st = 1 then m else sput 0 m st 4) k.result }
  s.pump

/-! ### The number table (R323) -/

/-- An ASSIGN of this device. -/
def State.assignOut (s : State) (die num res : Nat) : State :=
  s.sendOut (buildFrame 255 s.skd.node 1 0 4 0
    (leBytes 8 die ++ leBytes 1 num ++ leBytes 1 res ++ leBytes 2 0))

/-- The holder of a number. -/
def holderOf (s : State) (n : Nat) : Option NumEntry := s.skd.nums.find? fun e => e.num = n

/-- Number n is free or held by a die. -/
def freeFor (s : State) (n die : Nat) : Bool :=
  match holderOf s n with
  | some e => e.die = die
  | none => true

/-- A number is entered for a die, whose other numbers leave the table. -/
def State.grantNumber (s : State) (die n : Nat) : State :=
  (s.modSkd fun k => { k with
    nums := ⟨n, die, none⟩ :: k.nums.filter fun e => e.num ≠ n ∧ e.die ≠ die }).watchHolders

/-- The answer to a request: a number, a refusal, or none yet; and the die that loses its number. -/
inductive Served where
  | granted (n : Nat) (loser : Option Nat)
  | refused
  | waits
deriving DecidableEq, Repr

/-- The rules of R323 that do not look at PRESENT. -/
def serveReq (s : State) (die req : Nat) : Served :=
  let lowest : Served := match ((List.range 254).drop 1).find? fun n => (holderOf s n).isNone with
    | some n => .granted n none
    | none => .refused
  if 1 ≤ req ∧ req ≤ 253 then
    match holderOf s req with
    | none => .granted req none
    | some e => if e.die = die then .granted req none else if e.lost.isSome then .waits else lowest
  else lowest

/-- The rules of R323. -/
def serve (s : State) (die req present : Nat) : Served :=
  if 1 ≤ present ∧ present ≤ 253 then
    match holderOf s present with
    | none => .granted present none
    | some e =>
      if e.die = die then .granted present none
      else if die < e.die then .granted present (some e.die)
      else serveReq s die req
  else serveReq s die req

/-- The coordinator serves its own request, with its number as PRESENT (R322, R323). -/
def State.ownNumber (s : State) : State :=
  match serve s s.skd.dieId (skdCfgReqNode s) s.skd.node with
  | .granted n _ =>
    let s := s.setNode n
    (s.modSkd fun k => { k with coordNode := n }).grantNumber s.skd.dieId n
  | _ => s

/-- The coordinator's own die loses its number to die `die`: it gives the number up and serves its own
request anew (R322, R323). -/
def State.ownLoss (s : State) (die n : Nat) : State :=
  let s := (s.skdEvent 0xFF 6 s.skd.node).setNode 0
  let s := ((s.grantNumber die n).modSkd fun k => { k with result := [] }).ownNumber
  (if s.skd.node = 0 then s else s.skdEvent 0xFF 4 s.skd.node).enterNumbered

/-- A refusal or a grant of a request reaches the device itself, or leaves as an ASSIGN. The die that
loses its number to a lower one is told so. -/
def State.assignReq (s : State) (die req present : Nat) : State :=
  let s := s.modSkd fun k => { k with reqWait := k.reqWait.filter (·.1 ≠ die) }
  match serve s die req present with
  | .waits => s.modSkd fun k => { k with reqWait := k.reqWait ++ [(die, req)] }
  | .refused =>
    let s := (s.modSkd fun k => { k with unblazed := min (k.unblazed + 1) 255 }).skdEvent 0xFF 5 0 die
    s.assignOut die 0 1
  | .granted n loser =>
    let s := match loser with
      | some d => if d = s.skd.dieId then s.ownLoss die n else s.assignOut d n 2
      | none => s
    (s.grantNumber die n).assignOut die n 0

/-- Numbers whose holders have been unreachable for HOLD_MS are freed with their streams, and granted to
those that wait for them. -/
def doHoldExpiry (s : State) : State :=
  let hold := max (skdCruiseHoldMs s) 1 * msTk
  let past (e : NumEntry) : Bool := match e.lost with
    | some x => decide (x + hold ≤ s.clk.now)
    | none => false
  let gone := (s.skd.nums.filter past).map (·.num)
  if s.skd.isCoord then
    let s := s.modSkd fun k => { k with
      nums := k.nums.filter fun e => !past e
      owner := k.owner.filter fun o => !gone.contains o.2 }
    (s.skd.reqWait.filter fun w => gone.contains w.2).foldl (fun s w => s.assignReq w.1 w.2 0) s
  else s

/-! ### Notices of C1 drops (R339) -/

/-- A C1_REFUSED record of this source. -/
def State.c1Refused (s : State) (st dropper count : Nat) : State :=
  s.skdEvent 0xFF 8 (st + put dropper 16) count

/-- A DATA frame of class C1 was dropped: a notice to its source, or the drop waits for the next. -/
def State.noticeC1 (s : State) (b : List Byte) : State :=
  let st := frStream b
  let src := frSrc b
  let w := s.clk.now / 16000000 + 1
  let held := match s.skd.c1.find? fun d => d.stream = st ∧ d.src = src with
    | some d => d.count
    | none => 0
  let rest := s.skd.c1.filter fun d => !(d.stream = st ∧ d.src = src)
  if sget 0 s.skd.notices src = w then
    (s.modSkd fun k => { k with c1 := rest ++ [⟨st, src, held + 1⟩] }).tally 117
  else
    let s := (s.modSkd fun k => { k with c1 := rest, notices := sput 0 k.notices src w }).tally 116
    if src = s.skd.node then s.c1Refused st s.skd.node (held + 1)
    else s.sendOut (buildFrame src s.skd.node 1 0 7 0
      (leBytes 2 st ++ leBytes 1 s.skd.node ++ leBytes 1 0 ++ leBytes 2 (min (held + 1) 65535)))

/-- A C1 frame has waited C1_AGE µs or longer. -/
def c1Old (s : State) (f : SkdFrame) : Bool :=
  f.cls = 1 && decide (f.tick + max (skdClassC1Age s) 1 * 1600 ≤ s.clk.now)

/-- The C1 frames that have waited too long on port p are dropped. -/
def State.dropOld (s : State) (p : Fin 8) : State :=
  let old := s.skd.port[p].out.filter (c1Old s)
  let s := s.modPort p fun k => { k with out := k.out.filter fun f => !c1Old s f }
  old.foldl (fun s f =>
    let s := (((s.tally 114).dropData f.bytes).frameGone f)
    if f.kind = 0 then s.noticeC1 f.bytes else s) s

/-! ### Delivery of DATA (R332) -/

/-- A stream is named by an enabled Blaze receive entry. -/
def blzStream (s : State) (st : Nat) : Bool :=
  all64.any fun i => blzCdefEn s i && !blzCdefDir s i && blzCdefMedium s i && blzCdefStream s i = st

/-- A stream is named by a valid PBA_SRC entry. -/
def srcStream (s : State) (st : Nat) : Bool :=
  (List.range 16).any fun i => pbaSrcValid s i && pbaSrcKind s i && pbaSrcStream s i = st

/-- A DATA frame is delivered: the first list that names its stream takes it. -/
def State.dataIn (s : State) (port stamp : Nat) (b : List Byte) : State :=
  let st := frStream b
  let bs := frPayload b
  if blzStream s st then
    { s with blz := { s.blz with rx := s.blz.rx ++ [⟨true, port, st, stamp, bs⟩] } }
  else if limStream s st then s.limitFrame stamp bs
  else if srcStream s st then s.commandFrame ⟨true, port, st, none⟩ stamp bs
  else if !skdStrRx s st then (s.tally 120).dropData b
  else
    let d := st + put (frClass b) 12 + put (frLen b) 16
    let w := (eventWord s stamp bSKD port 0x100 d 0).toNat
    let w := w - put (bits w 191 184) 184 + put (frSrc b) 184
    let r := s.offer (Fin.ofNat 32 (skdStrRing s st)) (dataEntries w bs)
    if r.2 then r.1 else (r.1.tally 120).dropData b

end Sys2Proof.Machine
end

