-- ==== Sys2Proof/Machine/Domain.lean ====
section
/-!
DEFINITION. Power domains (R375 to R377, R382).
-/

namespace Sys2Proof.Machine

open Sys2Proof

/-- The mailboxes of domain d are emptied (R382). -/
def State.emptyBoxes (s : State) (d : Fin 10) : State :=
  s.each all64 fun s m => if mbxDom s m = some d then s.modMbx m Mailbox.empty else s

/-- Domain d requested off: it refuses accesses from now on (R376). -/
def State.turnOff (s : State) (d : Fin 10) : State :=
  let s := s.modSys fun k => { k with
    pdctl := k.pdctl &&& ~~~BitVec.ofNat 10 (2 ^ d.val)
    dom := if k.dom[d] = .off then k.dom else k.dom.set d .turningOff }
  s.emptyBoxes d

/-- The request of bit d of a write of SYS_PDCTL (R377). -/
def State.requestDomain (s : State) (v : BitVec 10) (d : Fin 10) : State :=
  let new := v.getLsbD d.val
  if new = s.sys.pdctl.getLsbD d.val then s
  else if new then s.turnOn d
  else if 6 ≤ d.val && !(s.pba.mode == .off || s.pba.mode == .standby) then s.tally 139
  else s.turnOff d

def allDoms : List (Fin 10) := [0, 1, 2, 3, 4, 5, 6, 7, 8, 9]

/-- A channel of CAN runs while it is enabled and PD_CAN is on (R346). -/
def State.canStart (s : State) (ch : Fin 6) : State :=
  if canCfgEn s ch && domOn s 7 then (s.modCan ch fun k => { k with st := 0 }).offerIdle ch else s

def all6 : List (Fin 6) := [0, 1, 2, 3, 4, 5]

/-- Enabled skid ports leave DOWN (R316); the device has no number yet (R322, R330). -/
def State.skdStart (s : State) : State :=
  s.refuseOwn.each all8 fun s p =>
    if skdPortEn s p && domOn s 6 && s.skd.port[p].state == .down then
      s.modPort p fun k => { k with state := .align }
    else s

/-- What domain d does as it comes on. STATE 2 of a pair stays (R298). -/
def State.domainUp (s : State) (d : Fin 10) : State :=
  if h : d.val < 6 then
    let k : Fin 6 := ⟨d.val, h⟩
    let s := s.clearPair k
    { s with red := { s.red with pair := vupd s.red.pair k fun p => { p with
        state := if p.state = 2 then 2 else if pairSplit s k then 1 else 0, released := false } } }
  else if d = 6 then s.skdStart
  else if d = 7 then s.each all6 State.canStart
  else s

/-- What domain d does as it goes off: STATE 2 of a pair stays (R298), SKD and the CAN channels lose what they hold. -/
def State.domainDown (s : State) (d : Fin 10) : State :=
  if h : d.val < 6 then
    { s with red := { s.red with pair := vupd s.red.pair ⟨d.val, h⟩ fun p => { p with
        state := if p.state = 2 then 2 else 3, released := false } } }
  else if d = 6 then { s with skd := { dieId := s.skd.dieId } }
  else if d = 7 then { s with can := Vector.replicate 6 {} }
  else s

/-- A mode change that waits for domains takes effect when they show ON (R377). -/
def State.pollMode (s : State) : State :=
  match s.pba.toMode with
  | some m => if domainsReady s then s.setMode m 0 else s
  | none => s

/-- Domain d ends its transition (R376). -/
def doDomainEnd (s : State) (d : Fin 10) : State :=
  match s.sys.dom[d] with
  | .turningOn =>
    let s := (s.modSys fun k => { k with dom := k.dom.set d .on }).domainUp d
    (s.record bSYS 0xFF 4 (d.val + 16)).pollMode
  | .turningOff =>
    let s := (s.modSys fun k => { k with dom := k.dom.set d .off }).domainDown d
    s.record bSYS 0xFF 4 d.val
  | _ => s

/-- POWER_DOMAIN_REQUEST (R377). -/
def execPowerDomainRequest (t : Tick) (v : BitVec 10) (s : State) : Host.Outcome State Fault Refusal :=
  .next ((s.at t).each allDoms fun s d => s.requestDomain v d)

/-- DOMAIN_TRANSITION_END (R376). -/
def execDomainTransitionEnd (t : Tick) (d : Fin 10) (s : State) : Host.Outcome State Fault Refusal :=
  .next (doDomainEnd (s.at t) d)

end Sys2Proof.Machine
end

