-- ==== Sys2Proof/Machine/Engine.lean ====
section
/-!
DEFINITION. The commands of the control engines: triggers, passes, the instructions of R99 and program
loads (R91 to R114). An instruction row lets its engine issue the next instruction of its pass.
-/

namespace Sys2Proof.Machine

open Sys2Proof

/-- The timer of engine e matches (R92). -/
def doTimer (s : State) (e : Fin 8) : State :=
  let p := max (ceTimerPeriod s e) 400
  if ceTimerPeriod s e = 0 ∨ s.clk.now % p ≠ ceTphasePhase s e % p then s else s.trigger e .timer

/-- Bits that have flipped in rows of a memory (R368). -/
def flipRows {n : Nat} (m : Sparse (List (Fin 266))) (l : List (Fin n × Fin 266)) :
    Sparse (List (Fin 266)) :=
  l.foldl (fun m x => sput [] m x.1.val (mergeFlips (sget [] m x.1.val) [x.2])) m

/-- The pass of an IDLE engine starts 16 tk after its trigger, and not before the held writes of its
latest pass have been applied; bits that have flipped in its memories are noted (R90, R93, R95). -/
def doPassStart (s : State) (e : Fin 8) (pup : List (Fin 512 × Fin 266)) (dup : List (Fin 128 × Fin 266)) :
    State :=
  let s := s.modCe e fun k => { k with
    pflips := flipRows k.pflips pup, dflips := flipRows k.dflips dup }
  let k := s.ce[e]
  let start := max (k.raised + 16) k.readyAt
  if k.state = .idle ∧ k.anyPend ∧ start ≤ s.clk.now then s.modCe e fun k => k.start start else s

/-- The fields of CE_PLOAD_CTL: rows to load and the first destination row (R116). -/
def loadRows (v : Nat) : Nat := if bits v 24 16 = 0 then 512 else bits v 24 16

/-- A write of CE_PLOAD_CTL (R113). -/
def doLoad (s : State) (e : Fin 8) (v : Word32) : State :=
  let x := v.toNat
  let n := loadRows x
  let s := s.modCe e fun k => { k with loadCount := bits x 24 16, loadDest := bits x 8 0 }
  let k := s.ce[e]
  if !bit x 31 || k.loadBusy then s
  else if k.state ≠ .stopped then s.modCe e fun k => { k with loadResult := 1 }
  else if 512 < bits x 8 0 + n ∨ !inSram k.loadSrc ∨ sramEnd < k.loadSrc + 32 * n then
    s.modCe e fun k => { k with loadResult := 2 }
  else s.modCe e fun k => { k with
    loadBusy := true, loadFrom := s.clk.now, goRows := n, goDest := bits x 8 0, goSrc := k.loadSrc }

/-- A load of engine e completes: one of the boot controller, or one of CE_PLOAD_CTL, which writes the
program memory only while the engine is STOPPED (R113, R402). -/
def doLoaded (s : State) (e : Fin 8) : State :=
  let k := s.ce[e]
  if !k.loadBusy then s
  else match bootLoadSlot s e with
    | some slot => (s.bootLoad slot s.boot.act.part e).bootPoll
    | none =>
      if k.state ≠ .stopped then s.modCe e fun k => { k with loadBusy := false, loadResult := 1 }
      else
        let r := s.readRows 24 k.goSrc k.goRows
        if r.2 then r.1.modCe e fun k => { k with loadBusy := false, loadResult := 3 }
        else r.1.loadProgram e (8 * k.goDest) (wordsOf (memBytes r.1 k.goSrc (32 * k.goRows)))

/-- An engine row whose fault is the one it names. -/
def onlyFault (s : State) (e : Fin 8) (c : Nat) : State :=
  if s.ce[e].state = .running ∧ issueFault s e = c then s.engineRow e 64 fun s _ => s else s

/-- ENGINE_TIMER_TRIGGER (R92). -/
def execEngineTimerTrigger (t : Tick) (e : Fin 8) (s : State) : Host.Outcome State Fault Refusal :=
  .next (doTimer (s.at t) e)

/-- SWTRIG (R92). -/
def execSwtrig (t : Tick) (e : Fin 8) (s : State) : Host.Outcome State Fault Refusal :=
  .next ((s.at t).trigger e .software)

/-- RUN (R91). -/
def execRun (t : Tick) (e : Fin 8) (v : Bool) (s : State) : Host.Outcome State Fault Refusal :=
  .next (((s.at t).writeRun e v).bootPoll.watchRows)

/-- PASS_START (R93). -/
def execPassStart (t : Tick) (e : Fin 8) (pup : List (Fin 512 × Fin 266))
    (dup : List (Fin 128 × Fin 266)) (s : State) : Host.Outcome State Fault Refusal :=
  .next (doPassStart (s.at t) e pup dup)

/-- DMEM_WRITE (R95). -/
def execDmemWrite (t : Tick) (e : Fin 8) (j : Fin 1024) (v : Word24) (s : State) :
    Host.Outcome State Fault Refusal :=
  .next ((s.at t).ceWrite e j v)

/-- PROGRAM_LOAD (R113). -/
def execProgramLoad (t : Tick) (e : Fin 8) (v : Word32) (s : State) : Host.Outcome State Fault Refusal :=
  .next (doLoad (s.at t) e v)

/-- PROGRAM_LOADED (R113). -/
def execProgramLoaded (t : Tick) (e : Fin 8) (s : State) : Host.Outcome State Fault Refusal :=
  .next (doLoaded (s.at t) e)

/-- ILLEGAL_OP (R112). -/
def execIllegalOp (e : Fin 8) (s : State) : Host.Outcome State Fault Refusal :=
  .next (onlyFault s e 1).watchRows

/-- OVERTIME (R112). -/
def execOvertime (e : Fin 8) (s : State) : Host.Outcome State Fault Refusal :=
  .next (onlyFault s e 4).watchRows

/-- NOP (R99). -/
def execNop (e : Fin 8) (s : State) : Host.Outcome State Fault Refusal :=
  .next (s.engineRow e 0x0 fun s w => s.plain e (fun k _ => k) w).watchRows

/-- LD (R99). -/
def execLd (e : Fin 8) (s : State) : Host.Outcome State Fault Refusal :=
  .next (s.engineRow e 0x1 fun s w => s.plain e opLd w).watchRows

/-- ST (R99). -/
def execSt (e : Fin 8) (s : State) : Host.Outcome State Fault Refusal :=
  .next (s.engineRow e 0x2 (doSt e)).watchRows

/-- LDI (R99). -/
def execLdi (e : Fin 8) (s : State) : Host.Outcome State Fault Refusal :=
  .next (s.engineRow e 0x3 fun s w => s.plain e opLdi w).watchRows

/-- MOV (R99). -/
def execMov (e : Fin 8) (s : State) : Host.Outcome State Fault Refusal :=
  .next (s.engineRow e 0x4 fun s w => s.plain e opMov w).watchRows

/-- MOVS (R101). -/
def execMovs (e : Fin 8) (s : State) : Host.Outcome State Fault Refusal :=
  .next (s.engineRow e 0x5 fun s w => s.plain e (opMovs e) w).watchRows

/-- ADD (R99). -/
def execAdd (e : Fin 8) (s : State) : Host.Outcome State Fault Refusal :=
  .next (s.engineRow e 0x8 fun s w => s.plain e opAdd w).watchRows

/-- SUB (R99). -/
def execSub (e : Fin 8) (s : State) : Host.Outcome State Fault Refusal :=
  .next (s.engineRow e 0x9 fun s w => s.plain e opSub w).watchRows

/-- ABS (R99). -/
def execAbs (e : Fin 8) (s : State) : Host.Outcome State Fault Refusal :=
  .next (s.engineRow e 0xa fun s w => s.plain e opAbs w).watchRows

/-- SHF (R99). -/
def execShf (e : Fin 8) (s : State) : Host.Outcome State Fault Refusal :=
  .next (s.engineRow e 0xb fun s w => s.plain e opShf w).watchRows

/-- MUL (R99). -/
def execMul (e : Fin 8) (s : State) : Host.Outcome State Fault Refusal :=
  .next (s.engineRow e 0xc fun s w => s.plain e opMul w).watchRows

/-- MAC (R99). -/
def execMac (e : Fin 8) (s : State) : Host.Outcome State Fault Refusal :=
  .next (s.engineRow e 0xd fun s w => s.plain e opMac w).watchRows

/-- MSU (R99). -/
def execMsu (e : Fin 8) (s : State) : Host.Outcome State Fault Refusal :=
  .next (s.engineRow e 0xe fun s w => s.plain e opMsu w).watchRows

/-- MVA (R99). -/
def execMva (e : Fin 8) (s : State) : Host.Outcome State Fault Refusal :=
  .next (s.engineRow e 0xf fun s w => s.plain e opMva w).watchRows

/-- DIV (R99). -/
def execDiv (e : Fin 8) (s : State) : Host.Outcome State Fault Refusal :=
  .next (s.engineRow e 0x10 fun s w => s.plain e opDiv w).watchRows

/-- SINCOS (R102). -/
def execSincos (e : Fin 8) (s : State) : Host.Outcome State Fault Refusal :=
  .next (s.engineRow e 0x14 fun s w => s.plain e opSincos w).watchRows

/-- CLARKE (R103). -/
def execClarke (e : Fin 8) (s : State) : Host.Outcome State Fault Refusal :=
  .next (s.engineRow e 0x15 fun s w => s.plain e opClarke w).watchRows

/-- PARK (R103). -/
def execPark (e : Fin 8) (s : State) : Host.Outcome State Fault Refusal :=
  .next (s.engineRow e 0x16 fun s w => s.plain e opPark w).watchRows

/-- PI (R104). -/
def execPi (e : Fin 8) (s : State) : Host.Outcome State Fault Refusal :=
  .next (s.engineRow e 0x17 fun s w => s.plain e opPi w).watchRows

/-- SVM (R105). -/
def execSvm (e : Fin 8) (s : State) : Host.Outcome State Fault Refusal :=
  .next (s.engineRow e 0x18 fun s w => s.plain e opSvm w).watchRows

/-- LIM (R99). -/
def execLim (e : Fin 8) (s : State) : Host.Outcome State Fault Refusal :=
  .next (s.engineRow e 0x19 fun s w => s.plain e opLim w).watchRows

/-- MINS (R106). -/
def execMins (e : Fin 8) (s : State) : Host.Outcome State Fault Refusal :=
  .next (s.engineRow e 0x1a (doBest e opMins)).watchRows

/-- MAXS (R106). -/
def execMaxs (e : Fin 8) (s : State) : Host.Outcome State Fault Refusal :=
  .next (s.engineRow e 0x1b (doBest e opMaxs)).watchRows

/-- LUT (R107). -/
def execLut (e : Fin 8) (s : State) : Host.Outcome State Fault Refusal :=
  .next (s.engineRow e 0x1c fun s w => s.plain e opLut w).watchRows

/-- BR (R100). -/
def execBr (e : Fin 8) (s : State) : Host.Outcome State Fault Refusal :=
  .next (s.engineRow e 0x20 (doBr e)).watchRows

/-- CALL (R99). -/
def execCall (e : Fin 8) (s : State) : Host.Outcome State Fault Refusal :=
  .next (s.engineRow e 0x21 (doCall e)).watchRows

/-- RET (R99). -/
def execRet (e : Fin 8) (s : State) : Host.Outcome State Fault Refusal :=
  .next (s.engineRow e 0x22 (doRet e)).watchRows

/-- END (R93). -/
def execEndPass (e : Fin 8) (s : State) : Host.Outcome State Fault Refusal :=
  .next (s.engineRow e 0x23 (doEnd e)).watchRows

/-- DUTY (R108). -/
def execDuty (e : Fin 8) (s : State) : Host.Outcome State Fault Refusal :=
  .next (s.engineRow e 0x28 (doDuty e)).watchRows

/-- COMMIT (R108). -/
def execCommit (e : Fin 8) (s : State) : Host.Outcome State Fault Refusal :=
  .next (s.engineRow e 0x29 (doCommit e)).watchRows

/-- RENEW (R301). -/
def execRenew (e : Fin 8) (s : State) : Host.Outcome State Fault Refusal :=
  .next (s.engineRow e 0x2a (doRenew e)).watchRows

/-- POST (R111). -/
def execPost (e : Fin 8) (s : State) : Host.Outcome State Fault Refusal :=
  .next (s.engineRow e 0x2b (doPost e)).watchRows

/-- FCLR (R99). -/
def execFclr (e : Fin 8) (s : State) : Host.Outcome State Fault Refusal :=
  .next (s.engineRow e 0x2c (doFclr e)).watchRows

end Sys2Proof.Machine
end

