-- ==== Sys2Proof/Machine/Links.lean ====
section
/-!
DEFINITION. The commands of the gate scheduler and the gate links (R159 to R182) and the two timed
events of drive tokens (R172, R300).
-/

namespace Sys2Proof.Machine

open Sys2Proof

/-- Tick t is a period start of group g (R159, R228). -/
def periodDue (s : State) (g : Fin 4) : Bool :=
  let k := s.gsc.g[g]
  let t := s.clk.now
  gscCarrierEn s g && (!k.started || decide (k.pstart < t)) &&
    (if g = 3 then isDccStart s t else ((t : Int) - phaseOf s g) % periodOf s g == 0)

/-- A period of group g starts: the written PERIOD and PHASE take effect, CAP is told, and the
converter takes its period (R74, R159, R227). -/
def doCarrier (s : State) (g : Fin 4) : State :=
  if !periodDue s g then s
  else
    let prev := s.gsc.g[g].pstart
    let t := s.clk.now
    let s := s.modGroup g fun k => { k with
      pstart := t, started := true, period := k.periodW, phase := k.phaseW }
    let s := if g = 3 then s.dccPeriod prev else s
    s.periodStarts ⟨g.val, by omega⟩ t (if g = 3 then dccLength s t else periodOf s g)

/-- The oldest commit of group g is converted 64 tk after its tick (R161). -/
def doConversion (s : State) (g : Fin 4) : State :=
  match s.gsc.g[g].commits with
  | [] => s
  | c :: cs =>
    if s.clk.now < c.tick + 64 then s
    else (s.modGroup g fun k => { k with commits := cs }).convert g c

/-- A CONFIG_REPLY of the hub of link l; one that comes after its 10 µs counts as missing (R179, R180). -/
def State.configReply (s : State) (l : Fin 12) (seq : Nat) (data : Word32) (result : Byte) : State :=
  let k := s.glk[l]
  if (seq + 1) % 16 ≠ k.cmdSeq then s
  else match k.state with
    | .measure | .identify | .configure =>
      (if replyLate s l then s.replyMissing l else s.bringReply l data (result != 0)).watchRows
    | .sync | .up =>
      if !k.cmdBusy || k.cmdDue.isSome then s
      else if replyLate s l then s.replyMissing l
      else s.cmdReply l data (result != 0)
    | _ => s

/-- An ECHO_REPLY of the hub of link l, within its 10 µs (R179). -/
def State.echoed (s : State) (l : Fin 12) (token : Byte) : State :=
  if s.glk[l].state = .measure ∧ replyLate s l then s.replyMissing l else s.bringEcho l token

/-- Characters from the hub of link l: a frame is taken by its TYPE; one that is discarded counts (R173,
R175, R182). -/
def State.heardFrom (s : State) (l : Fin 12) (cs : List LinkChar) : State :=
  if !linkHears s.glk[l] then s
  else match heardOf cs with
    | .frame 8 _ [st, gates, supply, late, err, drop] =>
      (s.statusFrame l st gates supply late err drop).watchRows
    | .frame 9 seq (_ :: bs) =>
      s.configReply l seq (BitVec.ofNat 32 (leNat (bs.take 4))) (bs.getD 4 0)
    | .frame 10 _ [token] => s.echoed l token
    | .discarded => s.tally 62
    | _ => s

/-- The claim of group g stays away for WAIT after the lease expired (R172). -/
def doUnclaimed (s : State) (g : Fin 4) : State :=
  let s := s.lapse g s.clk.now
  let k := s.red.tok[g]
  if k.state = .expired ∧ !k.unclaimed ∧ k.expiredAt + gscClaimWait s g ≤ s.clk.now
      ∧ s.gsc.g[g].state = .driven then
    (s.modTok g fun k => { k with unclaimed := true }).recordReport bGSC (0xC0 + g) 3 (k.epoch.toNat % 65536)
  else s

/-! ### The commands -/

/-- CARRIER_PERIOD_START (R159). -/
def execCarrierPeriodStart (t : Tick) (g : Fin 4) (s : State) : Host.Outcome State Fault Refusal :=
  .next (doCarrier (s.at t) g)

/-- COMMIT_CONVERSION (R161). -/
def execCommitConversion (t : Tick) (g : Fin 4) (s : State) : Host.Outcome State Fault Refusal :=
  .next (doConversion (s.at t) g)

/-- EDGE_FRAME (R169). -/
def execEdgeFrame (t : Tick) (l : Fin 12) (s : State) : Host.Outcome State Fault Refusal :=
  .next ((s.at t).edgeFrame l)

/-- BEACON (R177). -/
def execBeacon (t : Tick) (l : Fin 12) (s : State) : Host.Outcome State Fault Refusal :=
  .next ((s.at t).beaconFrame l)

/-- LOSS_FRAME (R178). -/
def execLossFrame (t : Tick) (l : Fin 12) (s : State) : Host.Outcome State Fault Refusal :=
  .next ((s.at t).lossFrame l)

/-- FAULT_COMMA (R174). -/
def execFaultComma (t : Tick) (l : Fin 12) (b1 b2 : Byte) (s : State) :
    Host.Outcome State Fault Refusal :=
  let s := s.at t
  .next (if linkHears s.glk[l] then s.faultComma l b1 b2 else s)

/-- STATUS (R179). -/
def execStatus (t : Tick) (l : Fin 12) (chars : List LinkChar) (s : State) :
    Host.Outcome State Fault Refusal := .next ((s.at t).heardFrom l chars)

/-- CONFIG_REPLY (R180). -/
def execConfigReply (t : Tick) (l : Fin 12) (chars : List LinkChar) (s : State) :
    Host.Outcome State Fault Refusal := .next ((s.at t).heardFrom l chars)

/-- ECHO_REPLY (R179). -/
def execEchoReply (t : Tick) (l : Fin 12) (chars : List LinkChar) (s : State) :
    Host.Outcome State Fault Refusal := .next ((s.at t).heardFrom l chars)

/-- ALIGNMENT_ACHIEVED, within 1 ms (R4, R179). -/
def execAlignmentAchieved (t : Tick) (l : Fin 12) (s : State) : Host.Outcome State Fault Refusal :=
  let s := s.at t
  .next (if s.glk[l].state = .align ∧ s.clk.now < s.glk[l].since + msTk then s.bringTo l .measure else s)

/-- ALIGN_TIMEOUT: 1 ms in ALIGN (R179). -/
def execAlignTimeout (t : Tick) (l : Fin 12) (s : State) : Host.Outcome State Fault Refusal :=
  let s := s.at t
  .next (if s.glk[l].state = .align ∧ s.glk[l].since + msTk ≤ s.clk.now then s.linkFails l 1 else s)

/-- REPLY_TIMEOUT: a reply is missing for 10 µs (R179, R180). -/
def execReplyTimeout (t : Tick) (l : Fin 12) (s : State) : Host.Outcome State Fault Refusal :=
  .next ((s.at t).replyMissing l)

/-- SYNC_TIMEOUT: 1 ms in SYNC (R179). -/
def execSyncTimeout (t : Tick) (l : Fin 12) (s : State) : Host.Outcome State Fault Refusal :=
  let s := s.at t
  .next (if s.glk[l].state = .sync ∧ s.glk[l].since + msTk ≤ s.clk.now then s.linkFails l 5 else s)

/-- STATUS_SILENCE: no valid STATUS for 30 µs on an UP link (R179). -/
def execStatusSilence (t : Tick) (l : Fin 12) (s : State) : Host.Outcome State Fault Refusal :=
  let s := s.at t
  .next (if s.glk[l].lastStatus + 48000 ≤ s.clk.now then (s.linkLost l 0).watchRows else s)

/-- ALIGNMENT_LOST (R179). -/
def execAlignmentLost (t : Tick) (l : Fin 12) (s : State) : Host.Outcome State Fault Refusal :=
  .next ((s.at t).linkLost l 1).watchRows

/-- CODE_ERRORS: four within 1 µs (R179). -/
def execCodeErrors (t : Tick) (l : Fin 12) (s : State) : Host.Outcome State Fault Refusal :=
  .next ((s.at t).linkLost l 2).watchRows

/-- RETRAIN (R179). -/
def execRetrain (t : Tick) (l : Fin 12) (s : State) : Host.Outcome State Fault Refusal :=
  .next ((s.at t).retrain l).watchRows

/-- CONFIG_EXCHANGE (R180). -/
def execConfigExchange (t : Tick) (id : Fin 64) (l : Fin 12) (v : Word32) (s : State) :
    Host.Outcome State Fault Refusal := .next ((s.at t).cmdWrite id l v)

/-- LEASE_EXPIRY (R300). -/
def execLeaseExpiry (t : Tick) (g : Fin 4) (s : State) : Host.Outcome State Fault Refusal :=
  .next ((s.at t).lapse g (s.at t).clk.now)

/-- TOKEN_UNCLAIMED (R172). -/
def execTokenUnclaimed (t : Tick) (g : Fin 4) (s : State) : Host.Outcome State Fault Refusal :=
  .next (doUnclaimed (s.at t) g)

end Sys2Proof.Machine
end

