-- ==== Sys2Proof/Machine/Memory.lean ====
section
/-!
DEFINITION. The commands of the memories, the mailboxes and the landing rings (R365 to R372, R378 to
R387).
-/

namespace Sys2Proof.Machine

open Sys2Proof

/-- The oldest correction is written back (R370). -/
def doWriteback (s : State) : State :=
  match s.sys.writeback with
  | [] => s
  | a :: _ => if (flipsAt s a).length = 1 then s.repaired a
      else s.modSys fun k => { k with writeback := k.writeback.drop 1 }

/-- When the scrubber reads again: an interval after it was due, or after now where it is later than that
(R372). -/
def nextScrub (s : State) : Nat :=
  let n := 4 * sysScrubInterval s
  if s.clk.now < s.sys.scrubAt + n then s.sys.scrubAt + n else s.clk.now + n

/-- The scrubber reads its next word once it is due (R372). -/
def doScrub (s : State) (up : List (Fin 266)) : State :=
  if sysScrubInterval s = 0 ∨ s.clk.now < s.sys.scrubAt then s
  else
    let a := scrubSkip s 12 s.sys.scrubPos
    let s := ((s.upset a up).readCheck none a).1
    s.modSys fun k => { k with scrubPos := scrubSkip s 12 (scrubNext a), scrubAt := nextScrub s }

/-- A write to a mailbox window (R378, R380, R382). -/
def doMbxWrite (s : State) (id m : Fin 64) (size : Nat) (w : Word256) : State :=
  let a := 0x40021000 + 32 * m.val
  match mbxReach s m with
  | 0 =>
    if size ≠ 32 then s.busError id a 2
    else
      let k := s.mbx[m]
      if !k.full then (s.mbxStore id m w false).busDone []
      else if mbxCfgOnFull s m then
        let s := (s.tally 135).record bMBX (0x40 + id) 1 (m.val + put (bits k.word.toNat 249 240) 16)
          (bits k.word.toNat 255 240)
        (s.mbxStore id m w true).busDone []
      else ((s.tally 136).record bMBX (0x40 + id) 2 m.val).busError id a 6
  | e => s.busError id a e

/-- A read of a mailbox window (R379, R382). -/
def doMbxRead (s : State) (id m : Fin 64) (size : Nat) (j : Fin 8) : State :=
  let a := 0x40021000 + 32 * m.val + (if size = 32 then 0 else 4 * j.val)
  match mbxReach s m with
  | 0 =>
    let w := s.mbx[m].word.toNat
    if size = 32 then (s.modMbx m Mailbox.empty).busDone (leBytes 32 w)
    else if size = 4 then s.busDone (leBytes 4 (w / 2 ^ (32 * j.val)))
    else s.busError id a 2
  | e => s.busError id a e

/-- The ring unit writes its oldest entry, one in a cycle of CLK_BUS (R384). -/
def doRingWrite (s : State) : State :=
  match s.lrg.waiting with
  | [] => s
  | e :: es =>
    if s.lrg.wrote = 1 + s.clk.now / 4 then s
    else
    let a := 32 * (lrgBaseAddr s e.ring + e.idx)
    let s := (s.store a (leBytes 32 e.word.toNat)).repaired a
    { s with lrg := { s.lrg with waiting := es, wrote := 1 + s.clk.now / 4 } }.modRing e.ring fun g => { g with count := g.count + 1 }

/-- A write of LRG_RELr (R386). -/
def doRelease (s : State) (r : Fin 32) (v : Word32) : State :=
  if bits v.toNat 31 16 = s.lrg.ring[r].lost.toNat % 65536 then
    let n := min s.lrg.ring[r].count (bits v.toNat 12 0)
    s.modRing r fun g => { g with
      ridx := (g.ridx + n) % max (ringDepth s r) 1, count := g.count - n }
  else s

/-- CORRECTED_WRITEBACK (R370). -/
def execCorrectedWriteback (t : Tick) (s : State) : Host.Outcome State Fault Refusal :=
  .next (doWriteback (s.at t))

/-- SCRUB (R372). -/
def execScrub (t : Tick) (upset : List (Fin 266)) (s : State) : Host.Outcome State Fault Refusal :=
  .next (doScrub (s.at t) upset)

/-- MAILBOX_WRITE (R378). -/
def execMailboxWrite (t : Tick) (id m : Fin 64) (size : Nat) (w : Word256) (s : State) :
    Host.Outcome State Fault Refusal :=
  .next (doMbxWrite (s.at t) id m size w)

/-- MAILBOX_READ (R379). -/
def execMailboxRead (t : Tick) (id m : Fin 64) (size : Nat) (j : Fin 8) (s : State) :
    Host.Outcome State Fault Refusal :=
  .next (doMbxRead (s.at t) id m size j)

/-- RING_ENTRY_WRITE (R384). -/
def execRingEntryWrite (t : Tick) (s : State) : Host.Outcome State Fault Refusal :=
  .next (doRingWrite (s.at t))

/-- RING_RELEASE (R386). -/
def execRingRelease (t : Tick) (r : Fin 32) (v : Word32) (s : State) :
    Host.Outcome State Fault Refusal :=
  .next (doRelease (s.at t) r v)

end Sys2Proof.Machine
end

