-- ==== Sys2Proof/Machine/Brake.lean ====
section
/-!
DEFINITION. The commands of the safe brake, the brake test and the deliberate reset (R275 to R280).
-/

namespace Sys2Proof.Machine

open Sys2Proof

/-! ### Brake causes (R276 to R278) -/

/-- A confirmed brake cause: the fixed reaction, BRAKE_FAULT and its fault-log record (R278). -/
def State.brakeFault (s : State) (n : Fin 2) (cause : Nat) : State :=
  let s := s.modSbc n fun k => { k with faults := k.faults ||| BitVec.ofNat 8 (2 ^ cause) }
  let s := if s.rng.failed then s.applyBrakes
    else
      let s := (s.modRng fun k => { k with brakeHold := true }).applyBrakes
      s.fixedTraction.setMode .lockout 2
  let w := eventWord s s.clk.now bRNG (0xC0 + n) 4 cause 0
  ((((s.tally 94).recordReport bRNG (0xC0 + n) 4 cause 0 cause).logRecord w).watchRows).bootReact

/-- The causes that an evaluation finds failing (R276). -/
def failing (s : State) (k : Brake) : List Nat :=
  let vb : Int := (s.sbc.vbrk : Nat)
  let tol : Int := (sbcLimitsFbTol s : Nat)
  let all : List (Nat × Bool) :=
    if k.energised then
      [(3, decide (k.vhs < vb - 20)), (4, decide (20 < k.vls)), (5, k.icoil < sbcLimitsIOpen s),
        (6, decide (3000 ≤ k.icoil)), (7, decide (tol < ((k.vfb - k.vhs).natAbs : Int)))]
    else [(1, decide (20 < k.vhs)), (7, decide (tol < k.vfb))]
  all.filterMap fun x => if x.2 then some x.1 else none

/-- Runs of failed evaluations by cause 1 to 7. -/
def failRuns (bad : List Nat) (v : Vector Nat 7) : Vector Nat 7 :=
  Vector.ofFn fun i => if bad.contains (i.val + 1) then v[i] + 1 else 0

/-- Every cause whose run of failures reaches three is confirmed (R277). -/
def State.confirmBrake (s : State) (n : Fin 2) (runs : Vector Nat 7) : State :=
  (List.finRange 7).foldl (fun s i => if runs[i] = 3 then s.brakeFault n (i.val + 1) else s) s

/-- PULSE of SBC_CFG in ticks, within its limits (R285). -/
def pulseTicks (s : State) : Nat := 16000 * clampN (sbcCfgPulse s) 5 50

/-- INTERVAL of SBC_CFG in ticks. -/
def pulseEvery (s : State) : Nat := 16000000 * clampN (sbcCfgInterval s) 1 100

/-- A test pulse runs on channel n. -/
def pulseOn (s : State) (n : Fin 2) : Bool :=
  let k := s.sbc.ch[n]
  k.energised && decide (k.changed < k.pulseAt) && decide (s.clk.now < k.pulseAt + pulseTicks s)

/-- The evaluation of the checks of channel n at a multiple of 0.5 ms: every cause that reaches three
failures is confirmed, and one whose check no longer fails is gone (R276, R277). -/
def doBrakeCheck (s : State) (n : Fin 2) (vhs vls vfb : Int) (icoil vbrk : Nat) : State :=
  let s := { s with sbc := { s.sbc with vbrk := vbrk } }
  let s := s.modSbc n fun k => { k with
    vhs := vhs, vls := vls, vfb := vfb, icoil := icoil, hsOn := decide (20 < vhs), lsOn := decide (vls ≤ 20) }
  let k : Brake := s.sbc.ch[n]
  let now : Nat := s.clk.now
  let due : Bool := now % 800000 == 0 && decide (k.changed + 32000000 ≤ now) && !pulseOn s n
  if !due then s
  else
    let bad : List Nat := failing s k
    let runs : Vector Nat 7 := failRuns bad k.fails
    let s := s.modSbc n fun k => { k with
      fails := runs, faults := k.faults &&& BitVec.ofNat 8 ((bad.map fun c => (2 : Nat) ^ c).sum) }
    let s := s.watchRows
    s.confirmBrake n runs

/-! ### Test pulses (R275) -/

/-- Tick of the next test pulse of channel n. -/
def nextPulse (s : State) (n : Fin 2) : Nat :=
  let k := s.sbc.ch[n]
  k.retryAt.getD (max k.pulseAt k.changed + pulseEvery s)

/-- A test pulse of channel n starts. -/
def doTestPulse (s : State) (n : Fin 2) : State :=
  if s.sbc.ch[n].energised && decide (nextPulse s n ≤ s.clk.now) && !pulseOn s n then
    s.modSbc n fun k => { k with pulse := true, pulseAt := s.clk.now, retryAt := none }
  else s

/-- The check 20 µs into the pulse, on the voltage of the pulsed switch in 0.1 V. -/
def doPulseCheck (s : State) (n : Fin 2) (v : Int) : State :=
  let k := s.sbc.ch[n]
  if !(k.pulse && pulseOn s n && decide (k.pulseAt + 32000 ≤ s.clk.now)) then s
  else
    let ok := if k.pulseHigh then decide (v ≤ 20) else decide ((s.sbc.vbrk : Int) - 20 ≤ v)
    let s := s.modSbc n fun k => if k.pulseHigh then { k with vhs := v, hsOn := decide (20 < v) }
      else { k with vls := v, lsOn := decide (v ≤ 20) }
    if ok then
      s.modSbc n fun k => { k with
        pulse := false, pulseHigh := !k.pulseHigh, pulseFails := 0, passed := k.passed + 1 }
    else if k.pulseFails = 0 then
      s.modSbc n fun k => { k with
        pulse := false, pulseFails := 1, retryAt := some (k.pulseAt + 16000000) }
    else
      (s.modSbc n fun k => { k with pulse := false, pulseFails := 2 }).brakeFault n
        (if k.pulseHigh then 1 else 2)

/-! ### The brake test (R279) -/

/-- The 1 ms comparison of counts in B3. -/
def doMoveCheck (s : State) : State :=
  let q := s.rng.test
  if q.step ≠ 3 ∨ s.clk.now ≤ q.start ∨ (s.clk.now - q.start) % msTk ≠ 0 then s
  else
    let s := s.each (machines s) fun s m =>
      let d := (countOf s (encOf s m) - q.startCnt[m]).natAbs
      s.modTest fun k => { k with move := k.move.set m (max k.move[m] d) }
    let lim := max (rngBtestMoveLimit s) 1
    if (machines s).any fun m => lim ≤ s.rng.test.move[m] then s.endTest testMoved else s

/-- Every configured machine has reached 90 % of the test torque. -/
def torqueMet (s : State) : Bool := (machines s).all fun m => s.rng.test.torqueOk[m]

/-- The torque tests of B3. -/
def doTorqueCheck (s : State) : State :=
  let q := s.rng.test
  if q.step ≠ 3 then s
  else match q.first with
    | none => if q.start + 160000000 ≤ s.clk.now then s.endTest testTorque else s
    | some f =>
      if f + 320000000 ≤ s.clk.now && !torqueMet s then s.endTest testTorque else s

/-- B3 ends 2 s after its first commit. -/
def doTorqueEnd (s : State) : State :=
  let q := s.rng.test
  match q.first with
  | some f =>
    if q.step = 3 ∧ f + 3200000000 ≤ s.clk.now then
      s.endTest (if torqueMet s then testPass else testTorque)
    else s
  | none => s

/-! ### SAFE_RESET (R280) -/

/-- The filter of SAFE_RESET: 5 ms. -/
def resetFilter : Nat := 8000000

/-- ARM_S in ticks, 0 as 1 s. -/
def armTicks (s : State) : Nat := 1600000000 * max (rngLockArmS s) 1

/-- SAFE_RESET rises, filtered. -/
def doSafeRise (s : State) : State :=
  let stamp := s.clk.now - resetFilter
  let s := s.modRng fun k => { k with safeReset := true, pressAt := stamp }
  if s.rng.failed then s
  else if s.rng.lock = .armed then
    if stamp < s.rng.armedAt + armTicks s then s.lockTo .pressed else s.abandonReset
  else s

/-- SAFE_RESET falls, filtered. -/
def doSafeFall (s : State) : State :=
  let press := s.clk.now - resetFilter - s.rng.pressAt
  let s := s.modRng fun k => { k with safeReset := false, pressMs := min (press / msTk) 65535 }
  if s.rng.failed || s.rng.lock != .pressed then s
  else if 160000000 ≤ press ∧ press < 800000000 ∧ axleStill s then
    (s.lockTo .testing).startTest (10 * trxBtestTorque s : Nat) true
  else s.abandonReset

/-- SAFE_RESET has been high for 500 ms of its own time. -/
def doPressTimeout (s : State) : State :=
  if !s.rng.failed ∧ s.rng.lock = .pressed ∧ s.rng.safeReset ∧ s.rng.pressAt + 800000000 + resetFilter ≤ s.clk.now then
    s.abandonReset
  else s

/-- ARM_S has passed in ARMED without a rise of SAFE_RESET. -/
def doArmTimeout (s : State) : State :=
  if !s.rng.failed ∧ s.rng.lock = .armed ∧ s.rng.armedAt + armTicks s + resetFilter ≤ s.clk.now then s.abandonReset else s

/-! ### The commands -/

/-- TEST_PULSE (R275). -/
def execTestPulse (t : Tick) (n : Fin 2) (s : State) : Host.Outcome State Fault Refusal :=
  .next (doTestPulse (s.at t) n)

/-- PULSE_CHECK (R275). -/
def execPulseCheck (t : Tick) (n : Fin 2) (v : Int) (s : State) : Host.Outcome State Fault Refusal :=
  .next (doPulseCheck (s.at t) n v)

/-- BRAKE_CHECK (R276). -/
def execBrakeCheck (t : Tick) (n : Fin 2) (vhs vls vfb : Int) (icoil vbrk : Nat) (s : State) :
    Host.Outcome State Fault Refusal := .next (doBrakeCheck (s.at t) n vhs vls vfb icoil vbrk)

/-- MOVE_CHECK (R279). -/
def execMoveCheck (t : Tick) (s : State) : Host.Outcome State Fault Refusal :=
  .next (doMoveCheck (s.at t))

/-- TORQUE_CHECK (R279). -/
def execTorqueCheck (t : Tick) (s : State) : Host.Outcome State Fault Refusal :=
  .next (doTorqueCheck (s.at t))

/-- BRAKE_TEST_TORQUE_END (R279). -/
def execBrakeTestTorqueEnd (t : Tick) (s : State) : Host.Outcome State Fault Refusal :=
  .next (doTorqueEnd (s.at t))

/-- SAFE_RESET_RISE (R280). -/
def execSafeResetRise (t : Tick) (s : State) : Host.Outcome State Fault Refusal :=
  .next (doSafeRise (s.at t))

/-- SAFE_RESET_FALL (R280). -/
def execSafeResetFall (t : Tick) (s : State) : Host.Outcome State Fault Refusal :=
  .next (doSafeFall (s.at t))

/-- PRESS_TIMEOUT (R280). -/
def execPressTimeout (t : Tick) (s : State) : Host.Outcome State Fault Refusal :=
  .next (doPressTimeout (s.at t))

/-- ARM_TIMEOUT (R280). -/
def execArmTimeout (t : Tick) (s : State) : Host.Outcome State Fault Refusal :=
  .next (doArmTimeout (s.at t))

end Sys2Proof.Machine
end

