-- ==== Sys2Proof/Machine/Can.lean ====
section
/-!
DEFINITION. The commands of the CAN FD channels (R345 to R362).
-/

namespace Sys2Proof.Machine

open Sys2Proof

/-! ### Receiving (R351 to R354) -/

/-- The channel takes part in bus traffic: enabled, powered and not in bus-off. -/
def canRuns (s : State) (ch : Fin 6) : Bool := canCfgEn s ch && domOn s 7 && decide (s.can[ch].st < 2)

/-- An enabled Blaze receive entry names a base identifier of channel ch. -/
def blzCan (s : State) (ch : Fin 6) (ident : Nat) : Bool :=
  all64.any fun i => blzCdefEn s i && !blzCdefDir s i && !blzCdefMedium s i
    && blzCdefChannel s i == ch.val && blzCdefStream s i == ident

/-- A valid PBA_SRC entry names a base identifier of channel ch. -/
def srcCan (s : State) (ch : Fin 6) (ident : Nat) : Bool :=
  (List.range 16).any fun i => srcNames s ⟨false, ch.val, ident, none⟩ i

/-- A frame goes to the first list that names it, else to the filters (R351). -/
def State.canRoute (s : State) (ch : Fin 6) (stamp : Nat) (f : CanFrame) : State :=
  if !f.ide && blzCan s ch f.ident then
    { s with blz := { s.blz with rx := s.blz.rx ++ [⟨false, ch, f.ident, stamp, f.data⟩] } }
  else if !f.ide && limCan s ch f.ident then s.limitFrame stamp f.data
  else if !f.ide && srcCan s ch f.ident then s.commandFrame ⟨false, ch, f.ident, none⟩ stamp f.data
  else s.canFilter ch stamp f

/-- A frame received without error; the bus is idle after it. One with a recessive res bit brings the
protocol exception state of ISO 11898-1: it goes nowhere, and the channel waits for 11 recessive bits
(R345). -/
def doReceived (s : State) (ch : Fin 6) (stamp : Nat) (f : CanFrame) : State :=
  if !canRuns s ch || (f.fdf && !canCfgFd s ch) then s
  else if f.fdf && f.res then
    (s.modCan ch fun k => { k with other := false }).reoffer ch (s.clk.now + 11 * canBit s ch)
  else
    let s := if canCfgListen s ch then s else s.goodReceive ch
    ((s.tally 125).canRoute ch stamp f).frameEnd ch

/-- CAN_SHSEL is written: the buffer is captured (R354). -/
def doShsel (s : State) (ch : Fin 6) (b : Fin 64) : State :=
  (s.modCan ch fun k => { k with shadow := k.buf[b] }).modBuf ch b fun k => { k with new := false }

/-! ### Transmitting (R356 to R358) -/

/-- The frame that the staging registers hold; a DLC that the format cannot carry becomes the largest
that can. The FD format has no remote frame (R345). -/
def stagedFrame (s : State) (ch : Fin 6) : CanFrame :=
  let fdf := canTxinfoFdf s ch
  let rtr := canTxidRtr s ch && !fdf
  let dlc := if fdf then canTxinfoDlc s ch else min (canTxinfoDlc s ch) 8
  { ide := canTxidIde s ch, rtr := rtr, fdf := fdf, brs := fdf && canTxinfoBrs s ch
    ident := if canTxidIde s ch then canTxidId s ch else canTxidId s ch % 2048
    dlc := dlc
    data := if rtr then []
      else ((List.range 16).flatMap fun k => leBytes 4 (canTxdataData s ch k)).take (dlcBytes dlc) }

/-- The address of CAN_TXCMD. -/
def txcmdAddr (ch : Fin 6) : Nat := 0x40070088 + 0x1000 * ch.val

/-- CAN_TXCMD.BUF holds the buffer written. -/
def State.setTxcmd (s : State) (ch : Fin 6) (b : Fin 64) : State :=
  { s with regs := sput 0 s.regs (txcmdAddr ch) (BitVec.ofNat 32 b.val) }

/-- GO: the staged frame becomes pending in buffer b, or the write is refused (R356). -/
def doGo (s : State) (id : Fin 64) (ch : Fin 6) (b : Fin 64) : State :=
  if !domOn s 7 then s.busError id (txcmdAddr ch) 5
  else if !(canBufEn s ch b && canBufDir s ch b) || s.can[ch].buf[b].pend then
    s.busError id (txcmdAddr ch) 7
  else
    let f := stagedFrame s ch
    let one := canTxinfoOneshot s ch
    let s := s.modBuf ch b fun k => { k with
      frame := f, pend := true, oneshot := one, abort := false, txres := 0 }
    ((s.setTxcmd ch b).offerIdle ch).busDone []

/-- ABORT: a frame not on the bus ends; one on the bus ends if its attempt fails (R358). -/
def doAbort (s : State) (ch : Fin 6) (b : Fin 64) : State :=
  let s := s.setTxcmd ch b
  if !s.can[ch].buf[b].pend then s
  else if s.can[ch].offer = .buffer b ∧ onBus s ch then s.modBuf ch b fun k => { k with abort := true }
  else (s.bufFailed ch b 4).offerIdle ch

/-- A write to a register of channel ch by initiator `id`: it has its effect, or meets a block that is off
(R346). -/
def State.canAccess (s : State) (id : Fin 64) (a : Nat) (f : State → State) : State :=
  if domOn s 7 then (f s).busDone [] else s.busError id a 5

/-- The loop delay measured in an FD frame with BRS (R349). -/
def State.loopDelay (s : State) (ch : Fin 6) (f : CanFrame) (delay : Option Nat) : State :=
  match delay with
  | some d =>
    if canCfgTdcEn s ch && f.fdf && f.brs then
      let v := min d 127
      let s := s.modCan ch fun k => { k with tdcv := v }
      if 127 < v + canDbtTdco s ch then s.record bCAN (8 + ch) 7 v else s
    else s
  | none => s

/-- The frame on offer; an FD frame carries ESI while the channel is error passive (R345). -/
def offered (k : CanChan) : Option CanFrame :=
  let wire (f : CanFrame) : CanFrame := { f with esi := f.fdf && k.esi }
  match k.offer with
  | .none => none
  | .buffer b => some (wire k.buf[b].frame)
  | .queue => k.queue.head?.map wire

/-- A failed attempt of buffer b: one-shot, aborted, or tried again. -/
def State.attemptFailed (s : State) (ch : Fin 6) (b : Fin 64) (res : Nat) : State :=
  let k := s.can[ch].buf[b]
  if k.oneshot then s.bufFailed ch b res else if k.abort then s.bufFailed ch b 4 else s

/-- The outcome of an attempt for what was on offer. -/
def State.attemptEnds (s : State) (ch : Fin 6) (res : CanResult) : State :=
  match s.can[ch].offer, res with
  | .buffer b, .sent =>
    (s.modBuf ch b fun k => { k with pend := false, abort := false, txres := 1 }).tally 126
  | .queue, .sent => (s.modCan ch fun k => { k with queue := k.queue.drop 1 }).tally 126
  | .buffer b, .arbLost => s.attemptFailed ch b 2
  | .buffer b, .error => s.attemptFailed ch b 3
  | _, _ => s

/-- The attempt to send the frame on offer ends (R349, R357, R358, R361). -/
def doSendEnd (s : State) (ch : Fin 6) (res : CanResult) (delay : Option Nat) : State :=
  match offered s.can[ch] with
  | none => s
  | some f =>
    if !canSends s ch then s
    else
      let s := s.loopDelay ch f delay
      let s := if res = .sent then
          (s.setCounters ch (s.can[ch].tecCount - 1) s.can[ch].recCount).modCan ch fun k => { k with
            lastSent := some f }
        else s
      let s := s.attemptEnds ch res
      if res = .arbLost then (s.modCan ch fun k => { k with other := true }).reoffer ch s.clk.now
      else s.frameEnd ch

/-! ### Errors (R361, R362) -/

/-- A protocol error. -/
def doCanError (s : State) (ch : Fin 6) (k : CanFault) (flag : Bool) : State :=
  if !canRuns s ch || canCfgListen s ch then s
  else
    let s := if flag then s.tally 131 else s
    let c := s.can[ch]
    match k with
    | .transmit => s.setCounters ch (c.tecCount + 8) c.recCount
    | .receive => (s.setCounters ch c.tecCount (c.recCount + 1)).frameEnd ch
    | .dominant => s.setCounters ch c.tecCount (c.recCount + 8)
    | .uncounted => s

/-- RECOVER is written 1. -/
def doRecover (s : State) (ch : Fin 6) : State :=
  if s.can[ch].st = 2 then s.modCan ch fun k => { k with recovering := true } else s

/-- 128 occurrences of 11 recessive bits have been seen. -/
def doBusOn (s : State) (ch : Fin 6) : State :=
  if s.can[ch].st = 2 && s.can[ch].recovering then
    ((s.modCan ch fun k => { k with st := 0, tecCount := 0, recCount := 0, recovering := false }).record
      bCAN (8 + ch) 4).reoffer ch s.clk.now
  else s

/-! ### The commands -/

/-- CAN_FRAME_RECEIVED (R350, R351). -/
def execCanFrameReceived (t : Tick) (ch : Fin 6) (stamp : Tick) (f : CanFrame) (s : State) :
    Host.Outcome State Fault Refusal := .next (doReceived (s.at t) ch stamp f)

/-- SHSEL (R354). -/
def execShsel (t : Tick) (id : Fin 64) (ch : Fin 6) (b : Fin 64) (s : State) :
    Host.Outcome State Fault Refusal :=
  .next ((s.at t).canAccess id (0x40070014 + 0x1000 * ch.val) fun s => doShsel s ch b)

/-- TXCMD_GO (R356). -/
def execTxcmdGo (t : Tick) (id : Fin 64) (ch : Fin 6) (b : Fin 64) (s : State) :
    Host.Outcome State Fault Refusal := .next (doGo (s.at t) id ch b)

/-- ABORT (R358). -/
def execAbort (t : Tick) (id : Fin 64) (ch : Fin 6) (b : Fin 64) (s : State) :
    Host.Outcome State Fault Refusal :=
  .next ((s.at t).canAccess id (txcmdAddr ch) fun s => doAbort s ch b)

/-- TRANSMISSION_END (R358). -/
def execTransmissionEnd (t : Tick) (ch : Fin 6) (res : CanResult) (delay : Option Nat) (s : State) :
    Host.Outcome State Fault Refusal := .next (doSendEnd (s.at t) ch res delay)

/-- CAN_ERROR (R361). -/
def execCanError (t : Tick) (ch : Fin 6) (k : CanFault) (flag : Bool) (s : State) :
    Host.Outcome State Fault Refusal := .next (doCanError (s.at t) ch k flag)

/-- RECOVER (R362). -/
def execRecover (t : Tick) (id : Fin 64) (ch : Fin 6) (s : State) : Host.Outcome State Fault Refusal :=
  .next ((s.at t).canAccess id (0x40070010 + 0x1000 * ch.val) fun s => doRecover s ch)

/-- BUS_ON (R362). -/
def execBusOn (t : Tick) (ch : Fin 6) (s : State) : Host.Outcome State Fault Refusal :=
  .next (doBusOn (s.at t) ch)

end Sys2Proof.Machine
end

