-- ==== Sys2Proof/Machine/Capture.lean ====
section
/-!
DEFINITION. The commands of fast capture: seals, references and rotating calibration (R67 to R86).
-/

namespace Sys2Proof.Machine

open Sys2Proof

/-- The windows and the carrier periods of the present period, or of the one before. -/
def capView (s : State) (old : Bool) : Wins × Vector Nat 7 :=
  if old then (s.cap.prior, s.cap.priorPeriod) else (s.cap.win, s.cap.period)

/-- The values of window w of channel k, sealed on tick `close`, and its mark (R69, R71). -/
def State.sealWin (s : State) (k : Fin 24) (w : Fin 8) (close : Nat) (old : Bool) (samples : List Sample) :
    State :=
  let v := capView s old
  let valid := winValid s v.1 v.2 (k, w)
  let x := v.1.at (k, w)
  let s := s.modRes k w fun r => if valid then sealValues s k x r close samples else sealInvalid r close
  let last := (samples.map (·.raw)).getLast?
  let mark (ws : Wins) : Wins := vupd ws k fun v => vupd v w fun x => { x with sealed := true, owed := false }
  s.modCap fun c => { c with
    win := if old then c.win else mark c.win
    prior := if old then mark c.prior else c.prior
    raw := c.raw.set k (last.getD c.raw[k]) }

/-- The set of a window that has just been sealed leaves if it is complete; an invalid window may join
a set that completes on the same tick (R77). -/
def State.afterSeal (s : State) (k : Fin 24) (w : Fin 8) (close : Nat) (old valid : Bool) : State :=
  let v := capView s old
  let i := (v.1.at (k, w)).set
  if !valid then s.joinDelivery i (memberOf s v.1 false (k, w))
  else if setComplete s v.1 v.2 i (if old then s.cap.priorDelivered[i] else s.cap.delivered[i]) then
    (s.modCap fun c => { c with
      delivered := if old then c.delivered else c.delivered.set i true
      priorDelivered := if old then c.priorDelivered.set i true else c.priorDelivered }).sendSet
      (deliveryOf s v.1 v.2 i close)
  else s

/-- A window seals: values, counts, consumers on the power die and the delivery of its set (R71 to
R78). -/
def doSeal (s : State) (k : Fin 24) (w : Fin 8) (samples : List Sample) : State :=
  match sealTick s k w with
  | none => s
  | some (close, old) =>
    if s.clk.now < close then s
    else
      let v := capView s old
      let valid := winValid s v.1 v.2 (k, w)
      let s := s.sealWin k w close old samples
      let f := s.cap.res[k][w].flags
      let s := if f.getLsbD 5 then s.tally 27 else s
      let s := if f.getLsbD 4 then s.tally 28 else s
      ((s.sealedResult (k, w)).afterSeal k w close old valid).watchRows

/-- A read of CAP_RSUMk_w (R78). -/
def doResultCapture (s : State) (k : Fin 24) (w : Fin 8) : State :=
  s.modRes k w fun x => { x with
    capFlags := x.flags, capCount := x.count, capStamp := BitVec.ofNat 32 x.stamp }

/-! ### References (R67, R68) -/

/-- Reference r ends its settling 200 µs after it began. The settling after PORn began before the time
base did, by a time that the spec does not give, so its end is taken when the row comes (DESIGN CHOICE, log 126). -/
def doRefSettled (s : State) (r : Fin 3) (mv : Nat) : State :=
  let again := r = 1 && s.cap.extWas
  if !s.cap.settling[r] || (again && decide (s.clk.now < s.cap.settleFrom[r] + 320000)) then s
  else
    let s := s.modCap fun c => { c with
      settling := c.settling.set r false
      settledAt := c.settledAt.set r s.clk.now
      extWas := if r = 1 then false else c.extWas }
    if again then s.record bCAP 0xFF 7 mv else s

/-- VREF_EXT leaves 1.500 to 1.700 V. What REF_SETTLING bit 1 shows while it is out of range during its
settling the spec does not say: it clears until the return (DESIGN CHOICE, log 122). -/
def doRefBad (s : State) (mv : Nat) : State :=
  if s.cap.extBad || decide (1500 ≤ mv ∧ mv ≤ 1700) then s
  else
    let s := s.modCap fun c => { c with
      extBad := true, extWas := true
      unsetFrom := if c.settling[1] then c.unsetFrom else c.unsetFrom.set 1 s.clk.now
      settling := c.settling.set 1 false }
    s.recordReport bCAP 0xFF 6 mv

/-- VREF_EXT returns into its range and settles. -/
def doRefReturn (s : State) : State :=
  if !s.cap.extBad then s
  else s.modCap fun c => { c with
    extBad := false, settling := c.settling.set 1 true, settleFrom := c.settleFrom.set 1 s.clk.now }

/-! ### Rotating calibration (R80 to R85) -/

def overlapOf (s : State) : Nat := max (capRot2Overlap s) 16
def calSamplesOf (s : State) : Nat := max (capRot2CalSamples s) 256
def mismatchOf (s : State) : Nat := 16 * max (capRotMismatchLsb s) 1

/-- A spare that can shadow: F22, or F23 where F22 is retired or bound (R81). -/
def freeSpare (s : State) : Option (Fin 24) :=
  if !s.cap.conv[(22 : Fin 24)].retired && s.cap.bound22.isNone then some 22
  else if !s.cap.conv[(23 : Fin 24)].retired && s.cap.bound23.isNone then some 23
  else none

/-- A converter is passed over at its turn (R80). -/
def calSkips (s : State) (c : Fin 24) : Bool :=
  s.cap.conv[c].retired || (c = 22 && s.cap.bound22.isSome) || (c = 23 && s.cap.bound23.isSome)
    || s.cap.settling[refOf s c]

/-- The converter whose turn it is. -/
def calNext (s : State) : Option (Fin 24) :=
  ((List.range 24).map fun i => s.cap.turn + Fin.ofNat 24 i).find? fun c => !calSkips s c

/-- Channel k takes another converter, or none, from the present tick on (R82). -/
def State.setFeed (s : State) (k : Fin 24) (f : Option (Fin 24)) : State :=
  s.modCap fun c => { c with
    was := c.was.set k (feedAt s k (s.clk.now + 1))
    moved := c.moved.set k s.clk.now
    feed := c.feed.set k f }

/-- A calibration starts (R80, R81). -/
def doCalStart (s : State) : State :=
  let interval := capRotIntervalMs s * msTk
  if interval = 0 ∨ s.cap.stopped ∨ s.cap.cal.isSome ∨ s.clk.now < s.cap.calFrom + interval then s
  else match calNext s with
    | none => s
    | some c =>
      let shadowed := decide (c.val < 22) && capChEn s c
      match shadowed, freeSpare s with
      | true, none => s
      | true, some q =>
        (s.modCap fun k => { k with
          cal := some ⟨c, some q, .overlapOut, s.clk.now⟩, turn := c + 1, calFrom := s.clk.now }).setFeed q none
      | false, _ =>
        (s.modCap fun k => { k with
          cal := some ⟨c, none, .levels, s.clk.now⟩, turn := c + 1, calFrom := s.clk.now }).setFeed c none

/-- The calibration goes on to a step. -/
def State.calTo (s : State) (st : CalStep) : State :=
  s.modCap fun k => { k with cal := k.cal.map fun c => { c with step := st, since := s.clk.now } }

/-- An overlap of the running calibration is over. -/
def overlapOver (s : State) (c : Cal) : Bool := decide (c.since + 40 * overlapOf s ≤ s.clk.now)

/-- The outgoing overlap ends with the means of the converter and of the spare (R84). -/
def doOverlapEnd (s : State) (mc ms : Int) : State :=
  match s.cap.cal with
  | some c =>
    if c.step = .overlapOut && overlapOver s c then
      let d := mc - ms
      let s := if mismatchOf s < d.natAbs then
          (s.tally 25).recordReport bCAP (0xC0 + c.conv) 2 (wrapN 32 d) else s
      s.calTo .switchOut
    else s
  | none => s

/-- A channel may move now: no enabled window of it is open, or one of them closes (R82). -/
def maySwitch (s : State) (k : Fin 24) : Bool :=
  let spans := all8.filterMap fun w =>
    let x := s.cap.win[k][w]
    match setGroup s x.set with
    | none => none
    | some g =>
      match s.cap.pstart[g] with
      | none => none
      | some p => if x.en && decide (x.opn < x.close) then some (p + x.opn, p + x.close) else none
  let t := s.clk.now
  let ends := all8.any fun w => s.cap.prior[k][w].owed && (match setGroup s s.cap.prior[k][w].set with
    | some g => s.cap.pstart[g] == some t
    | none => false)
  (spans.all fun q => !(decide (q.1 ≤ t) && decide (t < q.2))) || spans.any (fun q => q.2 = t) || ends

/-- A free spare is missing: rotation stops (R85). -/
def State.checkSpares (s : State) : State :=
  if s.cap.stopped ∨ (freeSpare s).isSome then s
  else (s.modCap fun c => { c with stopped := true }).recordReport bCAP 0xFF 5
    (maskOf (all24.map fun k => s.cap.conv[k].retired))

/-- The running calibration is over. -/
def State.calOver (s : State) : State := s.modCap fun k => { k with cal := none }

/-- The switchover tick of the running calibration (R82). -/
def doSwitchover (s : State) : State :=
  match s.cap.cal with
  | some c =>
    match c.step, c.spare with
    | .switchOut, some q => if maySwitch s c.conv then (s.setFeed c.conv (some q)).calTo .levels else s
    | .switchBack, some q =>
      if maySwitch s c.conv then ((s.setFeed c.conv (some c.conv)).setFeed q (some q)).calOver else s
    | _, _ => s
  | none => s

/-- A converter is retired; a spare left on its channel becomes bound (R85). -/
def State.retire (s : State) (c : Cal) : State :=
  let s := s.modCap fun k => { k with
    conv := vupd k.conv c.conv fun q => { q with retired := true }
    bound22 := if c.spare = some 22 then some c.conv else k.bound22
    bound23 := if c.spare = some 23 then some c.conv else k.bound23 }
  s.calOver.checkSpares

/-- New trims from the three means (R83): OFFSET, and GAIN; without a difference of the levels the
quotient has no stated value. -/
def newGain (s : State) (mp mm : Int) : State × Int :=
  if mp = mm then let d := s.draw; (d.1, (d.2 % 65536 : Nat))
  else (s, if mm < mp then roundDiv (2 ^ 30 : Nat) (mp - mm).natAbs else -roundDiv (2 ^ 30 : Nat) (mm - mp).natAbs)

/-- The level conversions of step 3 are done (R83). -/
def doLevels (s : State) (m0 mp mm : Int) : State :=
  match s.cap.cal with
  | some c =>
    if c.step = .levels && decide (c.since + 3 * (3200 + 40 * calSamplesOf s) ≤ s.clk.now) then
      let r := newGain s mp mm
      let s := r.1
      let detail := wrapN 16 m0 + put (wrapN 16 r.2) 16
      if m0.natAbs ≤ 512 ∧ mp ≠ mm ∧ 31785 ≤ r.2 ∧ r.2 ≤ 33751 then
        let s := s.modCap fun k => { k with conv := vupd k.conv c.conv fun q => { q with
          offset := m0, gain := r.2.toNat, passed := some s.clk.now } }
        let s := (s.tally 24).record bCAP (0xC0 + c.conv) 1 detail
        if c.spare.isSome then s.calTo .overlapBack
        else (s.setFeed c.conv (some c.conv)).calOver
      else ((s.tally 26).recordReport bCAP (0xC0 + c.conv) 4 detail).retire c
    else s
  | none => s

/-- The return overlap ends (R84). -/
def doReturnOverlap (s : State) (mc ms : Int) : State :=
  match s.cap.cal with
  | some c =>
    if c.step = .overlapBack && overlapOver s c then
      let d := mc - ms
      if mismatchOf s < d.natAbs then
        ((s.tally 25).recordReport bCAP (0xC0 + c.conv) 3 (wrapN 32 d)).retire c
      else s.calTo .switchBack
    else s
  | none => s

/-! ### The commands -/

/-- WINDOW_SEAL (R71). -/
def execWindowSeal (t : Tick) (k : Fin 24) (w : Fin 8) (samples : List Sample) (s : State) :
    Host.Outcome State Fault Refusal := .next (doSeal (s.at t) k w samples)

/-- RESULT_CAPTURE (R78). -/
def execResultCapture (t : Tick) (k : Fin 24) (w : Fin 8) (s : State) :
    Host.Outcome State Fault Refusal := .next (doResultCapture (s.at t) k w)

/-- REF_SETTLED (R67). -/
def execRefSettled (t : Tick) (r : Fin 3) (mv : Nat) (s : State) : Host.Outcome State Fault Refusal :=
  .next (doRefSettled (s.at t) r mv)

/-- REF_EXT_BAD (R68). -/
def execRefExtBad (t : Tick) (mv : Nat) (s : State) : Host.Outcome State Fault Refusal :=
  .next (doRefBad (s.at t) mv)

/-- REF_EXT_RETURN (R68). -/
def execRefExtReturn (t : Tick) (s : State) : Host.Outcome State Fault Refusal :=
  .next (doRefReturn (s.at t))

/-- CALIBRATION_START (R80). -/
def execCalibrationStart (t : Tick) (s : State) : Host.Outcome State Fault Refusal :=
  .next (doCalStart (s.at t))

/-- CAL_OVERLAP_END (R84). -/
def execCalOverlapEnd (t : Tick) (mc ms : Int) (s : State) : Host.Outcome State Fault Refusal :=
  .next (doOverlapEnd (s.at t) mc ms)

/-- CHANNEL_SWITCHOVER (R82). -/
def execChannelSwitchover (t : Tick) (s : State) : Host.Outcome State Fault Refusal :=
  .next (doSwitchover (s.at t))

/-- CAL_LEVELS_DONE (R83). -/
def execCalLevelsDone (t : Tick) (m0 mp mm : Int) (s : State) : Host.Outcome State Fault Refusal :=
  .next (doLevels (s.at t) m0 mp mm)

/-- CAL_RETURN_OVERLAP_END (R84). -/
def execCalReturnOverlapEnd (t : Tick) (mc ms : Int) (s : State) : Host.Outcome State Fault Refusal :=
  .next (doReturnOverlap (s.at t) mc ms)

end Sys2Proof.Machine
end

