-- ==== Sys2Proof/Machine/Charger.lean ====
section
/-!
DEFINITION. The commands of the on-board charger, the charge supervisor and hand-over (R240 to R257).
-/

namespace Sys2Proof.Machine

open Sys2Proof

/-- Ticks in a second and in a minute (R3). -/
def secTk : Nat := 1600000000
def minTk : Nat := 96000000000

/-- The step takes place on a multiple of 1 ms of the time base. -/
def onMs (s : State) : Bool := s.clk.now % msTk = 0

/-! ### The inlet (R240 to R246) -/

/-- A pilot cycle or a 1 ms block (R240, R241). While the proximity circuit shows no cable the state
is A and the readings are only counted. -/
def doPilotCycle (s : State) (vh vl : Int) (period duty : Nat) : State :=
  let st := pilotOf vh vl period
  let s := s.modChg fun k => { k with
    vh := vh, vl := vl, duty := duty, pwm := pwmOf vl period
    cand := st
    candRun := if k.cand = st then k.candRun + 1 else 1
    candAt := if k.cand = st && k.candRun ≠ 0 then k.candAt else s.clk.now }
  if s.chg.cable = 0 then s
  else match pilotReady s with
    | some p => s.acceptPilot p
    | none => s

/-- A measurement of the proximity circuit (R244). -/
def doPp (s : State) (ohms : Nat) : State :=
  let c := cableOf ohms
  let s := s.modChg fun k => { k with
    ohms := min ohms 65535
    ccand := c
    ccandRun := if k.ccand = c then k.ccandRun + 1 else 1 }
  if 20 ≤ s.chg.ccandRun then s.acceptCable c else s

/-- IIN_LIM at a multiple of 1 ms (R245). -/
def doIinLimit (s : State) : State :=
  if !onMs s then s
  else s.modObc fun k => { k with
    iinLim := min (min (pilotAmps s) (cableAmps s.chg.cable)) (obcCfgIinMax s) }

/-- QUALIFIED after 2 s in state B (R246). -/
def doQualified (s : State) : State :=
  let k := s.chg
  if k.pilot = 1 && goodCable k.cable && k.state != .handover
      && decide (max (max k.bAt k.cableAt) k.handAt + 2 * secTk ≤ s.clk.now) then
    s.modChg fun k => { k with qualified := true }
  else s

/-! ### The evaluation of the supervisor (R249 to R252, R254) -/

/-- The safety timer's addition (R252). -/
def State.addTimer (s : State) : State :=
  if !s.chg.state.charging then s
  else
    let a := if chgPaused s then 0 else if chgReduced s then 1 else 2
    s.modChg fun k => { k with elapsed := k.elapsed + a, lastAdd := a }

/-- The band that the temperature gives now (R250). -/
def bandNow (s : State) : Nat := if tempFresh s then nextBand s s.chg.band (chgT s) else 5

/-- Bands in which charging runs. -/
def goodBand (b : Nat) : Bool := 1 ≤ b && b ≤ 3

/-- A session may draw from the station: QUALIFIED and IIN_LIM at least 6 A (R251). -/
def supplied (s : State) : Bool := s.chg.qualified && 60 ≤ s.obc.iinLim

/-- The transitions of R251 whose event is an evaluation; a session that was entered with pilot A, or
with an inlet that ends it, ends here: the exit row before the others. -/
def State.supervise (s : State) : State :=
  if s.chg.state.session && s.chg.pilot = 0 then s.chgExit
  else if s.chg.state.session && inletBad s then s.inletFault
  else match s.chg.state with
  | .wait =>
    if !supplied s then s
    else if goodBand s.chg.band then s.chgTo .cc
    else if chgCfgPrecondEn s then s.chgTo .precond
    else s
  | .precond => if goodBand s.chg.band then s.chgTo .cc else s
  | _ => s

/-- One millisecond of hand-over: the ramp of H1, the interval test of H3; an interval counts if it began
after H2 (R254). -/
def State.handTick (s : State) : State :=
  if s.chg.state ≠ .handover then s
  else match s.chg.step with
    | 1 => s.modObc fun k => { k with iset := max (k.iset - 10 * max (obcRampRampDown s) 1) 0 }
    | 3 => s.modChg fun k => { k with
        offRun := if s.clk.now < k.h3At + msTk then k.offRun
          else if k.gridMax < obcGridGridOff s then k.offRun + 1 else 0
        gridMax := 0 }
    | _ => s

/-- The evaluation at a multiple of 1 ms. -/
def doEvaluation (s : State) : State :=
  if !onMs s then s
  else
    let s := s.addTimer
    let s := s.setBand (bandNow s)
    (s.supervise.handTick).setSetpoints

/-! ### Deadlines of R250 to R252 -/

/-- CHG_TEMP has not been written for 1 s. -/
def doTempStale (s : State) : State := if tempFresh s then s else s.setBand 5

/-- OBC writes its input block at a multiple of 1 ms or after a change of state (R247). -/
def doObcInput (s : State) : State := if onMs s || s.obc.dirty then s.writeObc else s

/-- The safety timer expires (R252, R253). -/
def doTimerExpiry (s : State) : State :=
  if s.chg.state.charging && chgTimerLimitMin s ≠ 0 && decide (chgTimerLimitMin s * 120000 ≤ s.chg.elapsed) then
    (s.modChg fun k => { k with
      thermalAtExpiry := if k.lastAdd = 0 then k.thermalAtExpiry else k.lastAdd = 1 }).handOver 2
  else s

/-- WAIT_S elapsed in WAIT. -/
def doWaitTimeout (s : State) : State :=
  if s.chg.state == .wait && 0 < chgCfgWaitS s && decide (s.chg.since + chgCfgWaitS s * secTk ≤ s.clk.now) then
    s.handOver 8
  else s

/-- PRECOND_MIN elapsed in PRECOND. -/
def doPrecondTimeout (s : State) : State :=
  if s.chg.state == .precond && 0 < chgTimerPrecondMin s
      && decide (s.chg.since + chgTimerPrecondMin s * minTk ≤ s.clk.now) then
    s.handOver 7
  else s

/-- BUS_OK has not come within SUPPLY_WAIT, or has been gone for 1 s. -/
def doNoSupply (s : State) : State :=
  let k := s.chg
  let late := !k.busSeen && decide (k.s2At + obcGridSupplyWait s * secTk ≤ s.clk.now)
  let lost := match k.busLostAt with
    | some x => decide (x + secTk ≤ s.clk.now)
    | none => false
  if (k.state == .precond || k.state == .cc) && (late || lost) then s.handOver 9 else s

/-- Limiter index 1 has won for 1 s in CC. -/
def doCvEntry (s : State) : State :=
  match s.chg.state, s.chg.limSince with
  | .cc, some x => if max x s.chg.since + secTk ≤ s.clk.now then s.chgTo .cv else s
  | _, _ => s

/-- The output current has stayed below ITERM for TERM_S in CV. -/
def doTermHold (s : State) : State :=
  match s.chg.state, s.chg.lowCurrent with
  | .cv, some x =>
    if s.clk.now < x + chgTermTermS s * secTk then s
    else if 0 < chgTermTopoffMin s then s.chgTo .topoff
    else s.handOver 1
  | _, _ => s

/-- TOPOFF_MIN elapsed. -/
def doTopoff (s : State) : State :=
  if s.chg.state == .topoff && decide (s.chg.since + chgTermTopoffMin s * minTk ≤ s.clk.now) then s.handOver 1
  else s

/-- The output voltage has been low for 10 s in MAINTAIN (R251, R257). -/
def doRecharge (s : State) : State :=
  match s.chg.state, s.chg.lowVoltage with
  | .maintain, some x =>
    if supplied s && goodBand s.chg.band && decide (x + 10 * secTk ≤ s.clk.now) then
      ((s.tally 90).record bCHG 0xFF 6 (wrapN 32 ((chgVolts s s.chg.vout).tdiv 10))).chgTo .cc
    else s
  | _, _ => s

/-! ### Hand-over (R254, R256) -/

/-- H1 ends: the current is gone, 100 ms have passed, or the charger-off reaction is active. -/
def doRampEnd (s : State) : State :=
  if s.chg.state == .handover && s.chg.step = 1
      && ((s.obc.iset = 0 && currentGone s)
        || decide (s.chg.start + 100 * msTk ≤ s.clk.now) || chargerOff s) then
    s.handRelease
  else s

/-- H3 ends (R256). -/
def doHandoverDone (s : State) : State :=
  let k := s.chg
  let dropped := decide (10 ≤ k.offRun)
  if k.state == .handover && k.step = 3 && (dropped || decide (k.h3At + 90 * msTk ≤ s.clk.now)) then
    let ms := min ((s.clk.now - k.start) / msTk) 255
    let leave := (k.exitPending || k.pilot = 0) && s.pba.mode == .charge
    let s := s.modChg fun k => { k with
      step := 0, dropped := dropped, duration := ms, handAt := s.clk.now, exitPending := false }
    let s := s.record bCHG 0xFF 5 (ms + put k.ignored 8 + put (b2n dropped) 16 + put (b2n leave) 17)
    let s := s.chgTo (if k.term = 1 then .maintain else .idle)
    if leave then s.setMode .standby 3 else s
  else s

/-! ### The commands -/

/-- PILOT_CYCLE (R240, R241). -/
def execPilotCycle (t : Tick) (vh vl : Int) (period duty : Nat) (s : State) :
    Host.Outcome State Fault Refusal := .next (doPilotCycle (s.at t) vh vl period duty)

/-- PP_MEASUREMENT (R244). -/
def execPpMeasurement (t : Tick) (ohms : Nat) (s : State) : Host.Outcome State Fault Refusal :=
  .next (doPp (s.at t) ohms)

/-- IIN_LIMIT_UPDATE (R245). -/
def execIinLimitUpdate (t : Tick) (s : State) : Host.Outcome State Fault Refusal :=
  .next (doIinLimit (s.at t))

/-- QUALIFIED (R246). -/
def execQualified (t : Tick) (s : State) : Host.Outcome State Fault Refusal :=
  .next (doQualified (s.at t))

/-- SUPERVISOR_EVALUATION (R249 to R252). -/
def execSupervisorEvaluation (t : Tick) (s : State) : Host.Outcome State Fault Refusal :=
  .next (doEvaluation (s.at t))

/-- TEMP_STALE (R250). -/
def execTempStale (t : Tick) (s : State) : Host.Outcome State Fault Refusal :=
  .next (doTempStale (s.at t))

/-- OBC_INPUT_WRITE (R247). -/
def execObcInputWrite (t : Tick) (s : State) : Host.Outcome State Fault Refusal :=
  .next (doObcInput (s.at t))

/-- SAFETY_TIMER_EXPIRY (R252). -/
def execSafetyTimerExpiry (t : Tick) (s : State) : Host.Outcome State Fault Refusal :=
  .next (doTimerExpiry (s.at t))

/-- WAIT_TIMEOUT (R251). -/
def execWaitTimeout (t : Tick) (s : State) : Host.Outcome State Fault Refusal :=
  .next (doWaitTimeout (s.at t))

/-- PRECOND_TIMEOUT (R251). -/
def execPrecondTimeout (t : Tick) (s : State) : Host.Outcome State Fault Refusal :=
  .next (doPrecondTimeout (s.at t))

/-- NO_SUPPLY (R251). -/
def execNoSupply (t : Tick) (s : State) : Host.Outcome State Fault Refusal :=
  .next (doNoSupply (s.at t))

/-- CV_ENTRY (R251). -/
def execCvEntry (t : Tick) (s : State) : Host.Outcome State Fault Refusal := .next (doCvEntry (s.at t))

/-- TERMINATION_CURRENT_HOLD (R251). -/
def execTerminationCurrentHold (t : Tick) (s : State) : Host.Outcome State Fault Refusal :=
  .next (doTermHold (s.at t))

/-- TOPOFF_ELAPSED (R251). -/
def execTopoffElapsed (t : Tick) (s : State) : Host.Outcome State Fault Refusal :=
  .next (doTopoff (s.at t))

/-- RECHARGE (R251). -/
def execRecharge (t : Tick) (s : State) : Host.Outcome State Fault Refusal :=
  .next (doRecharge (s.at t))

/-- RAMP_END (R254). -/
def execRampEnd (t : Tick) (s : State) : Host.Outcome State Fault Refusal := .next (doRampEnd (s.at t))

/-- HANDOVER_DONE (R256). -/
def execHandoverDone (t : Tick) (s : State) : Host.Outcome State Fault Refusal :=
  .next (doHandoverDone (s.at t))

end Sys2Proof.Machine
end

