-- ==== Sys2Proof/Machine/Converter.lean ====
section
/-!
DEFINITION. The commands of the low-voltage converter (R222 to R237).
-/

namespace Sys2Proof.Machine

open Sys2Proof

/-- The turn-on of phase p at ton = t + LEAD is issued, or skipped where the comparator already reads
above min(IPK, ILIM) − PRED (R222, R225, R226, R232). `cur` is the phase current in Q0.23. An entry for
which a link has no room is not queued, and the phase stays off in its period. -/
def doTurnOn (s : State) (p : Fin 2) (cur : Word24) : State :=
  let t := s.clk.now
  let ton := t + leadOf s
  let start := all2.findSome? fun q =>
    -- the period start from which this turn-on counts: its own tick, or half a period before
    if q = 0 then (if p = 0 && isDccStart s ton then some ton else none)
    else if p = 1 then
      (s.gsc.g[(3 : Fin 4)].pstart :: (s.dcc.starts ++ [ton - writtenPeriod s 3 / 2])).find? fun x =>
        isDccStart s x && x + dccLength s x / 2 == ton
    else none
  match start with
  | none => s
  | some x =>
    if !(s.dcc.state.converting && s.dcc.enable.getLsbD p && decide (s.dcc.since + leadOf s + 160 ≤ x)
        && s.dcc.phase[p].lastOn != some ton) then s
    else
      let ipk := s.dcc.ipk
      if peakAt s ipk < cur.toInt then
        (s.tally 81).modPhase p fun k => { k with
          skipped := true, minOn := false, maxed := false, lastOn := some ton, ipk := ipk, ton := none }
      else
        (s.dccTurn p ton 1).modPhase p fun k => { k with
          skipped := false, lastOn := some ton, ipk := ipk
          ton := if dccFits s p ton 1 then some ton else none, period := dccLength s x }

/-- The off entry of phase p is issued (R223). -/
def State.dccTurnOff (s : State) (p : Fin 2) (stamp : Nat) (maxed : Bool) (cycles : Nat) : State :=
  (s.dccTurn p stamp 2).modPhase p fun k => { k with
    ton := none, lastOff := stamp, maxed := maxed, minOn := false
    thr := BitVec.ofInt 24 (thrAt s k.ipk cycles) }

/-- The peak comparator of phase p trips; the trip was on the CLK_ADC edge 40 tk before (R223,
R225). -/
def doPeakTrip (s : State) (p : Fin 2) : State :=
  let stamp := s.clk.now - 40
  match s.dcc.phase[p].ton with
  | none => s
  | some ton =>
    let arm := ton + 40 * dccTimingBlank s
    let last := ton + tmaxTicks s s.dcc.phase[p].period
    if stamp < arm then s
    else if last < stamp + leadOf s then s.dccTurnOff p last true ((stamp - ton) / 40)
    else
      let s := s.dccTurnOff p (stamp + leadOf s) false ((stamp - ton) / 40)
      if stamp < arm + 40 then
        ((s.tally 80).modPhase p fun k => { k with minOn := true, minAt := some ton }).modDcc fun k =>
          { k with minOns := k.minOns + 1 }
      else s

/-- No trip can end the on-interval of phase p before TMAX any more: one stamped earlier than LEAD before
it has been seen by now (R223). -/
def doTmax (s : State) (p : Fin 2) : State :=
  match s.dcc.phase[p].ton with
  | none => s
  | some ton =>
    let last := ton + tmaxTicks s s.dcc.phase[p].period
    if s.clk.now + leadOf s < last + 40 then s
    else s.dccTurnOff p last true ((s.clk.now - ton) / 40)

/-- No edge of SYNC_IN has been accepted for 2 × PERIOD (R228). -/
def State.syncLapse (s : State) : State :=
  match s.dcc.edge with
  | none => s
  | some e =>
    if !dccCfgSyncEn s || decide (s.clk.now < e + 2 * periodOf s 3) then s
    else
      let had := s.dcc.locked || decide (0 < s.dcc.edges)
      let s := s.modDcc fun k => { k with edge := none, edges := 0, locked := false }
      if had then (s.tally 82).record bDCC 0xFF 4 s.dcc.spacing else s

/-- A rising edge of SYNC_IN, its stamp 80 tk before (R228). The first edge has no accepted one before it:
it is not accepted, and the next is measured from it. -/
def doSyncIn (s : State) : State :=
  let s := s.syncLapse
  let e := s.clk.now - 80
  let p := periodOf s 3
  if !dccCfgSyncEn s then s
  else match s.dcc.edge with
    | none => s.modDcc fun k => { k with edge := some e, edges := 0 }
    | some prev =>
      let d := e - prev
      if 10 * d + p < 10 * p ∨ 11 * p < 10 * d then s
      else
        let s := s.modDcc fun k => { k with
          edge := some e, spacing := d, edges := k.edges + 1
          starts := k.starts ++ [e + clampN (dccSyncDelay s) (leadOf s + 160) p] }
        if s.dcc.edges = 4 && !s.dcc.locked then
          (s.modDcc fun k => { k with locked := true }).record bDCC 0xFF 5 d
        else s

/-- SYNC_LOST: no edge for 2 × PERIOD (R228). -/
def doSyncLost (s : State) : State := s.syncLapse

/-- VREF moves toward the target at a multiple of 1,600 tk (R232, R230). -/
def doVrefSlew (s : State) : State := s.slewStep

/-- RETRY_WAIT ends 1 s after the stop (R230). -/
def doRetryExpiry (s : State) : State :=
  if s.dcc.state = .retryWait ∧ s.dcc.stopAt + 1600000000 ≤ s.clk.now then
    s.softStart s.dcc.target (s.dcc.attempt + 1)
  else s

/-- SYNC_OUT changes on a CLK_ADC edge (R229). -/
def doSyncOut (s : State) (v : Bool) : State :=
  let p := dccLength s s.gsc.g[(3 : Fin 4)].pstart
  let d := ((s.clk.now : Int) - s.gsc.g[(3 : Fin 4)].pstart - (40 * dccSyncOutShift s : Nat)) % p
  if s.dcc.state.converting &&
      (if v then d < 40 else ((p / 2 : Nat) : Int) ≤ d && d < ((p / 2 + 40 : Nat) : Int)) then
    s.modDcc fun k => { k with syncOut := v }
  else if !v then (if s.dcc.state.converting then s else s.modDcc fun k => { k with syncOut := false })
  else s

/-! ### The commands -/

/-- TURN_ON_ENTRY (R225). -/
def execTurnOnEntry (t : Tick) (p : Fin 2) (cur : Word24) (s : State) :
    Host.Outcome State Fault Refusal := .next (doTurnOn (s.at t) p cur)

/-- PEAK_TRIP (R223). -/
def execPeakTrip (t : Tick) (p : Fin 2) (s : State) : Host.Outcome State Fault Refusal :=
  .next (doPeakTrip (s.at t) p)

/-- TMAX_TURN_OFF (R223). -/
def execTmaxTurnOff (t : Tick) (p : Fin 2) (s : State) : Host.Outcome State Fault Refusal :=
  .next (doTmax (s.at t) p)

/-- SYNC_IN_EDGE (R228). -/
def execSyncInEdge (t : Tick) (s : State) : Host.Outcome State Fault Refusal :=
  .next (doSyncIn (s.at t))

/-- SYNC_LOST (R228). -/
def execSyncLost (t : Tick) (s : State) : Host.Outcome State Fault Refusal :=
  .next (doSyncLost (s.at t))

/-- VREF_SLEW (R232). -/
def execVrefSlew (t : Tick) (s : State) : Host.Outcome State Fault Refusal :=
  .next (doVrefSlew (s.at t))

/-- RETRY_WAIT_EXPIRY (R230). -/
def execRetryWaitExpiry (t : Tick) (s : State) : Host.Outcome State Fault Refusal :=
  .next (doRetryExpiry (s.at t))

/-- SYNC_OUT_TRANSITION (R229). -/
def execSyncOutTransition (t : Tick) (v : Bool) (s : State) : Host.Outcome State Fault Refusal :=
  .next (doSyncOut (s.at t) v)

end Sys2Proof.Machine
end

