-- ==== Sys2Proof/Machine/Housekeeping.lean ====
section
/-!
DEFINITION. The housekeeping converter, die temperatures and the switch thermal models (R409 to R422).
-/

namespace Sys2Proof.Machine

open Sys2Proof

/-- HKA changed by `f`. -/
def State.modHka (s : State) (f : Hka → Hka) : State := { s with hka := f s.hka }

/-- Thermal model m changed by `f`. -/
def State.modModel (s : State) (m : Fin 3) (f : Model → Model) : State :=
  { s with thm := { s.thm with model := vupd s.thm.model m f } }

/-! ### The sequence (R411, R412) -/

/-- Fields of an entry in effect. -/
def entEn (w : Word32) : Bool := bit w.toNat 31
def entRef (w : Word32) : Bool := bit w.toNat 30
def entInput (w : Word32) : Nat := bits w.toNat 29 24
def entRepeat (w : Word32) : Nat := bits w.toNat 23 20
def entDelay (w : Word32) : Nat := bits w.toNat 7 0

/-- The first enabled entry from `e` on, up to LAST. -/
def nextEntry? (k : Hka) (e : Nat) : Option (Fin 64) :=
  all64.find? fun i => decide (e ≤ i.val) && decide (i.val ≤ k.last) && entEn k.ent[i]

/-- The length of a loop in ticks: the PERIOD in effect, or the one written before the first loop. -/
def loopTicks (s : State) : Nat := 40 * (if s.hka.begun then s.hka.period else hkaSeqPeriod s)

/-- A loop starts: the table is taken, and its first entry is next. A table without an enabled entry is
done at once. -/
def State.startLoop (s : State) : State :=
  let ent := Vector.ofFn fun e : Fin 64 => BitVec.ofNat 32 (rd s (0x60010100 + 4 * e.val))
  let period := hkaSeqPeriod s
  let last := hkaSeqLast s
  let s := s.modHka fun k => { k with
    ent := ent, period := period, last := last, begun := true, due := false
    loopFrom := s.clk.power, done := 0, sum := 0, unsettled := false }
  match nextEntry? s.hka 0 with
  | some e => s.modHka fun k => { k with looping := true, entry := e }
  | none => s.modHka fun k => { k with looping := false }

/-- The power die's copy of the time base has reached a new multiple of the loop length. -/
def loopTick (s : State) : Bool :=
  let n := loopTicks s
  n ≠ 0 && decide (s.clk.power % n < 40) && (!s.hka.begun || s.hka.loopFrom != s.clk.power)

/-- A loop is due (R412). With PERIOD 0 a loop starts whenever none runs. -/
def doLoopStart (s : State) : State :=
  if !hkaCfgRun s then s
  else if s.hka.looping then
    if loopTick s then
      ((s.modHka fun k => { k with due := true }).tally 144).record bHKA 0xFF 2 s.hka.entry
    else s
  else if loopTick s || loopTicks s = 0 then s.startLoop
  else s

/-- The last conversion of the loop has ended: the next loop starts at once if it is due or PERIOD is
0. -/
def State.endLoop (s : State) : State :=
  if s.hka.due || s.hka.period = 0 then s.startLoop
  else s.modHka fun k => { k with looping := false }

/-! ### Conversions (R409, R410, R413 to R415) -/

/-- The reference of a conversion settles. -/
def refSettling (s : State) (ref : Bool) : Bool := if ref then s.cap.settling[2] else s.cap.settling[0]

/-- The converter begins a conversion. -/
def State.beginConv (s : State) (kind : HkKind) (input : Nat) (ref : Bool) (aperture : Nat) : State :=
  s.modHka fun k => { k with busy := some ⟨kind, input, ref, aperture, refSettling s ref⟩ }

/-- The next die sensor is converted. -/
def State.beginSensor (s : State) : State :=
  s.beginConv (.sensor s.hka.next) (32 + s.hka.next.val) false s.clk.power

/-- A conversion that begins now ends before the next accepted reservation opens. -/
def beforeReserved (s : State) : Bool :=
  s.hka.resv.all fun r => decide (s.clk.power + 800 ≤ r.aperture) || decide (r.aperture + 40 ≤ s.clk.power)

/-- The reservation whose aperture this is. -/
def reservedNow (s : State) : Option Reservation :=
  s.hka.resv.find? fun r => decide (r.aperture ≤ s.clk.power) && decide (s.clk.power < r.aperture + 40)

/-- What takes its sample on this tick: a reserved conversion, a die sensor after 16 sequence
conversions, or the entry whose DELAY is over (R413 to R415). -/
def doAperture (s : State) : State :=
  let p := s.clk.power
  if s.hka.busy.isSome then s
  else match reservedNow s with
    | some r =>
      (s.modHka fun k => { k with resv := k.resv.filter fun q => q != r }).beginConv
        (.urgent r.bridge r.v) r.input false r.aperture
    | none =>
      if !beforeReserved s then s
      else if 16 ≤ s.hka.since then s.beginSensor
      else if s.hka.looping then
        let w := s.hka.ent[s.hka.entry]
        if 0 < s.hka.done ∨ s.hka.ended + 40 * entDelay w ≤ p then
          s.beginConv (.entry s.hka.entry) (entInput w) (entRef w) p
        else s
      else s

/-- The converter has been idle for 8,000 tk (R415). -/
def doIdleSensor (s : State) : State :=
  if s.hka.busy.isNone && decide (s.hka.ended + 8000 ≤ s.clk.power) && beforeReserved s
      && (reservedNow s).isNone then s.beginSensor
  else s

/-- A conversion of entry e ends (R411). -/
def State.entryEnds (s : State) (e : Fin 64) (c : HkConv) (code : Nat) : State :=
  let k := s.hka
  let n := k.done + 1
  let sum := k.sum + code
  let uns := k.unsettled || c.unsettled
  let s := s.modHka fun k => { k with done := n, sum := sum, unsettled := uns, since := k.since + 1 }
  if n ≤ entRepeat k.ent[e] then s
  else
    let r : HkRes := { unsettled := uns, count := n - 1, mean := sum * 16 / n, stamp := c.aperture }
    let s := s.modHka fun k => { k with
      res := k.res.setIfInBounds c.input { r with captured := (k.res.getD c.input {}).captured }
      done := 0, sum := 0, unsettled := false }
    match nextEntry? s.hka (e.val + 1) with
    | some e' => s.modHka fun k => { k with entry := e' }
    | none => s.endLoop

/-- A current word: (code − ZERO) × 4,096, saturated (R204). -/
def currentWord (z code : Nat) : Word24 := BitVec.ofInt 24 (satI 24 (((code : Int) - z) * 4096))

/-- A reserved conversion ends: the code and the current word of the bridge, unless the period is
unsampled (R204). -/
def State.urgentEnds (s : State) (b : Fin 3) (v : Bool) (code : Nat) : State :=
  if s.axb.b[b].missed then s
  else if v then s.modAxb b fun k => { k with codeV := code, iv := currentWord (axbZeroZeroV s b) code }
  else s.modAxb b fun k => { k with codeU := code, iu := currentWord (axbZeroZeroU s b) code }

/-- WARN follows the sensors (R417). -/
def State.dieWarn (s : State) (i : Fin 14) : State :=
  let d := i.val + put (wrapN 16 s.thm.temp[i]) 16
  let hot := s.thm.temp.toList.any fun x => decide (1500 ≤ x)
  let cool := s.thm.temp.toList.all fun x => decide (x < 1450)
  if !s.thm.warn && hot then
    ({ s with thm := { s.thm with warn := true } }.tally 145).recordReport bTHM 0xFF 1 d
  else if s.thm.warn && cool then { s with thm := { s.thm with warn := false } }.record bTHM 0xFF 2 d
  else s

/-- A die sensor's conversion ends (R415, R416). -/
def State.sensorEnds (s : State) (i : Fin 14) (code : Nat) : State :=
  let x := Config.dieTemp s.flog.trim i code
  let s := s.modHka fun k => { k with since := k.since - 16, next := Fin.ofNat 14 (i.val + 1) }
  ({ s with thm := { s.thm with
    temp := s.thm.temp.set i x, peak := s.thm.peak.set i (max s.thm.peak[i] x) } }).dieWarn i

/-- The conversion in progress ends, 800 tk after its aperture (R409). -/
def doConversionEnd (s : State) (code : Nat) : State :=
  match s.hka.busy with
  | none => s
  | some c =>
    if s.clk.power < c.aperture + 800 then s
    else
      let s := s.modHka fun k => { k with busy := none, ended := c.aperture + 800 }
      match c.kind with
      | .entry e => s.entryEnds e c code
      | .urgent b v => s.urgentEnds b v code
      | .sensor i => s.sensorEnds i code

/-- A read of HKA_RESi captures the stamp (R411). -/
def doHkaCapture (s : State) (i : Fin 48) : State :=
  s.modHka fun k => { k with res := vupd k.res i fun r => { r with captured := r.stamp } }

/-! ### Thermal models (R419 to R421) -/

/-- A fraction in lowest terms; the denominator is not 0. -/
def Frac.norm (n : Int) (d : Nat) : Frac :=
  let g := Nat.gcd n.natAbs d
  if g = 0 then {} else ⟨n / g, d / g⟩

def Frac.add (x y : Frac) : Frac := Frac.norm (x.num * y.den + y.num * x.den) (x.den * y.den)
def Frac.sub (x y : Frac) : Frac := Frac.norm (x.num * y.den - y.num * x.den) (x.den * y.den)
def Frac.mul (x y : Frac) : Frac := Frac.norm (x.num * y.num) (x.den * y.den)
/-- A whole number over a count that is not 0. -/
def Frac.of (n : Int) (d : Nat) : Frac := Frac.norm n d
def Frac.le (x y : Frac) : Bool := x.num * y.den ≤ y.num * x.den
/-- `x` times `k`, rounded down. -/
def Frac.floorTimes (x : Frac) (k : Nat) : Int := (x.num * k).fdiv x.den

/-- THM_TCOOLm has not been written for 1 s (R420). -/
def coolOld (s : State) (m : Fin 3) : Bool :=
  decide (s.thm.model[m].coolAt.getD 0 + 1000 * msTk ≤ s.clk.now)

/-- The coolant temperature in °C. -/
def coolant (s : State) (m : Fin 3) : Frac :=
  if coolOld s m then Frac.of (thmMlimTcoolDef s m) 1 else Frac.of s.thm.model[m].cool 10

/-- The loss of the present millisecond in W; the previous one where a mean is missing. -/
def lossOf (s : State) (m : Fin 3) : Frac :=
  let k := s.thm.model[m]
  if k.n = 0 ∨ k.nv = 0 then k.p
  else
    let fs := thmMsrcIFs s m
    let isq := Frac.of (k.sumSq * fs ^ 2 : Nat) (k.n * 2 ^ 46)
    let iabs := Frac.of (k.sumAbs * fs : Nat) (k.n * 2 ^ 23)
    let v := Frac.of (k.sumV * thmVdcVfs s) (k.nv * 2 ^ 23)
    ((Frac.of (thmMcoefKc s m) 1000000).mul isq).add
      (((Frac.of (thmMcoefKs s m) 1000000).mul iabs).mul v)

/-- A stage of the model: dt + (p × r × 0.001 − dt) ÷ tau. -/
def stageOf (dt p : Frac) (r tau : Nat) : Frac :=
  dt.add (((p.mul (Frac.of r 1000)).sub dt).mul (Frac.of 1 (max tau 1)))

/-- LIMIT: Q0.23, truncated (R419, R420). -/
def limitOf (s : State) (m : Fin 3) (tj : Frac) : Word24 :=
  let hi := thmMlimTjMax s m
  let lo := thmMlimTjStart s m
  if hi ≤ lo then 0
  else
    let x := (Frac.of hi 1).sub tj
    BitVec.ofInt 24 (clampI ((x.num * 0x7FFFFF).fdiv (x.den * (hi - lo : Nat) : Nat)) 0 0x7FFFFF)

/-- tj in 0.1 °C, truncated, in the upper half of DETAIL. -/
def tjDetail (tj : Frac) : Nat := put (wrapN 16 ((tj.num * 10).tdiv tj.den)) 16

/-- HOT follows tj with 5 °C of hysteresis (R421). -/
def State.hotCheck (s : State) (m : Fin 3) : State :=
  let k := s.thm.model[m]
  let trip := thmMlimTjTrip s m
  if !k.hot && (Frac.of trip 1).le k.tj then
    ((s.modModel m fun k => { k with hot := true }).tally 146).recordReport bTHM (0xC0 + m) 3 (tjDetail k.tj)
  else if k.hot && k.tj.le (Frac.of ((trip : Int) - 5) 1) then
    (s.modModel m fun k => { k with hot := false }).record bTHM (0xC0 + m) 4 (tjDetail k.tj)
  else s

/-- The step of one model; the sums of the millisecond start anew. -/
def State.modelStep (s : State) (m : Fin 3) : State :=
  let clear (k : Model) : Model := { k with n := 0, sumSq := 0, sumAbs := 0, nv := 0, sumV := 0 }
  if !thmMsrcEn s m then s.modModel m clear
  else
    let k := s.thm.model[m]
    let p := lossOf s m
    let dt1 := stageOf k.dt1 p (thmMrthR1 s m) (thmMtauTau1 s m)
    let dt2 := stageOf k.dt2 p (thmMrthR2 s m) (thmMtauTau2 s m)
    let tj := ((coolant s m).add dt1).add dt2
    let lim := limitOf s m tj
    (s.modModel m fun k => clear { k with p := p, dt1 := dt1, dt2 := dt2, tj := tj, limit := lim }).hotCheck m

/-- The models step at every multiple of 1 ms. -/
def doModelStep (s : State) : State :=
  if s.clk.now % msTk ≠ 0 then s else s.each all3 State.modelStep

/-- THM_TCOOLm has not been written for 1 s: COOL_STALE (R420). -/
def doCoolStale (s : State) (m : Fin 3) : State :=
  if coolOld s m && !s.thm.model[m].stale then
    ((s.modModel m fun k => { k with stale := true }).tally 147).record bTHM (0xC0 + m) 5
  else s

/-! ### The commands -/

/-- SEQUENCE_LOOP_START (R412). -/
def execSequenceLoopStart (t : Tick) (s : State) : Host.Outcome State Fault Refusal :=
  .next (doLoopStart (s.at t))

/-- CONVERSION_END (R411). -/
def execConversionEnd (t : Tick) (code : Fin 4096) (s : State) : Host.Outcome State Fault Refusal :=
  .next (doConversionEnd (s.at t) code)

/-- IDLE_SENSOR_CONVERSION (R415). -/
def execIdleSensorConversion (t : Tick) (s : State) : Host.Outcome State Fault Refusal :=
  .next (doIdleSensor (s.at t))

/-- CONVERSION_APERTURE (R414). -/
def execConversionAperture (t : Tick) (s : State) : Host.Outcome State Fault Refusal :=
  .next (doAperture (s.at t))

/-- HKA_RESULT_CAPTURE (R411). -/
def execHkaResultCapture (t : Tick) (i : Fin 48) (s : State) : Host.Outcome State Fault Refusal :=
  .next (doHkaCapture (s.at t) i)

/-- MODEL_STEP (R419). -/
def execModelStep (t : Tick) (s : State) : Host.Outcome State Fault Refusal := .next (doModelStep (s.at t))

/-- COOLANT_STALE (R420). -/
def execCoolantStale (t : Tick) (m : Fin 3) (s : State) : Host.Outcome State Fault Refusal :=
  .next (doCoolStale (s.at t) m)

end Sys2Proof.Machine
end

