-- ==== Sys2Proof/Machine/ResetOps.lean ====
section
/-!
DEFINITION. Reset: what PORn, RESETn and a loss of VDD_SAFE leave, and the reset in which the island
holds both dies (R261, R392, R394, R418).
-/

namespace Sys2Proof.Machine

open Sys2Proof

/-- The device in reset. The NOR and the stored records of the fault log are non-volatile; a record
that has not been stored is lost. -/
def State.toReset (s : State) : State :=
  { State.reset with
    nor := s.nor
    flog := { s.flog with waiting := [] }
    rng := { State.reset.rng with powered := s.rng.powered }
    emitted := s.emitted, draws := s.draws, pending := s.pending }

/-- VDD_SAFE is below its threshold (R261). The straps stay sampled, and the latch of R418 stays
set. -/
def State.unpowered (s : State) : State :=
  { s.toReset with
    rng := { State.reset.rng with powered := false, shutdown := s.rng.shutdown, shutAt := 0 }
    boot := { State.reset.boot with
      released := s.boot.released, bootSlot := s.boot.bootSlot, splitEn := s.boot.splitEn
      strapTest := s.boot.strapTest } }

/-- VDD_SAFE is above its threshold again: the island starts, and start-up begins (R392, R393). -/
def State.repowered (s : State) : State :=
  { s with
    rng := { s.rng with powered := true }
    boot := { s.boot with phase := if s.boot.released && !s.rng.shutdown then 1 else 0 } }

/-- A register of the island: RNG, BLZ or SBC. -/
def islandReg (a : Nat) : Bool := decide (0x70000000 ≤ a) || decide (a / 0x10000 = 0x6007)

/-- The island holds both dies in reset (R418): the island's own blocks, the safe brake and the fault
log go on. -/
def State.holdDies (s : State) : State :=
  { State.reset with
    clk := s.clk, rng := s.rng, sbc := s.sbc, blz := s.blz, flog := s.flog, tal := s.tal
    boot := { State.reset.boot with
      released := s.boot.released, bootSlot := s.boot.bootSlot, splitEn := s.boot.splitEn
      strapTest := s.boot.strapTest }
    regs := State.reset.regs ++ s.regs.filter fun x => islandReg x.1
    nor := s.nor, emitted := s.emitted, draws := s.draws, pending := s.pending }

end Sys2Proof.Machine
end

