-- ==== Sys2Proof/Machine/Island.lean ====
section
/-!
DEFINITION. The commands of the ranger island but for the brakes: reports and sets, speed, clocks and
supplies, the power die's copy of the time base, release of rows, shutdown (R17, R22, R29 to R31, R190,
R261 to R268, R272, R281, R418).
-/

namespace Sys2Proof.Machine

open Sys2Proof

/-! ### Reports and sets (R190, R268) -/

/-- The island evaluates the oldest reports it has received. -/
def doFaultReport (s : State) : State :=
  match oldestRx s.rng.net with
  | none => s
  | some rx =>
    let batch := batchOf rx s.rng.net
    if s.clk.now < rx || s.rng.failed || !s.rng.powered || batchWaits s batch then s
    else
      let s := s.modRng fun k => { k with net := k.net.filter fun q => q.rx ≠ rx }
      ((s.evaluateReports batch).watchRows).bootReact

/-- The pattern of the set of group g is decided 200 tk after its first report (R190). -/
def doSetDecided (s : State) (g : Fin 4) : State :=
  if setOpen s g && !s.rng.failed && decide (s.psp.set[g].opened + 200 ≤ s.clk.now) then
    (s.decideSet g).bootReact
  else s

/-! ### Speed and link-loss patterns (R22) -/

/-- The island receives the speeds of the tracking observers, every 1,600 tk. -/
def doSpeedReport (s : State) : State :=
  if s.clk.now % 1600 ≠ 0 then s
  else
    let s := s.each (machines s) fun s m =>
      let v := speedOf s (encOf s m)
      (s.modTrx m fun k => { k with encSpeed := v }).speedChanged m
    s.watchStill.each all4 State.rechoose

/-- The island rewrites the link-loss patterns at a multiple of 1 ms. -/
def doLossRefresh (s : State) : State :=
  if s.clk.now % msTk ≠ 0 ∨ s.rng.failed then s
  else s.each all4 fun s g => s.supplyLoss g (lossPattern s g)

/-! ### The power die's copy of the time base (R29 to R31) -/

/-- A time beacon sent 96 tk ago is loaded: the copy is exact again (R29). -/
def doTimeBeacon (s : State) : State :=
  let t := s.clk.now
  if t < 96 ∨ (t - 96) % 1600 ≠ 0 then s
  else { s with clk := { s.clk with power := t, lastBeacon := t, stale := false } }

/-- D2D_FAULT (R266, R283). -/
def State.d2dFault (s : State) (cause : Nat) : State := s.recordReport bRNG 0xFF 3 cause

/-- No beacon for 4 µs (R31). -/
def doTbStale (s : State) : State :=
  if !s.clk.stale && s.clk.locked && decide (s.clk.lastBeacon + 6400 ≤ s.clk.now) then
    { s with clk := { s.clk with stale := true } }.d2dFault 1
  else s

/-! ### Clocks and supplies (R264, R265) -/

/-- The expected counts. -/
def clockCounts : Vector Nat 5 := #v[20000, 10000, 10000, 40000, 1000]

/-- Clock c shows a count; `silent` for a clock without an edge, which is reported at once. -/
def State.clockSeen (s : State) (c : Fin 5) (n : Nat) (silent : Bool) : State :=
  let k := s.rng.clock[c]
  let x := clockCounts[c]
  let out := silent || decide (100 * n + 8 * x < 100 * x) || decide (108 * x < 100 * n)
  let run := if out then (if silent then max (k.run + 1) 2 else k.run + 1) else 0
  let s := s.modRng fun r => { r with clock := r.clock.set c ⟨out, run, n⟩ }
  if 2 ≤ run ∧ k.run < 2 then (s.tally 99).recordReport bRNG (0xC0 + c) 1 (put (n % 65536) 16) else s

/-- The limits of the supplies in mV. -/
def supplyLimits : Vector (Nat × Nat) 6 :=
  #v[(740, 880), (830, 990), (1650, 1950), (3000, 3600), (3000, 3600), (8500, 38000)]

/-- Supply i is compared (R265). -/
def State.supplySeen (s : State) (i : Fin 6) (mv : Nat) : State :=
  let k := s.rng.supply[i]
  let lim := supplyLimits[i]
  let out := mv < lim.1 || lim.2 < mv
  let run := if out then k.run + 1 else 0
  let s := s.modRng fun r => { r with supply := r.supply.set i ⟨out, run, mv⟩ }
  if run = 10 then
    (s.tally 99).recordReport bRNG (0xC0 + i) 2 (put (mv % 65536) 16 + b2n (lim.2 < mv))
  else s

/-! ### Release and shutdown (R272, R418) -/

/-- The causes of AUTO row r have been gone for 100 ms (R272). -/
def doAutoRelease (s : State) (r : Nat) : State :=
  match s.rng.active.find? fun a => a.row = r with
  | none => s
  | some a =>
    match a.goneSince with
    | none => s
    | some x =>
      if rowMode s r = 0 && rngActAuto s r && rowGone s a && decide (x + 100 * msTk ≤ s.clk.now)
          && !s.rng.failed then s.releaseRow a
      else s

/-- The comparator of die sensor n trips: the first trip latches (R418). -/
def doShutdown (s : State) (n : Nat) : State :=
  if s.rng.shutdown then s
  else
    let s := s.modRng fun k => { k with shutdown := true, shutAt := s.clk.now }
    if s.rng.failed then s
    else
      let s := s.fixedTraction
      let s := s.each [2, 3] fun s g => s.applyTraction g .allOpen 1
      let s := s.each all3 fun s b => s.axbPattern b 1
      let s := s.applyBrakes.setMode .lockout 2
      (s.logRecord (eventWord s s.clk.now bTHM 0xFF 6 n 0)).bootReact

/-- 1 ms after the trip the island holds both dies in reset (R418). -/
def doShutdownHold (s : State) : State :=
  if s.rng.shutdown && decide (s.rng.shutAt + msTk ≤ s.clk.now) then s.holdDies else s

/-! ### Fault log (R281) -/

/-- The oldest waiting record is stored. -/
def doFlogStore (s : State) : State :=
  let k := s.flog
  match k.waiting with
  | [] => s
  | w :: ws =>
    let pos := if k.pinned then k.next else 0
    { s with flog := { k with
      recs := sput 0 k.recs pos w
      waiting := ws
      pinned := true
      count := min (k.count + 1) 256
      next := if k.pinned then (if k.next = 255 then 1 else k.next + 1) else k.next
      writes := (k.writes + 1) % 2 ^ 32 } }

/-- FLOG_CTL.CLEAR is written. -/
def doFlogClear (s : State) (v : BitVec 16) : State :=
  if v = 0xC1EA ∧ s.pba.mode = .service then
    { s with flog := { s.flog with recs := [], pinned := false, count := 0, next := 1 } }
  else s

/-- ALIVE toggles 1 ms after its latest change (R263). Before the time base starts, the tick of the
command counts. -/
def doAlive (s : State) (t : Tick) : State :=
  let now := if s.clk.locked then s.clk.now else t
  if !s.rng.failed && s.rng.powered && decide (s.rng.aliveAt + msTk ≤ now) then
    s.modRng fun k => { k with alive := !k.alive, aliveAt := now }
  else s

/-! ### The commands -/

/-- FAULT_REPORT (R268). -/
def execFaultReport (t : Tick) (s : State) : Host.Outcome State Fault Refusal :=
  .next (doFaultReport (s.at t))

/-- SET_DECIDED (R190). -/
def execSetDecided (t : Tick) (g : Fin 4) (s : State) : Host.Outcome State Fault Refusal :=
  .next (doSetDecided (s.at t) g)

/-- SPEED_REPORT (R22). -/
def execSpeedReport (t : Tick) (s : State) : Host.Outcome State Fault Refusal :=
  .next (doSpeedReport (s.at t))

/-- LOSS_PATTERN_REFRESH (R22). -/
def execLossPatternRefresh (t : Tick) (s : State) : Host.Outcome State Fault Refusal :=
  .next (doLossRefresh (s.at t))

/-- TIME_BEACON (R29). -/
def execTimeBeacon (t : Tick) (s : State) : Host.Outcome State Fault Refusal :=
  .next (doTimeBeacon (s.at t))

/-- POWER_TB_STALE (R31). -/
def execPowerTbStale (t : Tick) (s : State) : Host.Outcome State Fault Refusal :=
  .next (doTbStale (s.at t))

/-- D2D_INTERFACE_LOSS (R17). -/
def execD2dInterfaceLoss (t : Tick) (s : State) : Host.Outcome State Fault Refusal :=
  .next ((s.at t).d2dFault 0)

/-- CLOCK_MEASUREMENT (R264). -/
def execClockMeasurement (t : Tick) (c0 c1 c2 c3 c4 : Nat) (s : State) :
    Host.Outcome State Fault Refusal :=
  .next ((([(0, c0), (1, c1), (2, c2), (3, c3), (4, c4)] : List (Fin 5 × Nat)).foldl
    (fun s x => s.clockSeen x.1 x.2 false) (s.at t)).watchRows)

/-- CLOCK_NO_EDGE (R264). -/
def execClockNoEdge (t : Tick) (c : Fin 5) (s : State) : Host.Outcome State Fault Refusal :=
  .next ((s.at t).clockSeen c 0 true).watchRows

/-- SUPPLY_COMPARISON (R265). -/
def execSupplyComparison (t : Tick) (v0 v1 v2 v3 v4 v5 : Nat) (s : State) :
    Host.Outcome State Fault Refusal :=
  .next ((([(0, v0), (1, v1), (2, v2), (3, v3), (4, v4), (5, v5)] : List (Fin 6 × Nat)).foldl
    (fun s x => s.supplySeen x.1 x.2) (s.at t)).watchRows)

/-- ISLAND_FAILURE (R262). -/
def execIslandFailure (t : Tick) (s : State) : Host.Outcome State Fault Refusal :=
  .next (s.at t).failIsland.bootReact

/-- VDD_SAFE_LOW (R261). -/
def execVddSafeLow (t : Tick) (s : State) : Host.Outcome State Fault Refusal :=
  .next (s.at t).unpowered

/-- VDD_SAFE_POWER_ON (R261). -/
def execVddSafePowerOn (t : Tick) (s : State) : Host.Outcome State Fault Refusal :=
  .next (if (s.at t).rng.powered then s.at t else (s.at t).repowered)

/-- ALIVE_TOGGLE (R263). -/
def execAliveToggle (t : Tick) (s : State) : Host.Outcome State Fault Refusal :=
  .next (doAlive (s.at t) t)

/-- AUTO_RELEASE (R272). -/
def execAutoRelease (t : Tick) (r : Fin 128) (s : State) : Host.Outcome State Fault Refusal :=
  .next (doAutoRelease (s.at t) r)

/-- SHUTDOWN_TRIP (R418). -/
def execShutdownTrip (t : Tick) (n : Fin 14) (s : State) : Host.Outcome State Fault Refusal :=
  .next (doShutdown (s.at t) n)

/-- SHUTDOWN_RESET_HOLD (R418). -/
def execShutdownResetHold (t : Tick) (s : State) : Host.Outcome State Fault Refusal :=
  .next (doShutdownHold (s.at t))

/-- FLOG_STORE (R281). -/
def execFlogStore (t : Tick) (s : State) : Host.Outcome State Fault Refusal :=
  .next (doFlogStore (s.at t))

/-- FLOG_CLEAR (R281). -/
def execFlogClear (t : Tick) (v : BitVec 16) (s : State) : Host.Outcome State Fault Refusal :=
  .next (doFlogClear (s.at t) v)

end Sys2Proof.Machine
end

