-- ==== Sys2Proof/Machine/Position.lean ====
section
/-!
DEFINITION. The commands of the encoder interface: inputs, index, faults, the tracking observer,
latches, deliveries and emulation (R141 to R153, R464, R465).
-/

namespace Sys2Proof.Machine

open Sys2Proof

/-- POS changed by `f`. -/
def State.modPos (s : State) (f : Pos → Pos) : State := { s with pos := f s.pos }

/-- The count of encoder e moves by `d` counts; a move across 0 adjusts the revolutions (R143,
R145). -/
def State.moveCount (s : State) (e : Fin 2) (d : Int) : State :=
  let n : Int := countsOf s e
  s.modEnc e fun k => { k with
    cnt := ((k.cnt + d) % n).toNat, rev := k.rev + floorDiv (k.cnt + d) (countsOf s e) }

/-- The count and θ̂ move by `d` counts on one tick (R145, R146). -/
def State.rebase (s : State) (e : Fin 2) (d : Int) : State :=
  (s.moveCount e d).modEnc e fun k => { k with theta := k.theta + d * 65536 }

/-- The deviation of R145: the count as a signed value. -/
def deviation (s : State) (e : Fin 2) : Int := wrapCounts s.pos.enc[e].cnt (countsOf s e)

/-- Mechanical speed of encoder e in rpm, 24 bits (R154). -/
def encRpm (s : State) (e : Fin 2) : Nat := rpm24 (speedOf s e)

/-- The stamp of a change of an input accepted on the present tick (R28, R141). -/
def inputStamp (s : State) (e : Fin 2) : Nat := s.clk.now - (12 + 4 * posEncFilt s e)

/-- A fault cause of encoder e (R146, R147): TRX is told of the fault of a REFERENCED encoder. Causes
1 and 2 come with a change of an input. -/
def State.encFault (s : State) (e : Fin 2) (cause : Nat) : State :=
  let was := s.pos.enc[e].state
  match was, cause with
  | .fault, _ => s
  | .unreferenced, 2 => s
  | _, _ =>
    let s := s.modEnc e fun k => { k with state := .fault, cause := cause }
    let s := (s.tally 55).recordAt (if cause ≤ 2 then inputStamp s e else s.clk.now) bPOS (26 + e) 4
      (cause + put (encRpm s e) 8)
    if was = .referenced then
      s.each (machines s) fun s m => if encOf s m = e then s.encFaultTo m else s
    else s

/-- Encoder e becomes REFERENCED; 0 by an index, 1 by SETREF. -/
def State.referenced (s : State) (e : Fin 2) (how : Nat) : State :=
  (s.modEnc e fun k => { k with state := .referenced }).recordAt
    (if how = 0 then inputStamp s e else s.clk.now) bPOS (26 + e) 5 how

/-! ### Inputs (R143, R144) -/

/-- The place of an (A,B) state in the sequence of R143. -/
def quadIndex (a b : Bool) : Nat :=
  match a, b with
  | false, false => 0
  | true, false => 1
  | true, true => 2
  | false, true => 3

/-- (A,B) as two bits. -/
def abCode (a b : Bool) : Nat := maskOf [b, a]

def illLimit (s : State) (e : Fin 2) : Nat := max (posLimIllLimit s e) 1

/-- An illegal transition, in the 1 ms window of its stamp (R4, R144). -/
def State.illegalMove (s : State) (e : Fin 2) (a b : Bool) : State :=
  let k := s.pos.enc[e]
  let w := winOf (inputStamp s e)
  let n := if k.illCount ≠ 0 ∧ k.illWin = w then k.illCount + 1 else 1
  let s := (s.modEnc e fun k => { k with illWin := w, illCount := n }).tally 52
  let s := if n = 1 then s.recordAt (inputStamp s e) bPOS (26 + e) 1 (abCode k.a k.b + put (abCode a b) 2) else s
  if n = illLimit s e then s.encFault e 1 else s

/-- A change of (A,B) decoded (R143). -/
def State.quadMove (s : State) (e : Fin 2) (a b : Bool) : State :=
  let k := s.pos.enc[e]
  let sg : Int := if posEncDir s e then -1 else 1
  let s := match (quadIndex a b + 4 - quadIndex k.a k.b) % 4 with
    | 0 => s
    | 1 => s.moveCount e sg
    | 3 => s.moveCount e (-sg)
    | _ => s.illegalMove e a b
  s.modEnc e fun k => { k with a := a, b := b }

/-! ### Index (R145) -/

/-- An index resets the count. -/
def State.indexReset (s : State) (e : Fin 2) (dev : Int) : State :=
  let s := s.rebase e (-dev)
  let s := (s.tally 53).recordAt (inputStamp s e) bPOS (26 + e) 2 (wrapN 32 dev)
  if s.pos.enc[e].state = .unreferenced then s.referenced e 0 else s

/-- The deviation check of MODE 1 and MODE 3, for an encoder that was REFERENCED at the index. -/
def State.indexCheck (s : State) (e : Fin 2) (was : EncState) (dev : Int) : State :=
  if was = .referenced ∧ posIdxIdxTol s e < dev.natAbs then
    ((s.tally 54).recordAt (inputStamp s e) bPOS (26 + e) 3 (wrapN 32 dev)).encFault e 2
  else s

/-- An index of encoder e. -/
def State.index (s : State) (e : Fin 2) : State :=
  let dev := deviation s e
  let st := s.pos.enc[e].state
  match posIdxMode s e with
  | 1 => (s.indexCheck e st dev).indexReset e dev
  | 2 =>
    if s.pos.enc[e].armed then
      (s.modEnc e fun k => { k with armed := false }).indexReset e dev
    else s
  | 3 => if st = .unreferenced then s.indexReset e dev else s.indexCheck e st dev
  | _ => s

/-- The filtered inputs of encoder e take new levels: the count change first, then the index. -/
def doInputs (s : State) (e : Fin 2) (a b z : Bool) : State :=
  if !posEncEn s e then s
  else
    let rise := z && !s.pos.enc[e].z
    let s := (s.quadMove e a b).modEnc e fun k => { k with z := z }
    if rise && abCode a b = posIdxQual s e then s.index e else s

/-! ### The observer (R147, R148, R464) -/

/-- The increment of θ̂ in 2^-16 counts. -/
def thetaStep (s : State) (e : Fin 2) (err : F64) : Int :=
  let k := s.pos.enc[e]
  let x := F.add (F.add (F.mul obsT k.omega) (F.mul (F.div (F.mul obsT obsT) (F.ofInt 2)) k.alpha))
    (F.mul (F.mul obsT (gainL1 (omegaB s e))) err)
  F.nearestEven (F.mul x (F.ofInt 65536))

/-- One observer step of encoder e. -/
def State.observe (s : State) (e : Fin 2) : State :=
  let k := s.pos.enc[e]
  let w := omegaB s e
  let ei := obsError s e
  let err := F.ofFix16 ei
  let omega := F.add (F.add k.omega (F.mul obsT k.alpha)) (F.mul (F.mul obsT (gainL2 w)) err)
  let alpha := F.add k.alpha (F.mul (F.mul obsT (gainL3 w)) err)
  let theta := sgn 64 (wrapN 64 (k.theta + thetaStep s e err))
  let rpm := F.div (F.mul omega (F.ofInt 60)) (F.ofInt (countsOf s e))
  let track := decide (65536 * max (posLimTrackTol s e) 1 < ei.natAbs)
  let speed := F.absGt rpm (F.ofInt (posLimMaxRpm s e))
  let s := s.modEnc e fun k => { k with
    theta := theta, omega := omega, alpha := alpha, stepTick := s.clk.now
    trackBad := track, speedBad := speed }
  if track then s.encFault e 3 else if speed then s.encFault e 4 else s

/-! ### Emulation (R152, R153) -/

def emuSource (s : State) : Fin 2 := if posEmuSrc s then 1 else 0
def emuLines (s : State) : Nat := clampN (posEmuEmuLines s) 1 16384

/-- The emulated count that the source calls for, before it is taken modulo 4 × EMU_LINES (R152). -/
def emuTarget (s : State) : Int :=
  let e := emuSource s
  floorDiv (s.pos.enc[e].theta * (emuLines s : Nat)) (65536 * linesOf s e)

/-- POS_STATUS.EMU_FROZEN. -/
def emuFrozen (s : State) : Bool := posEmuEn s && s.pos.enc[emuSource s].state == .fault

/-- The levels that a count drives. -/
def emuLevels (dir : Bool) (cnt : Int) : Bool × Bool :=
  match ((if dir then -cnt else cnt) % 4).toNat with
  | 0 => (false, false)
  | 1 => (true, false)
  | 2 => (true, true)
  | _ => (false, true)

/-- The count at which the outputs stand under SRC, EMU_LINES and DIR as they now are: the count with the
present levels that lies nearest to the one called for, where one of them has changed. -/
def emuStand (s : State) : Int :=
  let p := s.pos
  if p.emuSrc = emuSource s ∧ p.emuLines = emuLines s ∧ p.emuDir = posEmuDir s then p.emuPos
  else
    let x := if p.emuDir = posEmuDir s ∨ p.emuPos % 2 = 0 then p.emuPos else p.emuPos + 2
    emuTarget s - wrapCounts (emuTarget s - x) (4 * emuLines s)

/-- The outputs take their next step toward the count that the source calls for, one state at most and
never two on one tick; they catch up when they lag (R152, R153). -/
def State.emulate (s : State) : State :=
  if !posEmuEn s then s.modPos fun p => { p with
    emuPos := 0, emuLines := 0, emuA := false, emuB := false, emuZ := false, overrate := false }
  else if emuFrozen s || decide (s.clk.now ≤ s.pos.emuTick) then s
  else
    let now := emuStand s
    let lag := emuTarget s - now
    let c := if lag = 0 then now else if 0 < lag then now + 1 else now - 1
    let past := decide (1 < lag.natAbs)
    let ab := emuLevels (posEmuDir s) c
    let old := s.pos.overrate
    let s := s.modPos fun p => { p with
      emuPos := c, emuSrc := emuSource s, emuLines := emuLines s, emuDir := posEmuDir s, emuTick := s.clk.now
      emuA := ab.1, emuB := ab.2, overrate := past
      emuZ := decide (emuTarget s % ((4 * emuLines s : Nat) : Int) = 0)
        && p.enc[emuSource s].state == .referenced }
    if past && !old then (s.tally 56).record bPOS 28 6 (wrapN 32 lag) else s

/-- The observers step on a multiple of 160 tk. -/
def doObserve (s : State) : State :=
  if s.clk.now % 160 ≠ 0 then s
  else
    let s := s.each all2 fun s e =>
      if posEncEn s e && decide (s.pos.enc[e].stepTick < s.clk.now) then s.observe e else s
    s.emulate

/-! ### References and latches (R146, R150, R151) -/

/-- POS_CTLe.SETREF. -/
def doSetref (s : State) (e : Fin 2) : State :=
  if s.pos.enc[e].state ≠ .unreferenced then s
  else
    let d := wrapCounts ((posRefcntCount s e : Int) - s.pos.enc[e].cnt) (countsOf s e)
    (s.rebase e d).referenced e 1

/-- A fault cause is present (R147). -/
def encCause (s : State) (e : Fin 2) : Bool :=
  let k := s.pos.enc[e]
  (k.illWin = winOf s.clk.now && decide (illLimit s e ≤ k.illCount)) || k.trackBad || k.speedBad

/-- POS_CTLe.CLEAR. -/
def doClear (s : State) (e : Fin 2) : State :=
  if s.pos.enc[e].state ≠ .fault || encCause s e then s
  else
    let m := countOf s e
    s.modEnc e fun k => { k with
      state := .unreferenced, cause := 0, theta := m * 65536, omega := 0, alpha := 0 }

/-- Tick `t` is the CLK_BUS edge of a delivery of encoder e: the edge on or next after the tick at which
one falls due (R151). -/
def isDelivery (s : State) (e : Fin 2) (t : Nat) : Bool :=
  posDelivEn s e && t % 4 == 0 && s.pos.enc[e].due.any fun x => decide (x ≤ t) && decide (t < x + 4)

/-- A delivery tick: a latch, and the words of R151. -/
def doDelivery (s : State) (e : Fin 2) : State :=
  if isDelivery s e s.clk.now then
    let s := (s.latchEnc e s.clk.now).modEnc e fun k => { k with
      due := k.due.filter fun x => s.clk.now < x }
    let ws := [s.pos.enc[e].latch.lang, speedWord s e]
    s.each (enginesOf (posDelivEngines s e)) fun s k => s.ceWrites k (posDelivWord s e) ws
  else s

/-- ENCODER_INPUT_CHANGE (R141). -/
def execEncoderInputChange (t : Tick) (e : Fin 2) (a b z : Bool) (s : State) :
    Host.Outcome State Fault Refusal :=
  .next (doInputs (s.at t) e a b z).watchRows

/-- OBSERVER_STEP (R148). -/
def execObserverStep (t : Tick) (s : State) : Host.Outcome State Fault Refusal :=
  .next (doObserve (s.at t)).watchRows

/-- SETREF (R146). -/
def execSetref (t : Tick) (e : Fin 2) (s : State) : Host.Outcome State Fault Refusal :=
  .next (doSetref (s.at t) e)

/-- CLEAR (R146). -/
def execClear (t : Tick) (e : Fin 2) (s : State) : Host.Outcome State Fault Refusal :=
  .next (doClear (s.at t) e).watchRows

/-- ARM (R145). -/
def execArm (t : Tick) (e : Fin 2) (s : State) : Host.Outcome State Fault Refusal :=
  .next ((s.at t).modEnc e fun k => { k with armed := true })

/-- LATCH (R150). -/
def execLatch (t : Tick) (e : Fin 2) (s : State) : Host.Outcome State Fault Refusal :=
  .next ((s.at t).latchEnc e (s.at t).clk.now)

/-- DELIVERY_TICK (R151). -/
def execDeliveryTick (t : Tick) (e : Fin 2) (s : State) : Host.Outcome State Fault Refusal :=
  .next (doDelivery (s.at t) e)

/-- LPOS_CAPTURE (R150). -/
def execLposCapture (t : Tick) (e : Fin 2) (s : State) : Host.Outcome State Fault Refusal :=
  .next ((s.at t).modEnc e fun k => { k with captured := k.latch })

end Sys2Proof.Machine
end

