-- ==== Sys2Proof/Machine/RegMap.lean ====
section
/-!
DEFINITION. Where the registers lie and which of their bits a write stores (R9, R33, R34): one row
per register of the tables of chapters 2 to 20. A register family with one or two indices is one
row with one or two strides.
-/

namespace Sys2Proof.Machine

/-- One register or family of registers. -/
structure RegRow where
  base : Nat
  s1 : Nat
  n1 : Nat
  s2 : Nat
  n2 : Nat
  /-- RW bits that the register itself holds. -/
  rw : Nat
  /-- RWL bits. -/
  rwl : Nat
  /-- RW bits whose home is a field of the block. -/
  own : Nat
deriving DecidableEq, Repr

/-- The row has a register at address `a`. -/
def RegRow.covers (r : RegRow) (a : Nat) : Bool :=
  r.base ≤ a && (a - r.base) / r.s1 < r.n1 && (a - r.base) % r.s1 % r.s2 == 0
    && (a - r.base) % r.s1 / r.s2 < r.n2

/-- The registers of PBA. -/
def regPba : List RegRow := [
  ⟨0x400F0000, 0x4, 1, 0x4, 1, 0x0, 0x0, 0x0⟩  /- PBA_MODE -/,
  ⟨0x400F0004, 0x4, 1, 0x4, 1, 0x0, 0xFFFFFFFF, 0x0⟩  /- PBA_MODE_CFG -/,
  ⟨0x400F0008, 0x4, 1, 0x4, 1, 0x0, 0xFF1FFF00, 0x0⟩  /- PBA_CFG -/,
  ⟨0x400F000C, 0x4, 1, 0x4, 1, 0x0, 0x0, 0x0⟩  /- PBA_STATUS -/,
  ⟨0x400F0010, 0x4, 1, 0x4, 1, 0x0, 0x0, 0xFFFFFFFF⟩  /- PBA_LIM_DIS -/,
  ⟨0x400F0014, 0x4, 1, 0x4, 1, 0x0, 0x0, 0xFFFFFFFF⟩  /- PBA_LIM_CHG -/,
  ⟨0x400F0018, 0x4, 1, 0x4, 1, 0x0, 0xFFFFFFFF, 0x0⟩  /- PBA_LIM_FALLBACK -/,
  ⟨0x400F001C, 0x4, 1, 0x4, 1, 0x0, 0x0, 0x0⟩  /- PBA_LIM_AGE -/,
  ⟨0x400F0020, 0x4, 1, 0x4, 1, 0x0, 0x0, 0x0⟩  /- PBA_CYCLE_LO -/,
  ⟨0x400F0024, 0x4, 1, 0x4, 1, 0x0, 0x0, 0x0⟩  /- PBA_CYCLE_HI -/,
  ⟨0x400F0028, 0x4, 1, 0x4, 1, 0x0, 0xFFFFFFFF, 0x0⟩  /- PBA_DCC_RESERVE -/,
  ⟨0x400F002C, 0x4, 1, 0x4, 1, 0x0, 0x0, 0x0⟩  /- PBA_CMD_QUEUE -/,
  ⟨0x400F0030, 0x4, 1, 0x4, 1, 0x0, 0xC7FFF000, 0x0⟩  /- PBA_LIMSRC -/,
  ⟨0x400F0034, 0x4, 1, 0x4, 1, 0x0, 0xFF80FFFF, 0x0⟩  /- PBA_VDC -/,
  ⟨0x400F0038, 0x4, 1, 0x4, 1, 0x0, 0x0, 0x0⟩  /- PBA_VDCV -/,
  ⟨0x400F0100, 0x10, 7, 0x4, 1, 0x0, 0x0, 0xFFFFFFFF⟩  /- PBA_REQn -/,
  ⟨0x400F0104, 0x10, 7, 0x4, 1, 0x0, 0x0, 0x0⟩  /- PBA_GRANTn -/,
  ⟨0x400F0108, 0x10, 7, 0x4, 1, 0x0, 0x0, 0x0⟩  /- PBA_OUTCOMEn -/,
  ⟨0x400F010C, 0x10, 7, 0x4, 1, 0x0, 0xFFFF3FF0, 0x0⟩  /- PBA_CONSn -/,
  ⟨0x400F0200, 0x4, 16, 0x4, 1, 0x0, 0xC7FFF07F, 0x0⟩  /- PBA_SRCs -/]

/-- The registers of CAP. -/
def regCap : List RegRow := [
  ⟨0x60000000, 0x4, 1, 0x4, 1, 0x0, 0x1F0000, 0x0⟩  /- CAP_CFG -/,
  ⟨0x60000004, 0x4, 1, 0x4, 1, 0x0, 0x0, 0x0⟩  /- CAP_STATUS -/,
  ⟨0x60000008, 0x4, 1, 0x4, 1, 0x0, 0xFFFFFF00, 0x0⟩  /- CAP_ROT -/,
  ⟨0x6000000C, 0x4, 1, 0x4, 1, 0x0, 0xFFFFFFFF, 0x0⟩  /- CAP_ROT2 -/,
  ⟨0x60000010, 0x4, 1, 0x4, 1, 0x0, 0x0, 0x0⟩  /- CAP_CONV_STAT -/,
  ⟨0x60000014, 0x4, 1, 0x4, 1, 0x0, 0x0, 0x0⟩  /- CAP_SHADOW -/,
  ⟨0x60000020, 0x4, 7, 0x4, 1, 0xFFFF, 0x0, 0x0⟩  /- CAP_SETTLEg -/,
  ⟨0x60000040, 0x4, 1, 0x4, 1, 0xF0FFFFFF, 0x0, 0x0⟩  /- CAP_TRACE -/,
  ⟨0x60000080, 0x4, 16, 0x4, 1, 0x0, 0xFFFFFC00, 0x0⟩  /- CAP_SETs -/,
  ⟨0x60000100, 0x10, 24, 0x4, 1, 0x0, 0x1F, 0x0⟩  /- CAP_CHk -/,
  ⟨0x60000104, 0x10, 24, 0x4, 1, 0x0, 0x0, 0x0⟩  /- CAP_TRIMk -/,
  ⟨0x60000108, 0x10, 24, 0x4, 1, 0x0, 0x0, 0x0⟩  /- CAP_SAMPLEk -/,
  ⟨0x6000010C, 0x10, 24, 0x4, 1, 0x0, 0x0, 0x0⟩  /- CAP_CALAGEk -/,
  ⟨0x60000400, 0x80, 24, 0x10, 8, 0xF80FFFFF, 0x0, 0x0⟩  /- CAP_WOPENk_w -/,
  ⟨0x60000404, 0x80, 24, 0x10, 8, 0xFEFFFFF, 0x0, 0x0⟩  /- CAP_WCLOSEk_w -/,
  ⟨0x60000408, 0x80, 24, 0x10, 8, 0x1F, 0x0, 0x0⟩  /- CAP_WSTATk_w -/,
  ⟨0x60001000, 0x80, 24, 0x10, 8, 0x0, 0x0, 0x0⟩  /- CAP_RSUMk_w -/,
  ⟨0x60001004, 0x80, 24, 0x10, 8, 0x0, 0x0, 0x0⟩  /- CAP_RSTATk_w -/,
  ⟨0x60001008, 0x80, 24, 0x10, 8, 0x0, 0x0, 0x0⟩  /- CAP_RSTAMPk_w -/]

/-- The registers of CE. -/
def regCe : List RegRow := [
  ⟨0x40080000, 0x2000, 8, 0x4, 1, 0x0, 0x0, 0x1⟩  /- CE_CTL -/,
  ⟨0x40080004, 0x2000, 8, 0x4, 1, 0x0, 0x0, 0x0⟩  /- CE_STATE -/,
  ⟨0x40080008, 0x2000, 8, 0x4, 1, 0x0, 0xFF0FFF, 0x7000000⟩  /- CE_CFG -/,
  ⟨0x4008000C, 0x2000, 8, 0x4, 1, 0x0, 0x0, 0xFFF0FFF⟩  /- CE_ENTRY -/,
  ⟨0x40080010, 0x2000, 8, 0x4, 1, 0xFFFFFF, 0x0, 0x0⟩  /- CE_TIMER -/,
  ⟨0x40080014, 0x2000, 8, 0x4, 1, 0xFFFFFF, 0x0, 0x0⟩  /- CE_TPHASE -/,
  ⟨0x40080018, 0x2000, 8, 0x4, 1, 0x0, 0x0, 0x0⟩  /- CE_FLAGS -/,
  ⟨0x4008001C, 0x2000, 8, 0x4, 1, 0x0, 0x1F, 0x0⟩  /- CE_EVCFG -/,
  ⟨0x40080020, 0x2000, 8, 0x4, 1, 0x0, 0x0, 0xFFFF⟩  /- CE_PASS -/,
  ⟨0x40080024, 0x2000, 8, 0x4, 1, 0x0, 0x0, 0x0⟩  /- CE_PSTART_LO -/,
  ⟨0x40080028, 0x2000, 8, 0x4, 1, 0x0, 0x0, 0x0⟩  /- CE_PSTART_HI -/,
  ⟨0x4008002C, 0x2000, 8, 0x4, 1, 0x0, 0x0, 0x0⟩  /- CE_HOLD -/,
  ⟨0x40080030, 0x2000, 8, 0x4, 1, 0x0, 0x0, 0xFFFFFFE0⟩  /- CE_PLOAD_SRC -/,
  ⟨0x40080034, 0x2000, 8, 0x4, 1, 0x0, 0x0, 0x1FF01FF⟩  /- CE_PLOAD_CTL -/,
  ⟨0x40080038, 0x2000, 8, 0x4, 1, 0x0, 0x0, 0x0⟩  /- CE_PCRC -/,
  ⟨0x40080040, 0x2000, 8, 0x4, 16, 0x0, 0x0, 0x0⟩  /- CE_Wi -/,
  ⟨0x40080080, 0x2000, 8, 0x8, 4, 0x0, 0x0, 0x0⟩  /- CE_ACCk_LO -/,
  ⟨0x40080084, 0x2000, 8, 0x8, 4, 0x0, 0x0, 0x0⟩  /- CE_ACCk_HI -/,
  ⟨0x40081000, 0x2000, 8, 0x4, 1024, 0x0, 0x0, 0xFFFFFF⟩  /- CE_DMEMj -/]

/-- The registers of TRX. -/
def regTrx : List RegRow := [
  ⟨0x40090000, 0x4, 1, 0x4, 1, 0x0, 0x1F0003, 0x0⟩  /- TRX_CFG -/,
  ⟨0x40090004, 0x4, 1, 0x4, 1, 0x0, 0x0, 0x0⟩  /- TRX_STATUS -/,
  ⟨0x40090008, 0x4, 1, 0x4, 1, 0x0, 0xFFFF, 0x0⟩  /- TRX_STANDSTILL -/,
  ⟨0x4009000C, 0x4, 1, 0x4, 1, 0x0, 0xFFFF, 0x0⟩  /- TRX_BTEST -/,
  ⟨0x40090100, 0x80, 2, 0x4, 1, 0x0, 0xFE00FFFF, 0x0⟩  /- TRX_MACHm -/,
  ⟨0x40090104, 0x80, 2, 0x4, 1, 0x0, 0xFFFFFFFF, 0x0⟩  /- TRX_TRATEm -/,
  ⟨0x40090108, 0x80, 2, 0x4, 1, 0x0, 0xFFFFFFFF, 0x0⟩  /- TRX_ASCm -/,
  ⟨0x4009010C, 0x80, 2, 0x4, 1, 0x0, 0xFFFFFFFF, 0x0⟩  /- TRX_OBSm -/,
  ⟨0x40090110, 0x80, 2, 0x4, 1, 0x0, 0xC0FFFFFF, 0x0⟩  /- TRX_FLYm -/,
  ⟨0x40090114, 0x80, 2, 0x4, 1, 0x0, 0x3FFFFC00, 0x0⟩  /- TRX_MAPm -/,
  ⟨0x40090118, 0x80, 2, 0x4, 1, 0x0, 0x0, 0x0⟩  /- TRX_STATEm -/,
  ⟨0x4009011C, 0x80, 2, 0x4, 1, 0x0, 0x0, 0x0⟩  /- TRX_TREQm -/,
  ⟨0x40090120, 0x80, 2, 0x4, 1, 0x0, 0x0, 0x0⟩  /- TRX_SREQm -/,
  ⟨0x40090124, 0x80, 2, 0x4, 1, 0x0, 0x0, 0x0⟩  /- TRX_TREFm -/,
  ⟨0x40090128, 0x80, 2, 0x4, 1, 0x0, 0x0, 0x0⟩  /- TRX_OSPDm -/,
  ⟨0x4009012C, 0x80, 2, 0x4, 1, 0x0, 0x0, 0x0⟩  /- TRX_OANGm -/,
  ⟨0x40090130, 0x80, 2, 0x4, 1, 0x0, 0x0, 0x0⟩  /- TRX_ADIFFm -/]

/-- The registers of POS. -/
def regPos : List RegRow := [
  ⟨0x400A0000, 0x4, 1, 0x4, 1, 0x0, 0x1F0000, 0x0⟩  /- POS_CFG -/,
  ⟨0x400A0004, 0x4, 1, 0x4, 1, 0x0, 0x0, 0x0⟩  /- POS_STATUS -/,
  ⟨0x400A0008, 0x4, 1, 0x4, 1, 0xE0007FFF, 0x0, 0x0⟩  /- POS_EMU -/,
  ⟨0x400A0100, 0x80, 2, 0x4, 1, 0x0, 0xC0FFFFFF, 0x0⟩  /- POS_ENCe -/,
  ⟨0x400A0104, 0x80, 2, 0x4, 1, 0xCC00FFFF, 0x0, 0x0⟩  /- POS_IDXe -/,
  ⟨0x400A0108, 0x80, 2, 0x4, 1, 0x0, 0xFFFFFFFF, 0x0⟩  /- POS_LIMe -/,
  ⟨0x400A010C, 0x80, 2, 0x4, 1, 0x0, 0xFFFFF000, 0x0⟩  /- POS_OBSe -/,
  ⟨0x400A0110, 0x80, 2, 0x4, 1, 0xFFFFFF, 0x0, 0x0⟩  /- POS_OFFSETe -/,
  ⟨0x400A0114, 0x80, 2, 0x4, 1, 0x0, 0xFFFFFE00, 0x0⟩  /- POS_DELIVe -/,
  ⟨0x400A0118, 0x80, 2, 0x4, 1, 0x0, 0xFFFFF, 0x0⟩  /- POS_DOFFe -/,
  ⟨0x400A011C, 0x80, 2, 0x4, 1, 0x0, 0x0, 0x0⟩  /- POS_CTLe -/,
  ⟨0x400A0120, 0x80, 2, 0x4, 1, 0x3FFFF, 0x0, 0x0⟩  /- POS_REFCNTe -/,
  ⟨0x400A0124, 0x80, 2, 0x4, 1, 0x0, 0x0, 0x0⟩  /- POS_STATEe -/,
  ⟨0x400A0128, 0x80, 2, 0x4, 1, 0x0, 0x0, 0x0⟩  /- POS_CNTe -/,
  ⟨0x400A012C, 0x80, 2, 0x4, 1, 0x0, 0x0, 0x0⟩  /- POS_REVe -/,
  ⟨0x400A0130, 0x80, 2, 0x4, 1, 0x0, 0x0, 0x0⟩  /- POS_SPDe -/,
  ⟨0x400A0134, 0x80, 2, 0x4, 1, 0x0, 0x0, 0x0⟩  /- POS_ACCe -/,
  ⟨0x400A0138, 0x80, 2, 0x4, 1, 0x0, 0x0, 0x0⟩  /- POS_LPOSe -/,
  ⟨0x400A013C, 0x80, 2, 0x4, 1, 0x0, 0x0, 0x0⟩  /- POS_LANGe -/,
  ⟨0x400A0140, 0x80, 2, 0x4, 1, 0x0, 0x0, 0x0⟩  /- POS_LSPDe -/,
  ⟨0x400A0144, 0x80, 2, 0x4, 1, 0x0, 0x0, 0x0⟩  /- POS_LSTAMP_LOe -/,
  ⟨0x400A0148, 0x80, 2, 0x4, 1, 0x0, 0x0, 0x0⟩  /- POS_LSTAMP_HIe -/]

/-- The registers of GSC. -/
def regGsc : List RegRow := [
  ⟨0x400B0000, 0x4, 1, 0x4, 1, 0x0, 0x1F0000, 0x0⟩  /- GSC_CFG -/,
  ⟨0x400B0004, 0x4, 1, 0x4, 1, 0x0, 0x0, 0x0⟩  /- GSC_STATUS -/,
  ⟨0x400B0008, 0x4, 1, 0x4, 1, 0x0, 0xFFFF, 0x0⟩  /- GSC_HORIZON -/,
  ⟨0x400B0040, 0x20, 4, 0x4, 1, 0x0, 0x80000000, 0xFFFFF⟩  /- GSC_CARRIERg -/,
  ⟨0x400B0044, 0x20, 4, 0x4, 1, 0x0, 0x0, 0xFFFFF⟩  /- GSC_CPHASEg -/,
  ⟨0x400B0048, 0x20, 4, 0x4, 1, 0x0, 0xFFFFFFFF, 0x0⟩  /- GSC_GROUPg -/,
  ⟨0x400B004C, 0x20, 4, 0x4, 1, 0x0, 0x0, 0x0⟩  /- GSC_GSTATg -/,
  ⟨0x400B0050, 0x20, 4, 0x4, 1, 0x0, 0x0, 0xFFFF0000⟩  /- GSC_LATEg -/,
  ⟨0x400B0054, 0x20, 4, 0x4, 1, 0x0, 0x0, 0x0⟩  /- GSC_PSTART_LOg -/,
  ⟨0x400B0058, 0x20, 4, 0x4, 1, 0x0, 0x0, 0x0⟩  /- GSC_PSTART_HIg -/,
  ⟨0x400B005C, 0x20, 4, 0x4, 1, 0x0, 0xFFFF, 0x0⟩  /- GSC_CLAIMg -/,
  ⟨0x400B0200, 0x8, 24, 0x4, 1, 0x0, 0xFFFFFC00, 0x0⟩  /- GSC_LEGl -/,
  ⟨0x400B0204, 0x8, 24, 0x4, 1, 0x0, 0x0, 0x0⟩  /- GSC_LSTATl -/]

/-- The registers of GLK. -/
def regGlk : List RegRow := [
  ⟨0x400C0000, 0x4, 1, 0x4, 1, 0x0, 0x1F0000, 0x0⟩  /- GLK_CFG -/,
  ⟨0x400C0004, 0x4, 1, 0x4, 1, 0x0, 0x0, 0x0⟩  /- GLK_STATUS -/,
  ⟨0x400C0100, 0x40, 12, 0x4, 1, 0x0, 0xFC000000, 0x0⟩  /- GLK_CFGl -/,
  ⟨0x400C0104, 0x40, 12, 0x4, 1, 0x0, 0xFFFFFFFF, 0x0⟩  /- GLK_HUBIDl -/,
  ⟨0x400C0108, 0x40, 12, 0x4, 1, 0x0, 0x0, 0x0⟩  /- GLK_CTLl -/,
  ⟨0x400C010C, 0x40, 12, 0x4, 1, 0x0, 0x0, 0x0⟩  /- GLK_STATEl -/,
  ⟨0x400C0110, 0x40, 12, 0x4, 1, 0x0, 0x0, 0x0⟩  /- GLK_LOSSPl -/,
  ⟨0x400C0114, 0x40, 12, 0x4, 1, 0x0, 0x0, 0xFF⟩  /- GLK_CMDl -/,
  ⟨0x400C0118, 0x40, 12, 0x4, 1, 0x0, 0x0, 0xFFFFFFFF⟩  /- GLK_CMDDATAl -/,
  ⟨0x400C011C, 0x40, 12, 0x4, 1, 0x0, 0x0, 0x0⟩  /- GLK_HSTATl -/,
  ⟨0x400C0120, 0x40, 12, 0x4, 1, 0x0, 0x0, 0x0⟩  /- GLK_QUEUEl -/]

/-- The registers of PSP. -/
def regPsp : List RegRow := [
  ⟨0x400D0000, 0x4, 1, 0x4, 1, 0x0, 0x1F0000, 0x0⟩  /- PSP_CFG -/,
  ⟨0x400D0004, 0x4, 1, 0x4, 1, 0x0, 0x0, 0x0⟩  /- PSP_STATUS -/,
  ⟨0x400D0040, 0x10, 4, 0x4, 1, 0x0, 0x0, 0x0⟩  /- PSP_RSET_LOg -/,
  ⟨0x400D0044, 0x10, 4, 0x4, 1, 0x0, 0x0, 0x0⟩  /- PSP_RSET_HIg -/,
  ⟨0x400D0048, 0x10, 4, 0x4, 1, 0x0, 0x0, 0x0⟩  /- PSP_DECg -/,
  ⟨0x400D0100, 0x10, 8, 0x4, 1, 0x0, 0xF87FC0FF, 0x0⟩  /- PSP_MONi_CFG -/,
  ⟨0x400D0104, 0x10, 8, 0x4, 1, 0x0, 0xFFFFFF, 0x0⟩  /- PSP_MONi_LIM -/,
  ⟨0x400D0108, 0x10, 8, 0x4, 1, 0x0, 0x0, 0x0⟩  /- PSP_MONi_STAT -/,
  ⟨0x400D010C, 0x10, 8, 0x4, 1, 0x0, 0x0, 0x0⟩  /- PSP_MONi_LAST -/]

/-- The registers of AXB. -/
def regAxb : List RegRow := [
  ⟨0x60030000, 0x4, 1, 0x4, 1, 0x0, 0x1F0000, 0x0⟩  /- AXB_CFG -/,
  ⟨0x60030004, 0x4, 1, 0x4, 1, 0x0, 0x0, 0x0⟩  /- AXB_STATUS -/,
  ⟨0x60030100, 0x80, 3, 0x4, 1, 0x0, 0xFFFF3F3F, 0x0⟩  /- AXB_CTLb -/,
  ⟨0x60030104, 0x80, 3, 0x4, 1, 0x0, 0xFFFFFF00, 0x0⟩  /- AXB_MOTORb -/,
  ⟨0x60030108, 0x80, 3, 0x4, 1, 0xFFFFF, 0x0, 0x0⟩  /- AXB_CARRIERb -/,
  ⟨0x6003010C, 0x80, 3, 0x4, 1, 0xFFFFF, 0x0, 0x0⟩  /- AXB_CPHASEb -/,
  ⟨0x60030110, 0x80, 3, 0x4, 1, 0x0, 0xFFFFFFFF, 0x0⟩  /- AXB_TIMINGb -/,
  ⟨0x60030114, 0x80, 3, 0x4, 1, 0x0, 0xFFFF, 0x0⟩  /- AXB_BOOTb -/,
  ⟨0x60030118, 0x80, 3, 0x4, 1, 0x0, 0xFFFFFFFF, 0x0⟩  /- AXB_STARTb -/,
  ⟨0x6003011C, 0x80, 3, 0x4, 1, 0x0, 0xFFFFFFFF, 0x0⟩  /- AXB_RAMPb -/,
  ⟨0x60030120, 0x80, 3, 0x4, 1, 0x0, 0xFFFFFFFF, 0x0⟩  /- AXB_RAMP2b -/,
  ⟨0x60030124, 0x80, 3, 0x4, 1, 0x0, 0xFFFFFFFF, 0x0⟩  /- AXB_ZCb -/,
  ⟨0x60030128, 0x80, 3, 0x4, 1, 0x0, 0xFFFFFF, 0x0⟩  /- AXB_ILIMb -/,
  ⟨0x6003012C, 0x80, 3, 0x4, 1, 0x0, 0xFFFFFFFF, 0x0⟩  /- AXB_VSb -/,
  ⟨0x60030130, 0x80, 3, 0x4, 1, 0x0, 0x3FF00000, 0x0⟩  /- AXB_MAPb -/,
  ⟨0x60030134, 0x80, 3, 0x4, 1, 0x0, 0x0, 0x0⟩  /- AXB_STATEb -/,
  ⟨0x60030138, 0x80, 3, 0x4, 1, 0x0, 0x0, 0x0⟩  /- AXB_T60b -/,
  ⟨0x6003013C, 0x80, 3, 0x4, 1, 0x0, 0x0, 0x0⟩  /- AXB_STEPSb -/,
  ⟨0x60030140, 0x80, 3, 0x4, 1, 0x0, 0x0, 0x0⟩  /- AXB_SENSEb -/,
  ⟨0x60030144, 0x80, 3, 0x4, 1, 0x0, 0xFFF0FFF, 0x0⟩  /- AXB_ZEROb -/]

/-- The registers of DCC. -/
def regDcc : List RegRow := [
  ⟨0x60040000, 0x4, 1, 0x4, 1, 0x0, 0xC01F0000, 0x0⟩  /- DCC_CFG -/,
  ⟨0x60040004, 0x4, 1, 0x4, 1, 0x0, 0x0, 0x0⟩  /- DCC_STATUS -/,
  ⟨0x60040008, 0x4, 1, 0x4, 1, 0x0, 0xFFFF, 0x0⟩  /- DCC_SET -/,
  ⟨0x6004000C, 0x4, 1, 0x4, 1, 0x0, 0x0, 0x0⟩  /- DCC_VREF -/,
  ⟨0x60040010, 0x4, 1, 0x4, 1, 0x0, 0xFFFFFFFF, 0x0⟩  /- DCC_SLEW -/,
  ⟨0x60040014, 0x4, 1, 0x4, 1, 0x0, 0xFFFFFFFF, 0x0⟩  /- DCC_LIMITS -/,
  ⟨0x60040018, 0x4, 1, 0x4, 1, 0x0, 0xFFFFFFFF, 0x0⟩  /- DCC_TIMING -/,
  ⟨0x6004001C, 0x4, 1, 0x4, 1, 0x0, 0xFFFFFF, 0x0⟩  /- DCC_ILIM -/,
  ⟨0x60040020, 0x4, 1, 0x4, 1, 0x0, 0xFFFF, 0x0⟩  /- DCC_SLOPE -/,
  ⟨0x60040024, 0x4, 1, 0x4, 1, 0x0, 0xFFFFFFFF, 0x0⟩  /- DCC_PRED -/,
  ⟨0x60040028, 0x4, 1, 0x4, 1, 0x0, 0xFFFFC000, 0x0⟩  /- DCC_WIN -/,
  ⟨0x6004002C, 0x4, 1, 0x4, 1, 0x0, 0xFFFFFC00, 0x0⟩  /- DCC_PHASE -/,
  ⟨0x60040030, 0x4, 1, 0x4, 1, 0x0, 0xFFFF0000, 0x0⟩  /- DCC_SCALE -/,
  ⟨0x60040034, 0x4, 1, 0x4, 1, 0xFFFFFFFF, 0x0, 0x0⟩  /- DCC_SYNC -/,
  ⟨0x60040038, 0x4, 1, 0x4, 1, 0x0, 0x0, 0x0⟩  /- DCC_SYNCSTAT -/,
  ⟨0x6004003C, 0x4, 1, 0x4, 1, 0x0, 0x3FF00000, 0x0⟩  /- DCC_MAP -/,
  ⟨0x60040040, 0x4, 2, 0x4, 1, 0x0, 0x0, 0x0⟩  /- DCC_PEAKp -/]

/-- The registers of OBC. -/
def regObc : List RegRow := [
  ⟨0x60050000, 0x4, 1, 0x4, 1, 0x0, 0xFFFFFFFF, 0x0⟩  /- OBC_CFG -/,
  ⟨0x60050004, 0x4, 1, 0x4, 1, 0x0, 0x0, 0x0⟩  /- OBC_STATUS -/,
  ⟨0x60050008, 0x4, 1, 0x4, 1, 0x0, 0x3FFFFC00, 0x0⟩  /- OBC_MAP -/,
  ⟨0x6005000C, 0x4, 1, 0x4, 1, 0x0, 0xFFFFFFFF, 0x0⟩  /- OBC_SCALE -/,
  ⟨0x60050010, 0x4, 1, 0x4, 1, 0x0, 0xFFFFFFFF, 0x0⟩  /- OBC_GRID -/,
  ⟨0x60050014, 0x4, 1, 0x4, 1, 0x0, 0xFFFFFFFF, 0x0⟩  /- OBC_RAMP -/,
  ⟨0x60050018, 0x4, 1, 0x4, 1, 0x0, 0xFFFFFFE0, 0x0⟩  /- OBC_WIN -/,
  ⟨0x6005001C, 0x4, 1, 0x4, 1, 0x0, 0x0, 0x0⟩  /- OBC_ISET -/,
  ⟨0x60050020, 0x4, 1, 0x4, 1, 0x0, 0x0, 0x0⟩  /- OBC_IINLIM -/]

/-- The registers of CHG. -/
def regChg : List RegRow := [
  ⟨0x60060000, 0x4, 1, 0x4, 1, 0x0, 0x801FFFFF, 0x0⟩  /- CHG_CFG -/,
  ⟨0x60060004, 0x4, 1, 0x4, 1, 0x0, 0x0, 0x0⟩  /- CHG_PILOT -/,
  ⟨0x60060008, 0x4, 1, 0x4, 1, 0x0, 0x0, 0x0⟩  /- CHG_PP -/,
  ⟨0x6006000C, 0x4, 1, 0x4, 1, 0x0, 0x0, 0x0⟩  /- CHG_INLET -/,
  ⟨0x60060010, 0x4, 1, 0x4, 1, 0xFFFF, 0x0, 0x0⟩  /- CHG_DIGLIM -/,
  ⟨0x60060014, 0x4, 1, 0x4, 1, 0x0, 0x0, 0x0⟩  /- CHG_SUP -/,
  ⟨0x60060018, 0x4, 1, 0x4, 1, 0x0, 0x0, 0x0⟩  /- CHG_LIMIT -/,
  ⟨0x6006001C, 0x4, 1, 0x4, 1, 0x0, 0xFFFFFFFF, 0x0⟩  /- CHG_MAX -/,
  ⟨0x60060020, 0x4, 1, 0x4, 1, 0x0, 0xFFFFFFFF, 0x0⟩  /- CHG_VMIN -/,
  ⟨0x60060024, 0x4, 1, 0x4, 1, 0xFFFF, 0x0, 0x0⟩  /- CHG_TEMP -/,
  ⟨0x60060028, 0x4, 1, 0x4, 1, 0x0, 0xFFFFFFFF, 0x0⟩  /- CHG_TBAND -/,
  ⟨0x6006002C, 0x4, 1, 0x4, 1, 0x0, 0xFFFFFFFF, 0x0⟩  /- CHG_TPCT -/,
  ⟨0x60060030, 0x4, 1, 0x4, 1, 0x0, 0xFFFFFFFF, 0x0⟩  /- CHG_TERM -/,
  ⟨0x60060034, 0x4, 1, 0x4, 1, 0x0, 0xFFFFFFFF, 0x0⟩  /- CHG_TIMER -/,
  ⟨0x60060038, 0x4, 1, 0x4, 1, 0x0, 0x0, 0x0⟩  /- CHG_ELAPSED -/,
  ⟨0x6006003C, 0x4, 1, 0x4, 1, 0x0, 0x0, 0x0⟩  /- CHG_HOSTAT -/]

/-- The registers of RNG. -/
def regRng : List RegRow := [
  ⟨0x70000000, 0x4, 1, 0x4, 1, 0x0, 0x1F0000, 0x0⟩  /- RNG_CFG -/,
  ⟨0x70000004, 0x4, 1, 0x4, 1, 0x0, 0x0, 0x0⟩  /- RNG_STATUS -/,
  ⟨0x70000008, 0x4, 1, 0x4, 1, 0x0, 0xFFFFFFFF, 0x0⟩  /- RNG_RESETAUTH -/,
  ⟨0x7000000C, 0x4, 1, 0x4, 1, 0x0, 0xFF000000, 0x0⟩  /- RNG_LOCK -/,
  ⟨0x70000010, 0x4, 1, 0x4, 1, 0x0, 0xFFFF0000, 0x0⟩  /- RNG_BTEST -/,
  ⟨0x70000014, 0x4, 1, 0x4, 1, 0x0, 0x0, 0x0⟩  /- RNG_BTMOVE -/,
  ⟨0x70000018, 0x4, 1, 0x4, 1, 0x0, 0x0, 0x0⟩  /- RNG_LAST -/,
  ⟨0x70000020, 0x4, 4, 0x4, 1, 0x0, 0x0, 0x0⟩  /- RNG_ACTIVEk -/,
  ⟨0x70000400, 0x10, 128, 0x4, 1, 0x0, 0xBFFFFEFF, 0x0⟩  /- RNG_MATCHr -/,
  ⟨0x70000404, 0x10, 128, 0x4, 1, 0x0, 0xFFF7FFFF, 0x0⟩  /- RNG_SCOPEr -/,
  ⟨0x70000408, 0x10, 128, 0x4, 1, 0x0, 0xFFFE0000, 0x0⟩  /- RNG_ACTr -/]

/-- The registers of SBC. -/
def regSbc : List RegRow := [
  ⟨0x60070000, 0x4, 1, 0x4, 1, 0x0, 0xFF00FF, 0x0⟩  /- SBC_CFG -/,
  ⟨0x60070004, 0x4, 1, 0x4, 1, 0x0, 0xFFFFFF00, 0x0⟩  /- SBC_LIMITS -/,
  ⟨0x60070008, 0x4, 1, 0x4, 1, 0x0, 0x0, 0x0⟩  /- SBC_VBRK -/,
  ⟨0x60070010, 0x10, 2, 0x4, 1, 0x0, 0x0, 0x0⟩  /- SBC_STATEn -/,
  ⟨0x60070014, 0x10, 2, 0x4, 1, 0x0, 0x0, 0x0⟩  /- SBC_MEASn -/,
  ⟨0x60070018, 0x10, 2, 0x4, 1, 0x0, 0x0, 0x0⟩  /- SBC_MEAS2n -/,
  ⟨0x6007001C, 0x10, 2, 0x4, 1, 0x0, 0x0, 0x0⟩  /- SBC_TPn -/]

/-- The registers of FLOG. -/
def regFlog : List RegRow := [
  ⟨0x60080000, 0x4, 1, 0x4, 1, 0x0, 0x0, 0x0⟩  /- FLOG_STATUS -/,
  ⟨0x60080004, 0x4, 1, 0x4, 1, 0x0, 0x0, 0x0⟩  /- FLOG_CTL -/,
  ⟨0x60080008, 0x4, 1, 0x4, 1, 0x0, 0x0, 0x0⟩  /- FLOG_WRITES -/,
  ⟨0x60081000, 0x20, 256, 0x4, 8, 0x0, 0x0, 0x0⟩  /- FLOG_RECi_j -/,
  ⟨0x60080010, 0x4, 1, 0x4, 1, 0x0, 0x0, 0x0⟩  /- FLOG_DIEID_LO -/,
  ⟨0x60080014, 0x4, 1, 0x4, 1, 0x0, 0x0, 0x0⟩  /- FLOG_DIEID_HI -/,
  ⟨0x60080018, 0x4, 1, 0x4, 1, 0x0, 0x0, 0x0⟩  /- FLOG_ARB -/,
  ⟨0x60080020, 0x4, 8, 0x4, 1, 0x0, 0x0, 0x0⟩  /- FLOG_KEYHASHj -/,
  ⟨0x60080100, 0x4, 24, 0x4, 1, 0x0, 0x0, 0x0⟩  /- FLOG_CAPTRIMk -/,
  ⟨0x60080200, 0x4, 64, 0x4, 1, 0x0, 0x0, 0x0⟩  /- FLOG_TRIM -/]

/-- The registers of BLZ. -/
def regBlz : List RegRow := [
  ⟨0x70010000, 0x4, 1, 0x4, 1, 0x0, 0x1F1F, 0x0⟩  /- BLZ_CFG -/,
  ⟨0x70010004, 0x4, 1, 0x4, 1, 0x0, 0xFFFFFFFF, 0x0⟩  /- BLZ_ID -/,
  ⟨0x70010008, 0x4, 1, 0x4, 1, 0x0, 0x0, 0x0⟩  /- BLZ_STATUS -/,
  ⟨0x70010100, 0x20, 64, 0x4, 1, 0x0, 0xE7FFF0FF, 0x0⟩  /- BLZ_CDEFi -/,
  ⟨0x70010104, 0x20, 64, 0x4, 1, 0x0, 0xFFFFFFFF, 0x0⟩  /- BLZ_CPEERi -/,
  ⟨0x70010108, 0x20, 64, 0x4, 1, 0x0, 0xFFFFFFFF, 0x0⟩  /- BLZ_CCONSTi -/,
  ⟨0x7001010C, 0x20, 64, 0x4, 1, 0x0, 0xFFFFFFFF, 0x0⟩  /- BLZ_CTIMEi -/,
  ⟨0x70010110, 0x20, 64, 0x4, 1, 0x0, 0xFFFFC0FF, 0x0⟩  /- BLZ_COPTi -/,
  ⟨0x70010114, 0x20, 64, 0x4, 1, 0x0, 0x0, 0x0⟩  /- BLZ_CSTATi -/,
  ⟨0x70010118, 0x20, 64, 0x4, 1, 0x0, 0x0, 0x0⟩  /- BLZ_CCTLi -/]

/-- The registers of RED. -/
def regRed : List RegRow := [
  ⟨0x400E0000, 0x4, 1, 0x4, 1, 0x0, 0x1F0000, 0x0⟩  /- RED_CFG -/,
  ⟨0x400E0004, 0x4, 1, 0x4, 1, 0x0, 0x0, 0x0⟩  /- RED_STATUS -/,
  ⟨0x400E0008, 0x4, 1, 0x4, 1, 0x0, 0xFFFFFFFF, 0x0⟩  /- RED_STEPCFG -/,
  ⟨0x400E000C, 0x4, 1, 0x4, 1, 0x0, 0xFFF, 0x0⟩  /- RED_SWAP -/,
  ⟨0x400E0010, 0x4, 1, 0x4, 1, 0x0, 0xC7E0F000, 0x0⟩  /- RED_AXCFG -/,
  ⟨0x400E0014, 0x4, 1, 0x4, 1, 0x0, 0x0, 0x0⟩  /- RED_HEALTH -/,
  ⟨0x400E0040, 0x4, 6, 0x4, 1, 0x0, 0x0, 0x0⟩  /- RED_PAIRk -/,
  ⟨0x400E0060, 0x4, 7, 0x4, 1, 0x0, 0x80000000, 0x0⟩  /- RED_STBYg -/,
  ⟨0x400E0100, 0x20, 4, 0x4, 1, 0x0, 0xFFF00000, 0xF00⟩  /- RED_TOKg -/,
  ⟨0x400E0104, 0x20, 4, 0x4, 1, 0x0, 0x0, 0x0⟩  /- RED_EPOCHg -/,
  ⟨0x400E0108, 0x20, 4, 0x4, 1, 0x0, 0x0, 0x0⟩  /- RED_LEASEg -/,
  ⟨0x400E010C, 0x20, 4, 0x4, 1, 0x0, 0x0, 0x0⟩  /- RED_AXEPg -/,
  ⟨0x400E0110, 0x20, 4, 0x4, 1, 0x0, 0x0, 0x0⟩  /- RED_AXSTATg -/,
  ⟨0x400E0200, 0x4, 4, 0x4, 1, 0x0, 0xBF3F0000, 0x0⟩  /- RED_AXPEERp -/]

/-- The registers of SKD. -/
def regSkd : List RegRow := [
  ⟨0x40060000, 0x4, 1, 0x4, 1, 0x0, 0x801F00FF, 0x0⟩  /- SKD_CFG -/,
  ⟨0x40060004, 0x4, 1, 0x4, 1, 0x0, 0x0, 0x0⟩  /- SKD_STATUS -/,
  ⟨0x40060008, 0x4, 1, 0x4, 1, 0x0, 0x0, 0x0⟩  /- SKD_DIEID_LO -/,
  ⟨0x4006000C, 0x4, 1, 0x4, 1, 0x0, 0x0, 0x0⟩  /- SKD_DIEID_HI -/,
  ⟨0x40060010, 0x4, 1, 0x4, 1, 0x0, 0x0, 0x0⟩  /- SKD_COORD_LO -/,
  ⟨0x40060014, 0x4, 1, 0x4, 1, 0x0, 0x0, 0x0⟩  /- SKD_COORD_HI -/,
  ⟨0x40060018, 0x4, 1, 0x4, 1, 0x0, 0xFFFF0000, 0x0⟩  /- SKD_CRUISE -/,
  ⟨0x4006001C, 0x4, 1, 0x4, 1, 0x0, 0xFFFFFFFF, 0x0⟩  /- SKD_CLASS -/,
  ⟨0x40060020, 0x4, 1, 0x4, 1, 0x0, 0xFFFF, 0x0⟩  /- SKD_C0 -/,
  ⟨0x40060024, 0x4, 1, 0x4, 1, 0x0, 0x0, 0x0⟩  /- SKD_TOFF -/,
  ⟨0x40060028, 0x4, 1, 0x4, 1, 0x0, 0x0, 0x0⟩  /- SKD_TDELAY -/,
  ⟨0x4006002C, 0x4, 1, 0x4, 1, 0x0, 0x0, 0x0⟩  /- SKD_COUNTS -/,
  ⟨0x40060030, 0x4, 1, 0x4, 1, 0x0, 0x0, 0x0⟩  /- SKD_TXPOST -/,
  ⟨0x40060034, 0x4, 1, 0x4, 1, 0x0, 0x0, 0x0⟩  /- SKD_TXSTAT -/,
  ⟨0x40060100, 0x10, 8, 0x4, 1, 0x0, 0x80000000, 0x0⟩  /- SKD_PORTp -/,
  ⟨0x40060104, 0x10, 8, 0x4, 1, 0x0, 0x0, 0x0⟩  /- SKD_PNBR_LOp -/,
  ⟨0x40060108, 0x10, 8, 0x4, 1, 0x0, 0x0, 0x0⟩  /- SKD_PNBR_HIp -/,
  ⟨0x4006010C, 0x10, 8, 0x4, 1, 0x0, 0x0, 0x0⟩  /- SKD_PCREDp -/,
  ⟨0x40061000, 0x4, 256, 0x4, 1, 0x0, 0x0, 0x0⟩  /- SKD_ROUTEn -/,
  ⟨0x40068000, 0x8, 4096, 0x4, 1, 0x0, 0xFFFF8000, 0x0⟩  /- SKD_STRs -/,
  ⟨0x40068004, 0x8, 4096, 0x4, 1, 0x0, 0x0, 0x0⟩  /- SKD_SCNTs -/]

/-- The registers of CAN. -/
def regCan : List RegRow := [
  ⟨0x40070000, 0x1000, 6, 0x4, 1, 0x0, 0xFE1F0000, 0x0⟩  /- CAN_CFG -/,
  ⟨0x40070004, 0x1000, 6, 0x4, 1, 0x0, 0xFFFFFF7F, 0x0⟩  /- CAN_NBT -/,
  ⟨0x40070008, 0x1000, 6, 0x4, 1, 0x0, 0xFFFFFF80, 0x0⟩  /- CAN_DBT -/,
  ⟨0x4007000C, 0x1000, 6, 0x4, 1, 0x0, 0x0, 0x0⟩  /- CAN_STATUS -/,
  ⟨0x40070010, 0x1000, 6, 0x4, 1, 0x0, 0x0, 0x0⟩  /- CAN_CTL -/,
  ⟨0x40070014, 0x1000, 6, 0x4, 1, 0x0, 0x0, 0x0⟩  /- CAN_SHSEL -/,
  ⟨0x40070018, 0x1000, 6, 0x4, 1, 0x0, 0x0, 0x0⟩  /- CAN_SHID -/,
  ⟨0x4007001C, 0x1000, 6, 0x4, 1, 0x0, 0x0, 0x0⟩  /- CAN_SHINFO -/,
  ⟨0x40070020, 0x1000, 6, 0x4, 1, 0x0, 0x0, 0x0⟩  /- CAN_SHSTAMP_LO -/,
  ⟨0x40070024, 0x1000, 6, 0x4, 1, 0x0, 0x0, 0x0⟩  /- CAN_SHSTAMP_HI -/,
  ⟨0x40070040, 0x1000, 6, 0x4, 16, 0x0, 0x0, 0x0⟩  /- CAN_SHDATAk -/,
  ⟨0x40070080, 0x1000, 6, 0x4, 1, 0xDFFFFFFF, 0x0, 0x0⟩  /- CAN_TXID -/,
  ⟨0x40070084, 0x1000, 6, 0x4, 1, 0x300F0100, 0x0, 0x0⟩  /- CAN_TXINFO -/,
  ⟨0x40070088, 0x1000, 6, 0x4, 1, 0x3F, 0x0, 0x0⟩  /- CAN_TXCMD -/,
  ⟨0x400700C0, 0x1000, 6, 0x4, 16, 0xFFFFFFFF, 0x0, 0x0⟩  /- CAN_TXDATAk -/,
  ⟨0x40070200, 0x1000, 6, 0x4, 64, 0x0, 0xE0000000, 0x0⟩  /- CAN_BUFb -/,
  ⟨0x40070400, 0x1000, 6, 0x10, 128, 0x0, 0xDFFFFFFF, 0x0⟩  /- CAN_FLTf_ID -/,
  ⟨0x40070404, 0x1000, 6, 0x10, 128, 0x0, 0x1FFFFFFF, 0x0⟩  /- CAN_FLTf_MSK -/,
  ⟨0x40070408, 0x1000, 6, 0x10, 128, 0x0, 0xFFF80000, 0x0⟩  /- CAN_FLTf_ACT -/]

/-- The registers of SYS. -/
def regSys : List RegRow := [
  ⟨0x40000000, 0x4, 1, 0x4, 1, 0x0, 0x0, 0x0⟩  /- SYS_ID -/,
  ⟨0x40000004, 0x4, 1, 0x4, 1, 0x0, 0x1F0000, 0x0⟩  /- SYS_CFG -/,
  ⟨0x40000008, 0x4, 1, 0x4, 1, 0x0, 0x0, 0x3FF⟩  /- SYS_PDCTL -/,
  ⟨0x4000000C, 0x4, 1, 0x4, 1, 0x0, 0x0, 0x0⟩  /- SYS_PDSTAT -/,
  ⟨0x40000010, 0x4, 1, 0x4, 1, 0x0, 0xFFFF, 0x0⟩  /- SYS_SCRUB -/,
  ⟨0x40000014, 0x4, 1, 0x4, 1, 0x0, 0x0, 0x0⟩  /- SYS_SCRUBPOS -/,
  ⟨0x40000018, 0x4, 1, 0x4, 1, 0x0, 0x0, 0x0⟩  /- SYS_TIME_LO -/,
  ⟨0x4000001C, 0x4, 1, 0x4, 1, 0x0, 0x0, 0x0⟩  /- SYS_TIME_HI -/,
  ⟨0x40000020, 0x4, 1, 0x4, 1, 0x0, 0x0, 0x0⟩  /- SYS_ECCADDR -/,
  ⟨0x40000024, 0x4, 1, 0x4, 1, 0x0, 0x0, 0x0⟩  /- SYS_ECCBAD -/,
  ⟨0x40000040, 0x10, 12, 0x4, 1, 0x0, 0x0, 0x0⟩  /- SYS_IRQc_MBX_LO -/,
  ⟨0x40000044, 0x10, 12, 0x4, 1, 0x0, 0x0, 0x0⟩  /- SYS_IRQc_MBX_HI -/,
  ⟨0x40000048, 0x10, 12, 0x4, 1, 0x0, 0x0, 0x0⟩  /- SYS_IRQc_RING -/,
  ⟨0x4000004C, 0x10, 12, 0x4, 1, 0x0, 0x0, 0x0⟩  /- SYS_IRQc_SYS -/]

/-- The registers of MBX. -/
def regMbx : List RegRow := [
  ⟨0x40020000, 0x4, 1, 0x4, 1, 0x0, 0x1F0000, 0x0⟩  /- MBX_CFG -/,
  ⟨0x40020004, 0x4, 1, 0x4, 1, 0x0, 0x0, 0x0⟩  /- MBX_FULL_LO -/,
  ⟨0x40020008, 0x4, 1, 0x4, 1, 0x0, 0x0, 0x0⟩  /- MBX_FULL_HI -/,
  ⟨0x40020100, 0x4, 64, 0x4, 1, 0x0, 0xFC000FFF, 0x0⟩  /- MBX_CFGm -/,
  ⟨0x40020200, 0x4, 64, 0x4, 1, 0x0, 0x0, 0x0⟩  /- MBX_STATm -/]

/-- The registers of LRG. -/
def regLrg : List RegRow := [
  ⟨0x40030004, 0x4, 1, 0x4, 1, 0x0, 0x0, 0x0⟩  /- LRG_STATUS -/,
  ⟨0x40030008, 0x4, 1, 0x4, 1, 0x0, 0x0, 0x0⟩  /- LRG_UNIT -/,
  ⟨0x40030100, 0x20, 32, 0x4, 1, 0x0, 0xFFFFFFE0, 0x0⟩  /- LRG_BASEr -/,
  ⟨0x40030104, 0x20, 32, 0x4, 1, 0x0, 0xDFFF1FFF, 0x0⟩  /- LRG_CFGr -/,
  ⟨0x40030108, 0x20, 32, 0x4, 1, 0x0, 0x0, 0x0⟩  /- LRG_PTRr -/,
  ⟨0x4003010C, 0x20, 32, 0x4, 1, 0x0, 0x0, 0x0⟩  /- LRG_RELr -/,
  ⟨0x40030110, 0x20, 32, 0x4, 1, 0x0, 0x0, 0x0⟩  /- LRG_LOSTr -/,
  ⟨0x40030114, 0x20, 32, 0x4, 1, 0x0, 0x0, 0x0⟩  /- LRG_REFr -/,
  ⟨0x40030118, 0x20, 32, 0x4, 1, 0x0, 0xFFF, 0x0⟩  /- LRG_NOTIFYr -/]

/-- The registers of BOOT. -/
def regBoot : List RegRow := [
  ⟨0x40010000, 0x4, 1, 0x4, 1, 0x0, 0x1FFFFF, 0x0⟩  /- BOOT_CFG -/,
  ⟨0x40010004, 0x4, 1, 0x4, 1, 0x0, 0x0, 0x0⟩  /- BOOT_STATUS -/,
  ⟨0x40010008, 0x4, 1, 0x4, 1, 0x0, 0x0, 0x0⟩  /- BOOT_IMGID_LO -/,
  ⟨0x4001000C, 0x4, 1, 0x4, 1, 0x0, 0x0, 0x0⟩  /- BOOT_IMGID_HI -/,
  ⟨0x40010010, 0x4, 1, 0x4, 1, 0x0, 0x0, 0x0⟩  /- BOOT_VERSION -/,
  ⟨0x40010014, 0x4, 1, 0x4, 1, 0x0, 0x0, 0x0⟩  /- BOOT_SECVER -/,
  ⟨0x40010018, 0x4, 1, 0x4, 1, 0x7, 0x0, 0x0⟩  /- BOOT_NVCMD -/,
  ⟨0x4001001C, 0x4, 1, 0x4, 1, 0x3FFFFFF, 0x0, 0x0⟩  /- BOOT_NVADDR -/,
  ⟨0x40010020, 0x4, 1, 0x4, 1, 0xFFFFFFE0, 0x0, 0x0⟩  /- BOOT_NVSRAM -/,
  ⟨0x40010024, 0x4, 1, 0x4, 1, 0xFFFF, 0x0, 0x0⟩  /- BOOT_NVLEN -/,
  ⟨0x40010028, 0x4, 1, 0x4, 1, 0xF, 0x0, 0x0⟩  /- BOOT_ACT -/,
  ⟨0x4001002C, 0x4, 1, 0x4, 1, 0x0, 0x0, 0x0⟩  /- BOOT_ARB -/,
  ⟨0x40010030, 0x4, 1, 0x4, 1, 0x0, 0xFFFFFFE0, 0x0⟩  /- BOOT_STAGE -/,
  ⟨0x40010034, 0x4, 1, 0x4, 1, 0x0, 0xFFFF, 0x0⟩  /- BOOT_STAGESZ -/,
  ⟨0x40010040, 0x4, 6, 0x4, 1, 0x20000000, 0x0, 0x0⟩  /- BOOT_PAIRk -/]

/-- The registers of HKA. -/
def regHka : List RegRow := [
  ⟨0x60010000, 0x4, 1, 0x4, 1, 0x0, 0x801F0000, 0x0⟩  /- HKA_CFG -/,
  ⟨0x60010004, 0x4, 1, 0x4, 1, 0x0, 0x0, 0x0⟩  /- HKA_STATUS -/,
  ⟨0x60010008, 0x4, 1, 0x4, 1, 0xFFFF003F, 0x0, 0x0⟩  /- HKA_SEQ -/,
  ⟨0x60010100, 0x4, 64, 0x4, 1, 0xFFF000FF, 0x0, 0x0⟩  /- HKA_ENTe -/,
  ⟨0x60010200, 0x8, 48, 0x4, 1, 0x0, 0x0, 0x0⟩  /- HKA_RESi -/,
  ⟨0x60010204, 0x8, 48, 0x4, 1, 0x0, 0x0, 0x0⟩  /- HKA_RSTAMPi -/]

/-- The registers of THM. -/
def regThm : List RegRow := [
  ⟨0x60020000, 0x4, 1, 0x4, 1, 0x0, 0x1F0000, 0x0⟩  /- THM_CFG -/,
  ⟨0x60020004, 0x4, 1, 0x4, 1, 0x0, 0x0, 0x0⟩  /- THM_STATUS -/,
  ⟨0x60020008, 0x4, 1, 0x4, 1, 0x0, 0x0, 0x0⟩  /- THM_DIEMAX -/,
  ⟨0x6002000C, 0x4, 1, 0x4, 1, 0x0, 0x0, 0x0⟩  /- THM_HOTTEST -/,
  ⟨0x60020010, 0x4, 1, 0x4, 1, 0x0, 0xFF80FFFF, 0x0⟩  /- THM_VDC -/,
  ⟨0x60020040, 0x4, 14, 0x4, 1, 0x0, 0x0, 0xFFFF0000⟩  /- THM_SENSs -/,
  ⟨0x60020100, 0x20, 3, 0x4, 1, 0x0, 0xFFFFFFFF, 0x0⟩  /- THM_MSRCm -/,
  ⟨0x60020104, 0x20, 3, 0x4, 1, 0x0, 0xFFFFFFFF, 0x0⟩  /- THM_MCOEFm -/,
  ⟨0x60020108, 0x20, 3, 0x4, 1, 0x0, 0xFFFFFFFF, 0x0⟩  /- THM_MRTHm -/,
  ⟨0x6002010C, 0x20, 3, 0x4, 1, 0x0, 0xFFFFFFFF, 0x0⟩  /- THM_MTAUm -/,
  ⟨0x60020110, 0x20, 3, 0x4, 1, 0x0, 0xFFFFFFFF, 0x0⟩  /- THM_MLIMm -/,
  ⟨0x60020114, 0x20, 3, 0x4, 1, 0x0, 0x0, 0x0⟩  /- THM_MLIMITm -/,
  ⟨0x60020118, 0x20, 3, 0x4, 1, 0x0, 0x0, 0xFFFF⟩  /- THM_TCOOLm -/,
  ⟨0x6002011C, 0x20, 3, 0x4, 1, 0x0, 0x0, 0x0⟩  /- THM_MOUTm -/]

/-- The registers of TAL. -/
def regTal : List RegRow := [
  ⟨0x40040000, 0x4, 1, 0x4, 1, 0x0, 0x0, 0x0⟩  /- TAL_INC -/,
  ⟨0x40041000, 0x8, 256, 0x4, 1, 0x0, 0x0, 0x0⟩  /- TAL_CNTn_LO -/,
  ⟨0x40041004, 0x8, 256, 0x4, 1, 0x0, 0x0, 0x0⟩  /- TAL_CNTn_HI -/]

/-- The registers of TRC. -/
def regTrc : List RegRow := [
  ⟨0x40050000, 0x4, 1, 0x4, 1, 0x1, 0x0, 0x0⟩  /- TRC_CFG -/,
  ⟨0x40050004, 0x4, 1, 0x4, 1, 0x0, 0x0, 0x0⟩  /- TRC_STATUS -/,
  ⟨0x40050008, 0x4, 1, 0x4, 1, 0xFFFFFFFF, 0x0, 0x0⟩  /- TRC_MIRROR -/,
  ⟨0x4005000C, 0x4, 1, 0x4, 1, 0x0, 0x0, 0x0⟩  /- TRC_MSG -/]

/-- The registers of the block whose 64 KiB window (R33) holds an address. -/
def regBlock (a : Nat) : List RegRow :=
  match a / 0x10000 with
  | 0x400F => regPba
  | 0x6000 => regCap
  | 0x4008 => regCe
  | 0x4009 => regTrx
  | 0x400A => regPos
  | 0x400B => regGsc
  | 0x400C => regGlk
  | 0x400D => regPsp
  | 0x6003 => regAxb
  | 0x6004 => regDcc
  | 0x6005 => regObc
  | 0x6006 => regChg
  | 0x7000 => regRng
  | 0x6007 => regSbc
  | 0x6008 => regFlog
  | 0x7001 => regBlz
  | 0x400E => regRed
  | 0x4006 => regSkd
  | 0x4007 => regCan
  | 0x4000 => regSys
  | 0x4002 => regMbx
  | 0x4003 => regLrg
  | 0x4001 => regBoot
  | 0x6001 => regHka
  | 0x6002 => regThm
  | 0x4004 => regTal
  | 0x4005 => regTrc
  | _ => []

/-- The row of the register at an address, if one is implemented there (R10). -/
def regAt (a : Nat) : Option RegRow := (regBlock a).find? fun r => r.covers a

end Sys2Proof.Machine
end

