-- ==== Sys2Proof/Machine/Skid.lean ====
section
/-!
DEFINITION. The commands of the skid fabric (R315 to R343).
-/

namespace Sys2Proof.Machine

open Sys2Proof

/-! ### Cruise (R320 to R323) -/

/-- A CRUISE frame: the port's offer, and the view (R321). -/
def State.cruiseIn (s : State) (p : Fin 8) (b : List Byte) : State :=
  let i := cruiseOf (frPayload b)
  let s := (s.modPort p fun k => k.see i s.clk.now).formView
  match s.skd.view with
  | some v => if v.coord = i.die ∧ v.port.isSome then s.modSkd fun k => { k with coordNode := i.node } else s
  | none => s

/-- The cruise tick at a multiple of 1 ms (R320, R321). -/
def doCruiseTick (s : State) : State :=
  if !domOn s 6 || s.clk.now % msTk ≠ 0 then s
  else
    let s := s.formView
    let s := if ownView s then s.modSkd fun k => { k with cseq := (k.cseq + 1) % 65536 } else s
    s.each (upPorts s) fun s p => s.enqueueLink p 1 (cruisePayload s p)

/-- The view has been unchanged for 3 ms in ELECT (R322). -/
def doViewStable (s : State) : State :=
  if s.skd.cruise = .elect && s.skd.view.isSome && decide (s.skd.viewAt + 3 * msTk ≤ s.clk.now) then
    if ownView s then ((s.setCoord true).ownNumber).enterNumbered
    else if s.skd.node = 0 then (s.modSkd fun k => { k with cruise := .numbering }).askNumber 0
    else (s.askNumber s.skd.node).enterNumbered
  else s

/-- An ASSIGN for some die ID: the own one changes the cruise state (R322, R324). -/
def State.assignIn (s : State) (b : List Byte) : State :=
  let bs := frPayload b
  let n := byteAt bs 8
  let s := s.modSkd fun k => { k with coordNode := frSrc b }
  if leAt bs 0 8 ≠ s.skd.dieId then s
  else match byteAt bs 9, s.skd.cruise with
    | 0, .numbering => ((s.setNode n).skdEvent 0xFF 4 n).enterNumbered
    | 0, .numbered => if n = s.skd.node then s else (s.setNode n).skdEvent 0xFF 4 n
    | 1, .numbering =>
      ((s.modSkd fun k => { k with cruise := .unblazed, refusedAt := s.clk.now }).skdEvent 0xFF 5 0
        s.skd.dieId).refuseOwn
    | 2, .numbered =>
      let s := s.skdEvent 0xFF 6 s.skd.node
      (((s.setNode 0).modSkd fun k => { k with cruise := .numbering }).refuseOwn).askNumber 0
    | _, _ => s

/-- No ASSIGN for 20 ms (R322). -/
def doAssignRetry (s : State) : State :=
  if s.skd.cruise = .numbering && decide (s.skd.reqAt + 20 * msTk ≤ s.clk.now) then s.askNumber 0 else s

/-- 1 s after the refusal (R322). -/
def doUnblazedRetry (s : State) : State :=
  if s.skd.cruise = .unblazed && decide (s.skd.refusedAt + 1000 * msTk ≤ s.clk.now) then
    (s.modSkd fun k => { k with cruise := .numbering }).askNumber 0
  else s

/-! ### Routes (R325, R326) -/

/-- One entry of a ROUTE frame on port p: NODE and HOPS. -/
def State.offerIn (s : State) (p : Fin 8) (n h : Nat) : State :=
  if n = 0 ∨ 253 < n ∨ n = s.skd.node ∨ (16 < h ∧ h ≠ 255) then s
  else
    let o : Offer := if h = 255 then {} else ⟨min (h + 1) 16, s.clk.now⟩
    (s.modSkd fun k => { k with offers := sput {} k.offers (8 * n + p) o }).reroute n

/-- The entries of a ROUTE frame in order. -/
def State.offersIn (p : Fin 8) : List Byte → State → State
  | n :: h :: rest, s => State.offersIn p rest (s.offerIn p n.toNat h.toNat)
  | _, s => s

/-- The whole table, every 10 ms (R325). -/
def doAdvertise (s : State) (p : Fin 8) : State :=
  if s.skd.port[p].state = .up && decide (s.skd.port[p].advertAt + 10 * msTk ≤ s.clk.now) then
    let s := s.modPort p fun k => { k with advertAt := s.clk.now }
    let ns := tableNodes s
    s.sendRoutes p (ns.length + 1) ns
  else s

/-- The changed entries, at most once per 100 µs (R325). -/
def doRouteUpdate (s : State) (p : Fin 8) : State :=
  let k := s.skd.port[p]
  if k.state = .up && !k.changed.isEmpty && decide (k.updateAt + 160000 ≤ s.clk.now) then
    (s.modPort p fun k => { k with changed := [], updateAt := s.clk.now }).sendRoutes p
      (k.changed.length + 1) k.changed
  else s

/-- Offers not refreshed for 35 ms are withdrawn (R326). -/
def doRouteWithdrawal (s : State) : State :=
  let old (o : Nat × Offer) : Bool := decide (o.2.tick + 35 * msTk ≤ s.clk.now)
  let ns := (s.skd.offers.filter old).map fun o => o.1 / 8
  ns.foldl State.reroute (s.modSkd fun k => { k with offers := k.offers.filter fun o => !old o })

/-! ### Streams (R329 to R331, R339) -/

/-- A REGISTER reaches the coordinator (R330). -/
def State.registerIn (s : State) (b : List Byte) : State :=
  let st := leAt (frPayload b) 0 2 % 4096
  let r := s.regAnswer st (frSrc b)
  r.1.sendOut (buildFrame (frSrc b) s.skd.node 1 0 6 0 (leBytes 2 st ++ leBytes 1 r.2 ++ leBytes 1 0))

/-- A REGISTER_REPLY reaches the requester (R329, R330). -/
def State.replyIn (s : State) (b : List Byte) : State :=
  let bs := frPayload b
  let st := leAt bs 0 2 % 4096
  if s.skd.regWait.any (·.1 = st) then (s.regResult st (byteAt bs 2 % 8)).pump else s

/-- Requests unanswered for 20 ms are repeated (R329). -/
def doRegisterRetry (s : State) : State :=
  let past (w : Nat × Nat) : Bool := decide (w.2 + 20 * msTk ≤ s.clk.now)
  let sts := (s.skd.regWait.filter past).map (·.1)
  let s := s.modSkd fun k => { k with
    regWait := k.regWait.map fun w => if past w then (w.1, s.clk.now) else w }
  sts.foldl State.sendRegister s

/-- A REFUSAL reaches the source (R339). -/
def State.refusalIn (s : State) (b : List Byte) : State :=
  let bs := frPayload b
  s.c1Refused (leAt bs 0 2 % 4096) (byteAt bs 2) (leAt bs 4 2)

/-- SKD_TXPOST is written: the record waits, or the write is refused (R331). -/
def doTxpost (s : State) (id : Fin 64) (v : Word32) : State :=
  if !domOn s 6 then s.busError id 0x40060030 5
  else if 64 ≤ s.skd.post.length then (s.tally 122).busError id 0x40060030 7
  else (s.modSkd fun k => { k with post := k.post ++ [v.toNat / 32 * 32] }).busDone []

/-- A C2 frame of this device still waits in an output queue (R340). -/
def ownC2 (s : State) : Bool :=
  all8.any fun p => s.skd.port[p].out.any fun f => f.cls = 2 && f.src.isNone && f.kind = 0

/-- The stream and the payload of a record. -/
def State.sendRecord (s : State) (a st len : Nat) : State :=
  let r := s.readRows 25 a ((len + 4 + 31) / 32)
  if r.2 then r.1.busError 25 a 4
  else
    let bs := memBytes r.1 (a + 4) len
    if skdStrDest s st = s.skd.node then
      r.1.dataIn 0xFF s.clk.now (buildFrame s.skd.node s.skd.node (skdStrClass s st) 0 0 st bs)
    else r.1.sendData st (skdStrClass s st) bs

/-- The skid DMA fetches the oldest record (R331). -/
def doRecordFetch (s : State) : State :=
  match s.skd.post with
  | [] => s
  | a :: rest =>
    let pop (s : State) : State := s.modSkd fun k => { k with post := rest }
    if !domOn s 6 then s
    else if !inSram a then (pop s).busError 25 a 1
    else
      let w := leNat (memBytes s a 4)
      let st := w % 4096
      let len := bits w 24 16
      if !streamSends s st || 256 < len then (pop s).txRefused st
      else if skdStrClass s st = 2 && ownC2 s then s
      else (pop s).sendRecord a st len

/-! ### Output (R317, R337) -/

/-- The next link-local frame of a port: CREDIT, TIME_RESP, TIME_REQ, CRUISE, ROUTE. -/
def nextLink (k : SkdPort) : Option SkdFrame :=
  ([10, 9, 8, 1, 2] : List Nat).findSome? fun kind => k.link.find? fun f => f.kind = kind

/-- The first frame of a class that its credits admit (R336). -/
def nextOf (k : SkdPort) (c : Nat) : Option SkdFrame :=
  match k.out.find? fun f => f.cls = c with
  | some f => if c = 3 || decide (unitsOf f.bytes ≤ creditsOf k c) then some f else none
  | none => none

/-- The next routed frame: C0, C1, then C2 and C3 by their bytes (R337). -/
def nextOut (s : State) (k : SkdPort) : Option SkdFrame :=
  match nextOf k 0, nextOf k 1, nextOf k 2, nextOf k 3 with
  | some f, _, _, _ => some f
  | none, some f, _, _ => some f
  | none, none, some f, some g =>
    if k.bytes2 * max (skdClassW3 s) 1 ≤ k.bytes3 * max (skdClassW2 s) 1 then some f else some g
  | none, none, some f, none => some f
  | none, none, none, g => g

/-- A frame without its first copy in a queue. -/
def eraseFrame (f : SkdFrame) : List SkdFrame → List SkdFrame
  | [] => []
  | x :: xs => if x = f then xs else x :: eraseFrame f xs

/-- The characters of a frame on the port. -/
def skdChars (b : List Byte) : List Byte := 0xFB :: (b ++ [0xFD])

/-- The port is busy for a frame, its SOF and EOF and one K28.5: 12.8 tk each (R315). -/
def State.putOut (s : State) (p : Fin 8) (b : List Byte) : State :=
  (s.emit p (skdChars b)).modPort p fun k => { k with busy := 5 * s.clk.now + (b.length + 3) * 64 }

/-- A link-local frame leaves; TIME_REQ and TIME_RESP take their stamps (R333). -/
def State.sendLinkFrame (s : State) (p : Fin 8) (f : SkdFrame) : State :=
  let s := s.modPort p fun k => { k with link := eraseFrame f k.link }
  if f.kind = 9 then
    s.putOut p (buildFrame 255 (frSrc f.bytes) 0 0 9 0 ((frPayload f.bytes).take 8 ++ leBytes 8 s.clk.now))
  else
    let s := s.putOut p f.bytes
    if f.kind = 8 then s.modSkd fun k => { k with t1 := some s.clk.now } else s

/-- A routed frame leaves port p (R336, R337). -/
def State.sendOutFrame (s : State) (p : Fin 8) (f : SkdFrame) : State :=
  let k := s.skd.port[p]
  let both := (nextOf k 2).isSome && (nextOf k 3).isSome
  let s := s.modPort p fun k => { k with
    out := eraseFrame f k.out
    sent := if f.cls < 3 then k.sent.setIfInBounds f.cls ((k.sent.getD f.cls 0 + unitsOf f.bytes) % 65536)
      else k.sent
    bytes2 := if !both then 0 else if f.cls = 2 then k.bytes2 + f.bytes.length else k.bytes2
    bytes3 := if !both then 0 else if f.cls = 3 then k.bytes3 + f.bytes.length else k.bytes3 }
  (s.putOut p f.bytes).frameGone f

/-- Port p starts its next frame. -/
def doOutput (s : State) (p : Fin 8) : State :=
  let s := (s.dropOld p).shape
  let k := s.skd.port[p]
  if 5 * s.clk.now < k.busy then s
  else match k.state, nextLink k, nextOut s k with
    | .credit, some f, _ => s.sendLinkFrame p f
    | .up, some f, _ => s.sendLinkFrame p f
    | .up, none, some f => s.sendOutFrame p f
    | _, _, _ => s

/-! ### Fabric time (R333 to R335) -/

/-- The exchange at a multiple of 1 ms. -/
def doExchange (s : State) : State :=
  match parentPort s with
  | some p =>
    if s.clk.now % msTk = 0 && s.skd.port[p].state = .up then
      (s.modSkd fun k => { k with exchange := true, t1 := none }).enqueueLink p 8 []
    else s
  | none => s

/-- A TIME_REQ is answered. -/
def State.timeReqIn (s : State) (p : Fin 8) (stamp : Nat) : State :=
  s.enqueueLink p 9 (leBytes 8 stamp ++ leBytes 8 0)

/-- The offset is applied: a step in OFF beyond 1,600 tk, else a slew, which replaces the one in progress
(R334). -/
def State.applyOffset (s : State) (o : Int) : State :=
  if 1600 < o.natAbs ∧ s.pba.mode = .off then
    let now := ((s.clk.now : Int) + o).toNat
    let s := { s with clk := { s.clk with now := now } }
    (s.modSkd fun k => { k with slew := 0, slewFor := 0 }).skdEvent 0xFF 10 0 (wrapN 64 o)
  else s.modSkd fun k => { k with slew := o, slewFor := 0 }

/-- TB_ALIGNED after an exchange with offset o (R335). -/
def State.judgeOffset (s : State) (o : Int) : State :=
  let n := if o.natAbs ≤ 8 then s.skd.close + 1 else 0
  let s := s.modSkd fun k => { k with close := n, exchangedAt := s.clk.now }
  if 16 < o.natAbs then s.setAligned false else if 4 ≤ n then s.setAligned true else s

/-- A TIME_RESP that arrived on a tick completes the exchange (R333). -/
def State.timeRespIn (s : State) (p : Fin 8) (t4 : Nat) (b : List Byte) : State :=
  match s.skd.exchange, s.skd.t1 with
  | true, some t1 =>
    if parentPort s = some p && decide (t4 < t1 + 32000) then
      let bs := frPayload b
      let x : Int := sgn 64 (leAt bs 0 8) - t1
      let y : Int := t4 - sgn 64 (leAt bs 8 8)
      let o := truncDiv (x - y) 2
      let s := s.modSkd fun k => { k with exchange := false, t1 := none, toff := o, tdelay := truncDiv (x + y) 2 }
      let s := s.applyOffset o
      if s.skd.isCoord then s else s.judgeOffset o
    else s
  | _, _ => s

/-- The response has not arrived within 20 µs. -/
def doExchangeTimeout (s : State) : State :=
  match s.skd.exchange, s.skd.t1 with
  | true, some t1 => if t1 + 32000 ≤ s.clk.now then s.modSkd fun k => { k with exchange := false, t1 := none } else s
  | _, _ => s

/-- No exchange has completed for 5 ms (R335). -/
def doAlignTimeout (s : State) : State :=
  if !s.skd.isCoord && decide (s.skd.exchangedAt + 5 * msTk ≤ s.clk.now) then
    (s.modSkd fun k => { k with close := 0 }).setAligned false
  else s

/-! ### The commands -/

/-- PORT_ALIGNED (R316). -/
def execPortAligned (t : Tick) (p : Fin 8) (s : State) : Host.Outcome State Fault Refusal :=
  .next (doAligned (s.at t) p)

/-- CREDIT (R316, R336). -/
def execCredit (t : Tick) (p : Fin 8) (bs : List Byte) (s : State) : Host.Outcome State Fault Refusal :=
  .next ((s.at t).heard p 10 bs fun s => s.creditIn p bs)

/-- CREDIT_UPDATE (R336). -/
def execCreditUpdate (t : Tick) (p : Fin 8) (s : State) : Host.Outcome State Fault Refusal :=
  .next (doCreditUpdate (s.at t) p)

/-- PORT_SILENCE (R316). -/
def execPortSilence (t : Tick) (p : Fin 8) (cause : Fin 3) (s : State) : Host.Outcome State Fault Refusal :=
  .next (doSilence (s.at t) p cause)

/-- CRUISE_TIMEOUT (R316). -/
def execCruiseTimeout (t : Tick) (p : Fin 8) (s : State) : Host.Outcome State Fault Refusal :=
  .next (doCruiseTimeout (s.at t) p)

/-- CRUISE (R321). -/
def execCruise (t : Tick) (p : Fin 8) (bs : List Byte) (s : State) : Host.Outcome State Fault Refusal :=
  .next ((s.at t).heard p 1 bs fun s => s.cruiseIn p bs)

/-- CRUISE_TICK (R320). -/
def execCruiseTick (t : Tick) (s : State) : Host.Outcome State Fault Refusal := .next (doCruiseTick (s.at t))

/-- VIEW_STABLE (R322). -/
def execViewStable (t : Tick) (s : State) : Host.Outcome State Fault Refusal := .next (doViewStable (s.at t))

/-- ASSIGN_REQ (R323). -/
def execAssignReq (t : Tick) (p : Fin 8) (bs : List Byte) (s : State) : Host.Outcome State Fault Refusal :=
  .next ((s.at t).heard p 3 bs fun s => s.routed p bs fun b s =>
    s.assignReq (leAt (frPayload b) 0 8) (byteAt (frPayload b) 8) (byteAt (frPayload b) 9))

/-- ASSIGN (R322). -/
def execAssign (t : Tick) (p : Fin 8) (bs : List Byte) (s : State) : Host.Outcome State Fault Refusal :=
  .next ((s.at t).heard p 4 bs fun s => s.routed p bs fun b s => s.assignIn b)

/-- ASSIGN_RETRY (R322). -/
def execAssignRetry (t : Tick) (s : State) : Host.Outcome State Fault Refusal := .next (doAssignRetry (s.at t))

/-- UNBLAZED_RETRY (R322). -/
def execUnblazedRetry (t : Tick) (s : State) : Host.Outcome State Fault Refusal :=
  .next (doUnblazedRetry (s.at t))

/-- HOLD_EXPIRY (R323). -/
def execHoldExpiry (t : Tick) (s : State) : Host.Outcome State Fault Refusal := .next (doHoldExpiry (s.at t))

/-- ROUTE (R326). -/
def execRoute (t : Tick) (p : Fin 8) (bs : List Byte) (s : State) : Host.Outcome State Fault Refusal :=
  .next ((s.at t).heard p 2 bs fun s => State.offersIn p (frPayload bs) s)

/-- ROUTE_ADVERTISEMENT (R325). -/
def execRouteAdvertisement (t : Tick) (p : Fin 8) (s : State) : Host.Outcome State Fault Refusal :=
  .next (doAdvertise (s.at t) p)

/-- ROUTE_UPDATE (R325). -/
def execRouteUpdate (t : Tick) (p : Fin 8) (s : State) : Host.Outcome State Fault Refusal :=
  .next (doRouteUpdate (s.at t) p)

/-- ROUTE_WITHDRAWAL (R326). -/
def execRouteWithdrawal (t : Tick) (s : State) : Host.Outcome State Fault Refusal :=
  .next (doRouteWithdrawal (s.at t))

/-- REGISTER (R330). -/
def execRegister (t : Tick) (p : Fin 8) (bs : List Byte) (s : State) : Host.Outcome State Fault Refusal :=
  .next ((s.at t).heard p 5 bs fun s => s.routed p bs fun b s => s.registerIn b)

/-- REGISTER_REPLY (R329). -/
def execRegisterReply (t : Tick) (p : Fin 8) (bs : List Byte) (s : State) :
    Host.Outcome State Fault Refusal :=
  .next ((s.at t).heard p 6 bs fun s => s.routed p bs fun b s => s.replyIn b)

/-- REGISTER_RETRY (R329). -/
def execRegisterRetry (t : Tick) (s : State) : Host.Outcome State Fault Refusal :=
  .next (doRegisterRetry (s.at t))

/-- REFUSAL (R339). -/
def execRefusal (t : Tick) (p : Fin 8) (bs : List Byte) (s : State) : Host.Outcome State Fault Refusal :=
  .next ((s.at t).heard p 7 bs fun s => s.routed p bs fun b s => s.refusalIn b)

/-- DATA (R328, R332). -/
def execData (t : Tick) (p : Fin 8) (stamp : Tick) (bs : List Byte) (s : State) :
    Host.Outcome State Fault Refusal :=
  .next ((s.at t).heard p 0 bs fun s => s.routed p bs fun b s => s.dataIn p stamp b)

/-- OUTPUT_FRAME (R337). -/
def execOutputFrame (t : Tick) (p : Fin 8) (s : State) : Host.Outcome State Fault Refusal :=
  .next (doOutput (s.at t) p)

/-- C1_AGE_DROP (R339). -/
def execC1AgeDrop (t : Tick) (p : Fin 8) (s : State) : Host.Outcome State Fault Refusal :=
  .next ((s.at t).dropOld p)

/-- TIME_EXCHANGE (R333). -/
def execTimeExchange (t : Tick) (s : State) : Host.Outcome State Fault Refusal := .next (doExchange (s.at t))

/-- TIME_REQ (R333). -/
def execTimeReq (t : Tick) (p : Fin 8) (stamp : Tick) (bs : List Byte) (s : State) :
    Host.Outcome State Fault Refusal :=
  .next ((s.at t).heard p 8 bs fun s => s.timeReqIn p stamp)

/-- TIME_RESP (R333, R334, R335). -/
def execTimeResp (t : Tick) (p : Fin 8) (stamp : Tick) (bs : List Byte) (s : State) :
    Host.Outcome State Fault Refusal :=
  .next ((s.at t).heard p 9 bs fun s => s.timeRespIn p stamp bs)

/-- TIME_EXCHANGE_TIMEOUT (R333). -/
def execTimeExchangeTimeout (t : Tick) (s : State) : Host.Outcome State Fault Refusal :=
  .next (doExchangeTimeout (s.at t))

/-- TB_ALIGN_TIMEOUT (R335). -/
def execTbAlignTimeout (t : Tick) (s : State) : Host.Outcome State Fault Refusal :=
  .next (doAlignTimeout (s.at t))

/-- TXPOST (R331). -/
def execTxpost (t : Tick) (id : Fin 64) (v : Word32) (s : State) : Host.Outcome State Fault Refusal :=
  .next (doTxpost (s.at t) id v)

/-- RECORD_FETCH (R331). -/
def execRecordFetch (t : Tick) (s : State) : Host.Outcome State Fault Refusal := .next (doRecordFetch (s.at t))

end Sys2Proof.Machine
end

