-- ==== Sys2Proof/Machine/RegView.lean ====
section
/-!
DEFINITION. What a read of a register returns (R8, R9, R11): the stored RW and RWL bits together with
the fields that show the state of the block. A WO field reads 0 (R9).
-/

namespace Sys2Proof.Machine

open Sys2Proof

/-- The value of a family of `n` registers from `base` on, `stride` apart: `f i r` is the value of the
register at offset `r` of member `i`. -/
def fam (o base stride n : Nat) (f : Fin n → Nat → Nat) : Nat :=
  if h : base ≤ o ∧ (o - base) / stride < n then f ⟨(o - base) / stride, h.2⟩ ((o - base) % stride) else 0

/-- The low and the high half of a 64-bit value. -/
def lo32 (x : Nat) : Nat := x % 2 ^ 32
def hi32 (x : Nat) : Nat := x / 2 ^ 32 % 2 ^ 32

/-- A 24-bit value, sign-extended. -/
def sx24 (x : Word24) : Nat := wrapN 32 x.toInt

/-- A signed value in w bits. -/
def tc (w : Nat) (x : Int) : Nat := wrapN w x

/-- A mask with bit i set where `p i`. -/
def maskFin {n : Nat} (p : Fin n → Bool) : Nat := maskOf (List.ofFn p)

def optFin {n : Nat} (d : Nat) (x : Option (Fin n)) : Nat := x.elim d fun i => i.val

/-- Whole milliseconds since a tick, saturating at `m`. -/
def msSince (s : State) (t m : Nat) : Nat := min ((s.clk.now - t) / msTk) m

/-! ### Codes of state fields -/

def EState.code : EState → Nat
  | .stopped => 0 | .idle => 1 | .running => 2 | .fault => 3
def EncState.code : EncState → Nat
  | .unreferenced => 0 | .referenced => 1 | .fault => 2
def GState.code : GState → Nat
  | .opened => 0 | .driven => 1 | .safe => 2
def LState.code : LState → Nat
  | .down => 0 | .align => 1 | .measure => 2 | .identify => 3 | .configure => 4 | .sync => 5
  | .up => 6 | .failed => 7
def TokState.code : TokState → Nat
  | .free => 0 | .held => 1 | .expired => 2 | .blocked => 3 | .revoked => 4
def ConnState.code : ConnState → Nat
  | .closed => 0 | .waiting => 1 | .running => 2 | .failed => 3
def CruiseState.code : CruiseState → Nat
  | .listen => 0 | .elect => 1 | .numbering => 2 | .numbered => 3 | .unblazed => 4
def PortState.code : PortState → Nat
  | .down => 0 | .align => 1 | .credit => 2 | .up => 3

/-! ### The blocks -/

def viewSys (s : State) (o : Nat) : Nat :=
  match o with
  | 0x000 => put 0x3212 16 + put 0xB0 8
  | 0x008 => s.sys.pdctl.toNat
  | 0x00C => put (maskFin fun d : Fin 10 => s.sys.dom[d] == .turningOn || s.sys.dom[d] == .turningOff) 16
      + maskFin fun d : Fin 10 => s.sys.dom[d] == .on
  | 0x014 => s.sys.scrubPos
  | 0x018 => lo32 s.clk.now
  | 0x01C => hi32 s.clk.now
  | 0x020 => s.sys.eccAddr
  | 0x024 => s.sys.eccBad
  | _ => fam o 0x40 0x10 12 fun c r =>
      -- In a lockstep pair the requests of core 2k+1 are 0 (R367).
      if c.val % 2 = 1 && !pairSplit s (pairOfCore c.val) then 0
      else
        let boxes := maskFin fun m : Fin 64 => s.mbx[m].full && bit (mbxCfgNotify s m) c.val
        match r with
        | 0x0 => lo32 boxes
        | 0x4 => hi32 boxes
        | 0x8 => maskFin fun k : Fin 32 => lrgCfgThresh s k != 0
            && decide (lrgCfgThresh s k ≤ s.lrg.ring[k].count) && bit (lrgNotifyCores s k) c.val
        | 0xC => b2n s.sys.restartReq[c]
        | _ => 0

def viewBoot (s : State) (o : Nat) : Nat :=
  let b := s.boot
  match o with
  | 0x004 => put (b2n b.slot) 31 + put (b2n b.bootSlot) 30 + put (b2n b.locked) 29 + put b.phase 26
      + put b.other 24 + b.partSrc.toNat
  | 0x008 => lo32 b.imgId
  | 0x00C => hi32 b.imgId
  | 0x010 => b.version
  | 0x014 => put (if b.other = 1 then b.otherSecver else 0) 8 + b.secver
  | 0x018 => put (b2n b.nvBusy) 30 + put b.nvResult 28
  | 0x028 => put (b2n b.act.busy) 30 + put b.act.result 26
  | 0x02C => if 3 ≤ b.phase then s.flog.steps else 0
  | _ => fam o 0x40 4 6 fun k _ => put b.pair[k].result 26 + put b.pair[k].restarts 18

def viewMbx (s : State) (o : Nat) : Nat :=
  let full := maskFin fun m : Fin 64 => s.mbx[m].full
  match o with
  | 0x004 => lo32 full
  | 0x008 => hi32 full
  | _ => fam o 0x200 4 64 fun m _ => let k := s.mbx[m]
      put (b2n k.full) 31 + put (b2n k.collision) 30 + put k.sender 10 + k.seq

def viewLrg (s : State) (o : Nat) : Nat :=
  match o with
  | 0x004 => maskFin fun r : Fin 32 => s.lrg.ring[r].bad
  | 0x008 => s.lrg.waiting.length
  | _ => fam o 0x100 0x20 32 fun r j => let k := s.lrg.ring[r]
      match j with
      | 0x04 => put (b2n k.bad) 29
      | 0x08 => put k.count 16 + k.ridx
      | 0x10 => k.lost.toNat
      | 0x14 => k.refused.toNat
      | _ => 0

def viewTal (s : State) (o : Nat) : Nat :=
  fam o 0x1000 8 256 fun n r => if r = 0 then lo32 s.tal[n].toNat else if r = 4 then hi32 s.tal[n].toNat else 0

def viewTrc (s : State) (o : Nat) : Nat := if o = 4 then min (traceLevel s) 32767 else 0

def viewSkd (s : State) (o : Nat) : Nat :=
  let k := s.skd
  let coord := k.view.elim 0 fun v => v.coord
  match o with
  | 0x004 => put k.node 24 + put k.coordNode 16 + put k.cruise.code 12 + put (b2n k.aligned) 11
      + put (b2n k.coordFar) 10 + put (b2n k.isCoord) 9 + maskFin fun p : Fin 8 => k.port[p].state == .up
  | 0x008 => lo32 k.dieId
  | 0x00C => hi32 k.dieId
  | 0x010 => lo32 coord
  | 0x014 => hi32 coord
  | 0x018 => put (k.view.elim 0 fun v => v.dist) 8 + optFin 0xFF (parentPort s)
  | 0x024 => tc 32 k.toff
  | 0x028 => tc 32 k.tdelay
  | 0x02C => put (min k.unblazed 255) 24 + put (k.routes.filter fun r => r.2.reach = 2).length 16
      + k.owner.length
  | 0x034 => k.post.length
  | _ =>
    if o < 0x1000 then fam o 0x100 0x10 8 fun p r => let q := k.port[p]
      match r with
      | 0x0 => put (b2n (parentPort s = some p)) 30
          + put (b2n (q.info.elim false fun i => bit i.flags 1)) 29
          + put (q.info.elim 0 fun i => i.node) 8 + q.state.code
      | 0x4 => lo32 (q.info.elim 0 fun i => i.die)
      | 0x8 => hi32 (q.info.elim 0 fun i => i.die)
      | 0xC => if q.state = .down ∨ q.state = .align then 0 else
        put (min (creditsOf q 0) 255) 24 + put (min (creditsOf q 1) 255) 16 + put (min (creditsOf q 2) 255) 8
      | _ => 0
    else if o < 0x8000 then fam o 0x1000 4 256 fun n _ =>
      if n.val ≠ 0 ∧ n.val = k.node then put 3 30
      else let r := sget {} k.routes n.val; put r.reach 30 + put r.hops 24 + put r.port 16
    else fam o 0x8000 8 4096 fun st r =>
      if r = 0 then put (sget 0 k.result st.val) 12
      else if r = 4 then put (sget 0 k.owner st.val) 24 + sget 0 k.drops st.val else 0

def canWord (f : CanFrame) (k : Nat) : Nat := leAt f.data (4 * k) 4

def viewCan (s : State) (o : Nat) : Nat :=
  fam o 0 0x1000 6 fun ch o =>
    let k := s.can[ch]
    let h := k.shadow
    match o with
    | 0x00C => put (min k.tecCount 255) 24 + put (min k.recCount 255) 16 + put k.tdcv 9
        + put (b2n (onBus s ch || k.other)) 2 + k.st
    | 0x018 => put (b2n h.frame.ide) 31 + put (b2n h.frame.rtr) 30 + h.frame.ident
    | 0x01C => put (b2n h.new) 31 + put (b2n h.frame.fdf) 30 + put (b2n h.frame.brs) 29
        + put (b2n h.frame.esi) 28 + put h.frame.dlc 16 + h.filter
    | 0x020 => lo32 h.stamp
    | 0x024 => hi32 h.stamp
    | _ =>
      if o < 0x80 then fam o 0x40 4 16 fun i _ => canWord h.frame i.val
      else if o < 0x400 then fam o 0x200 4 64 fun b _ => let q := k.buf[b]
        put q.txres 24 + put (b2n q.pend) 23 + put (b2n q.new) 22
      else 0

def viewCe (s : State) (o : Nat) : Nat :=
  fam o 0 0x2000 8 fun e o =>
    let k := s.ce[e]
    match o with
    | 0x000 => b2n k.run
    | 0x004 => put (k.pc % 4096) 16 + put (if k.state = .fault then k.cause else 0) 8 + put (b2n k.swPend) 5
        + put (b2n k.timerPend) 4 + put (b2n k.setPend) 3 + k.state.code
    | 0x008 => put k.mirror 24
    | 0x00C => put k.entryTimer 16 + k.entrySet
    | 0x018 => k.flags.toNat
    | 0x020 => put k.passLast 16 + k.passMax
    | 0x024 => lo32 k.pstart
    | 0x028 => hi32 k.pstart
    | 0x02C => k.hold.length
    | 0x030 => k.loadSrc
    | 0x034 => put (b2n k.loadBusy) 30 + put k.loadResult 28 + put k.loadCount 16 + k.loadDest
    | 0x038 => k.pcrc.toNat
    | _ =>
      if o < 0x80 then fam o 0x40 4 16 fun i _ => sx24 k.w[i]
      else if o < 0x1000 then fam o 0x80 8 4 fun a r =>
        let v := tc 64 k.acc[a].toInt
        if r = 0 then lo32 v else if r = 4 then hi32 v else 0
      else fam o 0x1000 4 1024 fun j _ => sx24 (k.peek j.val)

def viewTrx (s : State) (o : Nat) : Nat :=
  match o with
  | 0x004 => put (b2n (s.boot.locked && axleStill s)) 3 + put (b2n s.trx.cfgBad) 2
  | _ => fam o 0x100 0x80 2 fun m r =>
    let k := s.trx.m[m]
    match r with
    | 0x18 => put k.limiter 24 + put k.state.code 16 + put (machPattern s m).code 6
        + put (b2n (s.pos.enc[encOf s m].state == .referenced)) 5 + put (b2n k.standstill) 4
        + put (b2n k.speedMode) 3 + put (b2n k.observer) 2 + put (b2n k.verified) 1 + b2n k.locked
    | 0x1C => tc 32 k.treq
    | 0x20 => tc 32 k.sreq
    | 0x24 => tc 32 k.tref
    | 0x28 => tc 32 k.ospd
    | 0x2C => k.oang.toNat
    | 0x30 => sx24 k.adiff
    | _ => 0

def viewPos (s : State) (o : Nat) : Nat :=
  match o with
  | 0x004 => put (b2n (emuFrozen s)) 1 + b2n s.pos.overrate
  | _ => fam o 0x100 0x80 2 fun e r =>
    let k := s.pos.enc[e]
    match r with
    | 0x04 => put (b2n k.armed) 28
    | 0x24 => put (if k.state = .fault then k.cause else 0) 8 + put (b2n k.z) 6
        + put (abCode k.a k.b) 4 + k.state.code
    | 0x28 => k.cnt
    | 0x2C => tc 32 k.rev
    | 0x30 => tc 32 (speedOf s e)
    | 0x34 => tc 32 (accelOf s e)
    | 0x38 => k.latch.lpos.toNat
    | 0x3C => k.captured.lang.toNat
    | 0x40 => k.captured.lspd.toNat
    | 0x44 => lo32 k.captured.stamp
    | 0x48 => hi32 k.captured.stamp
    | _ => 0

def viewGsc (s : State) (o : Nat) : Nat :=
  match o with
  | 0x004 => b2n s.gsc.cfgBad
  | _ =>
    if o < 0x200 then fam o 0x40 0x20 4 fun g r =>
      let k := s.gsc.g[g]
      match r with
      | 0x00 => k.periodW
      | 0x04 => k.phaseW
      | 0x0C => put (s.red.tok[g].epoch.toNat % 65536) 16 + put (optFin 0xF s.red.tok[g].holder) 4 + k.state.code
      | 0x10 => put k.lateMax 16 + k.lateLast
      | 0x14 => lo32 k.pstart
      | 0x18 => hi32 k.pstart
      | _ => 0
    else fam o 0x200 8 24 fun l r =>
      if r = 4 then put (min s.gsc.leg[l].late 65535) 16 + s.gsc.leg[l].tracked else 0

def viewGlk (s : State) (o : Nat) : Nat :=
  match o with
  | 0x004 => maskFin fun l : Fin 12 => s.glk[l].state == .up
  | _ => fam o 0x100 0x40 12 fun l r =>
    let k := s.glk[l]
    match r with
    | 0x0C => put (k.delay % 65536) 16 + put (k.hState.toNat % 4) 6 + k.state.code
    | 0x10 => k.lossP.toNat
    | 0x14 => put (b2n k.cmdBusy) 30 + put k.cmdResult 28 + put (b2n k.cmdRead) 7 + k.cmdAddr
    | 0x18 => k.cmdData.toNat
    | 0x1C => put k.hState.toNat 24 + put k.hGates.toNat 16 + put k.hSupply.toNat 8 + k.hDrop.toNat
    | 0x20 => k.queue.length
    | _ => 0

def viewPsp (s : State) (o : Nat) : Nat :=
  match o with
  | 0x004 => put (maskFin fun g : Fin 4 => pspPresent s g) 4 + maskFin fun g : Fin 4 => s.psp.set[g].inForce
  | _ =>
    if o < 0x100 then fam o 0x40 0x10 4 fun g r =>
      let k := s.psp.set[g]
      match r with
      | 0x0 => lo32 k.ch.toNat
      | 0x4 => put k.kinds.toNat 16 + hi32 k.ch.toNat
      | 0x8 => put (min k.decSpeed 65535) 16 + put k.decSides.toNat 8 + k.decPattern.code
      | _ => 0
    else fam o 0x100 0x10 8 fun i r =>
      let k := s.psp.mon[i]
      match r with
      | 0x8 => put (b2n k.past) 31 + min k.run 255
      | 0xC => sx24 k.last
      | _ => 0

def viewRed (s : State) (o : Nat) : Nat :=
  let k := s.red
  match o with
  | 0x004 => put (b2n k.splitEn) 16 + put (maskFin fun g : Fin 4 => axHeld s g) 12
      + maskFin fun c : Fin 7 => k.step[c].inStep
  | 0x014 => put k.hcycle 16 + k.health
  | _ =>
    if o < 0x60 then fam o 0x40 4 6 fun p _ => put (b2n k.pair[p].splitReq) 31 + put k.pair[p].state 28
    else if o < 0x100 then fam o 0x60 4 7 fun c _ =>
      put (optFin 0xF (stepPartner s c)) 16 + min k.step[c].run 255
    else if o < 0x200 then fam o 0x100 0x20 4 fun g r =>
      let q := k.tok[g]
      match r with
      | 0x00 => put (optFin 0xF q.holder) 16 + put q.result 12 + put q.target 8 + q.state.code
      | 0x04 => q.epoch.toNat
      | 0x08 => if q.state = .held then q.leaseEnd - s.clk.now else 0
      | 0x0C => k.ax[g].aepoch.toNat
      | 0x10 => put (holderNode s g) 16 + k.ax[g].state
      | _ => 0
    else fam o 0x200 4 4 fun p _ =>
      put (b2n (peerOk s p)) 30 + put k.peer[p].holds.toNat 12 + k.peer[p].node

def viewPba (s : State) (o : Nat) : Nat :=
  let k := s.pba
  match o with
  | 0x000 => put k.prev.code 8 + k.mode.code
  | 0x00C => put (b2n (s.chg.state == .precond)) 3 + put (b2n k.regenShort) 2 + put (b2n k.stale) 1
  | 0x010 => k.limDis.toNat
  | 0x014 => k.limChg.toNat
  | 0x01C => msSince s k.limStamp 255
  | 0x020 => lo32 k.cycle
  | 0x024 => hi32 k.cycle
  | 0x02C => k.queue.length
  | 0x038 => k.volts
  | _ => fam o 0x100 0x10 7 fun n r =>
    match r with
    | 0x0 => tc 32 k.req[n]
    | 0x4 => tc 32 k.grant[n]
    | 0x8 => put k.reason[n] 4 + k.outcome[n]
    | _ => 0

/-- The channel that spare f converts besides its own; 0x3F none (R81, R85). -/
def spareChannel (s : State) (f : Fin 24) : Nat :=
  match (if f = 22 then s.cap.bound22 else s.cap.bound23) with
  | some k => k.val
  | none =>
    match s.cap.cal with
    | some c => if c.spare = some f then c.conv.val else 0x3F
    | none => 0x3F

def viewCap (s : State) (o : Nat) : Nat :=
  let k := s.cap
  match o with
  | 0x004 => put (k.cal.elim 0x3F fun c => c.conv.val) 8 + put (b2n k.stopped) 5 + put (b2n k.cal.isSome) 4
      + put (b2n k.extBad) 3 + maskFin fun r : Fin 3 => k.settling[r]
  | 0x010 => maskFin fun c : Fin 24 => k.conv[c].retired
  | 0x014 => put (b2n k.bound23.isSome) 15 + put (b2n k.bound22.isSome) 14
      + put (spareChannel s 23) 8 + spareChannel s 22
  | _ =>
    if o < 0x400 then fam o 0x100 0x10 24 fun c r =>
      let v := k.conv[c]
      match r with
      | 0x4 => put v.gain 16 + tc 16 v.offset
      | 0x8 => k.raw[c].toNat
      | 0xC => v.passed.elim 0xFFFF fun t => msSince s t 0xFFFF
      | _ => 0
    else if o < 0x1000 then fam o 0x400 0x80 24 fun c o => fam o 0 0x10 8 fun w r =>
      if r = 8 then put (b2n (k.win[c][w].en && !winValid s k.win k.period (c, w))) 31 else 0
    else fam o 0x1000 0x80 24 fun c o => fam o 0 0x10 8 fun w r =>
      let x := k.res[c][w]
      match r with
      | 0x0 => tc 32 x.sum
      | 0x4 => put x.capFlags.toNat 26 + x.capCount
      | 0x8 => x.capStamp.toNat
      | _ => 0

def viewHka (s : State) (o : Nat) : Nat :=
  match o with
  | 0x004 => put (b2n s.hka.busy.isSome) 8 + s.hka.entry.val
  | _ => fam o 0x200 8 48 fun i r =>
    let k := s.hka.res[i]
    if r = 0 then put (b2n k.unsettled) 31 + put (k.count % 16) 16 + k.mean % 65536
    else if r = 4 then lo32 k.captured else 0

/-- The largest of some sensors' temperatures, and the lowest sensor that has it. -/
def hottest (s : State) (l : List (Fin 14)) : Int × Nat :=
  l.foldl (fun (acc : Int × Nat) i => if acc.1 < s.thm.temp[i] then (s.thm.temp[i], i.val) else acc)
    (-32768, 0)

def viewThm (s : State) (o : Nat) : Nat :=
  let k := s.thm
  match o with
  | 0x004 => put (maskFin fun m : Fin 3 => k.model[m].hot) 5 + put (maskFin fun m : Fin 3 => k.model[m].stale) 2 + put (b2n k.warn) 1
  | 0x008 => put (tc 16 (hottest s [8, 9, 10, 11, 12, 13]).1) 16 + tc 16 (hottest s [0, 1, 2, 3, 4, 5, 6, 7]).1
  | 0x00C => (hottest s (List.ofFn fun i => i)).2
  | _ =>
    if o < 0x100 then fam o 0x40 4 14 fun i _ => put (tc 16 k.peak[i]) 16 + tc 16 k.temp[i]
    else fam o 0x100 0x20 3 fun m r =>
      let q := k.model[m]
      match r with
      | 0x14 => q.limit.toNat
      | 0x18 => tc 16 q.cool
      | 0x1C => put (tc 16 ((q.tj.num * 10).tdiv q.tj.den)) 16 + tc 16 (q.p.num.tdiv q.p.den)
      | _ => 0

def viewAxb (s : State) (o : Nat) : Nat :=
  match o with
  | 0x004 => put (b2n s.axb.vdrvLow) 3 + maskFin fun b : Fin 3 => s.axb.b[b].vsBad
  | _ => fam o 0x100 0x80 3 fun b r =>
    let k := s.axb.b[b]
    match r with
    | 0x34 => put k.state.code 28 + put k.step 25 + put (b2n k.dir) 24
        + put (maskFin fun p : Fin 3 => k.phase[p].bootLow) 21 + put (maskFin fun p : Fin 3 => k.phase[p].uvlo) 18
        + put k.island 16 + put (b2n k.missed) 15 + put (k.restarts % 16) 8
    | 0x38 => lo32 k.t60
    | 0x3C => tc 32 k.steps
    | 0x40 => put (k.codeU % 4096) 16 + k.codeV % 4096
    | _ => 0

def viewDcc (s : State) (o : Nat) : Nat :=
  let k := s.dcc
  match o with
  | 0x004 => put (k.attempt % 4) 12 + put (b2n k.locked) 6 + put (b2n (k.state == .run && k.lowRun.isSome)) 5
      + put (b2n (k.vref ≠ 1000 * k.target)) 4 + k.state.code
  | 0x008 => put k.target 16
  | 0x00C => k.vref
  | 0x038 => lo32 k.spacing
  | _ => fam o 0x40 4 2 fun p _ =>
    let q := k.phase[p]
    put (b2n q.minOn) 31 + put (b2n q.maxed) 30 + put (b2n q.skipped) 29 + q.thr.toNat

def viewObc (s : State) (o : Nat) : Nat :=
  let k := s.obc
  match o with
  | 0x004 => put k.limiter 5 + put (b2n (obcThermal s)) 4 + put (b2n k.busOk) 3 + put (b2n k.pll) 2
      + put (b2n k.run) 1 + b2n k.rampDown
  | 0x01C => k.isetWord.toNat
  | 0x020 => k.iinLim
  | _ => 0

def viewChg (s : State) (o : Nat) : Nat :=
  let k := s.chg
  match o with
  | 0x004 => put k.pilot 28 + put (b2n k.pwm) 27 + put k.duty 16 + put (tc 8 (k.vh.tdiv 2)) 8 + tc 8 (k.vl.tdiv 2)
  | 0x008 => put k.cable 29 + k.ohms
  | 0x00C => put (b2n k.qualified) 31 + put (b2n k.s2) 30 + pilotAmps s
  | 0x014 => put k.state.code 28 + put k.term 24 + put (b2n k.thermalAtExpiry) 23 + put (b2n (chgReduced s)) 22
      + put (b2n (chgPaused s)) 21 + put (b2n k.exitPending) 20 + put k.band 17
  | 0x018 => put k.ilim 16 + k.vlim
  | 0x038 => lo32 k.elapsed
  | 0x03C => put k.step 24 + put (min k.ignored 255) 16 + put (min k.duration 255) 8 + b2n k.dropped
  | _ => 0

/-- SBC_STATEn.FAULT: a present cause. Which one while several are present the spec does not say: the
lowest (DESIGN CHOICE, log 130). -/
def brakeCause (k : Brake) : Nat :=
  (([1, 2, 3, 4, 5, 6, 7] : List Nat).find? fun c => bit k.faults.toNat c).getD 0

def viewSbc (s : State) (o : Nat) : Nat :=
  match o with
  | 0x008 => s.sbc.vbrk
  | _ => fam o 0x10 0x10 2 fun n r =>
    let k := s.sbc.ch[n]
    match r with
    | 0x0 => put (b2n k.energised) 31 + put (b2n k.hsOn) 30 + put (b2n k.lsOn) 29 + put (b2n (pulseOn s n)) 28
        + put (brakeCause k) 24
    | 0x4 => put (tc 16 k.vhs) 16 + tc 16 k.vls
    | 0x8 => put (tc 16 k.vfb) 16 + k.icoil
    | 0xC => k.passed.toNat
    | _ => 0

def viewFlog (s : State) (o : Nat) : Nat :=
  let k := s.flog
  match o with
  | 0x000 => put (b2n k.pinned) 17 + put k.count 8 + k.next
  | 0x008 => lo32 k.writes
  | 0x010 => lo32 k.die
  | 0x014 => hi32 k.die
  | 0x018 => k.steps
  | _ =>
    if o < 0x100 then fam o 0x20 4 8 fun j _ => leAt k.keyHash (4 * j) 4
    else if o < 0x200 then fam o 0x100 4 24 fun c _ => k.capTrim[c].toNat
    else if o < 0x1000 then fam o 0x200 4 64 fun j _ => k.trim[j].toNat
    else fam o 0x1000 0x20 256 fun i o => fam o 0 4 8 fun j _ =>
      (sget 0 k.recs i.val).toNat / 2 ^ (32 * j.val) % 2 ^ 32

/-- FAULTn is low (R261 to R263, R394, R418). -/
def faultLow (s : State) : Bool :=
  !s.rng.powered || s.pba.mode == .safeHold || s.pba.mode == .lockout || s.rng.failed || s.rng.shutdown || s.boot.failed
    || s.rng.active.any fun a => rngActFaultn s a.row

def viewRng (s : State) (o : Nat) : Nat :=
  let k := s.rng
  match o with
  | 0x004 => put (maskFin fun i : Fin 6 => k.supply[i].bad) 16 + put (maskFin fun c : Fin 5 => k.clock[c].bad) 8
      + put (b2n k.failed) 7 + put (b2n (faultLow s)) 6
  | 0x00C => put k.lock.code 16 + min k.pressMs 65535
  | 0x010 => put k.test.result 8 + k.test.step
  | 0x014 => put (min k.test.move[0] 65535) 16 + min k.test.move[1] 65535
  | 0x018 => k.last.elim 0 fun q => put q.block 24 + put q.unit 16 + put q.f.toNat 8 + q.event
  | _ => fam o 0x20 4 4 fun i _ => maskFin fun j : Fin 32 => rowActive s (32 * i.val + j.val)

def viewBlz (s : State) (o : Nat) : Nat :=
  let count (st : ConnState) : Nat :=
    (all64.filter fun i : Fin 64 => !blzCdefDir s i && s.blz.conn[i].state == st).length
  match o with
  | 0x008 => put (count .failed) 16 + count .running
  | _ => fam o 0x100 0x20 64 fun i r =>
    if r = 0x14 then put s.blz.conn[i].seq 16
        + (if blzCdefDir s i then 2 * b2n (blzCdefEn s i) else s.blz.conn[i].state.code) else 0

/-- The fields of the register at address `a` that show the state of its block. -/
def viewAt (s : State) (a : Nat) : Nat :=
  let o := a % 0x10000
  match a / 0x10000 with
  | 0x4000 => viewSys s o
  | 0x4001 => viewBoot s o
  | 0x4002 => viewMbx s o
  | 0x4003 => viewLrg s o
  | 0x4004 => viewTal s o
  | 0x4005 => viewTrc s o
  | 0x4006 => viewSkd s o
  | 0x4007 => viewCan s o
  | 0x4008 => viewCe s o
  | 0x4009 => viewTrx s o
  | 0x400A => viewPos s o
  | 0x400B => viewGsc s o
  | 0x400C => viewGlk s o
  | 0x400D => viewPsp s o
  | 0x400E => viewRed s o
  | 0x400F => viewPba s o
  | 0x6000 => viewCap s o
  | 0x6001 => viewHka s o
  | 0x6002 => viewThm s o
  | 0x6003 => viewAxb s o
  | 0x6004 => viewDcc s o
  | 0x6005 => viewObc s o
  | 0x6006 => viewChg s o
  | 0x6007 => viewSbc s o
  | 0x6008 => viewFlog s o
  | 0x7000 => viewRng s o
  | 0x7001 => viewBlz s o
  | _ => 0

/-- What a read of the register at address `a` returns. -/
def readReg (s : State) (a : Nat) : Nat := (rd s a).lor (viewAt s a) % 2 ^ 32

/-- The domain of the block at an address (R375). -/
def regDom (a : Nat) : Option (Fin 10) :=
  match a / 0x10000 with
  | 0x4006 => some 6
  | 0x4007 => some 7
  | 0x6003 => some 8
  | 0x6005 => some 9
  | _ => none

/-- The error that an access of `n` bytes at a register address meets: 0 none (R10, R373, R374, R377).
The spec gives no order where several apply; the model answers UNMAPPED before SIZE before DOMAIN_OFF
(DESIGN CHOICE, log 112). -/
def regError (s : State) (a n : Nat) : Nat :=
  if (regAt (a / 4 * 4)).isNone then 1
  else if n ≠ 4 ∨ a % 4 ≠ 0 then 2
  else match regDom a with
    | some d => if domOn s d then 0 else 5
    | none => 0

end Sys2Proof.Machine
end

