-- ==== Sys2Proof/Machine/Trace.lean ====
section
/-!
DEFINITION. The commands of the trace port and of the tally counters (R425 to R433).
-/

namespace Sys2Proof.Machine

open Sys2Proof

/-- The first waiting packet of kind k. -/
def firstOf (k : TraceKind) (l : List TracePacket) : Option TracePacket := l.find? fun p => p.kind = k

/-- The packet the port sends next: TIME, LOSS, EVENT, MESSAGE, SAMPLE (R430). -/
def nextPacket (l : List TracePacket) : Option TracePacket :=
  [TraceKind.time, .loss, .event, .message, .sample].findSome? fun k => firstOf k l

/-- The body as it leaves the port: a TIME packet carries the tick of its SOF (R426). -/
def bodyAt (p : TracePacket) (now : Nat) : List Byte :=
  if p.kind = .time then 1 :: leBytes 8 now else p.body

/-- Where the latest pair of K28.5 ends for a packet that starts now, in fifths of a tick: a port with
nothing to send sends such pairs (R425). -/
def commaBefore (s : State) : Nat :=
  if s.trc.busy + 32 ≤ 5 * s.clk.now then 5 * s.clk.now else s.trc.comma

/-- A pair of K28.5 goes out before a packet of `n` characters that would end more than 4,096 character
pairs after the latest one (R425; DESIGN CHOICE, log 96: where in a run of packets it stands). -/
def commaDue (s : State) (n : Nat) : Bool :=
  decide (commaBefore s + 4096 * 32 < 5 * s.clk.now + 16 * n)

/-- The port sends its next packet once it is free (R425, R426, R430). -/
def doPacketSend (s : State) : State :=
  match nextPacket s.trc.buf with
  | none => s
  | some p =>
    if !trcCfgEn s || decide (5 * s.clk.now < s.trc.busy) then s
    else
      let due := commaDue s p.chars
      let start := 5 * s.clk.now + (if due then 32 else 0)
      let body := bodyAt p (start / 5)
      ((s.emit 30 ((if due then [0xBC, 0xBC] else []) ++ 0xFB :: (body ++ [crc8 body, 0xFD]))).modTrc
        fun c => { c with
          buf := c.buf.erase p
          busy := start + 16 * (body.length + 3)
          comma := if due then start else commaBefore s }).traceLoss

/-- A TIME packet at a multiple of 1 ms (R428); its stamp is written when it leaves. -/
def doTraceTime (s : State) : State :=
  if s.clk.now % msTk = 0 then s.traceOffer .time (1 :: leBytes 8 s.clk.now) else s

/-- A write to TRC_MSG (R429). -/
def doMessage (s : State) (id : Fin 64) (v : Word32) : State :=
  (s.traceOffer .message
    (4 :: BitVec.ofNat 8 id.val :: (leBytes 4 s.clk.now ++ leBytes 4 v.toNat))).busDone []

/-- A write to TAL_INC (R433). -/
def doTalInc (s : State) (id : Fin 64) (v : Word32) : State :=
  let n := bits v.toNat 7 0
  if n < 16 ∨ 192 ≤ n then (s.tallyBy n (max 1 (bits v.toNat 23 8))).busDone []
  else s.busError id 0x40040000 7

/-- Kept samples cut into the runs of SAMPLE packets: at most 16, each `gap` after the one before
(R426, R427). -/
def runsOf (gap : Nat) : List Sample → List Sample → List (List Sample)
  | cur, [] => if cur.isEmpty then [] else [cur.reverse]
  | [], q :: qs => runsOf gap [q] qs
  | c :: cs, q :: qs =>
    if cs.length + 1 < 16 ∧ q.stamp = c.stamp + gap then runsOf gap (q :: c :: cs) qs
    else (c :: cs).reverse :: runsOf gap [q] qs

/-- A corrected sample as two bytes (R65, R426); none of a channel that no converter feeds. -/
def sampleBytes (s : State) (k : Fin 24) (q : Sample) : List Byte :=
  match feedAt s k q.stamp with
  | none => []
  | some c => leBytes 2 (BitVec.ofInt 16 (corrected s c q.raw)).toNat

/-- One sample in 2^DECIM, by the count of the lane (R79). At which sample the count stands after PORn or
a write of DECIM the spec does not say: it goes on from its value (DESIGN CHOICE, log 125). -/
def keptOf (n : Nat) : Nat → List Sample → List Sample
  | _, [] => []
  | i, q :: qs => if i % n = 0 then q :: keptOf n (i + 1) qs else keptOf n (i + 1) qs

/-- One SAMPLE packet of channel k (R426). -/
def samplePacketOf (s : State) (k : Fin 24) (run : List Sample) : List Byte :=
  2 :: BitVec.ofNat 8 k.val :: BitVec.ofNat 8 run.length ::
    (leBytes 4 (run.head?.elim 0 fun q => q.stamp) ++ (run.map (sampleBytes s k)).flatten)

/-- The samples of a traced channel: those that are kept go to the trace buffer (R79, R427). -/
def doSamplePacket (s : State) (lane : Fin 4) (qs : List Sample) : State :=
  let ch := capTraceCh3Ch0 s / 64 ^ lane.val % 64
  if h : ch < 24 then
    let k : Fin 24 := ⟨ch, h⟩
    let fed := qs.filter fun q => (feedAt s k q.stamp).isSome
    let n := 2 ^ capTraceDecim s
    let s := s.modCap fun c => { c with raw := c.raw.set k ((fed.map (·.raw)).getLast?.getD c.raw[k]) }
    if capTraceEn s then
      (runsOf (40 * n) [] (keptOf n s.cap.tap[lane] fed)).foldl
        (fun (s : State) run => s.traceOffer .sample (samplePacketOf s k run))
        (s.modCap fun c => { c with tap := c.tap.set lane ((c.tap[lane] + fed.length) % n) })
    else s
  else s

/-- TRACE_TIME (R428). -/
def execTraceTime (t : Tick) (s : State) : Host.Outcome State Fault Refusal :=
  .next (doTraceTime (s.at t))

/-- PACKET_SEND (R430). -/
def execPacketSend (t : Tick) (s : State) : Host.Outcome State Fault Refusal :=
  .next (doPacketSend (s.at t))

/-- MESSAGE (R429). -/
def execMessage (t : Tick) (id : Fin 64) (v : Word32) (s : State) : Host.Outcome State Fault Refusal :=
  .next (doMessage (s.at t) id v)

/-- TAL_INC (R433). -/
def execTalInc (t : Tick) (id : Fin 64) (v : Word32) (s : State) : Host.Outcome State Fault Refusal :=
  .next (doTalInc (s.at t) id v)

/-- SAMPLE_PACKET (R427). -/
def execSamplePacket (t : Tick) (lane : Fin 4) (samples : List Sample) (s : State) :
    Host.Outcome State Fault Refusal :=
  .next (doSamplePacket (s.at t) lane samples)

end Sys2Proof.Machine
end

