-- ==== Sys2Proof/Machine/RegWrite.lean ====
section
/-!
DEFINITION. What a write to a register does (R9, R373, R463): the bits it stores, the fields that
have their home in a block, and the operations that WO fields start.
-/

namespace Sys2Proof.Machine

open Sys2Proof

/-- The RW and RWL bits of a written word are stored (R9); reserved and RO bits are not. -/
def State.storeReg (s : State) (a v : Nat) : State :=
  match regAt a with
  | some r =>
    { s with regs := sput 0 s.regs a (BitVec.ofNat 32 (v.land (r.rw.lor r.rwl))) }
  | none => s

/-- The member of a family of registers at offset `o`, if any, is written by `f`. -/
def State.onFam (s : State) (o base stride n : Nat) (f : Fin n → Nat → State) : State :=
  if h : base ≤ o ∧ (o - base) / stride < n then f ⟨(o - base) / stride, h.2⟩ ((o - base) % stride) else s

/-- A write to a register of engine e (R91, R92, R95, R113). The spec does not order RUN and SWTRIG of one
write: RUN acts first (DESIGN CHOICE, log 123). During the reading of the image RUN is
only noted: the boot controller starts the engines at the end of start-up. -/
def State.writeCe (s : State) (boot : Bool) (e : Fin 8) (o v : Nat) : State :=
  let stopped := s.ce[e].state == .stopped
  match o with
  | 0x000 =>
    if boot then s.modCe e fun k => { k with run := bit v 0 }
    else
      let s := s.writeRun e (bit v 0)
      if bit v 1 then s.trigger e .software else s
  | 0x008 => if e = 7 ∧ stopped then s.modCe e fun k => { k with mirror := bits v 26 24 } else s
  | 0x00C =>
    if stopped then s.modCe e fun k => { k with entryTimer := bits v 27 16, entrySet := bits v 11 0 } else s
  | 0x020 => s.modCe e fun k => { k with passMax := bits v 15 0 }
  | 0x030 => s.modCe e fun k => { k with loadSrc := v / 32 * 32 }
  | 0x034 => doLoad s e (BitVec.ofNat 32 v)
  | _ => s.onFam o 0x1000 4 1024 fun j _ => s.ceWrite e j.val (BitVec.ofNat 24 v)

/-- A write to a POS register (R145, R146, R150, R153). LATCH is taken before SETREF and CLEAR act. -/
def State.writePos (s : State) (o v : Nat) : State :=
  if o = 0x008 then (if bit v 31 then s else s.emulate)
  else s.onFam o 0x100 0x80 2 fun e r =>
    match r with
    | 0x04 => if bit v 29 then s.modEnc e fun k => { k with armed := true } else s
    | 0x1C =>
      let s := if bit v 2 then s.latchEnc e s.clk.now else s
      let s := if bit v 0 then doSetref s e else s
      if bit v 1 then doClear s e else s
    | _ => s

/-- A write to a GSC register (R159, R165). -/
def State.writeGsc (s : State) (o v : Nat) : State :=
  if 0x200 ≤ o then s
  else s.onFam o 0x40 0x20 4 fun g r =>
    match r with
    | 0x00 => s.modGroup g fun k => { k with periodW := bits v 19 0 }
    | 0x04 => s.modGroup g fun k => { k with phaseW := bits v 19 0 }
    | 0x10 => s.modGroup g fun k => { k with lateMax := bits v 31 16 }
    | _ => s

/-- A write to a GLK register (R179, R180). -/
def State.writeGlk (s : State) (id : Fin 64) (o v : Nat) : State :=
  s.onFam o 0x100 0x40 12 fun l r =>
    match r with
    | 0x08 => if bit v 0 then s.retrain l else s
    | 0x14 => s.cmdWrite id l (BitVec.ofNat 32 v)
    | 0x18 => s.modLink l fun k => { k with cmdData := BitVec.ofNat 32 v }
    | _ => s

/-- A write to a CAN register (R354, R356, R358, R362). GO acts before ABORT. -/
def State.writeCan (s : State) (id : Fin 64) (o v : Nat) : State :=
  s.onFam o 0 0x1000 6 fun ch r =>
    match r with
    | 0x010 => if bit v 0 then doRecover s ch else s
    | 0x014 => doShsel s ch (Fin.ofNat 64 v)
    | 0x088 =>
      let b := Fin.ofNat 64 v
      let s := if bit v 31 then doGo s id ch b else s
      if bit v 30 then doAbort s ch b else s
    | _ => s

/-- A write to a THM register (R416, R420). -/
def State.writeThm (s : State) (o v : Nat) : State :=
  if o < 0x100 then s.onFam o 0x40 4 14 fun i _ =>
    { s with thm := { s.thm with peak := s.thm.peak.set i (sgn 16 (v / 2 ^ 16)) } }
  else s.onFam o 0x100 0x20 3 fun m r =>
    if r = 0x18 then s.modModel m fun k => { k with
      cool := sgn 16 (v % 2 ^ 16), coolAt := some s.clk.now, stale := false }
    else s

/-- A write to a PBA register (R54, R61). By what path the pass of an engine writes its request R54 does not
say: it comes as a REGISTER_WRITE of the sender that carries the engine's ID (DESIGN CHOICE, log 115). -/
def State.writePba (s : State) (o v : Nat) : State :=
  match o with
  | 0x010 => doLimitWrite s false (BitVec.ofNat 32 v)
  | 0x014 => doLimitWrite s true (BitVec.ofNat 32 v)
  | _ =>
    if 0x200 ≤ o then s
    else s.onFam o 0x100 0x10 7 fun n r =>
      if r = 0 then s.modPba fun k => { k with req := k.req.set n (sgn 32 v) } else s

/-- What a write of `v` to the register at `a` does besides the bits it stores. The BOOT registers
are left to Boot.lean. -/
def State.regEffect (s : State) (id : Fin 64) (boot : Bool) (a v : Nat) : State :=
  let o := a % 0x10000
  let w := BitVec.ofNat 32 v
  match a / 0x10000 with
  | 0x4000 => if o = 8 then s.each allDoms fun s d => s.requestDomain (BitVec.ofNat 10 v) d else s
  | 0x4003 => s.onFam o 0x100 0x20 32 fun r j => if j = 0xC then doRelease s r w else s
  | 0x4004 => if o = 0 then doTalInc s id w else s
  | 0x4005 => if o = 0xC then doMessage s id w else s
  | 0x4006 => if o = 0x30 then doTxpost s id w else s
  | 0x4007 => s.writeCan id o v
  | 0x4008 => s.onFam o 0 0x2000 8 fun e r => s.writeCe boot e r v
  | 0x400A => s.writePos o v
  | 0x400B => s.writeGsc o v
  | 0x400C => s.writeGlk id o v
  | 0x400E => if 0x200 ≤ o then s else s.onFam o 0x100 0x20 4 fun g r => if r = 0 then doHandOver s g w else s
  | 0x400F => s.writePba o v
  | 0x6002 => s.writeThm o v
  | 0x6006 => if o = 0x24 then s.modChg fun k => { k with tempAt := some s.clk.now } else s
  | 0x6008 => if o = 4 then doFlogClear s (BitVec.ofNat 16 v) else s
  | 0x7001 => s.onFam o 0x100 0x20 64 fun i r => if r = 0x18 ∧ bit v 0 then s.blzRestart i else s
  | _ => s

/-- A register takes a written value. -/
def State.putReg (s : State) (id : Fin 64) (boot : Bool) (a v : Nat) : State :=
  (s.storeReg a v).regEffect id boot a v

/-- A write would change an RWL field after the block has locked (R9, R463). -/
def lockedOut (s : State) (a v : Nat) : Bool :=
  match regAt a with
  | some r => s.boot.locked && (v.land r.rwl != (rd s a).land r.rwl)
  | none => false

end Sys2Proof.Machine
end

