-- ==== Sys2Proof/Machine/ImageOps.lean ====
section
/-!
DEFINITION. The checks of a slot and the writing of its records (R394 to R398, R402).
-/

namespace Sys2Proof.Machine

open Sys2Proof

/-! ### The header (R396, R398) -/

/-- Bytes `i` to `i + n - 1` of the header of a slot. -/
def hdrBytes (s : State) (b : Bool) (i n : Nat) : List Byte := norBytes s (hdrBase b + i) n

/-- No element stands twice in a list. -/
def noTwice : List Nat → Bool
  | [] => true
  | x :: xs => !xs.contains x && noTwice xs

/-- The cause for which the header of a slot makes it bad, 0 for a good one (R396, R406). -/
def headerCause (s : State) (b : Bool) : Nat :=
  let types := (hdrEntries s b).map (·.typ)
  if hdrBytes s b 0 4 ≠ [0x46#8, 0x55#8, 0x4F#8, 0x53#8] ∨ hdrParts s b < 1 ∨ 8 < hdrParts s b
      ∨ !noTwice types ∨ !types.contains 1 then 1
  else if sha256 (hdrBytes s b 416 64) ≠ s.flog.keyHash then 2
  else if !ecdsaOk (beNat (hdrBytes s b 416 32)) (beNat (hdrBytes s b 448 32))
      (beNat (hdrBytes s b 480 32)) (beNat (hdrBytes s b 512 32)) (sha256 (hdrBytes s b 0 480)) then 3
  else if hdrSecver s b < s.flog.steps ∨ 64 < hdrSecver s b then 4
  else 0

/-- The slot that phase 4 tries first: the one with the greater GENERATION in serial-number order, or
the other with BOOT_SLOT high (R398). -/
def firstSlot (s : State) : Bool :=
  let d := (generation s true + (2 ^ 32 - generation s false)) % 2 ^ 32
  let newer := decide (0 < d ∧ d < 2 ^ 31)
  newer != s.boot.bootSlot

/-! ### Record targets (R397) -/

/-- The address of a hub entry: register r of the hub on link l (DESIGN CHOICE, log 99). -/
def hubAt (a : Nat) : Option Nat :=
  let o := a - 0x400C1000
  if 0x400C1000 ≤ a ∧ o / 0x200 < 12 then some (128 * (o / 0x200) + o % 0x200 / 4) else none

/-- The engine whose window holds an address. -/
def engineAt (a : Nat) : Option (Fin 8) :=
  let o := a - 0x40080000
  if h : o / 0x2000 < 8 then (if 0x40080000 ≤ a then some ⟨o / 0x2000, h⟩ else none) else none

/-- The Blaze entry beyond the 64th that a record names (R289). -/
def blazeExcess (a : Nat) : Option Nat :=
  if 0x70010900 ≤ a ∧ a < 0x70020000 then some ((a - 0x70010100) / 0x20) else none

/-- The blocks that a TYPE may write, by the upper half of the address. -/
def typeBlocks (typ : Nat) : List Nat :=
  match typ with
  | 1 => [0x7000, 0x7001, 0x6007, 0x400E, 0x400D, 0x4001]
  | 2 => [0x4009, 0x400A, 0x400B, 0x400C, 0x6000]
  | 3 => [0x6005, 0x6006]
  | 4 => [0x6004]
  | 5 => [0x6003]
  | 6 => [0x4006]
  | 7 => [0x4000, 0x4002, 0x4003, 0x4004, 0x4005, 0x400F, 0x4007]
  | 8 => [0x6001, 0x6002]
  | _ => []

/-- The engines that a TYPE may write. -/
def typeEngine (typ : Nat) (e : Fin 8) : Bool :=
  match typ with
  | 2 => e.val < 4
  | 3 | 4 | 5 => e.val = typ + 1 || e.val = 7
  | _ => false

/-- The pair whose memories hold an address. -/
def pairAt (a : Nat) : Option (Fin 6) := (tcmCore a).map fun c => pairOfCore c

/-- A TYPE may write the word at an address. -/
def targetOk (typ a : Nat) : Bool :=
  match pairAt a with
  | some _ => (typ = 6 || typ = 7) && a % 4 == 0
  | none =>
    match engineAt a with
    | some e => (regAt a).isSome && (typeEngine typ e || (typ = 8 && (dmemAt a).isSome))
    | none =>
      (typeBlocks typ).contains (a / 0x10000) && ((regAt a).isSome || (typ = 2 && (hubAt a).isSome)
        || (typ = 1 && (blazeExcess a).isSome))

/-- A record of a TYPE writes only its targets. -/
def recordOk (typ : Nat) (r : ImgRec) : Bool :=
  match progEngine r with
  | some e => typeEngine typ e
  | none => (r.items).all fun x => targetOk typ x.1

/-- The partitions of a slot in the order in which phase 5 reads them (R393). -/
def readOrder (s : State) (b : Bool) : List PartEntry :=
  let l := hdrEntries s b
  l.filter (fun p => p.typ = 1) ++ l.filter fun p => p.typ ≠ 1

/-- The records of an entry, none if they are malformed. -/
def recsOf (s : State) (b : Bool) (p : PartEntry) : Option (List ImgRec) :=
  let bs := partBytes s b p
  parseRecs bs.length bs

/-- The digest of an entry is that of its bytes (R396). -/
def digestOk (s : State) (b : Bool) (p : PartEntry) : Bool := sha256 (partBytes s b p) = p.digest

/-- The cause for which one partition makes its slot bad (R397). -/
def partCause (s : State) (b : Bool) (p : PartEntry) : Nat :=
  if !digestOk s b p then 5
  else match recsOf s b p with
    | none => 6
    | some rs => if rs.all (recordOk p.typ) then 0 else 6

/-- The words that a partition writes outside programs. -/
def itemsOf (s : State) (b : Bool) (typ : Nat) : List (Nat × Word32) :=
  (((partRecs s b typ).getD []).filter fun r => (progEngine r).isNone).flatMap ImgRec.items

/-- A partition writes memories of pair k. -/
def ownsPair (s : State) (b : Bool) (k : Fin 6) (typ : Nat) : Bool :=
  (itemsOf s b typ).any fun x => pairAt x.1 = some k

/-- The partition that owns pair k in a slot (R397). -/
def ownerOf (s : State) (b : Bool) (k : Fin 6) : Option Nat := [6, 7].find? (ownsPair s b k)

/-- A partition writes CE7. -/
def writesCe7 (s : State) (b : Bool) (typ : Nat) : Bool :=
  ((partRecs s b typ).getD []).any fun r => progEngine r = some 7
    || (progEngine r).isNone && (r.items).any fun x => engineAt x.1 = some 7

/-- A partition sets a MIRROR of CE7 other than its own engine. -/
def wrongMirror (s : State) (b : Bool) (typ : Nat) : Bool :=
  (itemsOf s b typ).any fun x => x.1 = 0x4008E008 && bits x.2.toNat 26 24 != typ + 1

/-- The cause for which the partitions of a slot make it bad, 0 for a good one (R394, R397). -/
def imageCause (s : State) (b : Bool) : Nat :=
  match ((readOrder s b).map (partCause s b)).find? (· ≠ 0) with
  | some c => c
  | none =>
    if (List.ofFn fun k : Fin 6 => k).any (fun k => ownsPair s b k 6 && ownsPair s b k 7) then 6
    else if 1 < ([3, 4, 5].filter (writesCe7 s b)).length then 6
    else if [3, 4, 5].any (wrongMirror s b) then 6
    else 0

/-! ### Writing the records (R393, R395) -/

/-- Bytes put into the boot staging area; an area outside the shared SRAM takes none (R395, R402). -/
def State.stage (s : State) (bs : List Byte) : State :=
  let a := 32 * bootStageAddr s
  if inSram a && decide (a + bs.length ≤ sramEnd) then
    (List.range ((bs.length + 31) / 32)).foldl (fun (s : State) i => s.repaired (a + 32 * i)) (s.store a bs)
  else s

/-- The program of engine e is loaded through CE_PLOAD_CTL (R113, R395). -/
def State.bootProgram (s : State) (e : Fin 8) (ws : List Word32) : State :=
  let ws := padRows ws
  let n := ws.length / 8
  let s := (s.stage (wordBytes ws)).modCe e fun k => { k with
    loadSrc := 32 * bootStageAddr s, loadCount := n % 512, loadDest := 0 }
  if 512 < n then s.modCe e fun k => { k with loadBusy := false, loadResult := 2 }
  else s.loadProgram e 0 ws

/-- A word written to a tightly coupled memory; a memory that does not answer takes none. -/
def State.bootWord (s : State) (a : Nat) (v : Word32) : State :=
  if memReach s a = 0 then s.storeCopies a (leBytes 4 v.toNat) else s

/-- Hub entries in the order of their keys. -/
def insHub (key : Nat) (v : Word32) : List (Nat × Word32) → List (Nat × Word32)
  | [] => [(key, v)]
  | (k, w) :: t =>
    if key < k then (key, v) :: (k, w) :: t
    else if key = k then (key, v) :: t
    else (k, w) :: insHub key v t

/-- One word of a register record is written. -/
def State.bootReg (s : State) (x : Nat × Word32) : State :=
  match hubAt x.1 with
  | some key => s.modBoot fun k => { k with hubs := insHub key x.2 k.hubs }
  | none =>
    match blazeExcess x.1 with
    | some i =>
      if x.1 % 0x20 = 0 ∧ bit x.2.toNat 31 then { s with blz := { s.blz with excess := s.blz.excess ++ [i] } }
      else s
    | none =>
      if (pairAt x.1).isSome || (dmemAt x.1).isSome then s else s.putReg 24 true x.1 x.2.toNat

/-- The programs and the data words of one partition, and its words of the cores' memories. -/
def State.bootMem (s : State) (b : Bool) (typ : Nat) : State :=
  let rs := (partRecs s b typ).getD []
  let s := all8.foldl (fun (s : State) e =>
    match progOf rs e with
    | some ws => s.bootProgram e ws
    | none => s) s
  (itemsOf s b typ).foldl (fun (s : State) x =>
    match dmemAt x.1 with
    | some (e, j) => s.ceWrite e j (x.2.setWidth 24)
    | none => if (pairAt x.1).isSome then s.bootWord x.1 x.2 else s) s

/-- The domains that the image asks for come on while it is read (R376, log 99). -/
def State.bootDomains (s : State) : State :=
  s.each allDoms fun s d =>
    if s.sys.dom[d] = .turningOn then
      let s := s.modSys fun k => { k with dom := k.dom.set d .on }
      (if d.val < 6 then s.domainUp d else s).record bSYS 0xFF 4 (d.val + 16)
    else s

/-- The records of a good slot are written: registers first, then the domains they ask for, then
programs and memories. -/
def State.applyImage (s : State) (b : Bool) : State :=
  let order := (readOrder s b).map (·.typ)
  let split := hdrSplit s b
  let s := { s with
    blz := { s.blz with excess := [] }
    red := { s.red with
      pair := Vector.ofFn fun k => { s.red.pair[k] with splitReq := bit split k.val } } }
  let s := order.foldl (fun (s : State) typ => (itemsOf s b typ).foldl State.bootReg s) s
  order.foldl (fun (s : State) typ => s.bootMem b typ) s.bootDomains

/-! ### Comparison with the running configuration (R402) -/

/-- The bits of a register that a record sets. -/
def recordMask (a : Nat) : Nat := (regAt a).elim 0 fun r => (r.rw.lor r.rwl).lor r.own

/-- A word of a register record equals the present value. -/
def sameReg (s : State) (x : Nat × Word32) : Bool :=
  match hubAt x.1 with
  | some key => s.boot.hubs.any fun h => h.1 = key && h.2 = x.2
  | none =>
    if (pairAt x.1).isSome || (dmemAt x.1).isSome || (blazeExcess x.1).isSome then true
    else (readReg s x.1).land (recordMask x.1) == x.2.toNat.land (recordMask x.1)

end Sys2Proof.Machine
end

