-- ==== Sys2Proof/Machine/Boot.lean ====
section
/-!
DEFINITION. The commands of reset, start-up, updates, live replacement and pair restart (R392 to
R408).
-/

namespace Sys2Proof.Machine

open Sys2Proof

/-! ### Reset and the first phases (R392, R393) -/

/-- PORn or RESETn goes low. What an external programmer leaves in the NOR comes with it (R394). -/
def doResetAssert (s : State) (cells : List (Nat × Byte)) : State :=
  let s := s.toReset
  { s with nor := cells.foldl (fun m c => sput 0xFF m c.1 c.2) s.nor }

/-- The later of PORn and RESETn rises: the straps are sampled and the island starts (R299, R392). -/
def doResetRelease (s : State) (bootSlot splitEn strapTest : Bool) : State :=
  if s.boot.released then s
  else
    { s with
      red := { s.red with splitEn := splitEn }
      boot := { s.boot with
        released := true, bootSlot := bootSlot, splitEn := splitEn, strapTest := strapTest
        phase := if s.rng.powered && !s.rng.shutdown then 1 else 0 } }

/-- The PLLs lock and the time base starts at 0 (R27, R393). With STRAP_TEST high the island stays in phase
1 (R441). -/
def doPllLock (s : State) : State :=
  if s.boot.phase = 1 ∧ !s.boot.strapTest then
    { s with
      clk := { locked := true }
      rng := { s.rng with aliveAt := 0 }
      red := { s.red with splitEn := s.boot.splitEn }
      boot := { s.boot with phase := 2 } }
  else s

/-- Die ID and trims are read from FLOG (R393, R408). -/
def doFlogRead (s : State) : State :=
  if s.boot.phase = 2 then
    { s with
      skd := { s.skd with dieId := s.flog.die }
      cap := { s.cap with conv := Vector.ofFn fun c : Fin 24 =>
        let w := s.flog.capTrim[c].toNat
        { s.cap.conv[c] with gain := bits w 31 16, offset := sgn 16 w } }
      boot := { s.boot with phase := 3 } }
  else s

/-! ### Slot choice and the reading of the image (R393, R394, R398) -/

/-- The cause noted for a slot. -/
def causeOf (s : State) (b : Bool) : Nat := if b then s.boot.causeB else s.boot.causeA

/-- A slot is bad (R394, R406). -/
def State.slotBad (s : State) (b : Bool) (cause : Nat) : State :=
  (s.modBoot fun k => if b then { k with causeB := cause } else { k with causeA := cause }).tally 142

/-- Both slots are bad: BOOT_FAILED goes to the fault log, and the device stays in its reset state
(R394). -/
def State.bootFailed (s : State) : State :=
  let d := s.boot.causeA + put s.boot.causeB 8
  let s := s.logRecord (eventWord s s.clk.now bBOOT 0xFF 3 d 0)
  let b := s.boot
  s.holdDies.modBoot fun k => { k with phase := 4, failed := true, causeA := b.causeA, causeB := b.causeB }

/-- A slot is tried: it is taken if its header is good. -/
def State.trySlot (s : State) (silent : Bool) (b : Bool) : State :=
  if s.boot.phase = 4 ∨ causeOf s b ≠ 0 then s
  else
    match (if silent then 7 else headerCause s b) with
    | 0 => s.modBoot fun k => { k with phase := 4, slot := b }
    | c => s.slotBad b c

/-- Phase 4 (R393, R398). `silent` tells that the NOR does not answer. -/
def doSlotSelect (s : State) (silent : Bool) : State :=
  if s.boot.phase = 3 then
    let first := if silent then s.boot.bootSlot else firstSlot s
    let s := (s.trySlot silent first).trySlot silent (!first)
    if s.boot.phase = 4 then s else s.bootFailed
  else s

/-- Phase 5 (R393, R394): the chosen slot is checked and its records are written, or the other slot is
tried. -/
def doImageRead (s : State) : State :=
  if s.boot.phase = 4 ∧ !s.boot.failed then
    let b := s.boot.slot
    match imageCause s b with
    | 0 =>
      (s.applyImage b).modBoot fun k => { k with
        phase := 5
        imgId := hdrImage s b, version := hdrVersion s b, secver := hdrSecver s b
        other := 0, partSrc := 0 }
    | c =>
      let s := s.slotBad b c
      if causeOf s (!b) = 0 then s.modBoot fun k => { k with phase := 3 } else s.bootFailed
  else s

/-! ### Lock (R393) -/

/-- The first failed check of R119 for machine m, from 1; 0 if all hold. -/
def trxFails (s : State) (m : Fin 2) : Nat :=
  let p := trxMachPoles s m
  let u := trxMachUpdate s m
  let loop := clampPeriod (groupOf m) s.gsc.g[groupOf m].periodW / max u 1
  if p < 1 ∨ 8 < p then 1
  else if 192000 < p * trxMachMaxRpm s m then 2
  else if 24000 < trxMachMaxRpm s m then 3
  else if u = 0 ∨ u = 3 then 4
  else if loop < 8000 then 5
  else if (pairOf m).any fun e => decide (loop < 4 * passLimit s e + 200) then 6
  else 0

/-- The lock-time check of TRX (R119, R139). -/
def State.checkTrx (s : State) : State :=
  s.each (machines s) fun s m =>
    match trxFails s m with
    | 0 => s
    | c => { s with trx := { s.trx with cfgBad := true } }.recordReport bTRX (0xC0 + m) 1 c

/-- The channels that leg l uses (R158). -/
def legChannels (s : State) (l : Fin 24) : List Nat :=
  if gscLegKind s l then [gscLegHiCh s l] else [gscLegHiCh s l, gscLegLoCh s l]

/-- An enabled leg fails R158. -/
def legBad (s : State) (l : Fin 24) : Bool :=
  let cs := legChannels s l
  let g := gscLegGroup s l
  gscLegEn s l && (cs.any (fun c => 47 < c) || 3 < g
    || cs.any (fun c => decide (c < 48) && glkCfgGroup s (c / 4) != g)
    || (!gscLegKind s l && !(gscLegHiCh s l % 2 == 0 && gscLegLoCh s l == gscLegHiCh s l + 1))
    || !noTwice cs
    || all24.any fun k => k != l && gscLegEn s k && (legChannels s k).any fun c => cs.contains c)

/-- The lock-time check of GSC (R158, R182). -/
def State.checkGsc (s : State) : State :=
  match all24.find? (legBad s) with
  | some l => { s with gsc := { s.gsc with cfgBad := true } }.recordReport bGSC 0xFF 2 l
  | none => s

/-- Receive entry i repeats a lower-numbered one (R289). -/
def connTwice (s : State) (i : Fin 64) : Bool :=
  let rx (j : Fin 64) : Bool := blzCdefEn s j && !blzCdefDir s j
  rx i && all64.any fun j => decide (j.val < i.val) && rx j && blzCdefMedium s j == blzCdefMedium s i
    && blzCdefStream s j == blzCdefStream s i
    && (blzCdefMedium s i || blzCdefChannel s j == blzCdefChannel s i)
    && blzCpeerPeer s j == blzCpeerPeer s i && blzCdefConn s j == blzCdefConn s i

/-- The lock-time check of BLZ (R289, R295): a repeated entry is disabled, and every connection beyond
the 64th that the image lists is refused. The index of such a one is shown modulo 64 (DESIGN CHOICE,
log 81). -/
def State.checkBlz (s : State) : State :=
  let s := s.each all64 fun s i =>
    if connTwice s i then
      let a := 0x70010100 + i.val * 0x20
      { s with regs := sput 0 s.regs a (BitVec.ofNat 32 (rd s a % 2 ^ 31)) }.record bBLZ 0xFF 9 i
    else s
  s.each s.blz.excess fun s i => s.record bBLZ 0xFF 9 (i % 64)

/-- The end of the area of ring r in shared SRAM. -/
def ringEnd (s : State) (r : Fin 32) : Nat := 32 * (lrgBaseAddr s r + lrgCfgDepth s r)

/-- An enabled ring is bad (R383). -/
def ringBad (s : State) (r : Fin 32) : Bool :=
  let d := lrgCfgDepth s r
  let lo := 32 * lrgBaseAddr s r
  lrgCfgEn s r && (d < 1 || 4096 < d || lo < sramBase || sramEnd < ringEnd s r
    || (List.ofFn fun k : Fin 32 => k).any fun k => k != r && lrgCfgEn s k
      && decide (lo < ringEnd s k) && decide (32 * lrgBaseAddr s k < ringEnd s r))

/-- The lock-time check of the landing rings. -/
def State.checkRings (s : State) : State :=
  { s with lrg := { s.lrg with
    ring := Vector.ofFn fun r => { s.lrg.ring[r] with bad := ringBad s r } } }

/-- The pairs of cores whose domains are on are released (R299, R393); a split that the strap denies
is recorded. -/
def State.releasePairs (s : State) : State :=
  s.each all6 fun s k =>
    let s := if s.red.pair[k].splitReq && !s.red.splitEn then s.record bRED (0x40 + 2 * k) 2 k else s
    if domOn s (pairDom k) then s.modPair k fun p => { p with
      state := if pairSplit s k then 1 else 0, released := true }
    else s.modPair k fun p => { p with state := 3 }

/-- The engines that the image starts (R91). -/
def State.startEngines (s : State) : State :=
  s.each all8 fun s e => if s.ce[e].run then s.writeRun e true else s

/-- Blaze entries begin: receive entries wait, transmit entries count from now (R291, R294). -/
def State.startBlaze (s : State) : State :=
  s.each all64 fun s i =>
    if !blzCdefEn s i then s
    else if blzCdefDir s i then s.modConn i fun k => { k with lastTx := s.clk.now }
    else s.modConn i fun k => { k with state := .waiting, since := s.clk.now }

/-- Axle tokens as start-up leaves them (R311). -/
def State.startAxle (s : State) : State :=
  s.each (axGroups s) fun s g => s.modAx g fun k => { k with
    state := if axMode s = 0 then 3 else 1, freeSince := s.clk.now }

/-- The events of the start sequence, posted at lock in order of occurrence (R406). -/
def State.postStart (s : State) : State :=
  let b := s.boot
  let s := if b.causeA = 0 then s else s.record bBOOT 0xFF 1 (put b.causeA 8)
  let s := if b.causeB = 0 then s else s.record bBOOT 0xFF 1 (1 + put b.causeB 8)
  s.record bBOOT 0xFF 2 (b2n b.slot + put b.secver 8) b.imgId

/-- At the end of start-up the times from which limits, calibration and self-tests count are set (R60,
R80, R307). -/
def State.startWatches (s : State) : State :=
  { s with
    pba := { s.pba with
      limStamp := s.clk.now
      hvLow := if s.pba.volts < pbaModeCfgHvOff s then some s.clk.now else none }
    cap := { s.cap with calFrom := s.clk.now }
    red := { s.red with started := some s.clk.now } }

/-- Phase 6: the lock-time checks run, RWL fields lock, and engines, cores and links start (R393). -/
def doStartLock (s : State) : State :=
  if s.boot.phase = 5 then
    let s := s.checkRings
    let s := s.modBoot fun k => { k with phase := 7, locked := true }
    let s := s.postStart.checkTrx.checkGsc.checkBlz.releasePairs
    let s := s.startEngines.startBlaze.startAxle
    let s := s.each (all12.filter fun l : Fin 12 => glkCfgEn s l) State.linkStart
    let s := if domOn s 6 then s.skdStart else s
    (s.each all6 State.canStart).startWatches
  else s

/-! ### Updates of the NOR (R401) -/

/-- BOOT_NVCMD. -/
def nvAddrReg : Nat := 0x40010018

/-- A range of NOR bytes lies in the slot that did not start. -/
def inOther (s : State) (a n : Nat) : Bool :=
  let lo := slotBase (!s.boot.slot)
  decide (lo ≤ a ∧ a + n ≤ lo + slotSize)

/-- An operation is taken. -/
def State.nvBegin (s : State) (a : Nat) (d : List Byte) : State :=
  s.modBoot fun k => { k with nvBusy := true, nvResult := 0, nvAddr := a, nvData := d }

/-- An operation ends with a RESULT. -/
def State.nvEnd (s : State) (r : Nat) : State :=
  s.modBoot fun k => { k with nvBusy := false, nvResult := r }

/-- GO with operation `op` (R401, R407). A double-bit error in the words that PROGRAM reads ends the boot
controller's access with a bus error (R371) and the operation with RESULT 1 (DESIGN CHOICE, log 102). -/
def doNv (s : State) (id : Fin 64) (op : Nat) : State :=
  if s.boot.nvBusy then s.busError id nvAddrReg 7
  else
    let s := { s with regs := sput 0 s.regs nvAddrReg (BitVec.ofNat 32 op) }.busDone []
    let s := s.modBoot fun k => { k with nvOp := if 3 < op then 2 else op }
    let a := bootNvaddrAddr s
    match s.boot.nvOp with
    | 0 =>
      let a := a / 0x10000 * 0x10000
      if inOther s a 0x10000 then (s.nvBegin a []).modBoot fun k => { k with other := 0 } else s.nvEnd 3
    | 1 =>
      let src := 32 * bootNvsramAddr s
      let n := 32 * bootNvlenLen32 s
      if inOther s a n && decide (sramBase ≤ src ∧ src + n ≤ sramEnd) then
        let r := s.readRows 24 src (n / 32)
        if r.2 then ((r.1.busError 24 r.1.sys.eccBad 4).nvEnd 1).busDone []
        else (r.1.nvBegin a (memBytes r.1 src n)).modBoot fun k => { k with other := 0 }
      else s.nvEnd 3
    | 2 => s.nvBegin 0 []
    | _ => if s.boot.other = 1 then s.nvBegin 0 [] else s.nvEnd 2

/-- Bytes put into NOR contents from an address on. -/
def norPut : Sparse Byte → Nat → List Byte → Sparse Byte
  | m, _, [] => m
  | m, a, b :: bs => norPut (sput 0xFF m a b) (a + 1) bs

/-- Bytes put into the NOR. -/
def State.norStore (s : State) (a : Nat) (bs : List Byte) : State := { s with nor := norPut s.nor a bs }

/-- Bytes of the NOR after an operation that failed: free values (R401 gives none). -/
def State.norFree (s : State) (a n : Nat) : State :=
  let r := s.draw
  r.1.norStore a (leBytes n r.2)

/-- VERIFY ends: the other slot is checked in full (R401, R406). -/
def State.nvVerify (s : State) (silent : Bool) : State :=
  let b := !s.boot.slot
  let c := if silent then 7 else if headerCause s b ≠ 0 then headerCause s b else imageCause s b
  let s := s.modBoot fun k => { k with
    other := if c = 0 then 1 else 2, otherSecver := if c = 0 then hdrSecver s b else 0 }
  (s.nvEnd (b2n silent)).record bBOOT 0xFF 4 (if c = 0 then 1 else put c 8)

/-- The operation in progress completes; `err` tells of an error of the NOR (R401, R407). -/
def doNvDone (s : State) (err : Bool) : State :=
  if !s.boot.nvBusy then s
  else
    let k := s.boot
    match k.nvOp with
    | 0 =>
      if err then (s.norFree k.nvAddr 0x10000).nvEnd 1
      else (s.norStore k.nvAddr (List.replicate 0x10000 0xFF)).nvEnd 0
    | 1 =>
      if err then (s.norFree k.nvAddr k.nvData.length).nvEnd 1
      else
        let old := norBytes s k.nvAddr k.nvData.length
        (s.norStore k.nvAddr (List.zipWith (· &&& ·) old k.nvData)).nvEnd 0
    | 2 => s.nvVerify err
    | _ =>
      let a := slotBase (!k.slot)
      if err then (s.norFree a 4).nvEnd 1
      else (s.norStore a (leBytes 4 (generation s k.slot + 1))).nvEnd 0

/-! ### Activations (R402 to R404) -/

/-- A write of BOOT_ACT (R402, R407). -/
def doActivate (s : State) (v : Word32) : State :=
  let part := bits v.toNat 3 0
  let s := { s with regs := sput 0 s.regs 0x40010028 (BitVec.ofNat 32 part) }
  if !bit v.toNat 31 || s.boot.act.busy then s
  else
    let s := s.modAct fun _ => { busy := true, result := 1, part := part, force := bit v.toNat 29 }
    if (partEngines part).isEmpty then s.endAct 4
    else if s.boot.other ≠ 1 then s.endAct 2
    else s

/-- The partition has been read into the staging area (R402). -/
def doActivationRead (s : State) : State :=
  let a := s.boot.act
  if !a.busy || a.staged then s
  else
    let b := !s.boot.slot
    match partEntry s b a.part with
    | none => s.endAct 6
    | some p =>
      if 1024 * bootStageszStageKib s < p.length then s.endAct 7
      else
        let ok := digestOk s b p
        let s := s.stage (partBytes s b p)
        if !ok then s.endAct 6
        else if !(itemsOf s b a.part).all (sameReg s) then s.endAct 3
        else (s.modAct fun k => { k with staged := true, begun := false, tasks := actTasks s a.part }).bootPoll

/-- IN_STEP has not been reached in STEP_WAIT ms (R402). -/
def doStepWait (s : State) : State :=
  let a := s.boot.act
  match a.tasks with
  | .inStep _ e :: ts =>
    if a.busy && a.staged && a.begun && decide (a.since + msTk * max (bootCfgStepWait s) 1 ≤ s.clk.now) then
      if a.force && s.ce[e].state != .fault then
        (s.modAct fun k => { k with tasks := ts, begun := false }).bootPoll
      else (s.failAct 5).bootPoll
    else s
  | _ => s

/-- A write of BOOT_ARB.RAISE (R400). -/
def doRaise (s : State) (v : BitVec 16) : State :=
  if v ≠ 0x5EC1#16 then s
  else if !(s.pba.mode == .off || s.pba.mode == .standby) then s.tally 140
  else if s.flog.steps < s.boot.secver then
    { s with flog := { s.flog with steps := s.boot.secver } }.record bBOOT 0xFF 8 s.boot.secver
  else s

/-! ### Pair restart (R405) -/

/-- The restart of pair k changed by `f`. -/
def State.modRestart (s : State) (k : Fin 6) (f : PairRestart → PairRestart) : State :=
  s.modBoot fun b => { b with pair := vupd b.pair k f }

/-- The main core of pair k and its checker. -/
def mainCore (k : Fin 6) : Fin 12 := ⟨2 * k.val, by omega⟩
def checkCore (k : Fin 6) : Fin 12 := ⟨2 * k.val + 1, by omega⟩

/-- The restart request of pair k shows or ends (R405). -/
def State.askRestart (s : State) (k : Fin 6) (v : Bool) : State :=
  s.modSys fun y => { y with
    restartReq := (y.restartReq.set (mainCore k) v).set (checkCore k) (v && pairSplit s k) }

/-- P2: both cores are held in reset and their memories cleared (R405). -/
def State.pairStop (s : State) (k : Fin 6) : State :=
  (((s.askRestart k false).modPair k fun p => { p with released := false }).clearPair k).modRestart k
    fun r => { r with step := 3, since := s.clk.now }

/-- A write of HOLD to BOOT_PAIRk (R405). -/
def doHold (s : State) (k : Fin 6) (v : Word32) : State :=
  let other := bit v.toNat 29
  let s := { s with regs := sput 0 s.regs (0x40010040 + 4 * k.val) (BitVec.ofNat 32 (put (b2n other) 29)) }
  if !bit v.toNat 31 || s.boot.pair[k].step ≠ 0 || !domOn s (pairDom k) then s
  else
    let from2 := s.red.pair[k].state == 2
    let s := s.modRestart k fun r => { r with
      step := 1, other := other, from2 := from2, since := s.clk.now, result := 1 }
    if from2 then s.pairStop k else s.askRestart k true

/-- A write of CHECKPOINT (R405). -/
def doCheckpoint (s : State) (k : Fin 6) : State := if s.boot.pair[k].step = 1 then s.pairStop k else s

/-- HOLD_WAIT ms have passed without CHECKPOINT (R405). -/
def doHoldWait (s : State) (k : Fin 6) : State :=
  let r := s.boot.pair[k]
  if r.step = 1 ∧ r.since + msTk * max (bootCfgHoldWait s) 1 ≤ s.clk.now then
    (s.askRestart k false).modRestart k fun r => { r with step := 0, result := 5 }
  else s

/-- The records that a slot has for the memories of pair k. -/
def State.pairRecords (s : State) (b : Bool) (k : Fin 6) : State :=
  match ownerOf s b k with
  | some typ => (itemsOf s b typ).foldl (fun (s : State) x =>
      if pairAt x.1 = some k then s.bootWord x.1 x.2 else s) s
  | none => s

/-- RESULT of the load from slot b: 6 for a bad digest, 3 where another record differs (R402, R405). -/
def pairResult (s : State) (b : Bool) (k : Fin 6) : Nat :=
  match ownerOf s b k with
  | none => 6
  | some typ =>
    match partEntry s b typ with
    | none => 6
    | some p =>
      if !digestOk s b p then 6
      else if !(itemsOf s b typ).all (sameReg s) then 3 else 0

/-- P3 ends, and P4: the cores are released (R405). -/
def doPairLoad (s : State) (k : Fin 6) : State :=
  let r := s.boot.pair[k]
  if r.step ≠ 3 then s
  else
    let b := s.boot.slot != r.other
    let res := pairResult s b k
    let s := s.pairRecords (if res = 0 then b else s.boot.slot) k
    let s := s.modPair k fun p => { p with state := if pairSplit s k then 1 else 0, released := true }
    let s := s.modRestart k fun r => { r with
      step := 0, result := res, restarts := (r.restarts + 1) % 256 }
    (s.tally 141).record bBOOT 0xFF 7 (k + put (b2n r.from2) 8)

/-! ### Register writes of BOOT (R407) -/

/-- A write to a BOOT register that starts an operation. -/
def State.writeBoot (s : State) (id : Fin 64) (o v : Nat) : State :=
  let w := BitVec.ofNat 32 v
  match o with
  | 0x018 => if bit v 31 then doNv s id (bits v 2 0) else s
  | 0x028 => doActivate s w
  | 0x02C => doRaise s (BitVec.ofNat 16 (v / 2 ^ 16))
  | _ => s.onFam o 0x40 4 6 fun k _ =>
    let s := doHold s k w
    if bit v 30 then doCheckpoint s k else s

/-- RESET_ASSERT (R392). -/
def execResetAssert (t : Tick) (cells : List (Nat × Byte)) (s : State) :
    Host.Outcome State Fault Refusal := .next (doResetAssert (s.at t) cells)

/-- RESET_RELEASE (R392). -/
def execResetRelease (t : Tick) (bootSlot splitEn strapTest : Bool) (s : State) :
    Host.Outcome State Fault Refusal := .next (doResetRelease (s.at t) bootSlot splitEn strapTest)

/-- PLL_LOCK (R393). -/
def execPllLock (t : Tick) (s : State) : Host.Outcome State Fault Refusal := .next (doPllLock (s.at t))

/-- FLOG_READ (R393). -/
def execFlogRead (t : Tick) (s : State) : Host.Outcome State Fault Refusal := .next (doFlogRead (s.at t))

/-- SLOT_SELECT (R398). -/
def execSlotSelect (t : Tick) (silent : Bool) (s : State) : Host.Outcome State Fault Refusal :=
  .next (doSlotSelect (s.at t) silent)

/-- IMAGE_READ_DONE (R394). -/
def execImageReadDone (t : Tick) (s : State) : Host.Outcome State Fault Refusal :=
  .next (doImageRead (s.at t))

/-- START_LOCK (R393). -/
def execStartLock (t : Tick) (s : State) : Host.Outcome State Fault Refusal :=
  .next (doStartLock (s.at t))

/-- ERASE (R401). -/
def execErase (t : Tick) (id : Fin 64) (s : State) : Host.Outcome State Fault Refusal :=
  .next (doNv (s.at t) id 0)

/-- PROGRAM (R401). -/
def execProgram (t : Tick) (id : Fin 64) (s : State) : Host.Outcome State Fault Refusal :=
  .next (doNv (s.at t) id 1)

/-- VERIFY (R401). -/
def execVerify (t : Tick) (id : Fin 64) (s : State) : Host.Outcome State Fault Refusal :=
  .next (doNv (s.at t) id 2)

/-- SELECT (R399). -/
def execSelect (t : Tick) (id : Fin 64) (s : State) : Host.Outcome State Fault Refusal :=
  .next (doNv (s.at t) id 3)

/-- NV_OPERATION_DONE (R401). -/
def execNvOperationDone (t : Tick) (err : Bool) (s : State) : Host.Outcome State Fault Refusal :=
  .next (doNvDone (s.at t) err)

/-- ACTIVATE (R402). -/
def execActivate (t : Tick) (v : Word32) (s : State) : Host.Outcome State Fault Refusal :=
  .next (doActivate (s.at t) v)

/-- ACTIVATION_READ_DONE (R402). -/
def execActivationReadDone (t : Tick) (s : State) : Host.Outcome State Fault Refusal :=
  .next (doActivationRead (s.at t)).watchRows

/-- STEP_WAIT_EXPIRY (R402). -/
def execStepWaitExpiry (t : Tick) (s : State) : Host.Outcome State Fault Refusal :=
  .next (doStepWait (s.at t)).watchRows

/-- RAISE (R400). -/
def execRaise (t : Tick) (v : BitVec 16) (s : State) : Host.Outcome State Fault Refusal :=
  .next (doRaise (s.at t) v)

/-- HOLD (R405). -/
def execHold (t : Tick) (k : Fin 6) (v : Word32) (s : State) : Host.Outcome State Fault Refusal :=
  .next (doHold (s.at t) k v)

/-- CHECKPOINT (R405). -/
def execCheckpoint (t : Tick) (k : Fin 6) (s : State) : Host.Outcome State Fault Refusal :=
  .next (doCheckpoint (s.at t) k)

/-- HOLD_WAIT_EXPIRY (R405). -/
def execHoldWaitExpiry (t : Tick) (k : Fin 6) (s : State) : Host.Outcome State Fault Refusal :=
  .next (doHoldWait (s.at t) k)

/-- PAIR_LOAD_DONE (R405). -/
def execPairLoadDone (t : Tick) (k : Fin 6) (s : State) : Host.Outcome State Fault Refusal :=
  .next (doPairLoad (s.at t) k).watchRows

end Sys2Proof.Machine
end

