-- ==== Sys2Proof/Machine/Bridge.lean ====
section
/-!
DEFINITION. The commands of the auxiliary bridges (R199 to R218, R413).
-/

namespace Sys2Proof.Machine

open Sys2Proof

/-- Bridge b is in use and its domain is on. -/
def axbOn (s : State) (b : Fin 3) : Bool := axbCtlEn s b && domOn s 8

/-- The carrier period in effect (R201): before the first period start, the one written. -/
def axbPeriodOf (s : State) (b : Fin 3) : Nat :=
  axbPeriod (if s.axb.b[b].started then s.axb.b[b].period else axbCarrierPeriod s b)

/-- The carrier phase in effect. -/
def axbPhaseOf (s : State) (b : Fin 3) : Nat :=
  if s.axb.b[b].started then s.axb.b[b].cphase else axbCphasePhase s b

/-- The latest tick of the carrier's lattice at or before tick `p` of the power die's copy. -/
def axbLattice (s : State) (b : Fin 3) (p : Nat) : Nat :=
  p - (((p : Int) - axbPhaseOf s b) % axbPeriodOf s b).toNat

/-- The period start that the copy has reached, if it is new. -/
def axbDue (s : State) (b : Fin 3) : Option Nat :=
  let p := s.clk.power
  let x := axbLattice s b p
  let k := s.axb.b[b]
  if axbOn s b && (if k.started then decide (k.pstart < x) else decide (p < x + 40)) then some x else none

/-! ### Sampling (R204, R413) -/

/-- No edge of the bridge lies in [x − SETTLE, x + SWIN). -/
def cleanWindow (s : State) (b : Fin 3) (x : Nat) : Bool :=
  let k := s.axb.b[b]
  let inside (t : Nat) : Bool := decide (x ≤ t + 40 * settleOf s b) && decide (t < x + 40 * swinOf s b)
  !(k.recent.any inside) && !(k.edges.any fun e => inside e.tick)

/-- The two conversions of bridge b for the period that starts on x are reserved or under way. -/
def sampled (s : State) (b : Fin 3) (x : Nat) : Bool :=
  let has (v : Bool) (a : Nat) : Bool :=
    (s.hka.resv.any fun r => r.bridge = b && r.v == v && r.aperture = a)
      || (match s.hka.busy with
        | some c => c.kind == .urgent b v && c.aperture == a
        | none => false)
  has false x && has true (x + 800)

/-- A period of bridge b starts on x (R201 to R204, R209). -/
def State.axbPeriodAt (s : State) (b : Fin 3) (x : Nat) : State :=
  let s := s.edgesUpTo b x s.axb.b[b].edges
  let s := s.modAxb b fun k => { k with
    phase := k.phase.map fun q => { q with hold := q.hold && q.uvlo, lowAt := q.bootLow }
    recent := k.recent.filter fun t => x ≤ t + 40 * 255 }
  let cs := s.axb.b[b].commits.filter fun c => c.tick < x
  let s := s.modAxb b fun k => { k with
    commits := k.commits.filter fun c => !(c.tick < x)
    pstart := x, started := true
    period := axbPeriod (axbCarrierPeriod s b), cphase := axbCphasePhase s b }
  let s := s.each cs fun s c => s.takeCommit b c
  let n := s.axb.b[b].period / 40
  let s := (s.modAxb b fun k => { k with pduty := sixDuty s b }).place b
  let es := sortEdges (all3.flatMap fun p => phaseEdges s b p x n)
  let s := s.modAxb b fun k => { k with edges := es, written := false }
  let s := s.edgesUpTo b s.clk.power es
  let miss := axbCtlSample s b && !(cleanWindow s b x && sampled s b x)
  let s := s.modAxb b fun k => { k with missed := miss }
  (if miss then s.tally 79 else s).periodStarts ⟨4 + b.val, by omega⟩ x s.axb.b[b].period

/-- AXB_PERIOD_START on bridge b. -/
def doAxbPeriod (s : State) (b : Fin 3) : State :=
  match axbDue s b with
  | some x => s.axbPeriodAt b x
  | none => s

/-- An urgent request: accepted if its reservation overlaps no accepted one, else dropped (R413). -/
def State.urgent (s : State) (b : Fin 3) (v : Bool) (aperture input : Nat) : State :=
  let clash := (s.hka.resv.any fun r => r.aperture < aperture + 800 && aperture < r.aperture + 800)
    || (match s.hka.busy with
      | some c => (match c.kind with
        | .urgent _ _ => decide (aperture < c.aperture + 800)
        | _ => false)
      | none => false)
  if clash then
    let s := s.tally 143
    let w := winOf s.clk.now + 1
    if s.hka.dropWin = w then s
    else { s with hka := { s.hka with dropWin := w } }.record bHKA (0xC0 + b) 1 input
  else { s with hka := { s.hka with resv := s.hka.resv ++ [⟨aperture, b, v, input⟩] } }

/-- Bridge b posts its two urgent requests 1,600 tk before a period start. -/
def doUrgent (s : State) (b : Fin 3) : State :=
  let q := s.clk.power + 1600
  let x := axbLattice s b q
  if axbOn s b && axbCtlSample s b && decide (q < x + 40)
      && !(s.hka.resv.any fun r => r.bridge = b && r.aperture = x) then
    (s.urgent b false x (axbCtlHkU s b)).urgent b true (x + 800) (axbCtlHkV s b)
  else s

/-! ### The input block (R205, R206) -/

/-- A current word above ILIM. -/
def overLimit (s : State) (b : Fin 3) (i : Word24) : Bool := axbIlimIlim s b < i.toInt.natAbs

/-- Two consecutive sampled periods over ILIM (R206). -/
def State.overcurrent (s : State) (b : Fin 3) : State :=
  let k := s.axb.b[b]
  if k.missed || !axbCtlSample s b then s
  else
    let u := overLimit s b k.iu
    if u || overLimit s b k.iv then
      let s := s.modAxb b fun k => { k with overRun := k.overRun + 1 }
      if k.overRun = 1 then
        (s.tally 78).recordReport bAXB (0xC0 + b) 8
          (if u then put k.iu.toNat 8 else 1 + put k.iv.toNat 8)
      else s
    else s.modAxb b fun k => { k with overRun := 0 }

/-- The six words of the input block. -/
def axbBlock (k : Bridge) : List Word24 :=
  let low := maskOf [k.phase[(0 : Fin 3)].bootLow, k.phase[(1 : Fin 3)].bootLow, k.phase[(2 : Fin 3)].bootLow]
  [BitVec.ofNat 24 (put k.state.code 20 + put k.step 17 + put (b2n k.dir) 16 + put low 13
      + put (b2n k.missed) 12 + put k.island 10),
    k.iu, k.iv, axbSpeed k, BitVec.ofInt 24 k.steps,
    BitVec.ofNat 24 (put k.cmdCount 20 + wrapN 20 k.cmdArg)]

/-- Bridge b writes its input block to CE6. -/
def doAxbInput (s : State) (b : Fin 3) : State :=
  let k := s.axb.b[b]
  if !(axbOn s b) || !k.started || k.written
      || decide (s.clk.power < k.pstart + 40 * swinOf s b + 160) then s
  else
    let s := s.ceWrites 6 (axbMapInWord s b) (axbBlock k)
    (s.modAxb b fun k => { k with written := true }).overcurrent b

/-! ### Bootstrap supplies (R207, R209) -/

/-- Phase p of bridge b changed by `f`. -/
def State.modPh (s : State) (b p : Fin 3) (f : Phase → Phase) : State :=
  s.modAxb b fun k => { k with phase := vupd k.phase p f }

/-- BOOT_LOW of phase p becomes set at a voltage in 0.1 V. -/
def State.bootLowAt (s : State) (b p : Fin 3) (v : Nat) : State :=
  if s.axb.b[b].phase[p].bootLow then s
  else ((s.modPh b p fun k => { k with bootLow := true }).tally 73).record bAXB (0xC0 + b) 2
    (p.val + put (v % 256) 8)

/-- The supply of phase p falls below UVLO: a high side that is on turns off, BOOT_LOW is set. The
voltage that BOOT_LOW_ENTERED then carries the spec does not state. -/
def doUvlo (s : State) (b p : Fin 3) : State :=
  let k := s.axb.b[b].phase[p]
  if k.uvlo then s
  else
    let s := s.modPh b p fun k => { k with uvlo := true, hold := true }
    if !k.gh then s
    else
      let s := s.gateEdge b p true false s.clk.power
      let s := if k.bootLow then s else (s.draw.1).bootLowAt b p s.draw.2
      (s.tally 72).record bAXB (0xC0 + b) 1 p

/-! ### The sequencer (R212 to R217) -/

/-- ALIGN, RAMP or RUN is entered with a step; its pattern takes effect at once (R214). -/
def State.enterSix (s : State) (b : Fin 3) (st : BState) (step : Nat) : State :=
  let s := s.modAxb b fun k => { k with state := st, step := step, since := s.clk.now, nextStep := none }
  ((s.modAxb b fun k => { k with pduty := sixDuty s b }).place b).stepNow b

/-- The state of bridge b and the ticks it has lasted. -/
def lasted (s : State) (b : Fin 3) (st : BState) (n : Nat) : Bool :=
  s.axb.b[b].state == st && decide (s.axb.b[b].since + n ≤ s.clk.now)

/-- ALIGN_MS has passed: RAMP with a forced first step (R215). -/
def doAlignEnd (s : State) (b : Fin 3) : State :=
  if lasted s b .align (axbStartAlignMs s b * msTk) then
    let t := s.clk.now
    let s := s.modAxb b fun k => { k with
      state := .ramp, since := t, rampFrom := t, zcRun := 0, earlyRun := 0 }
    (s.startStep b t (rampLen s b 0)).modAxb b fun k => { k with done := [] }
  else s

/-- RAMP_MS in ticks. -/
def rampTicks (s : State) (b : Fin 3) : Nat := axbRamp2RampMs s b * msTk

/-- The step in progress has lasted its scheduled time in RAMP. -/
def doRampStep (s : State) (b : Fin 3) : State :=
  let k := s.axb.b[b]
  let x := k.stepAt + k.stepLen
  if k.state == .ramp && decide (x ≤ s.clk.now) && decide (s.clk.now < k.rampFrom + rampTicks s b) then
    (s.modAxb b fun k => { k with zcRun := if k.crossed then k.zcRun else 0 }).startStep b x
      (rampLen s b (x - k.rampFrom))
  else s

/-- RAMP_MS has passed without lock. -/
def doRampTimeout (s : State) (b : Fin 3) : State :=
  let k := s.axb.b[b]
  if k.state == .ramp && decide (k.rampFrom + rampTicks s b ≤ s.clk.now) then s.coast b 2 else s

/-- The delay from a crossing to the next step change (R217). -/
def stepDelay (s : State) (b : Fin 3) (t60 : Nat) : Nat := t60 * (120 - min (axbZcAdvance s b) 120) / 240

/-- RUN is entered after a crossing at `stamp` (R212, R214, R217). -/
def State.enterRun (s : State) (b : Fin 3) (stamp : Nat) : State :=
  (s.modAxb b fun k => { k with
    state := .run, since := s.clk.now, runDuty := false, earlyRun := 0
    nextStep := some (stamp + stepDelay s b k.t60) }).record bAXB (0xC0 + b) 6 (s.axb.b[b].stepLen / 1600)

/-- The level that the comparator shows at the expected crossing of a step (R214). -/
def Bridge.expected (k : Bridge) : Bool := (k.step % 2 == 1) != k.dir

/-- End of the blanking time of the step in progress, which lasts BLANK / 256 of the latest step interval
(R217). -/
def blankEnd (s : State) (b : Fin 3) : Nat :=
  let k := s.axb.b[b]
  k.stepAt + axbZcBlank s b * k.t60 / 256

/-- A sample of the comparator at tick `x` counts: after blanking, and with the high side of the PWM
phase on for ZC_SETTLE cycles or all period (R217). -/
def counts (s : State) (b : Fin 3) (x : Nat) : Bool :=
  let k := s.axb.b[b]
  let q := k.phase[(stepPhases k.step).1]
  decide (blankEnd s b ≤ x) &&
    (decide (k.pb - k.pa = k.period / 40) ||
      (q.gh && decide (q.ghOn + 40 * axbZcZcSettle s b ≤ x)))

/-- A crossing of the step in progress in RAMP: it is valid within the middle half of the step (R212,
R215). The stamp of the crossing that leads to RUN gives the first T60; with ZC_LOCK 1 there is one
crossing only, and the step's length stands for it (DESIGN CHOICE, log 64). -/
def State.rampCrossing (s : State) (b : Fin 3) (stamp : Nat) : State :=
  let k := s.axb.b[b]
  if 4 * (stamp - k.stepAt) < k.stepLen ∨ stamp < k.stepAt ∨ 3 * k.stepLen ≤ 4 * (stamp - k.stepAt) then
    s.modAxb b fun k => { k with zcRun := 0 }
  else
    let first := k.zcRun = 0
    let s := s.modAxb b fun k => { k with crossed := true, zcRun := k.zcRun + 1, lastCross := stamp }
    if max (axbRamp2ZcLock s b) 1 ≤ s.axb.b[b].zcRun then
      (s.modAxb b fun k' => { k' with t60 := if first then k.stepLen else stamp - k.lastCross }).enterRun b
        stamp
    else s

/-- A crossing of the step in progress in RUN (R217). -/
def State.runCrossing (s : State) (b : Fin 3) (stamp : Nat) (early : Bool) : State :=
  let k := s.axb.b[b]
  let stamp := if early then blankEnd s b else stamp
  let s := s.modAxb b fun k => { k with
    crossed := true, lastCross := stamp, t60 := stamp - k.lastCross
    earlyRun := if early then k.earlyRun + 1 else 0
    nextStep := some (stamp + stepDelay s b (stamp - k.lastCross)) }
  if 3 ≤ s.axb.b[b].earlyRun then s.coast b 3 else s

/-- One sample of the comparator: FILT consecutive counted samples at the expected level are a crossing,
stamped with the first of them less 80 tk; if no counted sample has shown the other level since blanking
ended, the level was already present then (R217). -/
def State.zcSample (s : State) (b : Fin 3) (x : Nat × Bool) : State :=
  let k := s.axb.b[b]
  if k.crossed || !counts s b x.1 || !(k.state == .ramp || k.state == .run) then s
  else if x.2 != k.expected then s.modAxb b fun k => { k with filtRun := 0, filtSeen := true }
  else
    let s := s.modAxb b fun k => { k with
      filtRun := k.filtRun + 1, filtAt := if k.filtRun = 0 then x.1 else k.filtAt }
    let k := s.axb.b[b]
    if k.filtRun ≠ max (axbZcFilt s b) 1 then s
    else if k.state == .ramp then s.rampCrossing b (k.filtAt - 80)
    else s.runCrossing b (k.filtAt - 80) (!k.filtSeen)

/-- The scheduled step change of RUN. -/
def doStepChange (s : State) (b : Fin 3) : State :=
  let k := s.axb.b[b]
  match k.nextStep with
  | some x => if k.state == .run && decide (x ≤ s.clk.now) then s.startStep b x k.t60 else s
  | none => s

/-- Samples of the comparator of the floating phase. A step change on this tick comes first (R217). -/
def doCrossing (s : State) (b : Fin 3) (samples : List (Nat × Bool)) : State :=
  (doStepChange s b).each samples fun s x => s.zcSample b x

/-- No crossing has followed a step change within 2 × T60. -/
def doSyncLoss (s : State) (b : Fin 3) : State :=
  let k := s.axb.b[b]
  if k.state == .run && !k.crossed && decide (k.stepAt + 2 * k.t60 ≤ s.clk.now) then s.coast b 1 else s

/-- COAST_MS has passed: another start, or STALLED. -/
def doCoastEnd (s : State) (b : Fin 3) : State :=
  if lasted s b .coast (axbRamp2CoastMs s b * msTk) then
    if s.axb.b[b].restarts < axbCtlRestarts s b then
      (s.modAxb b fun k => { k with restarts := k.restarts + 1, dir := k.reqDir }).toB b .precharge
    else ((s.tally 76).record bAXB (0xC0 + b) 5 (wrapN 32 s.axb.b[b].steps)).toB b .stalled
  else s

/-- The next planned edge takes place. -/
def doPulse (s : State) (b : Fin 3) : State :=
  match s.axb.b[b].edges with
  | [] => s
  | e :: es =>
    if s.clk.power < e.tick then s else (s.modAxb b fun k => { k with edges := es }).doEdge b e

/-! ### Supplies (R211) -/

/-- The supply of bridge b is found inside or outside its range; `v` in 0.1 V. -/
def doVs (s : State) (b : Fin 3) (bad : Bool) (v : Nat) : State :=
  let out := v < axbVsVsMin s b || axbVsVsMax s b < v
  if !(axbCtlEn s b) || out != bad || s.axb.b[b].vsBad == bad then s
  else
    let s := s.modAxb b fun k => { k with vsBad := bad }
    (if bad then s.recordReport bAXB (0xC0 + b) 9 v else s.record bAXB (0xC0 + b) 10 v).watchRows

/-- VDRV falls below its threshold or recovers; `v` in 0.1 V. -/
def doVdrv (s : State) (low : Bool) (v : Nat) : State :=
  if s.axb.vdrvLow == low then s
  else
    let s := { s with axb := { s.axb with vdrvLow := low } }
    (if low then s.recordReport bAXB 0xFF 11 v else s.record bAXB 0xFF 12 v).watchRows

/-! ### The commands -/

/-- AXB_PERIOD_START (R203). -/
def execAxbPeriodStart (t : Tick) (b : Fin 3) (s : State) : Host.Outcome State Fault Refusal :=
  .next (doAxbPeriod (s.at t) b)

/-- URGENT_REQUEST (R413). -/
def execUrgentRequest (t : Tick) (b : Fin 3) (s : State) : Host.Outcome State Fault Refusal :=
  .next (doUrgent (s.at t) b)

/-- AXB_INPUT_WRITE (R205). -/
def execAxbInputWrite (t : Tick) (b : Fin 3) (s : State) : Host.Outcome State Fault Refusal :=
  .next (doAxbInput (s.at t) b)

/-- The bootstrap voltage of phase p, in 0.1 V, has risen above LOW_THR + HYST (R207). -/
def doBootHigh (s : State) (b p : Fin 3) (v : Nat) : State :=
  if axbBootLowThr s b + axbBootHyst s b < v then s.modPh b p fun k => { k with bootLow := false } else s

/-- The bootstrap voltage of phase p, in 0.1 V, has fallen below LOW_THR (R207). -/
def doBootLow (s : State) (b p : Fin 3) (v : Nat) : State :=
  if v < axbBootLowThr s b then s.bootLowAt b p v else s

/-- BOOT_LOW_CLEARED (R207). -/
def execBootLowCleared (t : Tick) (b p : Fin 3) (v : Nat) (s : State) :
    Host.Outcome State Fault Refusal := .next (doBootHigh (s.at t) b p v)

/-- BOOT_UVLO (R209). -/
def execBootUvlo (t : Tick) (b p : Fin 3) (s : State) : Host.Outcome State Fault Refusal :=
  .next (doUvlo (s.at t) b p)

/-- BOOT_UVLO_RECOVERED (R209). -/
def execBootUvloRecovered (t : Tick) (b p : Fin 3) (s : State) : Host.Outcome State Fault Refusal :=
  .next ((s.at t).modPh b p fun k => { k with uvlo := false })

/-- BOOT_LOW_ENTERED (R207). -/
def execBootLowEntered (t : Tick) (b p : Fin 3) (v : Nat) (s : State) :
    Host.Outcome State Fault Refusal := .next (doBootLow (s.at t) b p v)

/-- VS_BAD (R211). -/
def execVsBad (t : Tick) (b : Fin 3) (v : Nat) (s : State) : Host.Outcome State Fault Refusal :=
  .next (doVs (s.at t) b true v)

/-- VS_GOOD (R211). -/
def execVsGood (t : Tick) (b : Fin 3) (v : Nat) (s : State) : Host.Outcome State Fault Refusal :=
  .next (doVs (s.at t) b false v)

/-- VDRV_LOW (R211). -/
def execVdrvLow (t : Tick) (v : Nat) (s : State) : Host.Outcome State Fault Refusal :=
  .next (doVdrv (s.at t) true v)

/-- VDRV_GOOD (R211). -/
def execVdrvGood (t : Tick) (v : Nat) (s : State) : Host.Outcome State Fault Refusal :=
  .next (doVdrv (s.at t) false v)

/-- PRECHARGE_ELAPSED (R212). -/
def execPrechargeElapsed (t : Tick) (b : Fin 3) (s : State) : Host.Outcome State Fault Refusal :=
  let s := s.at t
  .next (if lasted s b .precharge (axbStartPrecharge s b * 16000) then s.enterSix b .align 0 else s)

/-- ALIGN_ELAPSED (R212). -/
def execAlignElapsed (t : Tick) (b : Fin 3) (s : State) : Host.Outcome State Fault Refusal :=
  .next (doAlignEnd (s.at t) b)

/-- RAMP_STEP (R215). -/
def execRampStep (t : Tick) (b : Fin 3) (s : State) : Host.Outcome State Fault Refusal :=
  .next (doRampStep (s.at t) b)

/-- RAMP_TIMEOUT (R212). -/
def execRampTimeout (t : Tick) (b : Fin 3) (s : State) : Host.Outcome State Fault Refusal :=
  .next (doRampTimeout (s.at t) b)

/-- STEP_CHANGE (R217). -/
def execStepChange (t : Tick) (b : Fin 3) (s : State) : Host.Outcome State Fault Refusal :=
  .next (doStepChange (s.at t) b)

/-- LOSS_OF_SYNCHRONISM (R217). -/
def execLossOfSynchronism (t : Tick) (b : Fin 3) (s : State) : Host.Outcome State Fault Refusal :=
  .next (doSyncLoss (s.at t) b)

/-- COAST_ELAPSED (R212). -/
def execCoastElapsed (t : Tick) (b : Fin 3) (s : State) : Host.Outcome State Fault Refusal :=
  .next (doCoastEnd (s.at t) b)

/-- COMMIT_TIMEOUT (R213). -/
def execCommitTimeout (t : Tick) (b : Fin 3) (s : State) : Host.Outcome State Fault Refusal :=
  .next ((s.at t).axbLapse b)

/-- RESTART_COUNT_RESET (R212). -/
def execRestartCountReset (t : Tick) (b : Fin 3) (s : State) : Host.Outcome State Fault Refusal :=
  let s := s.at t
  .next (if lasted s b .run 1600000000 then s.modAxb b fun k => { k with restarts := 0 } else s)

/-- ZERO_CROSSING (R217). -/
def execZeroCrossing (t : Tick) (b : Fin 3) (samples : List (Nat × Bool)) (s : State) :
    Host.Outcome State Fault Refusal := .next (doCrossing (s.at t) b samples)

/-- PULSE_EDGE (R200). -/
def execPulseEdge (t : Tick) (b : Fin 3) (s : State) : Host.Outcome State Fault Refusal :=
  .next (doPulse (s.at t) b)

end Sys2Proof.Machine
end

