-- ==== Sys2Proof/Machine/Drive.lean ====
section
/-!
DEFINITION. The commands of traction control: the input block with its ramps, restart requests and
standstill (R120, R134, R136 to R138).
-/

namespace Sys2Proof.Machine

open Sys2Proof

/-- Cycles of the latest pass of the engine that drives machine m (R139). -/
def lastCycles (s : State) (m : Fin 2) : Nat :=
  (s.ce[(s.red.tok[groupOf m].holder.getD (if m = 0 then 0 else 2))]).passLast

/-- TDEM of machine m at a multiple of 100 µs; a ramp of 0 is used as 1 (R137, R138, R140). -/
def State.rampInput (s : State) (m : Fin 2) : State :=
  let k := s.trx.m[m]
  match k.state with
  | .fly =>
    if k.flyAt = s.clk.now then s
    else
      let target : Int := if k.reqSpeed then (tmaxOf s m : Nat) else k.treq
      let x := rampTo k.tdem target (max (trxFlyRamp s m) 1)
      let s := s.modTrx m fun k => { k with tdem := x }
      if x = target then
        (s.modTrx m fun k => { k with state := .run }).record bTRX (0xC0 + m) 8 (lastCycles s m)
      else s
  | .exit => s.modTrx m fun k => { k with tdem := rampTo k.tdem 0 (max (trxTrateExit s m) 1) }
  | _ => s

/-- TRX writes the input block of machine m: at a multiple of 100 µs, or when a write is due. -/
def doInputWrite (s : State) (m : Fin 2) : State :=
  if !machOn s m then s
  else if s.clk.now % 160000 = 0 then
    let s := (s.rampInput m).writeInput m
    if exitDone s then s.finishExit else s
  else if s.trx.m[m].dirty then s.writeInput m
  else s

/-- A row that a flying restart may release (R136, R272). -/
def flies (s : State) (a : ActiveRow) : Bool :=
  rngActRestartable s a.row && !rngActAuto s a.row && rowMode s a.row = 0 && rowGone s a

/-- The island handles the restart request of machine m (R136, R272). -/
def doRestart (s : State) (m : Fin 2) : State :=
  let k := s.trx.m[m]
  let g := groupOf m
  if !k.restart then s
  else
    let rows := s.rng.active.filter fun a => rowGroup s a.row g
    if !rows.isEmpty && rows.all (flies s)
        && !(s.rng.failed || s.rng.brakeHold || s.rng.shutdown) then
      (s.modTrx m fun k => { k with restart := false }).each rows State.releaseRow
    else
      (s.modTrx m fun k => { k with state := .relocked, restart := false, dirty := true }).record bTRX
        (0xC0 + m) 9

/-- The speed of machine m has stayed below standstill speed for 100 ms (R134). -/
def doStandstill (s : State) (m : Fin 2) : State :=
  match s.trx.m[m].slowSince with
  | some x =>
    if isSlow s m && decide (x + 100 * msTk ≤ s.clk.now) then
      s.modTrx m fun k => { k with standstill := true }
    else s
  | none => s

/-- TRX_INPUT_WRITE (R120). -/
def execTrxInputWrite (t : Tick) (m : Fin 2) (s : State) : Host.Outcome State Fault Refusal :=
  .next (doInputWrite (s.at t) m)

/-- RESTART_REQUEST (R136). -/
def execRestartRequest (t : Tick) (m : Fin 2) (s : State) : Host.Outcome State Fault Refusal :=
  .next (doRestart (s.at t) m)

/-- STANDSTILL (R134). -/
def execStandstill (t : Tick) (m : Fin 2) (s : State) : Host.Outcome State Fault Refusal :=
  .next (doStandstill (s.at t) m)

end Sys2Proof.Machine
end

