-- ==== Sys2Proof/Machine/Gate.lean ====
section
/-!
DEFINITION. The command gate's rows: what each axle command does once the gate takes it (R40 to R50,
R118, R136, R138, R219, R232, R233, R249, R251, R255, R273, R274, R279, R280).
-/

namespace Sys2Proof.Machine

open Sys2Proof

/-! ### Conditions shared by several commands -/

/-- The mode is one of those in which R49 accepts the command. -/
def modeIn (s : State) (l : List Mode) : Bool := l.contains s.pba.mode

/-- Every configured machine's torque limit admits a torque in 0.01 N·m (R43, R118). -/
def torqueOk (s : State) (ms : List (Fin 2)) (v : Int) : Bool := ms.all fun m => v.natAbs ≤ tmaxOf s m

/-- The lowest-numbered bridge with a role (R219). -/
def bridgeOf (s : State) (role : Nat) : Option (Fin 3) := all3.find? fun b => axbCtlRole s b = role

/-- Every cause of every active row is gone. -/
def allGone (s : State) : Bool := s.rng.active.all fun a => rowGone s a

/-! ### MODE_REQ (R40) -/

/-- The targets that R40 reaches from a mode. -/
def reachable : Mode → Mode → Bool
  | .off, .standby => true
  | .standby, .off | .standby, .drive | .standby, .charge | .standby, .service => true
  | .drive, .standby | .charge, .standby | .service, .standby => true
  | _, _ => false

/-- The condition of a row of R40. -/
def modeCond (s : State) (target : Mode) : Bool :=
  match s.pba.mode, target with
  | .off, _ => pbaModeCfgHvOn s ≤ s.pba.volts
  | .standby, .drive => s.chg.cable = 0
  | .standby, .charge => axleStill s && (s.chg.pilot = 1 || s.chg.pilot = 2) && s.chg.qualified
  | .standby, .service => axleStill s
  | .drive, _ => (machines s).all fun m => (machSpeed s m).2 && absSpeed s m < 10 * trxAscAscSpeed s m
  | .service, _ => s.rng.test.step ≠ 3
  | _, _ => true

/-- The mode of a code 0 to 4. -/
def modeOf (x : Int) : Mode :=
  if x = 1 then .standby else if x = 2 then .drive else if x = 3 then .charge
  else if x = 4 then .service else .off

/-- A running session takes the exit row of R251 as a MODE_REQ STANDBY is accepted outside CHARGE. -/
def State.leaveSession (s : State) : State := if s.chg.state.session then s.chgExit else s

/-- The change that an accepted MODE_REQ makes (R40, R138, R251, R377). -/
def State.modeReq (s : State) (target : Mode) : State :=
  match s.pba.mode, target with
  | .drive, _ => s.leaveSession.startExit
  | .charge, _ => s.chgExit
  | _, .drive | _, .charge | _, .service => s.enterMode target
  | _, .standby => s.leaveSession.setMode .standby 0
  | _, _ => s.setMode target 0

/-- MODE_REQ. -/
def doModeReq (c : Cmd) (s : State) : State :=
  let target := modeOf (c.arg 1)
  let mode := s.pba.mode
  s.check c (c.arg 1 = 2) (c.target = 0 && 0 ≤ c.arg 1 && c.arg 1 ≤ 4)
    (modeIn s [.off, .standby, .drive, .charge, .service] && reachable mode target)
    (modeCond s target) fun s => (s.modeReq target).accepted c mode

/-! ### TORQUE_REQ and SPEED_REQ (R59, R118, R136 to R138) -/

/-- A request stored for machine m and its effect in the machine's state. -/
def State.request (s : State) (p : Path) (m : Fin 2) (speed : Bool) (v : Int) : State :=
  let s := s.modPba fun k => { k with traction := k.traction.set m (some p) }
  let s := s.modTrx m fun k => { k with
    treq := if speed then k.treq else v, sreq := if speed then v else k.sreq
    reqSpeed := speed, dirty := true }
  match s.trx.m[m].state with
  | .run => s.modTrx m fun k => { k with speedMode := speed, tdem := if speed then k.tdem else v }
  | .fly => s.modTrx m fun k => { k with speedMode := speed }
  | .relocked =>
    if trxFlyEn s m then
      (s.modTrx m fun k => { k with
        state := .fly, speedMode := speed, tdem := 0, observer := true, restart := true
        flyAt := s.clk.now }).record bTRX
        (0xC0 + m) 7 (wrapN 32 (if speed then sreqClamped s m else v.tdiv 10))
    else s
  | _ => s

/-- A traction request accepted for the machines that TARGET reaches. Of which consumer the response to a
TARGET 0 in CONFIG 2 carries OUTCOME and VALUE1 the spec does not say (R127 fixes LIMITER alone): of
consumer 1 (DESIGN CHOICE, log 114). -/
def State.requests (s : State) (c : Cmd) (mode : Mode) (speed : Bool) : State :=
  match reach s c.target with
  | [] => s
  | m :: ms =>
    let s := s.each (m :: ms) fun s m => s.request c.path m speed (c.arg 1)
    s.awaits c mode (if m = 0 then 1 else 2) (some m)

/-- TORQUE_REQ. -/
def doTorqueReq (c : Cmd) (s : State) : State :=
  let ms := reach s c.target
  let mode := s.pba.mode
  s.check c false (!ms.isEmpty && torqueOk s ms (c.arg 1)) (modeIn s [.drive]) true
    fun s => s.requests c mode false

/-- SPEED_REQ. -/
def doSpeedReq (c : Cmd) (s : State) : State :=
  let mode := s.pba.mode
  s.check c false (!(reach s c.target).isEmpty && (c.arg 1).natAbs ≤ 240000) (modeIn s [.drive]) true
    fun s => s.requests c mode true

/-! ### The charger (R50, R249, R251, R255) -/

/-- CHARGE_START. -/
def doChargeStart (c : Cmd) (s : State) : State :=
  let mode := s.pba.mode
  s.check c false (c.target = 0) (modeIn s [.charge]) (s.chg.state == .idle) fun s =>
    ((s.modChg fun k => { k with term := 0, thermalAtExpiry := false }).chgTo .wait).awaits c mode 6 none

/-- What an accepted CHARGE_STOP does in each supervisor state. -/
def State.chargeStop (s : State) : State :=
  if s.chg.state.session then s.handOver 3
  else if s.chg.state = .handover ∧ s.chg.term = 0 then s.modChg fun k => { k with term := 3 }
  else s

/-- CHARGE_STOP. -/
def doChargeStop (c : Cmd) (s : State) : State :=
  let mode := s.pba.mode
  s.check c false (c.target = 0) (modeIn s [.charge]) true fun s => s.chargeStop.accepted c mode

/-- CHARGE_LIMITS. -/
def doChargeLimits (c : Cmd) (s : State) : State :=
  let mode := s.pba.mode
  s.check c false
    (c.target = 0 && 0 ≤ c.arg 1 && c.arg 1 ≤ (chgMaxImax s : Nat)
      && (chgVminVmin s : Nat) ≤ c.arg 2 && c.arg 2 ≤ (chgMaxVmax s : Nat))
    (modeIn s [.standby, .charge]) true fun s =>
      (s.modChg fun k => { k with ilim := (c.arg 1).toNat, vlim := (c.arg 2).toNat }).accepted c mode

/-! ### The low-voltage converter (R232, R233) -/

/-- CONV_SETPOINT. -/
def doConvSetpoint (c : Cmd) (s : State) : State :=
  let mode := s.pba.mode
  s.check c false
    (c.target = 0
      && (c.arg 1 = 0 || ((dccLimitsVminMv s : Nat) ≤ c.arg 1 && c.arg 1 ≤ (dccLimitsVmaxMv s : Nat)))
      && 0 ≤ c.arg 2 && c.arg 2 ≤ 65535)
    (modeIn s [.standby, .drive, .charge, .service, .safeHold]) true fun s =>
      (s.dccSetpoint (c.arg 1).toNat (c.arg 2).toNat).awaits c mode 0 none

/-! ### Actuators (R50, R219) -/

/-- GEAR_SHIFT. -/
def doGearShift (c : Cmd) (s : State) : State :=
  let mode := s.pba.mode
  match bridgeOf s 2 with
  | none => s.check c false false true true id
  | some b =>
    s.check c false
      (c.target = 0 && 0 ≤ c.arg 1 && c.arg 1 ≤ 7 && c.arg 1 ≤ (axbMotorTopGear s b : Nat))
      (modeIn s [.standby, .drive, .service])
      (mode != .drive || all2.all fun m => s.trx.m[m].treq == 0) fun s =>
        (s.axbCmd b (c.arg 1)).awaits c mode (Fin.ofNat 7 (3 + b.val)) none

/-- PARK_LOCK. -/
def doParkLock (c : Cmd) (s : State) : State :=
  let mode := s.pba.mode
  match bridgeOf s 3 with
  | none => s.check c false false true true id
  | some b =>
    s.check c false (c.target = 0 && (c.arg 1 = 0 || c.arg 1 = 1))
      (modeIn s [.off, .standby, .drive, .charge, .service, .safeHold])
      (if c.arg 1 = 1 then mode != .drive || axleStill s else mode != .safeHold) fun s =>
        (s.axbCmd b (c.arg 1)).accepted c mode

/-- PUMP_SPEED. -/
def doPumpSpeed (c : Cmd) (s : State) : State :=
  let mode := s.pba.mode
  let b : Fin 3 := Fin.ofNat 3 c.target
  s.check c false
    (c.target < 3 && axbCtlRole s b = 1 && 0 ≤ c.arg 1 && c.arg 1 ≤ (axbMotorMaxRpm s b : Nat))
    (modeIn s [.off, .standby, .drive, .charge, .service, .safeHold]) true fun s =>
      (s.axbCmd b (c.arg 1)).awaits c mode (Fin.ofNat 7 (3 + b.val)) none

/-! ### The island's commands (R272 to R274, R279, R280) -/

/-- Channel n commanded energised (R274). -/
def State.energise (s : State) (n : Fin 2) : State :=
  s.modSbc n fun k =>
    if k.energised then k
    else { k with
      energised := true, changed := s.clk.now, fails := Vector.replicate 7 0
      pulse := false, pulseHigh := true, pulseAt := s.clk.now, pulseFails := 0, retryAt := none }

/-- BRAKE_RELEASE. How the gate answers a command that only the island can carry out after an island
failure the spec does not say: CONDITION_REFUSED (DESIGN CHOICE, log 131). -/
def doBrakeRelease (c : Cmd) (s : State) : State :=
  let mode := s.pba.mode
  s.check c true (c.target = 0 && 1 ≤ c.arg 1 && c.arg 1 ≤ 3) (modeIn s [.standby, .drive, .service])
    (!s.rng.failed && !(s.rng.active.any fun a => rngActBrake s a.row ≠ 0)) fun s =>
      (s.each all2 fun s n => if bit (c.arg 1).toNat n then s.energise n else s).accepted c mode

/-- BRAKE_TEST. -/
def doBrakeTest (c : Cmd) (s : State) : State :=
  let mode := s.pba.mode
  let torque : Int := if c.arg 1 = 0 then (10 * trxBtestTorque s : Nat) else c.arg 1
  s.check c true (c.target = 0 && torqueOk s (machines s) (c.arg 1)) (modeIn s [.service])
    (!s.rng.failed && axleStill s && all2.all fun n => !s.sbc.ch[n].energised) fun s =>
      (s.startTest torque false).accepted c mode

/-- RESET is accepted in the present state: type 1 in SAFE_HOLD (R40, R272), type 2 in LOCKED (R280). -/
def resetCond (s : State) (c : Cmd) : Bool :=
  if s.rng.failed then false
  else if c.arg 1 = 1 then s.pba.mode == .safeHold && allGone s && axleStill s
  else s.pba.mode == .lockout && s.rng.lock == .locked && allGone s && axleStill s && !s.rng.safeReset
    && (match c.path.blaze with
      | some i => blzCpeerPeer s i = rngResetauthId s
      | none => false)

/-- A row that RESET type 1 releases (R272): an AUTO row of MODE 0 waits for its 100 ms, and a row of MODE
2 for the deliberate reset. -/
def resetReleases (s : State) (a : ActiveRow) : Bool :=
  rowMode s a.row = 1 || (rowMode s a.row = 0 && !rngActAuto s a.row)

/-- What an accepted RESET does. -/
def State.resetReq (s : State) (kind : Int) : State :=
  if kind = 1 then
    let s := s.releaseRows (resetReleases s)
    s.setMode (restMode s) 0
  else (s.lockTo .armed).modRng fun k => { k with armedAt := s.clk.now }

/-- RESET. -/
def doReset (c : Cmd) (s : State) : State :=
  let mode := s.pba.mode
  s.check c true (c.target = 0 && (c.arg 1 = 1 || c.arg 1 = 2)) (modeIn s [.safeHold, .lockout])
    (resetCond s c) fun s => (s.resetReq (c.arg 1)).accepted c mode

/-! ### The commands -/

/-- MODE_REQ (R40). -/
def execModeReq (t : Tick) (s : State) : Host.Outcome State Fault Refusal :=
  .next ((s.at t).take 0x01 doModeReq)

/-- TORQUE_REQ (R118). -/
def execTorqueReq (t : Tick) (s : State) : Host.Outcome State Fault Refusal :=
  .next ((s.at t).take 0x10 doTorqueReq)

/-- SPEED_REQ (R118). -/
def execSpeedReq (t : Tick) (s : State) : Host.Outcome State Fault Refusal :=
  .next ((s.at t).take 0x11 doSpeedReq)

/-- CHARGE_START (R251). -/
def execChargeStart (t : Tick) (s : State) : Host.Outcome State Fault Refusal :=
  .next ((s.at t).take 0x20 doChargeStart)

/-- CHARGE_STOP (R251). -/
def execChargeStop (t : Tick) (s : State) : Host.Outcome State Fault Refusal :=
  .next ((s.at t).take 0x21 doChargeStop)

/-- CHARGE_LIMITS (R249). -/
def execChargeLimits (t : Tick) (s : State) : Host.Outcome State Fault Refusal :=
  .next ((s.at t).take 0x22 doChargeLimits)

/-- CONV_SETPOINT (R233). -/
def execConvSetpoint (t : Tick) (s : State) : Host.Outcome State Fault Refusal :=
  .next ((s.at t).take 0x30 doConvSetpoint)

/-- GEAR_SHIFT (R219). -/
def execGearShift (t : Tick) (s : State) : Host.Outcome State Fault Refusal :=
  .next ((s.at t).take 0x40 doGearShift)

/-- PARK_LOCK (R219). -/
def execParkLock (t : Tick) (s : State) : Host.Outcome State Fault Refusal :=
  .next ((s.at t).take 0x41 doParkLock)

/-- PUMP_SPEED (R219). -/
def execPumpSpeed (t : Tick) (s : State) : Host.Outcome State Fault Refusal :=
  .next ((s.at t).take 0x42 doPumpSpeed)

/-- BRAKE_RELEASE (R274). -/
def execBrakeRelease (t : Tick) (s : State) : Host.Outcome State Fault Refusal :=
  .next ((s.at t).take 0x50 doBrakeRelease)

/-- BRAKE_TEST (R279). -/
def execBrakeTest (t : Tick) (s : State) : Host.Outcome State Fault Refusal :=
  .next ((s.at t).take 0x51 doBrakeTest)

/-- RESET (R272, R280). -/
def execReset (t : Tick) (s : State) : Host.Outcome State Fault Refusal :=
  .next ((s.at t).take 0x60 doReset)

end Sys2Proof.Machine
end

