-- ==== Sys2Proof/Machine/Registers.lean ====
section
/-!
DEFINITION. Writes and reads over the interconnect: registers, memories and mailbox windows (R9, R10,
R33, R369 to R374, R463).
-/

namespace Sys2Proof.Machine

open Sys2Proof

/-- The engine and the data word of CE_DMEM at a register address (R116). -/
def dataWordAt (a : Nat) : Option (Fin 8 × Nat) :=
  if h : 0x40080000 ≤ a ∧ (a - 0x40080000) / 0x2000 < 8 then
    let o := (a - 0x40080000) % 0x2000
    if 0x1000 ≤ o then some (⟨(a - 0x40080000) / 0x2000, h.2⟩, (o - 0x1000) / 4) else none
  else none

/-- An access of initiator `id` to a register at `a` reads the row of engine memory behind it: the
state, and whether the row holds a double-bit error. A write that is held reads no row yet (R90, R95,
R369 to R371). -/
def State.regRow (s : State) (id : Fin 64) (write : Bool) (a : Nat) : State × Bool :=
  match dataWordAt a with
  | some (e, j) =>
    if write && s.ce[e].state == .running && decide (s.ce[e].hold.length < 192) then (s, false)
    else s.rowCheck id e j
  | none => (s, false)

/-- A write to a register (R9, R10, R90, R373, R374, R463). -/
def doRegWrite (s : State) (id : Fin 64) (addr size v : Nat) : State :=
  match regError s addr size with
  | 0 =>
    if lockedOut s addr v then s.busError id addr 3
    else
      let r := s.regRow id true addr
      if r.2 then r.1.busError id addr 4
      else
        let s := (r.1.busDone []).putReg id false addr v
        (if addr / 0x10000 = 0x4001 then s.writeBoot id (addr % 0x10000) v else s).bootPoll.watchRows
  | e => s.busError id addr e

/-- What a read of a register captures (R78, R150, R411). -/
def State.readCapture (s : State) (a : Nat) : State :=
  let o := a % 0x10000
  match a / 0x10000 with
  | 0x400A => s.onFam o 0x100 0x80 2 fun e r =>
      if r = 0x38 then s.modEnc e fun k => { k with captured := k.latch } else s
  | 0x6000 =>
    if o < 0x1000 then s
    else s.onFam o 0x1000 0x80 24 fun k r =>
      if r % 0x10 = 0 then doResultCapture s k (Fin.ofNat 8 (r / 0x10)) else s
  | 0x6001 => s.onFam o 0x200 8 48 fun i r => if r = 0 then doHkaCapture s i else s
  | _ => s

/-- A read of a register. -/
def doRegRead (s : State) (id : Fin 64) (addr size : Nat) : State :=
  match regError s addr size with
  | 0 =>
    let r := s.regRow id false addr
    if r.2 then r.1.busError id addr 4
    else (r.1.busDone (leBytes 4 (readReg r.1 addr))).readCapture addr
  | e => s.busError id addr e

/-- The mailbox whose window holds an address (R378). -/
def boxAt (a : Nat) : Option (Fin 64) :=
  if h : 0x40021000 ≤ a ∧ (a - 0x40021000) / 32 < 64 then some ⟨(a - 0x40021000) / 32, h.2⟩ else none

/-- The word of an access that reaches its target is checked there: flips on the interconnect are
corrected, or refuse the access (R368, R370, R371). -/
def State.onWire (s : State) (id : Fin 64) (addr : Nat) (wire : List (Fin 266)) (f : State → State) : State :=
  let r := s.eccNote (some id) (wordOf (busAddr id addr)) wire
  if r.2 then r.1.busError id addr 4 else f r.1

/-- A write of up to 32 bytes at a bus address. -/
def doBusWrite (s : State) (id : Fin 64) (addr : Nat) (bs : List Byte) (up wire : List (Fin 266)) : State :=
  let a := busAddr id addr
  match boxAt a with
  | some m =>
    if a % 32 = 0 then
      match mbxReach s m with
      | 0 => s.onWire id addr wire fun s => doMbxWrite s id m bs.length (BitVec.ofNat 256 (leNat bs))
      | e => s.busError id addr e
    else s.busError id addr 2
  | none =>
    if inSram a || (tcmCore a).isSome then
      match memReach s a with
      | 0 => (s.upset (wordOf a) up).onWire id addr wire fun s => s.memWrite id addr a bs
      | e => s.busError id addr e
    else match regError s addr bs.length with
      | 0 => s.onWire id addr wire fun s => doRegWrite s id addr bs.length (leNat bs)
      | e => s.busError id addr e

/-- A read of up to 32 bytes at a bus address. -/
def doBusRead (s : State) (id : Fin 64) (addr n : Nat) (up wire : List (Fin 266)) : State :=
  let a := busAddr id addr
  match boxAt a with
  | some m =>
    if a % 4 = 0 ∧ (n = 4 ∨ a % 32 = 0) then
      match mbxReach s m with
      | 0 => s.onWire id addr wire fun s => doMbxRead s id m n (Fin.ofNat 8 (a / 4))
      | e => s.busError id addr e
    else s.busError id addr 2
  | none =>
    if inSram a || (tcmCore a).isSome then
      match memReach s a with
      | 0 => (s.upset (wordOf a) up).memRead id addr a n wire
      | e => s.busError id addr e
    else match regError s addr n with
      | 0 => s.onWire id addr wire fun s => doRegRead s id addr n
      | e => s.busError id addr e

/-- REGISTER_WRITE (R9). -/
def execRegisterWrite (t : Tick) (id : Fin 64) (addr : Word32) (size : Nat) (v : Word32) (s : State) :
    Host.Outcome State Fault Refusal :=
  .next (doRegWrite (s.at t) id addr.toNat size v.toNat)

/-- MEMORY_WRITE (R366, R369, R371). A size that no word holds answers SIZE (R374). -/
def execMemoryWrite (t : Tick) (id : Fin 64) (addr : Word32) (data : List Byte)
    (upset wire : List (Fin 266)) (s : State) : Host.Outcome State Fault Refusal :=
  if data.isEmpty || decide (32 < addr.toNat % 32 + data.length) then
    .next ((s.at t).busError id addr.toNat 2)
  else .next (doBusWrite (s.at t) id addr.toNat data upset wire)

/-- MEMORY_READ (R366, R370, R371). A size that no word holds answers SIZE (R374). -/
def execMemoryRead (t : Tick) (id : Fin 64) (addr : Word32) (size : Nat)
    (upset wire : List (Fin 266)) (s : State) : Host.Outcome State Fault Refusal :=
  if size = 0 ∨ 32 < addr.toNat % 32 + size then .next ((s.at t).busError id addr.toNat 2)
  else .next (doBusRead (s.at t) id addr.toNat size upset wire)

end Sys2Proof.Machine
end

