-- ==== Sys2Proof/Machine/Dispatch.lean ====
section
/-!
DEFINITION. One arm per command: the meaning of each row of the table.
-/

namespace Sys2Proof.Machine

open Sys2Proof

/-- The effect of a command on everything but the queue. -/
def exec (i : Instr) (s : State) : Host.Outcome State Fault Refusal :=
  match i with
  | .registerWrite t id addr size v => Sys2Proof.Machine.execRegisterWrite t id addr size v s
  | .memoryWrite t id addr data upset wire => Sys2Proof.Machine.execMemoryWrite t id addr data upset wire s
  | .memoryRead t id addr size upset wire => Sys2Proof.Machine.execMemoryRead t id addr size upset wire s
  | .correctedWriteback t => Sys2Proof.Machine.execCorrectedWriteback t s
  | .scrub t upset => Sys2Proof.Machine.execScrub t upset s
  | .timeBeacon t => Sys2Proof.Machine.execTimeBeacon t s
  | .powerTbStale t => Sys2Proof.Machine.execPowerTbStale t s
  | .d2dInterfaceLoss t => Sys2Proof.Machine.execD2dInterfaceLoss t s
  | .speedReport t => Sys2Proof.Machine.execSpeedReport t s
  | .lossPatternRefresh t => Sys2Proof.Machine.execLossPatternRefresh t s
  | .canFrameReceived t ch stamp f => Sys2Proof.Machine.execCanFrameReceived t ch stamp f s
  | .limitRegisterWrite t chg v => Sys2Proof.Machine.execLimitRegisterWrite t chg v s
  | .modeReq t => Sys2Proof.Machine.execModeReq t s
  | .torqueReq t => Sys2Proof.Machine.execTorqueReq t s
  | .speedReq t => Sys2Proof.Machine.execSpeedReq t s
  | .chargeStart t => Sys2Proof.Machine.execChargeStart t s
  | .chargeStop t => Sys2Proof.Machine.execChargeStop t s
  | .chargeLimits t => Sys2Proof.Machine.execChargeLimits t s
  | .convSetpoint t => Sys2Proof.Machine.execConvSetpoint t s
  | .gearShift t => Sys2Proof.Machine.execGearShift t s
  | .parkLock t => Sys2Proof.Machine.execParkLock t s
  | .pumpSpeed t => Sys2Proof.Machine.execPumpSpeed t s
  | .brakeRelease t => Sys2Proof.Machine.execBrakeRelease t s
  | .brakeTest t => Sys2Proof.Machine.execBrakeTest t s
  | .reset t => Sys2Proof.Machine.execReset t s
  | .arbiterCycle t => Sys2Proof.Machine.execArbiterCycle t s
  | .limitsStale t => Sys2Proof.Machine.execLimitsStale t s
  | .dcLinkLowTimeout t => Sys2Proof.Machine.execDcLinkLowTimeout t s
  | .windowSeal t k w samples => Sys2Proof.Machine.execWindowSeal t k w samples s
  | .resultCapture t k w => Sys2Proof.Machine.execResultCapture t k w s
  | .refSettled t r mv => Sys2Proof.Machine.execRefSettled t r mv s
  | .refExtBad t mv => Sys2Proof.Machine.execRefExtBad t mv s
  | .refExtReturn t => Sys2Proof.Machine.execRefExtReturn t s
  | .calibrationStart t => Sys2Proof.Machine.execCalibrationStart t s
  | .calOverlapEnd t mc ms => Sys2Proof.Machine.execCalOverlapEnd t mc ms s
  | .channelSwitchover t => Sys2Proof.Machine.execChannelSwitchover t s
  | .calLevelsDone t m0 mp mm => Sys2Proof.Machine.execCalLevelsDone t m0 mp mm s
  | .calReturnOverlapEnd t mc ms => Sys2Proof.Machine.execCalReturnOverlapEnd t mc ms s
  | .engineTimerTrigger t e => Sys2Proof.Machine.execEngineTimerTrigger t e s
  | .swtrig t e => Sys2Proof.Machine.execSwtrig t e s
  | .run t e v => Sys2Proof.Machine.execRun t e v s
  | .passStart t e pup dup => Sys2Proof.Machine.execPassStart t e pup dup s
  | .dmemWrite t e j v => Sys2Proof.Machine.execDmemWrite t e j v s
  | .nop e => Sys2Proof.Machine.execNop e s
  | .ld e => Sys2Proof.Machine.execLd e s
  | .st e => Sys2Proof.Machine.execSt e s
  | .ldi e => Sys2Proof.Machine.execLdi e s
  | .mov e => Sys2Proof.Machine.execMov e s
  | .movs e => Sys2Proof.Machine.execMovs e s
  | .add e => Sys2Proof.Machine.execAdd e s
  | .sub e => Sys2Proof.Machine.execSub e s
  | .abs e => Sys2Proof.Machine.execAbs e s
  | .shf e => Sys2Proof.Machine.execShf e s
  | .mul e => Sys2Proof.Machine.execMul e s
  | .mac e => Sys2Proof.Machine.execMac e s
  | .msu e => Sys2Proof.Machine.execMsu e s
  | .mva e => Sys2Proof.Machine.execMva e s
  | .div e => Sys2Proof.Machine.execDiv e s
  | .sincos e => Sys2Proof.Machine.execSincos e s
  | .clarke e => Sys2Proof.Machine.execClarke e s
  | .park e => Sys2Proof.Machine.execPark e s
  | .pi e => Sys2Proof.Machine.execPi e s
  | .svm e => Sys2Proof.Machine.execSvm e s
  | .lim e => Sys2Proof.Machine.execLim e s
  | .mins e => Sys2Proof.Machine.execMins e s
  | .maxs e => Sys2Proof.Machine.execMaxs e s
  | .lut e => Sys2Proof.Machine.execLut e s
  | .br e => Sys2Proof.Machine.execBr e s
  | .call e => Sys2Proof.Machine.execCall e s
  | .ret e => Sys2Proof.Machine.execRet e s
  | .endPass e => Sys2Proof.Machine.execEndPass e s
  | .duty e => Sys2Proof.Machine.execDuty e s
  | .commit e => Sys2Proof.Machine.execCommit e s
  | .renew e => Sys2Proof.Machine.execRenew e s
  | .post e => Sys2Proof.Machine.execPost e s
  | .fclr e => Sys2Proof.Machine.execFclr e s
  | .illegalOp e => Sys2Proof.Machine.execIllegalOp e s
  | .overtime e => Sys2Proof.Machine.execOvertime e s
  | .programLoad t e v => Sys2Proof.Machine.execProgramLoad t e v s
  | .programLoaded t e => Sys2Proof.Machine.execProgramLoaded t e s
  | .trxInputWrite t m => Sys2Proof.Machine.execTrxInputWrite t m s
  | .restartRequest t m => Sys2Proof.Machine.execRestartRequest t m s
  | .standstill t m => Sys2Proof.Machine.execStandstill t m s
  | .encoderInputChange t e a b z => Sys2Proof.Machine.execEncoderInputChange t e a b z s
  | .observerStep t => Sys2Proof.Machine.execObserverStep t s
  | .setref t e => Sys2Proof.Machine.execSetref t e s
  | .clear t e => Sys2Proof.Machine.execClear t e s
  | .arm t e => Sys2Proof.Machine.execArm t e s
  | .latch t e => Sys2Proof.Machine.execLatch t e s
  | .deliveryTick t e => Sys2Proof.Machine.execDeliveryTick t e s
  | .lposCapture t e => Sys2Proof.Machine.execLposCapture t e s
  | .carrierPeriodStart t g => Sys2Proof.Machine.execCarrierPeriodStart t g s
  | .commitConversion t g => Sys2Proof.Machine.execCommitConversion t g s
  | .edgeFrame t l => Sys2Proof.Machine.execEdgeFrame t l s
  | .beacon t l => Sys2Proof.Machine.execBeacon t l s
  | .lossFrame t l => Sys2Proof.Machine.execLossFrame t l s
  | .faultComma t l b1 b2 => Sys2Proof.Machine.execFaultComma t l b1 b2 s
  | .status t l chars => Sys2Proof.Machine.execStatus t l chars s
  | .configReply t l chars => Sys2Proof.Machine.execConfigReply t l chars s
  | .echoReply t l chars => Sys2Proof.Machine.execEchoReply t l chars s
  | .alignmentAchieved t l => Sys2Proof.Machine.execAlignmentAchieved t l s
  | .alignTimeout t l => Sys2Proof.Machine.execAlignTimeout t l s
  | .replyTimeout t l => Sys2Proof.Machine.execReplyTimeout t l s
  | .syncTimeout t l => Sys2Proof.Machine.execSyncTimeout t l s
  | .statusSilence t l => Sys2Proof.Machine.execStatusSilence t l s
  | .alignmentLost t l => Sys2Proof.Machine.execAlignmentLost t l s
  | .codeErrors t l => Sys2Proof.Machine.execCodeErrors t l s
  | .retrain t l => Sys2Proof.Machine.execRetrain t l s
  | .configExchange t id l v => Sys2Proof.Machine.execConfigExchange t id l v s
  | .leaseExpiry t g => Sys2Proof.Machine.execLeaseExpiry t g s
  | .tokenUnclaimed t g => Sys2Proof.Machine.execTokenUnclaimed t g s
  | .faultReport t => Sys2Proof.Machine.execFaultReport t s
  | .setDecided t g => Sys2Proof.Machine.execSetDecided t g s
  | .axbPeriodStart t b => Sys2Proof.Machine.execAxbPeriodStart t b s
  | .urgentRequest t b => Sys2Proof.Machine.execUrgentRequest t b s
  | .axbInputWrite t b => Sys2Proof.Machine.execAxbInputWrite t b s
  | .bootLowCleared t b p v => Sys2Proof.Machine.execBootLowCleared t b p v s
  | .bootUvlo t b p => Sys2Proof.Machine.execBootUvlo t b p s
  | .bootLowEntered t b p v => Sys2Proof.Machine.execBootLowEntered t b p v s
  | .vsBad t b v => Sys2Proof.Machine.execVsBad t b v s
  | .vsGood t b v => Sys2Proof.Machine.execVsGood t b v s
  | .vdrvLow t v => Sys2Proof.Machine.execVdrvLow t v s
  | .vdrvGood t v => Sys2Proof.Machine.execVdrvGood t v s
  | .prechargeElapsed t b => Sys2Proof.Machine.execPrechargeElapsed t b s
  | .alignElapsed t b => Sys2Proof.Machine.execAlignElapsed t b s
  | .rampStep t b => Sys2Proof.Machine.execRampStep t b s
  | .rampTimeout t b => Sys2Proof.Machine.execRampTimeout t b s
  | .stepChange t b => Sys2Proof.Machine.execStepChange t b s
  | .lossOfSynchronism t b => Sys2Proof.Machine.execLossOfSynchronism t b s
  | .coastElapsed t b => Sys2Proof.Machine.execCoastElapsed t b s
  | .commitTimeout t b => Sys2Proof.Machine.execCommitTimeout t b s
  | .restartCountReset t b => Sys2Proof.Machine.execRestartCountReset t b s
  | .zeroCrossing t b samples => Sys2Proof.Machine.execZeroCrossing t b samples s
  | .turnOnEntry t p cur => Sys2Proof.Machine.execTurnOnEntry t p cur s
  | .peakTrip t p => Sys2Proof.Machine.execPeakTrip t p s
  | .syncInEdge t => Sys2Proof.Machine.execSyncInEdge t s
  | .syncLost t => Sys2Proof.Machine.execSyncLost t s
  | .vrefSlew t => Sys2Proof.Machine.execVrefSlew t s
  | .retryWaitExpiry t => Sys2Proof.Machine.execRetryWaitExpiry t s
  | .pilotCycle t vh vl period duty => Sys2Proof.Machine.execPilotCycle t vh vl period duty s
  | .ppMeasurement t ohms => Sys2Proof.Machine.execPpMeasurement t ohms s
  | .iinLimitUpdate t => Sys2Proof.Machine.execIinLimitUpdate t s
  | .qualified t => Sys2Proof.Machine.execQualified t s
  | .supervisorEvaluation t => Sys2Proof.Machine.execSupervisorEvaluation t s
  | .tempStale t => Sys2Proof.Machine.execTempStale t s
  | .obcInputWrite t => Sys2Proof.Machine.execObcInputWrite t s
  | .safetyTimerExpiry t => Sys2Proof.Machine.execSafetyTimerExpiry t s
  | .waitTimeout t => Sys2Proof.Machine.execWaitTimeout t s
  | .precondTimeout t => Sys2Proof.Machine.execPrecondTimeout t s
  | .noSupply t => Sys2Proof.Machine.execNoSupply t s
  | .cvEntry t => Sys2Proof.Machine.execCvEntry t s
  | .terminationCurrentHold t => Sys2Proof.Machine.execTerminationCurrentHold t s
  | .topoffElapsed t => Sys2Proof.Machine.execTopoffElapsed t s
  | .recharge t => Sys2Proof.Machine.execRecharge t s
  | .rampEnd t => Sys2Proof.Machine.execRampEnd t s
  | .handoverDone t => Sys2Proof.Machine.execHandoverDone t s
  | .clockMeasurement t c0 c1 c2 c3 c4 => Sys2Proof.Machine.execClockMeasurement t c0 c1 c2 c3 c4 s
  | .supplyComparison t v0 v1 v2 v3 v4 v5 => Sys2Proof.Machine.execSupplyComparison t v0 v1 v2 v3 v4 v5 s
  | .islandFailure t => Sys2Proof.Machine.execIslandFailure t s
  | .vddSafeLow t => Sys2Proof.Machine.execVddSafeLow t s
  | .aliveToggle t => Sys2Proof.Machine.execAliveToggle t s
  | .autoRelease t r => Sys2Proof.Machine.execAutoRelease t r s
  | .testPulse t n => Sys2Proof.Machine.execTestPulse t n s
  | .pulseCheck t n v => Sys2Proof.Machine.execPulseCheck t n v s
  | .brakeCheck t n vhs vls vfb icoil vbrk => Sys2Proof.Machine.execBrakeCheck t n vhs vls vfb icoil vbrk s
  | .moveCheck t => Sys2Proof.Machine.execMoveCheck t s
  | .torqueCheck t => Sys2Proof.Machine.execTorqueCheck t s
  | .brakeTestTorqueEnd t => Sys2Proof.Machine.execBrakeTestTorqueEnd t s
  | .safeResetRise t => Sys2Proof.Machine.execSafeResetRise t s
  | .safeResetFall t => Sys2Proof.Machine.execSafeResetFall t s
  | .pressTimeout t => Sys2Proof.Machine.execPressTimeout t s
  | .armTimeout t => Sys2Proof.Machine.execArmTimeout t s
  | .flogStore t => Sys2Proof.Machine.execFlogStore t s
  | .flogClear t v => Sys2Proof.Machine.execFlogClear t v s
  | .shutdownTrip t n => Sys2Proof.Machine.execShutdownTrip t n s
  | .shutdownResetHold t => Sys2Proof.Machine.execShutdownResetHold t s
  | .blazeFrame t => Sys2Proof.Machine.execBlazeFrame t s
  | .silenceTest t => Sys2Proof.Machine.execSilenceTest t s
  | .blazeTransmit t n => Sys2Proof.Machine.execBlazeTransmit t n s
  | .heartbeat t n => Sys2Proof.Machine.execHeartbeat t n s
  | .restart t n => Sys2Proof.Machine.execRestart t n s
  | .lockstepMismatch t k pc => Sys2Proof.Machine.execLockstepMismatch t k pc s
  | .selfTestCycle t detected => Sys2Proof.Machine.execSelfTestCycle t detected s
  | .roleSwap t => Sys2Proof.Machine.execRoleSwap t s
  | .handOverRequest t g v => Sys2Proof.Machine.execHandOverRequest t g v s
  | .tokenHanded t g => Sys2Proof.Machine.execTokenHanded t g s
  | .axleStateTick t => Sys2Proof.Machine.execAxleStateTick t s
  | .axleTokenFrame t => Sys2Proof.Machine.execAxleTokenFrame t s
  | .axleClaim t g => Sys2Proof.Machine.execAxleClaim t g s
  | .yieldTimeout t g => Sys2Proof.Machine.execYieldTimeout t g s
  | .peerUnhealthy t p => Sys2Proof.Machine.execPeerUnhealthy t p s
  | .portAligned t p => Sys2Proof.Machine.execPortAligned t p s
  | .credit t p bs => Sys2Proof.Machine.execCredit t p bs s
  | .creditUpdate t p => Sys2Proof.Machine.execCreditUpdate t p s
  | .portSilence t p cause => Sys2Proof.Machine.execPortSilence t p cause s
  | .cruiseTimeout t p => Sys2Proof.Machine.execCruiseTimeout t p s
  | .cruise t p bs => Sys2Proof.Machine.execCruise t p bs s
  | .cruiseTick t => Sys2Proof.Machine.execCruiseTick t s
  | .viewStable t => Sys2Proof.Machine.execViewStable t s
  | .assignReq t p bs => Sys2Proof.Machine.execAssignReq t p bs s
  | .assign t p bs => Sys2Proof.Machine.execAssign t p bs s
  | .assignRetry t => Sys2Proof.Machine.execAssignRetry t s
  | .unblazedRetry t => Sys2Proof.Machine.execUnblazedRetry t s
  | .holdExpiry t => Sys2Proof.Machine.execHoldExpiry t s
  | .route t p bs => Sys2Proof.Machine.execRoute t p bs s
  | .routeAdvertisement t p => Sys2Proof.Machine.execRouteAdvertisement t p s
  | .routeUpdate t p => Sys2Proof.Machine.execRouteUpdate t p s
  | .routeWithdrawal t => Sys2Proof.Machine.execRouteWithdrawal t s
  | .register t p bs => Sys2Proof.Machine.execRegister t p bs s
  | .registerReply t p bs => Sys2Proof.Machine.execRegisterReply t p bs s
  | .registerRetry t => Sys2Proof.Machine.execRegisterRetry t s
  | .refusal t p bs => Sys2Proof.Machine.execRefusal t p bs s
  | .data t p stamp bs => Sys2Proof.Machine.execData t p stamp bs s
  | .outputFrame t p => Sys2Proof.Machine.execOutputFrame t p s
  | .c1AgeDrop t p => Sys2Proof.Machine.execC1AgeDrop t p s
  | .timeExchange t => Sys2Proof.Machine.execTimeExchange t s
  | .timeReq t p stamp bs => Sys2Proof.Machine.execTimeReq t p stamp bs s
  | .timeResp t p stamp bs => Sys2Proof.Machine.execTimeResp t p stamp bs s
  | .timeExchangeTimeout t => Sys2Proof.Machine.execTimeExchangeTimeout t s
  | .tbAlignTimeout t => Sys2Proof.Machine.execTbAlignTimeout t s
  | .txpost t id v => Sys2Proof.Machine.execTxpost t id v s
  | .recordFetch t => Sys2Proof.Machine.execRecordFetch t s
  | .shsel t id ch b => Sys2Proof.Machine.execShsel t id ch b s
  | .txcmdGo t id ch b => Sys2Proof.Machine.execTxcmdGo t id ch b s
  | .abort t id ch b => Sys2Proof.Machine.execAbort t id ch b s
  | .transmissionEnd t ch res delay => Sys2Proof.Machine.execTransmissionEnd t ch res delay s
  | .canError t ch k flag => Sys2Proof.Machine.execCanError t ch k flag s
  | .recover t id ch => Sys2Proof.Machine.execRecover t id ch s
  | .busOn t ch => Sys2Proof.Machine.execBusOn t ch s
  | .mailboxWrite t id m size w => Sys2Proof.Machine.execMailboxWrite t id m size w s
  | .mailboxRead t id m size j => Sys2Proof.Machine.execMailboxRead t id m size j s
  | .ringEntryWrite t => Sys2Proof.Machine.execRingEntryWrite t s
  | .ringRelease t r v => Sys2Proof.Machine.execRingRelease t r v s
  | .powerDomainRequest t v => Sys2Proof.Machine.execPowerDomainRequest t v s
  | .domainTransitionEnd t d => Sys2Proof.Machine.execDomainTransitionEnd t d s
  | .resetAssert t cells => Sys2Proof.Machine.execResetAssert t cells s
  | .resetRelease t bootSlot splitEn strapTest => Sys2Proof.Machine.execResetRelease t bootSlot splitEn strapTest s
  | .pllLock t => Sys2Proof.Machine.execPllLock t s
  | .flogRead t => Sys2Proof.Machine.execFlogRead t s
  | .slotSelect t silent => Sys2Proof.Machine.execSlotSelect t silent s
  | .imageReadDone t => Sys2Proof.Machine.execImageReadDone t s
  | .startLock t => Sys2Proof.Machine.execStartLock t s
  | .erase t id => Sys2Proof.Machine.execErase t id s
  | .program t id => Sys2Proof.Machine.execProgram t id s
  | .verify t id => Sys2Proof.Machine.execVerify t id s
  | .select t id => Sys2Proof.Machine.execSelect t id s
  | .nvOperationDone t err => Sys2Proof.Machine.execNvOperationDone t err s
  | .activate t v => Sys2Proof.Machine.execActivate t v s
  | .activationReadDone t => Sys2Proof.Machine.execActivationReadDone t s
  | .stepWaitExpiry t => Sys2Proof.Machine.execStepWaitExpiry t s
  | .raise t v => Sys2Proof.Machine.execRaise t v s
  | .hold t k v => Sys2Proof.Machine.execHold t k v s
  | .checkpoint t k => Sys2Proof.Machine.execCheckpoint t k s
  | .holdWaitExpiry t k => Sys2Proof.Machine.execHoldWaitExpiry t k s
  | .pairLoadDone t k => Sys2Proof.Machine.execPairLoadDone t k s
  | .sequenceLoopStart t => Sys2Proof.Machine.execSequenceLoopStart t s
  | .conversionEnd t code => Sys2Proof.Machine.execConversionEnd t code s
  | .idleSensorConversion t => Sys2Proof.Machine.execIdleSensorConversion t s
  | .hkaResultCapture t n => Sys2Proof.Machine.execHkaResultCapture t n s
  | .modelStep t => Sys2Proof.Machine.execModelStep t s
  | .coolantStale t m => Sys2Proof.Machine.execCoolantStale t m s
  | .traceTime t => Sys2Proof.Machine.execTraceTime t s
  | .packetSend t => Sys2Proof.Machine.execPacketSend t s
  | .message t id v => Sys2Proof.Machine.execMessage t id v s
  | .talInc t id v => Sys2Proof.Machine.execTalInc t id v s
  | .tmaxTurnOff t p => Sys2Proof.Machine.execTmaxTurnOff t p s
  | .bootUvloRecovered t b p => Sys2Proof.Machine.execBootUvloRecovered t b p s
  | .vddSafePowerOn t => Sys2Proof.Machine.execVddSafePowerOn t s
  | .clockNoEdge t c => Sys2Proof.Machine.execClockNoEdge t c s
  | .conversionAperture t => Sys2Proof.Machine.execConversionAperture t s
  | .samplePacket t lane samples => Sys2Proof.Machine.execSamplePacket t lane samples s
  | .syncOutTransition t v => Sys2Proof.Machine.execSyncOutTransition t v s
  | .pulseEdge t b => Sys2Proof.Machine.execPulseEdge t b s

end Sys2Proof.Machine
end

