-- ==== Sys2Proof/WellFormed.lean ====
section
/-!
DEFINITION. Which terms of `Instr` a device can meet: operands in the ranges that the spec gives
them. The machine gives every term a meaning; a term that is not well formed describes an input that
cannot occur.
-/

namespace Sys2Proof

/-- An access of n bytes, 1 to 32, lies inside one 256-bit word (R369). -/
def inWord (addr : Word32) (n : Nat) : Bool := 1 ≤ n && addr.toNat % 32 + n ≤ 32

/-- The bytes that a DLC stands for (R345, ISO 11898-1). -/
def dlcLength (fdf : Bool) (dlc : Nat) : Nat :=
  if dlc ≤ 8 then dlc
  else if fdf then [12, 16, 20, 24, 32, 48, 64].getD (dlc - 9) 64 else 8

/-- A frame that a bus can carry: the identifier fits its format, and the data are as many bytes as
the DLC says; a remote frame has none and is no FD frame (R345, R364). -/
def CanFrame.wellFormed (f : CanFrame) : Bool :=
  decide (f.ident < if f.ide then 2 ^ 29 else 2 ^ 11) && decide (f.dlc < 16) && !(f.rtr && f.fdf)
    && (f.fdf || (!f.brs && !f.esi && !f.res))
    && f.data.length == (if f.rtr then 0 else dlcLength f.fdf f.dlc)

/-- The stamps of the samples of one converter: 40 tk apart, but for a beacon load, which moves them by
up to 12 tk and comes once in 1,600 tk (R29, R63, R66, R72). `since` is the time since the last load in
the list. -/
def stampsSpaced (since : Nat) : List Sample → Bool
  | a :: b :: t =>
    if a.stamp + 40 = b.stamp then stampsSpaced (since + 40) (b :: t)
    else decide (a.stamp + 28 ≤ b.stamp) && decide (b.stamp ≤ a.stamp + 52)
      && decide (1560 ≤ since) && stampsSpaced 0 (b :: t)
  | _ => true

/-- The stamps follow a lattice of 40 tk that starts at `b`, each within `e` of its place (R66, R72). -/
def nearLattice (e : Nat) : Nat → List Sample → Bool
  | _, [] => true
  | b, q :: qs => decide (b ≤ q.stamp + e) && decide (q.stamp ≤ b + e) && nearLattice e (b + 40) qs

/-- The samples of one converter, one on each edge of CLK_ADC: a load of the power die's copy moves the
lattice by up to 12 tk either way (R29, R63, R66). -/
def sampled (l : List Sample) : Bool :=
  stampsSpaced 1600 l && nearLattice 24 (l.head?.elim 0 fun q => q.stamp) l

/-- The comparator is sampled on edges of CLK_ADC (R217). -/
def samplesRise : List (Nat × Bool) → Bool
  | a :: b :: t => decide (a.1 + 28 ≤ b.1) && samplesRise (b :: t)
  | _ => true

/-- An ID that an initiator carries on an access (R35). -/
def isInitiator (id : Fin 64) : Bool :=
  id ≤ 12 || (16 ≤ id && id ≤ 31) || id == 33 || id == 34

/-- A number from its bytes, the lowest first. -/
def bytesNat : List Byte → Nat
  | [] => 0
  | b :: bs => b.toNat + 256 * bytesNat bs

/-- A fabric frame has at most 8 + 256 + 4 bytes between SOF and EOF (R317). -/
def frameFits (bs : List Byte) : Bool := decide (bs.length ≤ 268)

/-- The operands of a command lie in the ranges that the spec gives them. -/
def Instr.wellFormed : Instr → Bool
  | .registerWrite _ id _ size _ => isInitiator id && 1 ≤ size && size ≤ 32
  | .memoryWrite _ id addr bytes _ _ => isInitiator id && inWord addr bytes.length
  | .memoryRead _ id addr size _ _ => isInitiator id && inWord addr size
  | .correctedWriteback _ => true
  | .scrub _ _ => true
  | .timeBeacon _ => true
  | .powerTbStale _ => true
  | .d2dInterfaceLoss _ => true
  | .speedReport _ => true
  | .lossPatternRefresh _ => true
  | .canFrameReceived _ _ _ f => f.wellFormed
  | .limitRegisterWrite _ _ _ => true
  | .modeReq _ => true
  | .torqueReq _ => true
  | .speedReq _ => true
  | .chargeStart _ => true
  | .chargeStop _ => true
  | .chargeLimits _ => true
  | .convSetpoint _ => true
  | .gearShift _ => true
  | .parkLock _ => true
  | .pumpSpeed _ => true
  | .brakeRelease _ => true
  | .brakeTest _ => true
  | .reset _ => true
  | .arbiterCycle _ => true
  | .limitsStale _ => true
  | .dcLinkLowTimeout _ => true
  | .windowSeal _ _ _ samples => sampled samples
  | .resultCapture _ _ _ => true
  | .refSettled _ _ _ => true
  | .refExtBad _ _ => true
  | .refExtReturn _ => true
  | .calibrationStart _ => true
  | .calOverlapEnd _ _ _ => true
  | .channelSwitchover _ => true
  | .calLevelsDone _ _ _ _ => true
  | .calReturnOverlapEnd _ _ _ => true
  | .engineTimerTrigger _ _ => true
  | .swtrig _ _ => true
  | .run _ _ _ => true
  | .passStart _ _ _ _ => true
  | .dmemWrite _ _ _ _ => true
  | .nop _ => true
  | .ld _ => true
  | .st _ => true
  | .ldi _ => true
  | .mov _ => true
  | .movs _ => true
  | .add _ => true
  | .sub _ => true
  | .abs _ => true
  | .shf _ => true
  | .mul _ => true
  | .mac _ => true
  | .msu _ => true
  | .mva _ => true
  | .div _ => true
  | .sincos _ => true
  | .clarke _ => true
  | .park _ => true
  | .pi _ => true
  | .svm _ => true
  | .lim _ => true
  | .mins _ => true
  | .maxs _ => true
  | .lut _ => true
  | .br _ => true
  | .call _ => true
  | .ret _ => true
  | .endPass _ => true
  | .duty _ => true
  | .commit _ => true
  | .renew _ => true
  | .post _ => true
  | .fclr _ => true
  | .illegalOp _ => true
  | .overtime _ => true
  | .programLoad _ _ _ => true
  | .programLoaded _ _ => true
  | .trxInputWrite _ _ => true
  | .restartRequest _ _ => true
  | .standstill _ _ => true
  | .encoderInputChange _ _ _ _ _ => true
  | .observerStep _ => true
  | .setref _ _ => true
  | .clear _ _ => true
  | .arm _ _ => true
  | .latch _ _ => true
  | .deliveryTick _ _ => true
  | .lposCapture _ _ => true
  | .carrierPeriodStart _ _ => true
  | .commitConversion _ _ => true
  | .edgeFrame _ _ => true
  | .beacon _ _ => true
  | .lossFrame _ _ => true
  | .faultComma _ _ _ _ => true
  | .status _ _ _ => true
  | .configReply _ _ _ => true
  | .echoReply _ _ _ => true
  | .alignmentAchieved _ _ => true
  | .alignTimeout _ _ => true
  | .replyTimeout _ _ => true
  | .syncTimeout _ _ => true
  | .statusSilence _ _ => true
  | .alignmentLost _ _ => true
  | .codeErrors _ _ => true
  | .retrain _ _ => true
  | .configExchange _ id _ _ => isInitiator id
  | .leaseExpiry _ _ => true
  | .tokenUnclaimed _ _ => true
  | .faultReport _ => true
  | .setDecided _ _ => true
  | .axbPeriodStart _ _ => true
  | .urgentRequest _ _ => true
  | .axbInputWrite _ _ => true
  | .bootLowCleared _ _ _ _ => true
  | .bootUvlo _ _ _ => true
  | .bootLowEntered _ _ _ _ => true
  | .vsBad _ _ _ => true
  | .vsGood _ _ _ => true
  | .vdrvLow _ _ => true
  | .vdrvGood _ _ => true
  | .prechargeElapsed _ _ => true
  | .alignElapsed _ _ => true
  | .rampStep _ _ => true
  | .rampTimeout _ _ => true
  | .stepChange _ _ => true
  | .lossOfSynchronism _ _ => true
  | .coastElapsed _ _ => true
  | .commitTimeout _ _ => true
  | .restartCountReset _ _ => true
  | .zeroCrossing _ _ samples => samplesRise samples
  | .turnOnEntry _ _ _ => true
  | .peakTrip _ _ => true
  | .syncInEdge _ => true
  | .syncLost _ => true
  | .vrefSlew _ => true
  | .retryWaitExpiry _ => true
  | .pilotCycle _ _ _ _ dc => decide (dc ≤ 1000)
  | .ppMeasurement _ ohms => decide (ohms < 65536)
  | .iinLimitUpdate _ => true
  | .qualified _ => true
  | .supervisorEvaluation _ => true
  | .tempStale _ => true
  | .obcInputWrite _ => true
  | .safetyTimerExpiry _ => true
  | .waitTimeout _ => true
  | .precondTimeout _ => true
  | .noSupply _ => true
  | .cvEntry _ => true
  | .terminationCurrentHold _ => true
  | .topoffElapsed _ => true
  | .recharge _ => true
  | .rampEnd _ => true
  | .handoverDone _ => true
  | .clockMeasurement _ _ _ _ _ _ => true
  | .supplyComparison _ _ _ _ _ _ _ => true
  | .islandFailure _ => true
  | .vddSafeLow _ => true
  | .aliveToggle _ => true
  | .autoRelease _ _ => true
  | .testPulse _ _ => true
  | .pulseCheck _ _ _ => true
  | .brakeCheck _ _ _ _ _ icoil vbrk => decide (icoil < 65536) && decide (vbrk < 65536)
  | .moveCheck _ => true
  | .torqueCheck _ => true
  | .brakeTestTorqueEnd _ => true
  | .safeResetRise _ => true
  | .safeResetFall _ => true
  | .pressTimeout _ => true
  | .armTimeout _ => true
  | .flogStore _ => true
  | .flogClear _ _ => true
  | .shutdownTrip _ _ => true
  | .shutdownResetHold _ => true
  | .blazeFrame _ => true
  | .silenceTest _ => true
  | .blazeTransmit _ _ => true
  | .heartbeat _ _ => true
  | .restart _ _ => true
  | .lockstepMismatch _ _ _ => true
  | .selfTestCycle _ _ => true
  | .roleSwap _ => true
  | .handOverRequest _ _ _ => true
  | .tokenHanded _ _ => true
  | .axleStateTick _ => true
  | .axleTokenFrame _ => true
  | .axleClaim _ _ => true
  | .yieldTimeout _ _ => true
  | .peerUnhealthy _ _ => true
  | .portAligned _ _ => true
  | .credit _ _ bs => frameFits bs
  | .creditUpdate _ _ => true
  | .portSilence _ _ _ => true
  | .cruiseTimeout _ _ => true
  | .cruise _ _ bs => frameFits bs
  | .cruiseTick _ => true
  | .viewStable _ => true
  | .assignReq _ _ bs => frameFits bs
  | .assign _ _ bs => frameFits bs
  | .assignRetry _ => true
  | .unblazedRetry _ => true
  | .holdExpiry _ => true
  | .route _ _ bs => frameFits bs
  | .routeAdvertisement _ _ => true
  | .routeUpdate _ _ => true
  | .routeWithdrawal _ => true
  | .register _ _ bs => frameFits bs
  | .registerReply _ _ bs => frameFits bs
  | .registerRetry _ => true
  | .refusal _ _ bs => frameFits bs
  | .data _ _ _ bs => frameFits bs
  | .outputFrame _ _ => true
  | .c1AgeDrop _ _ => true
  | .timeExchange _ => true
  | .timeReq _ _ _ bs => frameFits bs
  | .timeResp _ _ _ bs => frameFits bs
  | .timeExchangeTimeout _ => true
  | .tbAlignTimeout _ => true
  | .txpost _ id _ => isInitiator id
  | .recordFetch _ => true
  | .shsel _ id _ _ => isInitiator id
  | .txcmdGo _ id _ _ => isInitiator id
  | .abort _ id _ _ => isInitiator id
  | .transmissionEnd _ _ _ _ => true
  | .canError _ _ _ _ => true
  | .recover _ id _ => isInitiator id
  | .busOn _ _ => true
  | .mailboxWrite _ id _ size _ => isInitiator id && 1 ≤ size && size ≤ 32
  | .mailboxRead _ id _ size _ => isInitiator id && 1 ≤ size && size ≤ 32
  | .ringEntryWrite _ => true
  | .ringRelease _ _ _ => true
  | .powerDomainRequest _ _ => true
  | .domainTransitionEnd _ _ => true
  | .resetAssert _ cells => cells.all fun c => decide (c.1 < 0x4000000)
  | .resetRelease _ _ _ _ => true
  | .pllLock _ => true
  | .flogRead _ => true
  | .slotSelect _ _ => true
  | .imageReadDone _ => true
  | .startLock _ => true
  | .erase _ id => isInitiator id
  | .program _ id => isInitiator id
  | .verify _ id => isInitiator id
  | .select _ id => isInitiator id
  | .nvOperationDone _ _ => true
  | .activate _ _ => true
  | .activationReadDone _ => true
  | .stepWaitExpiry _ => true
  | .raise _ _ => true
  | .hold _ _ _ => true
  | .checkpoint _ _ => true
  | .holdWaitExpiry _ _ => true
  | .pairLoadDone _ _ => true
  | .sequenceLoopStart _ => true
  | .conversionEnd _ _ => true
  | .idleSensorConversion _ => true
  | .hkaResultCapture _ _ => true
  | .modelStep _ => true
  | .coolantStale _ _ => true
  | .traceTime _ => true
  | .packetSend _ => true
  | .message _ id _ => isInitiator id
  | .talInc _ id _ => isInitiator id
  | .tmaxTurnOff _ _ => true
  | .bootUvloRecovered _ _ _ => true
  | .vddSafePowerOn _ => true
  | .clockNoEdge _ _ => true
  | .conversionAperture _ => true
  | .samplePacket _ _ samples => sampled samples
  | .syncOutTransition _ _ => true
  | .pulseEdge _ _ => true

/-! ### The order of the queue -/

/-- The tick that a command brings; an engine instruction comes at the engine's own cycle. -/
def Instr.tick : Instr → Option Tick
  | .correctedWriteback t | .timeBeacon t | .powerTbStale t | .d2dInterfaceLoss t | .speedReport t
    | .lossPatternRefresh t | .modeReq t | .torqueReq t | .speedReq t | .chargeStart t | .chargeStop t
    | .chargeLimits t | .convSetpoint t | .gearShift t | .parkLock t | .pumpSpeed t | .brakeRelease t
    | .brakeTest t | .reset t | .arbiterCycle t | .limitsStale t | .dcLinkLowTimeout t | .refExtReturn t
    | .calibrationStart t | .channelSwitchover t
    | .observerStep t | .faultReport t | .syncInEdge t | .syncLost t | .vrefSlew t
    | .retryWaitExpiry t | .iinLimitUpdate t | .qualified t | .supervisorEvaluation t | .tempStale t
    | .obcInputWrite t | .safetyTimerExpiry t | .waitTimeout t | .precondTimeout t | .noSupply t
    | .cvEntry t | .terminationCurrentHold t | .topoffElapsed t | .recharge t | .rampEnd t
    | .handoverDone t | .islandFailure t | .vddSafeLow t | .aliveToggle t | .moveCheck t
    | .torqueCheck t | .brakeTestTorqueEnd t | .safeResetRise t | .safeResetFall t | .pressTimeout t
    | .armTimeout t | .flogStore t | .shutdownResetHold t | .blazeFrame t | .silenceTest t | .roleSwap t
    | .axleStateTick t | .axleTokenFrame t | .cruiseTick t | .viewStable t | .assignRetry t
    | .unblazedRetry t | .holdExpiry t | .routeWithdrawal t | .registerRetry t | .timeExchange t
    | .timeExchangeTimeout t | .tbAlignTimeout t | .recordFetch t | .ringEntryWrite t | .pllLock t
    | .flogRead t | .imageReadDone t | .startLock t | .activationReadDone t | .stepWaitExpiry t
    | .sequenceLoopStart t | .idleSensorConversion t | .modelStep t | .traceTime t | .packetSend t
    | .vddSafePowerOn t | .conversionAperture t => some t
  | .scrub t _ | .refExtBad t _ | .engineTimerTrigger t _ | .swtrig t _ | .programLoaded t _
    | .trxInputWrite t _ | .restartRequest t _ | .standstill t _ | .setref t _ | .clear t _ | .arm t _
    | .latch t _ | .deliveryTick t _ | .lposCapture t _ | .carrierPeriodStart t _
    | .commitConversion t _ | .edgeFrame t _ | .beacon t _ | .lossFrame t _ | .alignmentAchieved t _
    | .alignTimeout t _ | .replyTimeout t _ | .syncTimeout t _ | .statusSilence t _ | .alignmentLost t _
    | .codeErrors t _ | .retrain t _ | .leaseExpiry t _ | .tokenUnclaimed t _ | .setDecided t _
    | .axbPeriodStart t _ | .urgentRequest t _ | .axbInputWrite t _ | .vdrvLow t _ | .vdrvGood t _
    | .prechargeElapsed t _ | .alignElapsed t _ | .rampStep t _ | .rampTimeout t _ | .stepChange t _
    | .lossOfSynchronism t _ | .coastElapsed t _ | .commitTimeout t _ | .restartCountReset t _
    | .peakTrip t _ | .ppMeasurement t _ | .autoRelease t _ | .testPulse t _ | .flogClear t _
    | .shutdownTrip t _ | .blazeTransmit t _ | .heartbeat t _ | .restart t _ | .selfTestCycle t _
    | .tokenHanded t _ | .axleClaim t _ | .yieldTimeout t _ | .peerUnhealthy t _ | .portAligned t _
    | .creditUpdate t _ | .cruiseTimeout t _ | .routeAdvertisement t _ | .routeUpdate t _
    | .outputFrame t _ | .c1AgeDrop t _ | .busOn t _ | .powerDomainRequest t _
    | .domainTransitionEnd t _ | .resetAssert t _ | .slotSelect t _ | .erase t _ | .program t _
    | .verify t _ | .select t _ | .nvOperationDone t _ | .activate t _ | .raise t _ | .checkpoint t _
    | .holdWaitExpiry t _ | .pairLoadDone t _ | .conversionEnd t _ | .hkaResultCapture t _
    | .coolantStale t _ | .tmaxTurnOff t _ | .clockNoEdge t _ | .syncOutTransition t _ | .pulseEdge t _ => some t
  | .limitRegisterWrite t _ _ | .resultCapture t _ _ | .refSettled t _ _ | .calOverlapEnd t _ _
    | .calReturnOverlapEnd t _ _ | .run t _ _ | .programLoad t _ _ | .status t _ _ | .configReply t _ _
    | .echoReply t _ _ | .bootUvlo t _ _ | .vsBad t _ _ | .vsGood t _ _ | .zeroCrossing t _ _
    | .turnOnEntry t _ _ | .pulseCheck t _ _ | .lockstepMismatch t _ _ | .handOverRequest t _ _
    | .credit t _ _ | .portSilence t _ _ | .cruise t _ _ | .assignReq t _ _ | .assign t _ _
    | .route t _ _ | .register t _ _ | .registerReply t _ _ | .refusal t _ _ | .txpost t _ _
    | .recover t _ _ | .ringRelease t _ _ | .hold t _ _ | .message t _ _
    | .talInc t _ _ | .bootUvloRecovered t _ _ | .samplePacket t _ _ => some t
  | .canFrameReceived t _ _ _ | .resetRelease t _ _ _ | .windowSeal t _ _ _ | .calLevelsDone t _ _ _ | .passStart t _ _ _
    | .dmemWrite t _ _ _ | .faultComma t _ _ _ | .configExchange t _ _ _ | .bootLowCleared t _ _ _
    | .bootLowEntered t _ _ _ | .data t _ _ _ | .timeReq t _ _ _ | .timeResp t _ _ _ | .shsel t _ _ _
    | .txcmdGo t _ _ _ | .abort t _ _ _ | .transmissionEnd t _ _ _ | .canError t _ _ _ => some t
  | .registerWrite t _ _ _ _ | .encoderInputChange t _ _ _ _ | .pilotCycle t _ _ _ _
    | .mailboxWrite t _ _ _ _ | .mailboxRead t _ _ _ _ => some t
  | .memoryWrite t _ _ _ _ _ | .memoryRead t _ _ _ _ _ | .clockMeasurement t _ _ _ _ _ => some t
  | .supplyComparison t _ _ _ _ _ _ | .brakeCheck t _ _ _ _ _ _ => some t
  | .nop _ | .ld _ | .st _ | .ldi _ | .mov _ | .movs _ | .add _ | .sub _ | .abs _ | .shf _ | .mul _
    | .mac _ | .msu _ | .mva _ | .div _ | .sincos _ | .clarke _ | .park _ | .pi _ | .svm _ | .lim _
    | .mins _ | .maxs _ | .lut _ | .br _ | .call _ | .ret _ | .endPass _ | .duty _ | .commit _
    | .renew _ | .post _ | .fclr _ | .illegalOp _ | .overtime _ => none

/-- On one tick, the spec takes `a` before `b`: the lower cause of an encoder's fault (R147), an island
reaction before any other event of a bridge, the converter or the charger (R218, R230, R251), the seal
that judges the start test before a setpoint (R230), the capture of a buffer before a frame stored in it
(R354), urgent requests by bridge (R413), requests for numbers by die ID (R323), registrations by
source (R330), register writes of one block by initiator (R373), the emptying read of a mailbox before
its writes and those by initiator (R379), and the release of a ring before anything that may offer to it
(R386). -/
def Instr.precedes (a b : Instr) : Bool :=
  match a, b with
  | .encoderInputChange .., .observerStep _ => true
  | .faultReport _, .convSetpoint _ | .faultReport _, .windowSeal .. | .faultReport _, .retryWaitExpiry _
    | .faultReport _, .peakTrip .. | .faultReport _, .turnOnEntry .. | .faultReport _, .axbPeriodStart ..
    | .faultReport _, .supervisorEvaluation _ | .faultReport _, .chargeStart _
    | .faultReport _, .chargeStop _ => true
  | .windowSeal .., .convSetpoint _ => true
  | .shsel _ _ ch _, .canFrameReceived _ ch' _ _ => ch == ch'
  | .registerWrite _ id a _ _, .registerWrite _ id' a' _ _ => a.toNat / 0x10000 == a'.toNat / 0x10000
      && decide (id < id')
  | .mailboxRead _ _ m 32 _, .mailboxWrite _ _ m' _ _ => m == m'
  | .mailboxWrite _ id m _ _, .mailboxWrite _ id' m' _ _ => m == m' && decide (id < id')
  | .ringRelease .., .ringRelease .. => false
  | .ringRelease .., _ => true
  | .urgentRequest _ b, .urgentRequest _ b' => decide (b < b')
  | .assignReq _ _ x, .assignReq _ _ y => decide (bytesNat ((x.drop 8).take 8) < bytesNat ((y.drop 8).take 8))
  | .register _ _ x, .register _ _ y => decide ((x.getD 1 0).toNat < (y.getD 1 0).toNat)
  | _, _ => false

/-- A queue as the device meets it: no command comes before its tick, and commands of one tick stand in the
order that the spec gives them. -/
def inOrder : List Instr → Bool
  | [] => true
  | a :: q =>
    (q.all fun b => match a.tick, b.tick with
      | some x, some y => decide (x < y) || (decide (x = y) && !b.precedes a)
      | _, _ => true) && inOrder q

/-- Every command of a queue is well formed, and they stand in order. -/
def queueFormed (q : List Instr) : Bool := q.all Instr.wellFormed && inOrder q

end Sys2Proof
end

