-- ==== Sys2Proof/Safety.lean ====
section
/-!
DEFINITION. What the claims mean by a sound state and by a step that keeps the configuration.
-/

namespace Sys2Proof

open Machine

/-- Memory in its canonical form: addresses rise, and no entry holds 0, the value of an unlisted
byte. -/
def Memory.wf (m : List Host.Cell) : Bool := swf 0 m

/-- The tables with addresses for keys are in canonical form: memory, registers and NOR. -/
def Canonical (s : State) : Prop :=
  Memory.wf s.mem = true ∧ swf 0 s.regs = true ∧ swf 0xFF s.nor = true

/-- A locked device has ended start-up: its reset has been released and it is in phase 7. -/
def BootSound (s : State) : Prop :=
  s.boot.locked = true → s.boot.phase = 7 ∧ s.boot.released = true

/-- The RWL bits of the register at an address. -/
def rwlBits (s : State) (a : Nat) : Nat :=
  match regAt a with
  | some r => (rd s a).land r.rwl
  | none => 0

/-- Every RWL bit of every register is as it was (R9). -/
def SameRwl (s t : State) : Prop := ∀ a, rwlBits t a = rwlBits s a

/-- The commands that put the device, or both of its dies, into reset (R261, R392, R418). -/
def resets : Instr → Bool
  | .resetAssert .. | .vddSafeLow .. | .shutdownResetHold .. => true
  | _ => false

/-- The areas of the state, one for each field of `State`. -/
inductive Area where
  | clk | bus | sys | mbx | lrg | trc | tal | pba | cap | ce | trx | pos | gsc | glk | psp | rng
  | sbc | flog | red | dcc | obc | chg | hka | thm | axb | skd | blz | can | boot | regs | mem
  | nor | emitted | flights | draws | pending
deriving DecidableEq, Repr

/-- What an area holds. -/
def Area.type : Area → Type
  | .clk => Clk
  | .bus => Bus
  | .sys => Sys
  | .mbx => Vector Mailbox 64
  | .lrg => Lrg
  | .trc => Trc
  | .tal => Vector (BitVec 64) 256
  | .pba => Pba
  | .cap => Cap
  | .ce => Vector Engine 8
  | .trx => Trx
  | .pos => Pos
  | .gsc => Gsc
  | .glk => Vector Link 12
  | .psp => Psp
  | .rng => Rng
  | .sbc => Sbc
  | .flog => Flog
  | .red => Red
  | .dcc => Dcc
  | .obc => Obc
  | .chg => Chg
  | .hka => Hka
  | .thm => Thm
  | .axb => Axb
  | .skd => Skd
  | .blz => Blz
  | .can => Vector CanChan 6
  | .boot => Boot
  | .regs => Sparse Word32
  | .mem => List Host.Cell
  | .nor => Sparse Byte
  | .emitted => List Emission
  | .flights => List (Nat × Flight)
  | .draws => Nat
  | .pending => List Instr

/-- An area of a state. -/
def area (s : State) : (p : Area) → p.type
  | .clk => s.clk
  | .bus => s.bus
  | .sys => s.sys
  | .mbx => s.mbx
  | .lrg => s.lrg
  | .trc => s.trc
  | .tal => s.tal
  | .pba => s.pba
  | .cap => s.cap
  | .ce => s.ce
  | .trx => s.trx
  | .pos => s.pos
  | .gsc => s.gsc
  | .glk => s.glk
  | .psp => s.psp
  | .rng => s.rng
  | .sbc => s.sbc
  | .flog => s.flog
  | .red => s.red
  | .dcc => s.dcc
  | .obc => s.obc
  | .chg => s.chg
  | .hka => s.hka
  | .thm => s.thm
  | .axb => s.axb
  | .skd => s.skd
  | .blz => s.blz
  | .can => s.can
  | .boot => s.boot
  | .regs => s.regs
  | .mem => s.mem
  | .nor => s.nor
  | .emitted => s.emitted
  | .flights => s.flights
  | .draws => s.draws
  | .pending => s.pending

/-- The states agree in every area that the list does not name. -/
def SameBut (l : List Area) (s t : State) : Prop := ∀ p, p ∉ l → area t p = area s p

/-- Up to tick t nothing that is under way arrives, and no slew moves the count (R18, R20, R77, R334). A
command finds every state so at its own tick: see `Obligations.TimeRunsForward`. -/
def Quiet (s : State) (t : Tick) : Prop :=
  s.skd.slew = 0 ∧ ∀ f ∈ s.flights, max t s.clk.now < f.1

/-- A command that comes at a tick of the running time base (R27), with nothing to arrive before it. -/
def OnTime (s : State) (t : Tick) : Prop := s.clk.locked = true ∧ s.clk.now ≤ t ∧ Quiet s t

/-- The command answers a next state of which `P` holds. -/
def After (c : Instr) (s : State) (P : State → Prop) : Prop := ∃ u, exec c s = .next u ∧ P u

/-- The commands that may set the time base back: the resets, its start and the step of R334. -/
def setsTime : Instr → Bool
  | .resetAssert .. | .vddSafeLow .. | .pllLock .. | .timeResp .. => true
  | _ => false

/-! ### Engine instructions -/

/-- An integer saturated to a signed 24-bit value (R89). -/
def sat24 (x : Int) : Word24 := BitVec.ofInt 24 (clampI x (-0x800000) 0x7FFFFF)

/-- The flag of a result that saturates. -/
def satFlag (x : Int) (f : BitVec 6) : BitVec 6 := if -0x800000 ≤ x ∧ x ≤ 0x7FFFFF then 0 else f

/-- Engine e runs, and its next instruction has opcode `op` and meets no fault; the rows that it fetches
and reads hold no flipped bit; no activation is busy, and nothing arrives before its commit would. -/
def Issues (s : State) (e : Fin 8) (op : Nat) : Prop :=
  s.ce[e].state = .running ∧ issueFault s e = 0 ∧ opcode (fetchWord s.ce[e]) = op ∧
    pcFlips s.ce[e] = [] ∧ (∀ j ∈ readsOf s.ce[e] (fetchWord s.ce[e]), s.ce[e].dataFlips j = []) ∧
    s.ce[e].pc < 4095 ∧ s.boot.act.busy = false ∧ Quiet s (issueTick s.ce[e] + 8)

/-- Engine e has become `k`, `n` cycles later and at `pc`; the other engines, the reports on the fault
network and every other area but the clock and the watch over causes are as they were. -/
def Ran (s u : State) (e : Fin 8) (n pc : Nat) (k : Engine) : Prop :=
  u.ce[e] = { k with cycles := s.ce[e].cycles + n, pc := pc } ∧
    (∀ x : Fin 8, x ≠ e → u.ce[x] = s.ce[x]) ∧ SameBut [.clk, .ce, .rng] s u ∧ u.rng.net = s.rng.net

/-- Engine e has written `v` to register d and raised flags `f` in `n` cycles, and nothing else. -/
def Writes (s u : State) (e : Fin 8) (n d : Nat) (v : Word24) (f : BitVec 6) : Prop :=
  Ran s u e n (s.ce[e].pc + 1) { s.ce[e] with
    w := s.ce[e].w.setIfInBounds d v
    flags := s.ce[e].flags ||| f
    rose := s.ce[e].rose ||| (f &&& ~~~s.ce[e].flags) }

/-- Engine e has written two registers from d on. -/
def Writes2 (s u : State) (e : Fin 8) (n d : Nat) (v v' : Word24) (f : BitVec 6) : Prop :=
  Ran s u e n (s.ce[e].pc + 1) { s.ce[e] with
    w := (s.ce[e].w.setIfInBounds d v).setIfInBounds (d + 1) v'
    flags := s.ce[e].flags ||| f
    rose := s.ce[e].rose ||| (f &&& ~~~s.ce[e].flags) }

/-- Data memory with words stored from word j on (R90, R99). -/
def dwords (m : Sparse Word24) (j : Nat) : List Word24 → Sparse Word24
  | [] => m
  | w :: ws => dwords (sput 0 m (j % 1024) w) (j + 1) ws

/-- The words that wait for the end of a pass (R95). -/
def heldWords (j : Nat) : List Word24 → List (Nat × Word24)
  | [] => []
  | w :: ws => (j % 1024, w) :: heldWords (j + 1) ws

/-- Engine `k` has become `k'` by words written from data word j on: at once where no flipped bit lies in
their rows, or held behind the running pass (R95). -/
def Wrote (k k' : Engine) (j : Nat) (ws : List Word24) : Prop :=
  k'.state = k.state ∧ k'.w = k.w ∧ k'.pmem = k.pmem ∧
    (k.state ≠ .running → (∀ i < ws.length, k.dataFlips ((j + i) % 1024) = []) →
      k'.dmem = dwords k.dmem j ws) ∧
    (k.state = .running → k.hold.length + ws.length ≤ 192 →
      k'.hold = k.hold ++ heldWords j ws ∧ k'.dmem = k.dmem)

/-- `c` is the oldest command that waits at the gate, an enabled source of its path admits its group, and
the command behind it, if any, has a known code (R45 to R47). -/
def Offered (s : State) (c : Cmd) (code : Nat) : Prop :=
  s.pba.queue.head? = some c ∧ c.code = code ∧
    bit ((srcGroups s c.path).getD 0) ((groupBit code).getD 7) = true ∧
    ∀ x ∈ s.pba.queue.tail.head?, (groupBit x.code).isSome = true

/-- The areas that may change while time passes: what is under way arrives, and a slew moves the count
(R18, R20, R39, R77, R190, R196, R334). -/
def arrivals : List Area := [.clk, .sys, .lrg, .trc, .tal, .pba, .ce, .psp, .rng, .skd, .flights]

/-- The areas that a command may change at its tick. -/
def touches : Instr → List Area
  | .registerWrite .. | .memoryWrite .. =>
      [.clk, .bus, .sys, .mbx, .lrg, .trc, .tal, .pba, .ce, .pos, .gsc, .glk, .rng, .flog, .red,
       .chg, .thm, .skd, .blz, .can, .boot, .regs, .mem, .emitted]
  | .memoryRead .. => [.clk, .bus, .sys, .mbx, .lrg, .trc, .tal, .cap, .ce, .pos, .rng, .hka]
  | .correctedWriteback .. => [.clk, .sys]
  | .scrub .. => [.clk, .sys, .lrg, .trc, .tal, .rng]
  | .timeBeacon .. => [.clk]
  | .powerTbStale .. | .d2dInterfaceLoss .. | .clockMeasurement .. | .supplyComparison ..
  | .safeResetRise .. | .pressTimeout .. | .armTimeout .. | .clockNoEdge .. =>
      [.clk, .lrg, .trc, .tal, .rng]
  | .speedReport .. | .moveCheck .. | .torqueCheck .. | .brakeTestTorqueEnd .. =>
      [.clk, .lrg, .trc, .tal, .pba, .cap, .ce, .trx, .gsc, .glk, .psp, .rng, .sbc, .red, .dcc,
       .obc, .chg, .axb, .blz, .emitted]
  | .lossPatternRefresh .. => [.clk, .glk]
  | .canFrameReceived .. => [.clk, .lrg, .trc, .tal, .pba, .rng, .skd, .blz, .can, .draws]
  | .limitRegisterWrite .. | .limitsStale .. => [.clk, .lrg, .trc, .tal, .pba]
  | .modeReq .. =>
      [.clk, .sys, .lrg, .trc, .tal, .pba, .cap, .ce, .trx, .gsc, .glk, .psp, .rng, .sbc, .red,
       .dcc, .obc, .chg, .axb, .skd, .blz, .can, .emitted]
  | .torqueReq .. | .speedReq .. => [.clk, .lrg, .trc, .tal, .pba, .trx, .skd, .blz, .can]
  | .chargeStart .. => [.clk, .lrg, .trc, .tal, .pba, .glk, .red, .obc, .chg, .skd, .blz, .can]
  | .chargeStop .. =>
      [.clk, .lrg, .trc, .tal, .pba, .gsc, .glk, .red, .obc, .chg, .skd, .blz, .can, .emitted]
  | .chargeLimits .. => [.clk, .lrg, .trc, .tal, .pba, .chg, .skd, .blz, .can]
  | .convSetpoint .. =>
      [.clk, .lrg, .trc, .tal, .pba, .cap, .ce, .gsc, .glk, .dcc, .skd, .blz, .can]
  | .gearShift .. | .parkLock .. | .pumpSpeed .. =>
      [.clk, .lrg, .trc, .tal, .pba, .axb, .skd, .blz, .can]
  | .brakeRelease .. => [.clk, .lrg, .trc, .tal, .pba, .sbc, .skd, .blz, .can]
  | .brakeTest .. =>
      [.clk, .lrg, .trc, .tal, .pba, .cap, .ce, .trx, .pos, .gsc, .glk, .psp, .rng, .sbc, .red,
       .dcc, .obc, .chg, .axb, .skd, .blz, .can, .emitted]
  | .reset .. =>
      [.clk, .lrg, .trc, .tal, .pba, .cap, .ce, .trx, .gsc, .glk, .psp, .rng, .sbc, .red, .dcc,
       .obc, .chg, .axb, .skd, .blz, .can, .emitted]
  | .arbiterCycle .. => [.clk, .sys, .lrg, .trc, .tal, .pba, .ce, .rng, .skd, .blz, .can, .draws]
  | .dcLinkLowTimeout .. | .handoverDone .. =>
      [.clk, .lrg, .trc, .tal, .pba, .cap, .ce, .trx, .gsc, .glk, .psp, .rng, .sbc, .red, .dcc,
       .obc, .chg, .axb, .emitted]
  | .windowSeal .. =>
      [.clk, .lrg, .trc, .tal, .cap, .ce, .gsc, .glk, .rng, .flog, .dcc, .chg, .thm, .flights]
  | .resultCapture .. | .refExtReturn .. | .calibrationStart .. | .channelSwitchover .. =>
      [.clk, .cap]
  | .refSettled .. => [.clk, .lrg, .trc, .tal, .cap]
  | .refExtBad .. | .calOverlapEnd .. | .calReturnOverlapEnd .. =>
      [.clk, .lrg, .trc, .tal, .cap, .rng]
  | .calLevelsDone .. => [.clk, .lrg, .trc, .tal, .cap, .rng, .draws]
  | .engineTimerTrigger .. | .swtrig .. => [.clk, .lrg, .trc, .tal, .ce]
  | .run .. | .stepWaitExpiry .. => [.clk, .lrg, .trc, .tal, .ce, .glk, .rng, .red, .boot]
  | .passStart .. | .programLoad .. => [.clk, .ce]
  | .dmemWrite .. => [.clk, .sys, .lrg, .trc, .tal, .ce, .rng]
  | .nop .. | .ld .. | .ldi .. | .mov .. | .movs .. | .add .. | .sub .. | .abs .. | .shf ..
  | .mul .. | .mac .. | .msu .. | .mva .. | .div .. | .sincos .. | .clarke .. | .park .. | .pi ..
  | .svm .. | .lim .. | .lut .. | .br .. | .call .. | .ret .. | .endPass .. | .duty .. | .renew ..
  | .post .. | .fclr .. | .illegalOp .. | .overtime .. =>
      [.clk, .sys, .lrg, .trc, .tal, .ce, .glk, .rng, .red, .boot, .draws]
  | .st .. => [.clk, .sys, .lrg, .trc, .tal, .ce, .trx, .glk, .rng, .red, .obc, .boot, .draws]
  | .mins .. | .maxs .. =>
      [.clk, .sys, .lrg, .trc, .tal, .ce, .trx, .glk, .rng, .red, .obc, .chg, .boot, .draws]
  | .commit .. =>
      [.clk, .sys, .lrg, .trc, .tal, .cap, .ce, .trx, .gsc, .glk, .rng, .red, .dcc, .obc, .chg,
       .axb, .boot, .emitted, .draws]
  | .programLoaded .. => [.clk, .sys, .lrg, .trc, .tal, .ce, .glk, .rng, .red, .boot]
  | .trxInputWrite .. =>
      [.clk, .sys, .lrg, .trc, .tal, .pba, .cap, .ce, .trx, .gsc, .glk, .psp, .rng, .sbc, .red,
       .dcc, .obc, .chg, .axb, .emitted]
  | .restartRequest .. =>
      [.clk, .lrg, .trc, .tal, .cap, .trx, .gsc, .glk, .psp, .rng, .red, .dcc, .axb]
  | .standstill .. => [.clk, .trx]
  | .encoderInputChange .. | .observerStep .. => [.clk, .lrg, .trc, .tal, .trx, .pos, .rng]
  | .setref .. => [.clk, .lrg, .trc, .tal, .pos]
  | .clear .. => [.clk, .pos, .rng]
  | .arm .. | .latch .. | .lposCapture .. => [.clk, .pos]
  | .deliveryTick .. => [.clk, .sys, .lrg, .trc, .tal, .ce, .pos, .rng]
  | .carrierPeriodStart .. => [.clk, .sys, .lrg, .trc, .tal, .cap, .ce, .pos, .gsc, .rng, .dcc]
  | .commitConversion .. => [.clk, .sys, .lrg, .trc, .tal, .cap, .ce, .gsc, .glk, .rng, .emitted]
  | .edgeFrame .. => [.clk, .tal, .gsc, .glk, .emitted]
  | .beacon .. | .lossFrame .. | .alignmentAchieved .. => [.clk, .glk, .emitted]
  | .faultComma .. => [.clk, .lrg, .trc, .tal, .rng, .flights]
  | .status .. | .configReply .. | .echoReply .. => [.clk, .lrg, .trc, .tal, .glk, .rng, .emitted]
  | .alignTimeout .. | .replyTimeout .. | .syncTimeout .. | .statusSilence .. | .alignmentLost ..
  | .codeErrors .. | .retrain .. => [.clk, .lrg, .trc, .tal, .glk, .rng]
  | .configExchange .. => [.clk, .bus, .lrg, .trc, .tal, .glk, .emitted]
  | .leaseExpiry .. | .handOverRequest .. | .tokenHanded .. => [.clk, .lrg, .trc, .tal, .glk, .red]
  | .tokenUnclaimed .. => [.clk, .lrg, .trc, .tal, .glk, .rng, .red]
  | .faultReport .. =>
      [.clk, .lrg, .trc, .tal, .pba, .cap, .ce, .trx, .gsc, .glk, .psp, .rng, .sbc, .flog, .red,
       .dcc, .obc, .chg, .axb, .blz, .boot, .emitted]
  | .setDecided .. =>
      [.clk, .lrg, .trc, .tal, .ce, .trx, .gsc, .glk, .psp, .rng, .red, .boot, .emitted]
  | .axbPeriodStart .. => [.clk, .lrg, .trc, .tal, .cap, .pos, .rng, .axb]
  | .urgentRequest .. | .sequenceLoopStart .. => [.clk, .lrg, .trc, .tal, .hka]
  | .axbInputWrite .. => [.clk, .sys, .lrg, .trc, .tal, .ce, .rng, .axb]
  | .bootLowCleared .. | .restartCountReset .. | .bootUvloRecovered .. => [.clk, .axb]
  | .bootUvlo .. => [.clk, .lrg, .trc, .tal, .cap, .axb, .draws]
  | .bootLowEntered .. => [.clk, .lrg, .trc, .tal, .axb]
  | .vsBad .. | .vsGood .. | .vdrvLow .. | .vdrvGood .. => [.clk, .lrg, .trc, .tal, .rng, .axb]
  | .prechargeElapsed .. | .alignElapsed .. | .rampStep .. | .rampTimeout .. | .stepChange ..
  | .lossOfSynchronism .. | .coastElapsed .. | .commitTimeout .. | .zeroCrossing .. | .pulseEdge .. =>
      [.clk, .lrg, .trc, .tal, .cap, .rng, .axb]
  | .turnOnEntry .. | .peakTrip .. | .tmaxTurnOff .. =>
      [.clk, .lrg, .trc, .tal, .cap, .ce, .gsc, .glk, .dcc]
  | .syncInEdge .. | .syncLost .. => [.clk, .lrg, .trc, .tal, .dcc]
  | .vrefSlew .. | .retryWaitExpiry .. | .syncOutTransition .. => [.clk, .dcc]
  | .pilotCycle .. | .ppMeasurement .. | .supervisorEvaluation .. | .safetyTimerExpiry ..
  | .waitTimeout .. | .precondTimeout .. | .noSupply .. | .terminationCurrentHold ..
  | .topoffElapsed .. | .rampEnd .. =>
      [.clk, .lrg, .trc, .tal, .gsc, .glk, .red, .obc, .chg, .emitted]
  | .iinLimitUpdate .. => [.clk, .obc]
  | .qualified .. => [.clk, .chg]
  | .tempStale .. => [.clk, .lrg, .trc, .tal, .chg]
  | .obcInputWrite .. => [.clk, .sys, .lrg, .trc, .tal, .ce, .rng, .obc]
  | .cvEntry .. | .recharge .. => [.clk, .lrg, .trc, .tal, .glk, .red, .obc, .chg]
  | .islandFailure .. =>
      [.clk, .lrg, .trc, .tal, .cap, .ce, .trx, .gsc, .glk, .rng, .sbc, .flog, .red, .axb, .boot,
       .emitted, .draws]
  | .vddSafeLow .. =>
      [.clk, .bus, .sys, .mbx, .lrg, .trc, .tal, .pba, .cap, .ce, .trx, .pos, .gsc, .glk, .psp,
       .rng, .sbc, .flog, .red, .dcc, .obc, .chg, .hka, .thm, .axb, .skd, .blz, .can, .boot, .regs,
       .mem, .flights]
  | .aliveToggle .. => [.clk, .rng]
  | .autoRelease .. => [.clk, .lrg, .trc, .tal, .cap, .gsc, .glk, .psp, .rng, .red, .dcc, .axb]
  | .testPulse .. => [.clk, .sbc]
  | .pulseCheck .. | .brakeCheck .. | .shutdownTrip .. =>
      [.clk, .lrg, .trc, .tal, .pba, .cap, .ce, .trx, .gsc, .glk, .psp, .rng, .sbc, .flog, .red,
       .dcc, .obc, .chg, .axb, .boot, .emitted]
  | .safeResetFall .. =>
      [.clk, .lrg, .trc, .tal, .pba, .cap, .ce, .trx, .pos, .gsc, .glk, .psp, .rng, .sbc, .red,
       .dcc, .obc, .chg, .axb, .blz, .emitted]
  | .flogStore .. | .flogClear .. => [.clk, .flog]
  | .shutdownResetHold .. =>
      [.clk, .bus, .sys, .mbx, .lrg, .trc, .pba, .cap, .ce, .trx, .pos, .gsc, .glk, .psp, .red,
       .dcc, .obc, .chg, .hka, .thm, .axb, .skd, .can, .boot, .regs, .mem, .flights]
  | .blazeFrame .. | .silenceTest .. => [.clk, .lrg, .trc, .tal, .pba, .rng, .red, .skd, .blz, .can]
  | .blazeTransmit .. | .heartbeat .. => [.clk, .lrg, .trc, .tal, .skd, .blz, .can]
  | .restart .. => [.clk, .lrg, .trc, .tal, .blz]
  | .lockstepMismatch .. | .selfTestCycle .. => [.clk, .lrg, .trc, .tal, .rng, .red]
  | .roleSwap .. => [.clk, .lrg, .trc, .tal, .glk, .red, .blz]
  | .axleStateTick .. => [.clk, .lrg, .trc, .tal, .rng, .red, .blz]
  | .axleTokenFrame .. | .axleClaim .. => [.clk, .lrg, .trc, .tal, .red, .blz]
  | .yieldTimeout .. | .peerUnhealthy .. => [.clk, .lrg, .trc, .tal, .red]
  | .portAligned .. | .creditUpdate .. | .routeAdvertisement .. | .routeUpdate ..
  | .timeExchange .. | .timeExchangeTimeout .. => [.clk, .skd]
  | .credit .. | .portSilence .. | .cruiseTimeout .. | .cruise .. | .cruiseTick .. | .viewStable ..
  | .assignReq .. | .assign .. | .holdExpiry .. | .route .. | .routeWithdrawal ..
  | .registerReply .. | .refusal .. | .c1AgeDrop .. | .timeResp .. | .tbAlignTimeout .. =>
      [.clk, .lrg, .trc, .tal, .skd]
  | .assignRetry .. | .unblazedRetry .. | .register .. | .registerRetry .. | .timeReq .. =>
      [.clk, .tal, .skd]
  | .data .. => [.clk, .lrg, .trc, .tal, .pba, .skd, .blz, .can]
  | .outputFrame .. => [.clk, .lrg, .trc, .tal, .skd, .emitted]
  | .txpost .. => [.clk, .bus, .lrg, .trc, .tal, .skd]
  | .recordFetch .. => [.clk, .bus, .sys, .lrg, .trc, .tal, .pba, .rng, .skd, .blz, .can]
  | .shsel .. | .recover .. => [.clk, .bus, .lrg, .trc, .tal, .can]
  | .txcmdGo .. | .abort .. => [.clk, .bus, .lrg, .trc, .tal, .can, .regs]
  | .transmissionEnd .. | .canError .. => [.clk, .lrg, .trc, .tal, .rng, .can]
  | .busOn .. => [.clk, .lrg, .trc, .tal, .can]
  | .mailboxWrite .. | .mailboxRead .. => [.clk, .bus, .mbx, .lrg, .trc, .tal]
  | .ringEntryWrite .. => [.clk, .sys, .lrg, .mem]
  | .ringRelease .. => [.clk, .lrg]
  | .powerDomainRequest .. => [.clk, .sys, .mbx, .tal]
  | .domainTransitionEnd .. =>
      [.clk, .sys, .lrg, .trc, .tal, .pba, .cap, .ce, .trx, .gsc, .glk, .psp, .rng, .sbc, .red,
       .dcc, .obc, .chg, .axb, .skd, .can, .mem, .emitted]
  | .resetAssert .. =>
      [.clk, .bus, .sys, .mbx, .lrg, .trc, .tal, .pba, .cap, .ce, .trx, .pos, .gsc, .glk, .psp,
       .rng, .sbc, .flog, .red, .dcc, .obc, .chg, .hka, .thm, .axb, .skd, .blz, .can, .boot, .regs,
       .mem, .nor, .flights]
  | .resetRelease .. => [.clk, .red, .boot]
  | .pllLock .. => [.clk, .rng, .red, .boot]
  | .flogRead .. => [.clk, .cap, .skd, .boot]
  | .slotSelect .. =>
      [.clk, .bus, .sys, .mbx, .lrg, .trc, .tal, .pba, .cap, .ce, .trx, .pos, .gsc, .glk, .psp,
       .flog, .red, .dcc, .obc, .chg, .hka, .thm, .axb, .skd, .can, .boot, .regs, .mem, .flights]
  | .imageReadDone .. =>
      [.clk, .bus, .sys, .mbx, .lrg, .trc, .tal, .pba, .cap, .ce, .trx, .pos, .gsc, .glk, .psp,
       .rng, .flog, .red, .dcc, .obc, .chg, .hka, .thm, .axb, .skd, .blz, .can, .boot, .regs, .mem,
       .emitted, .flights]
  | .startLock .. =>
      [.clk, .lrg, .trc, .tal, .pba, .cap, .ce, .trx, .gsc, .glk, .rng, .red, .skd, .blz, .can,
       .boot, .regs]
  | .erase .. | .program .. | .verify .. | .select .. =>
      [.clk, .bus, .sys, .lrg, .trc, .tal, .rng, .boot, .regs]
  | .nvOperationDone .. => [.clk, .lrg, .trc, .tal, .boot, .nor, .draws]
  | .activate .. => [.clk, .lrg, .trc, .tal, .boot, .regs]
  | .activationReadDone .. => [.clk, .sys, .lrg, .trc, .tal, .ce, .glk, .rng, .red, .boot, .mem]
  | .raise .. => [.clk, .lrg, .trc, .tal, .flog]
  | .hold .. => [.clk, .sys, .red, .boot, .regs, .mem]
  | .checkpoint .. => [.clk, .sys, .red, .boot, .mem]
  | .holdWaitExpiry .. => [.clk, .sys, .boot]
  | .pairLoadDone .. => [.clk, .lrg, .trc, .tal, .rng, .red, .boot, .mem]
  | .conversionEnd .. => [.clk, .lrg, .trc, .tal, .rng, .hka, .thm, .axb]
  | .idleSensorConversion .. | .hkaResultCapture .. | .conversionAperture .. => [.clk, .hka]
  | .modelStep .. => [.clk, .lrg, .trc, .tal, .rng, .thm]
  | .coolantStale .. => [.clk, .lrg, .trc, .tal, .thm]
  | .traceTime .. => [.clk, .trc, .tal]
  | .packetSend .. => [.clk, .trc, .emitted]
  | .message .. => [.clk, .bus, .trc, .tal]
  | .talInc .. => [.clk, .bus, .lrg, .trc, .tal]
  | .vddSafePowerOn .. => [.clk, .rng, .boot]
  | .samplePacket .. => [.clk, .trc, .tal, .cap]

end Sys2Proof
end

