-- ==== Sys2Proof/Certificates/Slice0/Obligations.lean ====
section
/-!
DEFINITION. The statements for the provers. Every statement holds of every state that its hypotheses admit.
Commands carry the tick of their step; where a rule depends on it, the statement has `OnTime`.
-/

open Sys2Proof Sys2Proof.Machine

/-- With command c in front of the queue, a step is the effect of c on the state whose queue is the
rest. On an empty queue the block idles: the model's choice (log 1). -/
def Obligations.StepRunsFront : Prop :=
  (∀ (c : Instr) (q : List Instr) (s : State), s.pending = c :: q →
    step s = exec c (s.withPending q)) ∧
  (∀ s : State, s.pending = [] → step s = .next s)

/-- State.reset holds the values of R8, R27, R38, R91, R138, R146, R172, R212, R230, R251, R274, R300,
R431, its tables are canonical and its queue is empty. That the boot controller waits for its reset
inputs in phase 0 is the model's reading (log 97). -/
def Obligations.ResetValues : Prop :=
  Canonical State.reset ∧ BootSound State.reset ∧ State.reset.pending = [] ∧
  State.reset.clk.now = 0 ∧ State.reset.clk.locked = false ∧
  State.reset.pba.mode = .off ∧ State.reset.pba.volts = 0 ∧
  (∀ e : Fin 8, State.reset.ce[e].state = .stopped) ∧
  (∀ m : Fin 2, State.reset.trx.m[m].state = .idle) ∧
  (∀ e : Fin 2, State.reset.pos.enc[e].state = .unreferenced) ∧
  (∀ g : Fin 4, State.reset.gsc.g[g].state = .opened) ∧
  (∀ b : Fin 3, State.reset.axb.b[b].state = .stopped) ∧
  State.reset.dcc.state = .idle ∧ State.reset.chg.state = .idle ∧ State.reset.chg.band = 5 ∧
  (∀ n : Fin 2, State.reset.sbc.ch[n].energised = false) ∧
  (∀ g : Fin 4, State.reset.red.tok[g].state = if g = 3 then .free else .blocked) ∧
  (∀ n : Fin 256, State.reset.tal[n] = 0) ∧
  (∀ n : Fin 6, State.reset.can[n].st = 3) ∧
  State.reset.skd.cruise = .listen ∧
  readReg State.reset 0x60000040 = 0xFFFFFF ∧ readReg State.reset 0x40000000 = 0x3212B000 ∧
  State.reset.boot.phase = 0

/-- Every command answers a next state: no command faults and none is refused (log 5 names this
reading of the table). -/
def Obligations.EveryCommandAnswers : Prop :=
  ∀ (c : Instr) (s : State), ∃ u, exec c s = .next u

/-- Every step keeps memory, registers and NOR in their canonical form. -/
def Obligations.StepKeepsCanonical : Prop :=
  ∀ s t : State, Canonical s → step s = .next t → Canonical t

/-- Every step keeps the rule that a locked device is out of reset and in phase 7. -/
def Obligations.StepKeepsBootSound : Prop :=
  ∀ s t : State, BootSound s → step s = .next t → BootSound t

/-- After lock no command but a reset changes an RWL field of any register (R9). -/
def Obligations.LockedFieldsStay : Prop :=
  ∀ (c : Instr) (s t : State), BootSound s → s.boot.locked = true → resets c = false →
    Canonical s → exec c s = .next t → SameRwl s t

/-- A command changes, of the state at its tick, no area but those that `touches` names, and never the
queue; an engine's instruction, which brings no tick, does so of the state it comes to where nothing is
under way. Until the tick of a command no area changes but those of `arrivals`, and the clock alone where
nothing arrives. -/
def Obligations.CommandFrames : Prop :=
  (∀ (c : Instr) (t : Tick) (s u : State), c.tick = some t → exec c s = .next u →
    SameBut (touches c) (s.at t) u ∧ u.pending = s.pending) ∧
  (∀ (c : Instr) (s u : State), c.tick = none → exec c s = .next u →
    SameBut (touches c ++ arrivals) s u ∧ u.pending = s.pending ∧
    (s.flights = [] → s.skd.slew = 0 → SameBut (touches c) s u)) ∧
  (∀ (t : Tick) (s : State), SameBut arrivals s (s.at t) ∧ (Quiet s t → SameBut [.clk] s (s.at t)))

/-- The time base never runs back, but at its start, at a reset and at the step of R334 while the
device is in mode OFF (R27, R334). A command acts on the state at its tick: what is under way arrives first,
each on its own tick, and after it nothing is left to arrive (R18, R20, R77); the count stands where the
slewed ticks have put it, and the correction that is left is the smaller by them (R334). That a command's
tick counts no slewed tick since the latest command is the model's choice (log 90). -/
def Obligations.TimeRunsForward : Prop :=
  (∀ (c : Instr) (s t : State), setsTime c = false → exec c s = .next t → s.clk.now ≤ t.clk.now) ∧
  (∀ (c : Instr) (t : Tick) (s : State), c.tick = some t → s.skd.slew = 0 →
    exec c s = exec c (s.at t) ∧ Quiet (s.at t) t) ∧
  (∀ (t : Tick) (s : State), s.clk.locked = true →
    (s.at t).clk.now = max (countAt s t) s.clk.now ∧
    (s.at t).skd.slew = s.skd.slew - slewShift s t)

/-- A register write that would change an RWL field after lock is refused whole: no register
changes, every other area stays but the bus's own, and the access ends with code LOCKED (R463). One at
an address without a register, of another size or in a domain that is off ends with its code in the
same way (R10, R373, R374, R377); that an access with several causes meets the first of no register, size
and domain is the model's choice (log 112). An accepted write of an implemented register stores its RW and RWL
bits, leaves reserved and RO bits and leaves every other register (R9, R10). Accepted writes of CAN and
BOOT registers, which start operations that change registers, have statements of their own.
Rows that complete here, each with its own effect under conditions on the state and the operands alone:
REGISTER_WRITE. -/
def Obligations.RegisterWrites : Prop :=
  (∀ (t : Tick) (id : Fin 64) (a : Word32) (v : Word32) (s : State), Quiet s t →
    regError s a.toNat 4 = 0 → lockedOut s a.toNat v.toNat = true →
    After (.registerWrite t id a 4 v) s fun u =>
      u.bus.err = 3 ∧ u.bus.data = [] ∧ SameBut [.clk, .bus, .lrg, .trc, .tal] s u ∧
      ∀ b, rd u b = rd s b) ∧
  (∀ (t : Tick) (id : Fin 64) (a : Word32) (n : Nat) (v : Word32) (s : State), Quiet s t →
    regError s a.toNat n ≠ 0 →
    After (.registerWrite t id a n v) s fun u =>
      u.bus.err = (if regAt (a.toNat / 4 * 4) = none then 1
        else if n = 4 ∧ a.toNat % 4 = 0 then 5 else 2) ∧
      u.bus.data = [] ∧ SameBut [.clk, .bus, .lrg, .trc, .tal] s u ∧ ∀ b, rd u b = rd s b) ∧
  (∀ (t : Tick) (id : Fin 64) (a : Word32) (v : Word32) (r : RegRow) (s : State), Quiet s t → Canonical s →
    regAt a.toNat = some r → regError s a.toNat 4 = 0 → lockedOut s a.toNat v.toNat = false →
    a.toNat / 0x10000 ≠ 0x4001 → a.toNat / 0x10000 ≠ 0x4007 →
    After (.registerWrite t id a 4 v) s fun u =>
      rd u a.toNat = v.toNat.land (r.rw.lor r.rwl) ∧ ∀ b, b ≠ a.toNat → rd u b = rd s b)

/-- A write of bytes inside one word of the shared SRAM or of a tightly coupled memory stores them, in both
copies of a lockstep pair, and changes no other byte; a read returns the bytes and changes none. Flipped bits
that have come to the stored word or on the interconnect are corrected while they are single; two of them end
a read, and a write of less than the word, with code ECC and leave memory; an access that no word holds ends
with code SIZE (R365, R366, R368 to R371, R374). The write-back repairs the oldest corrected word and leaves
the stored bytes; the scrubber reads its next word once per INTERVAL, where a single-bit error is corrected,
noted and queued for write-back and a double-bit error is noted (R370 to R372); that it is due first at
the start is the model's choice (log 133).
Rows that complete here, each with its own effect under conditions on the state and the operands alone:
MEMORY_WRITE, MEMORY_READ, CORRECTED_WRITEBACK, SCRUB. -/
def Obligations.SramAccess : Prop :=
  (∀ (t : Tick) (id : Fin 64) (a : Word32) (bs : List Byte) (up wire : List (Fin 266)) (b : Nat)
    (s : State), Quiet s t → Canonical s → swf [] s.sys.flips = true → b = busAddr id a.toNat →
    inSram b = true ∨ (tcmCore b).isSome = true → memReach s b = 0 → bs ≠ [] →
    a.toNat % 32 + bs.length ≤ 32 → wire.length ≤ 1 →
    bs.length = 32 ∨ (mergeFlips (flipsAt s (wordOf b)) up).length ≤ 1 ∧
      (∀ c ∈ otherCopy s (wordOf b), (flipsAt s c).length ≤ 1) →
    After (.memoryWrite t id a bs up wire) s fun u =>
      u.bus.err = 0 ∧ memBytes u b bs.length = bs ∧
      (∀ c ∈ otherCopy s b, memBytes u c bs.length = bs) ∧
      flipsAt u (wordOf b) = [] ∧
      (∀ x, x < b ∨ b + bs.length ≤ x → (∀ c ∈ otherCopy s b, x < c ∨ c + bs.length ≤ x) →
        memByte u x = memByte s x) ∧ u.regs = s.regs) ∧
  (∀ (t : Tick) (id : Fin 64) (a : Word32) (n : Nat) (up wire : List (Fin 266)) (b : Nat) (s : State),
    Quiet s t → swf [] s.sys.flips = true → b = busAddr id a.toNat →
    inSram b = true ∨ (tcmCore b).isSome = true → memReach s b = 0 → 1 ≤ n →
    a.toNat % 32 + n ≤ 32 → (mergeFlips (mergeFlips (flipsAt s (wordOf b)) up) wire).length ≤ 1 →
    After (.memoryRead t id a n up wire) s fun u =>
      u.bus.err = 0 ∧ u.bus.data = memBytes s b n ∧ u.mem = s.mem) ∧
  (∀ (t : Tick) (id : Fin 64) (a : Word32) (n : Nat) (up wire : List (Fin 266)) (b : Nat) (s : State),
    Quiet s t → swf [] s.sys.flips = true → b = busAddr id a.toNat →
    inSram b = true ∨ (tcmCore b).isSome = true → memReach s b = 0 → 1 ≤ n →
    a.toNat % 32 + n ≤ 32 → 2 ≤ (mergeFlips (mergeFlips (flipsAt s (wordOf b)) up) wire).length →
    After (.memoryRead t id a n up wire) s fun u =>
      u.bus.err = 4 ∧ u.bus.data = [] ∧ u.mem = s.mem ∧ u.sys.eccBad = wordOf b) ∧
  (∀ (t : Tick) (id : Fin 64) (a : Word32) (bs : List Byte) (up wire : List (Fin 266)) (b : Nat)
    (s : State), Quiet s t → swf [] s.sys.flips = true → b = busAddr id a.toNat →
    inSram b = true ∨ (tcmCore b).isSome = true → memReach s b = 0 → bs ≠ [] →
    a.toNat % 32 + bs.length ≤ 32 →
    2 ≤ wire.length ∨ bs.length < 32 ∧ 2 ≤ (mergeFlips (flipsAt s (wordOf b)) up).length →
    After (.memoryWrite t id a bs up wire) s fun u =>
      u.bus.err = 4 ∧ u.bus.data = [] ∧ u.mem = s.mem ∧
      flipsAt u (wordOf b) = mergeFlips (flipsAt s (wordOf b)) up ∧
      ∀ x, x ≠ wordOf b → flipsAt u x = flipsAt s x) ∧
  (∀ (t : Tick) (id : Fin 64) (a : Word32) (bs : List Byte) (up wire : List (Fin 266)) (s : State),
    Quiet s t → bs = [] ∨ 32 < a.toNat % 32 + bs.length →
    After (.memoryWrite t id a bs up wire) s fun u =>
      u.bus.err = 2 ∧ SameBut [.clk, .bus, .lrg, .trc, .tal] s u) ∧
  (∀ (t : Tick) (id : Fin 64) (a : Word32) (n : Nat) (up wire : List (Fin 266)) (s : State),
    Quiet s t → n = 0 ∨ 32 < a.toNat % 32 + n →
    After (.memoryRead t id a n up wire) s fun u =>
      u.bus.err = 2 ∧ u.bus.data = [] ∧ SameBut [.clk, .bus, .lrg, .trc, .tal] s u) ∧
  (∀ (t : Tick) (a : Nat) (q : List Nat) (b : Fin 266) (s : State), Quiet s t → swf [] s.sys.flips = true →
    s.sys.writeback = a :: q → flipsAt s a = [b] →
    After (.correctedWriteback t) s fun u =>
      flipsAt u a = [] ∧ a ∉ u.sys.writeback ∧ u.mem = s.mem ∧
      ∀ x, x ≠ a → flipsAt u x = flipsAt s x) ∧
  (∀ (t : Tick) (up : List (Fin 266)) (a : Nat) (s : State), OnTime s t → swf [] s.sys.flips = true →
    sysScrubInterval s ≠ 0 → s.sys.scrubAt ≤ t → a = scrubSkip s 12 s.sys.scrubPos →
    After (.scrub t up) s fun u =>
      u.sys.scrubPos = scrubSkip s 12 (scrubNext a) ∧
      u.sys.scrubAt = (if t < s.sys.scrubAt + 4 * sysScrubInterval s
        then s.sys.scrubAt + 4 * sysScrubInterval s else t + 4 * sysScrubInterval s) ∧
      flipsAt u a = mergeFlips (flipsAt s a) up ∧ (∀ x, x ≠ a → flipsAt u x = flipsAt s x) ∧
      ((mergeFlips (flipsAt s a) up).length = 1 → u.sys.eccAddr = a ∧ a ∈ u.sys.writeback ∧
        u.tal[133] = s.tal[133] + 1) ∧
      (2 ≤ (mergeFlips (flipsAt s a) up).length → u.sys.eccBad = a ∧ u.tal[134] = s.tal[134] + 1) ∧
      u.mem = s.mem) ∧
  (∀ (t : Tick) (up : List (Fin 266)) (s : State), OnTime s t →
    sysScrubInterval s = 0 ∨ t < s.sys.scrubAt →
    After (.scrub t up) s fun u => u.sys = s.sys ∧ u.mem = s.mem)

/-- In mode OFF or STANDBY a write of SYS_PDCTL.ON is stored, each domain whose bit rises turns on and
each whose bit falls turns off, the others stay; a transition ends in ON or OFF and is recorded (R376,
R377).
Rows that complete here, each with its own effect under conditions on the state and the operands alone:
POWER_DOMAIN_REQUEST, DOMAIN_TRANSITION_END. -/
def Obligations.PowerDomains : Prop :=
  (∀ (t : Tick) (v : BitVec 10) (s : State), Quiet s t → s.pba.mode = .off ∨ s.pba.mode = .standby →
    After (.powerDomainRequest t v) s fun u =>
      u.sys.pdctl = v ∧ ∀ d : Fin 10,
        u.sys.dom[d] = if v.getLsbD d.val = s.sys.pdctl.getLsbD d.val then s.sys.dom[d]
          else if v.getLsbD d.val then (if s.sys.dom[d] = .on then .on else .turningOn)
          else if s.sys.dom[d] = .off then .off else .turningOff) ∧
  (∀ (t : Tick) (d : Fin 10) (s : State), Quiet s t → s.sys.dom[d] = .turningOn → s.pba.toMode = none →
    After (.domainTransitionEnd t d) s fun u =>
      u.sys.dom[d] = .on ∧ ∀ x, x ≠ d → u.sys.dom[x] = s.sys.dom[x]) ∧
  (∀ (t : Tick) (d : Fin 10) (s : State), Quiet s t → s.sys.dom[d] = .turningOff →
    After (.domainTransitionEnd t d) s fun u =>
      u.sys.dom[d] = .off ∧ (d = 7 → ∀ n : Fin 6, u.can[n].st = 3) ∧
      ∀ x, x ≠ d → u.sys.dom[x] = s.sys.dom[x])

/-- A 32-byte write to an empty mailbox, or to a full one that overwrites, stores the word with the
initiator and the count in bits 255 to 240 and leaves every other mailbox; a full one that rejects
keeps its word and answers MBX_FULL. A 32-byte read returns the word and empties the mailbox, a
4-byte read returns one lane and changes no mailbox (R378 to R380).
The ring unit writes its oldest entry into its place in the ring and no other byte of memory, one in a cycle
of CLK_BUS; a write of LRG_REL with the present count of lost entries releases entries, with another it does nothing
(R384, R386).
Rows that complete here, each with its own effect under conditions on the state and the operands alone:
MAILBOX_WRITE, MAILBOX_READ, RING_ENTRY_WRITE, RING_RELEASE. -/
def Obligations.MailboxesAndRings : Prop :=
  (∀ (t : Tick) (id m : Fin 64) (w : Word256) (s : State), Quiet s t → mbxReach s m = 0 →
    (s.mbx[m].full = false ∨ mbxCfgOnFull s m = true) →
    After (.mailboxWrite t id m 32 w) s fun u =>
      u.mbx[m].full = true ∧ u.mbx[m].word.toNat % 2 ^ 240 = w.toNat % 2 ^ 240 ∧
      u.mbx[m].word.toNat / 2 ^ 240 = u.mbx[m].seq + 1024 * id.val ∧
      u.mbx[m].seq = s.mbx[m].seq % 1023 + 1 ∧ u.mbx[m].collision = s.mbx[m].full ∧
      u.bus.err = 0 ∧ ∀ k, k ≠ m → u.mbx[k] = s.mbx[k]) ∧
  (∀ (t : Tick) (id m : Fin 64) (w : Word256) (s : State), Quiet s t → mbxReach s m = 0 →
    s.mbx[m].full = true → mbxCfgOnFull s m = false →
    After (.mailboxWrite t id m 32 w) s fun u =>
      u.mbx = s.mbx ∧ u.bus.err = 6 ∧ u.tal[136] = s.tal[136] + 1) ∧
  (∀ (t : Tick) (id m : Fin 64) (j : Fin 8) (s : State), Quiet s t → mbxReach s m = 0 →
    After (.mailboxRead t id m 32 j) s fun u =>
      u.bus.data = leBytes 32 s.mbx[m].word.toNat ∧ u.bus.err = 0 ∧
      u.mbx[m].full = false ∧ u.mbx[m].word = 0 ∧ ∀ k, k ≠ m → u.mbx[k] = s.mbx[k]) ∧
  (∀ (t : Tick) (id m : Fin 64) (j : Fin 8) (s : State), Quiet s t → mbxReach s m = 0 →
    After (.mailboxRead t id m 4 j) s fun u =>
      u.bus.data = leBytes 4 (s.mbx[m].word.toNat / 2 ^ (32 * j.val)) ∧ u.bus.err = 0 ∧
      u.mbx = s.mbx) ∧
  (∀ (t : Tick) (e : RingEntry) (es : List RingEntry) (s : State), Quiet s t → Canonical s →
    s.lrg.waiting = e :: es → s.lrg.wrote ≠ 1 + (s.at t).clk.now / 4 →
    After (.ringEntryWrite t) s fun u =>
      u.lrg.waiting = es ∧ u.lrg.wrote = 1 + (s.at t).clk.now / 4 ∧
      u.lrg.ring[e.ring].count = s.lrg.ring[e.ring].count + 1 ∧
      memWord u (32 * (lrgBaseAddr s e.ring + e.idx)) = e.word ∧
      (∀ a, a < 32 * (lrgBaseAddr s e.ring + e.idx) ∨ 32 * (lrgBaseAddr s e.ring + e.idx) + 32 ≤ a →
        memByte u a = memByte s a) ∧
      ∀ r, r ≠ e.ring → u.lrg.ring[r] = s.lrg.ring[r]) ∧
  (∀ (t : Tick) (r : Fin 32) (v : Word32) (s : State), Quiet s t →
    v.toNat / 2 ^ 16 = s.lrg.ring[r].lost.toNat % 65536 →
    After (.ringRelease t r v) s fun u =>
      u.lrg.ring[r].count = s.lrg.ring[r].count - v.toNat % 8192 ∧
      u.lrg.ring[r].ridx = (s.lrg.ring[r].ridx + min s.lrg.ring[r].count (v.toNat % 8192)) %
        max (lrgCfgDepth s r) 1 ∧
      u.lrg.waiting = s.lrg.waiting ∧ ∀ k, k ≠ r → u.lrg.ring[k] = s.lrg.ring[k]) ∧
  (∀ (t : Tick) (r : Fin 32) (v : Word32) (s : State), Quiet s t →
    v.toNat / 2 ^ 16 ≠ s.lrg.ring[r].lost.toNat % 65536 →
    After (.ringRelease t r v) s fun u => u.lrg = s.lrg)

/-- A valid window seals with the sum, the count, the mean and the flags of the samples whose stamps
lie in it; an invalid one seals with zeros and the flags INVALID and EMPTY (R69, R71, R73 to R75, R85). Of
samples on every edge of CLK_ADC it holds as many as its length gives (R63, R66, R72). The seal of the last
valid member sends the set, which is in the data memory of its engines 120 tk later and triggers them (R18,
R77). A read of a result captures the flags, the count and the stamp and changes no other window (R78).
A reference settles, 200 µs after a return of VREF_EXT; VREF_EXT outside 1.500 to 1.700 V is bad and is
reported, and settles anew after its return (R67, R68). The model's choices are that an invalid window shows
no other flag (log 119), an empty one no SHADOWED (log 120), that the first settling ends when its row comes
(log 126), and that REF_SETTLING clears while the reference is bad (log 122).
Rows that complete here, each with its own effect under conditions on the state and the operands alone:
WINDOW_SEAL, RESULT_CAPTURE, REF_SETTLED, REF_EXT_BAD, REF_EXT_RETURN. -/
def Obligations.CaptureResults : Prop :=
  (∀ (t : Tick) (k : Fin 24) (w : Fin 8) (samples : List Sample) (close : Nat) (old : Bool) (c : Fin 24)
    (x : Win) (s : State), OnTime s t → sealTick s k w = some (close, old) → close ≤ t →
    winValid s (capView s old).1 (capView s old).2 (k, w) = true → x = (capView s old).1.at (k, w) →
    feedAt s k close = some c →
    After (.windowSeal t k w samples) s fun u =>
      let y := u.cap.res[k][w]
      let opn := close - x.close + x.opn
      let xs := samples.filter fun q => opn ≤ q.stamp && q.stamp < close
      let sum := (xs.map fun q => corrected s c q.raw).sum
      y.sum = sum ∧ y.count = xs.length ∧ y.stamp = close ∧
      (xs = [] → y.mean = 0) ∧
      (xs ≠ [] → y.mean = BitVec.ofInt 24 (satI 24 ((sum * 256).tdiv xs.length))) ∧
      y.flags.getLsbD 0 = false ∧ y.flags.getLsbD 1 = xs.isEmpty ∧
      y.flags.getLsbD 2 = (decide (c ≠ k) && !xs.isEmpty) ∧
      y.flags.getLsbD 3 = (xs.any fun q => unsettledAt s (refOf s k) q.stamp) ∧
      y.flags.getLsbD 4 = (xs.any fun q => clipped q.raw) ∧
      y.flags.getLsbD 5 = (s.cap.notices.any fun n => bit x.mask n.1 && decide (n.2 + 80 < close) &&
        decide (opn < n.2 + 80 + capSettleTicks s n.1))) ∧
  (∀ (t : Tick) (k : Fin 24) (w : Fin 8) (samples : List Sample) (close : Nat) (old : Bool) (s : State),
    OnTime s t → sealTick s k w = some (close, old) → close ≤ t →
    winValid s (capView s old).1 (capView s old).2 (k, w) = false →
    After (.windowSeal t k w samples) s fun u =>
      let y := u.cap.res[k][w]
      y.sum = 0 ∧ y.count = 0 ∧ y.mean = 0 ∧ y.stamp = close ∧ y.flags = 3) ∧
  (∀ (t : Tick) (k : Fin 24) (w : Fin 8) (s : State), Quiet s t →
    After (.resultCapture t k w) s fun u =>
      let x := s.cap.res[k][w]
      u.cap.res[k][w] = { x with
        capFlags := x.flags, capCount := x.count, capStamp := BitVec.ofNat 32 x.stamp } ∧
      ∀ (k' : Fin 24) (w' : Fin 8), k' ≠ k ∨ w' ≠ w → u.cap.res[k'][w'] = s.cap.res[k'][w']) ∧
  (∀ (t : Tick) (r : Fin 3) (mv : Nat) (s : State), OnTime s t → s.cap.settling[r] = true →
    (r = 1 → s.cap.extWas = true → s.cap.settleFrom[r] + 320000 ≤ t) →
    After (.refSettled t r mv) s fun u =>
      u.cap.settling[r] = false ∧ u.cap.settledAt[r] = t ∧
      ∀ q, q ≠ r → u.cap.settling[q] = s.cap.settling[q]) ∧
  (∀ (t : Tick) (mv : Nat) (s : State), OnTime s t → s.cap.extBad = false → mv < 1500 ∨ 1700 < mv →
    After (.refExtBad t mv) s fun u =>
      u.cap.extBad = true ∧ u.cap.settling[1] = false ∧
      u.rng.net = s.rng.net ++ [⟨t + 40, bCAP, 0xFF, 6, 0, 0⟩]) ∧
  (∀ (t : Tick) (s : State), OnTime s t → s.cap.extBad = true →
    After (.refExtReturn t) s fun u =>
      u.cap.extBad = false ∧ u.cap.settling[1] = true ∧ u.cap.settleFrom[1] = t) ∧
  (∀ (t : Tick) (k : Fin 24) (w : Fin 8) (samples : List Sample) (close : Nat) (old : Bool) (c : Fin 24)
    (x : Win) (e b : Nat) (s : State), OnTime s t → sealTick s k w = some (close, old) → close ≤ t →
    winValid s (capView s old).1 (capView s old).2 (k, w) = true → x = (capView s old).1.at (k, w) →
    feedAt s k close = some c → e ≤ 12 → nearLattice e b samples = true →
    b + e ≤ close - x.close + x.opn → close + e ≤ b + 40 * samples.length →
    After (.windowSeal t k w samples) s fun u =>
      40 * u.cap.res[k][w].count ≤ x.close - x.opn + 39 + 2 * e ∧
      x.close - x.opn ≤ 40 * u.cap.res[k][w].count + 39 + 2 * e) ∧
  (∀ (t : Tick) (k : Fin 24) (w : Fin 8) (samples : List Sample) (close : Nat) (x : Win) (s : State),
    OnTime s t → sealTick s k w = some (close, false) → close ≤ t →
    winValid s s.cap.win s.cap.period (k, w) = true → x = s.cap.win[k][w] →
    s.cap.delivered[x.set] = false →
    (∀ y ∈ validOf s s.cap.win s.cap.period x.set, y ≠ (k, w) → (Wins.at s.cap.win y).sealed = true) →
    After (.windowSeal t k w samples) s fun u =>
      (u.flights.any fun f => match f.2 with
        | .results d => f.1 == close + 120 && d.set == x.set && d.tick == close &&
          d.members.any fun m => m.ch == k && m.win == w && m.valid && m.mean == u.cap.res[k][w].mean
        | _ => false) = true ∧
      u.cap.delivered[x.set] = true) ∧
  (∀ (t : Tick) (d : Delivery) (m : Member) (e : Fin 8) (s : State), s.clk.locked = true →
    s.skd.slew = 0 → s.flights = [(t, .results d)] → s.clk.now ≤ t → d.members = [m] →
    m.valid = true → m.slot < 32 → capSetBaseWord s d.set ≤ 959 →
    bit (capSetEngines s d.set) e = true → s.ce[e].state = .idle →
    (∀ j : Fin 1024, s.ce[e].dataFlips j.val = []) →
    let u := s.at t
    let b := capSetBaseWord s d.set
    u.flights = [] ∧ u.clk.now = t ∧ u.ce[e].setPend = true ∧
    u.ce[e].dmem = sput 0 (sput 0 (sput 0 s.ce[e].dmem b (BitVec.ofNat 24 d.tick))
      (b + 1 + 2 * m.slot) m.mean) (b + 2 + 2 * m.slot)
      (BitVec.ofNat 24 (put m.flags.toNat 18 + m.count)))

/-- The steps of rotating calibration: start with a free spare or without, outgoing overlap,
switchover, levels with new trims or retirement, return overlap, switch back (R80 to R85).
Rows that complete here, each with its own effect under conditions on the state and the operands alone:
CALIBRATION_START, CAL_OVERLAP_END, CHANNEL_SWITCHOVER, CAL_LEVELS_DONE, CAL_RETURN_OVERLAP_END. -/
def Obligations.RotatingCalibration : Prop :=
  (∀ (t : Tick) (c q : Fin 24) (s : State), OnTime s t → capRotIntervalMs s ≠ 0 →
    s.cap.stopped = false → s.cap.cal = none → s.cap.calFrom + capRotIntervalMs s * msTk ≤ t →
    calNext s = some c → c.val < 22 → capChEn s c = true → freeSpare s = some q →
    After (.calibrationStart t) s fun u =>
      u.cap.cal = some ⟨c, some q, .overlapOut, t⟩ ∧ u.cap.turn = c + 1 ∧ u.cap.feed[q] = none ∧
      ∀ k, k ≠ q → u.cap.feed[k] = s.cap.feed[k]) ∧
  (∀ (t : Tick) (c : Fin 24) (s : State), OnTime s t → capRotIntervalMs s ≠ 0 →
    s.cap.stopped = false → s.cap.cal = none → s.cap.calFrom + capRotIntervalMs s * msTk ≤ t →
    calNext s = some c → (22 ≤ c.val ∨ capChEn s c = false) →
    After (.calibrationStart t) s fun u =>
      u.cap.cal = some ⟨c, none, .levels, t⟩ ∧ u.cap.feed[c] = none ∧
      ∀ k, k ≠ c → u.cap.feed[k] = s.cap.feed[k]) ∧
  (∀ (t : Tick) (mc ms : Int) (c : Cal) (s : State), OnTime s t → s.cap.cal = some c →
    c.step = .overlapOut → c.since + 40 * overlapOf s ≤ t →
    After (.calOverlapEnd t mc ms) s fun u =>
      u.cap.cal = some { c with step := .switchOut, since := t } ∧ u.cap.feed = s.cap.feed ∧
      u.rng.net = s.rng.net ++ (if mismatchOf s < (mc - ms).natAbs
        then [⟨t + 40, bCAP, 0xC0 + c.conv, 2, 0, 0⟩] else [])) ∧
  (∀ (t : Tick) (c : Cal) (q : Fin 24) (s : State), OnTime s t → s.cap.cal = some c →
    c.step = .switchOut → c.spare = some q → maySwitch (s.at t) c.conv = true →
    After (.channelSwitchover t) s fun u =>
      u.cap.feed[c.conv] = some q ∧ u.cap.cal = some { c with step := .levels, since := t } ∧
      ∀ k, k ≠ c.conv → u.cap.feed[k] = s.cap.feed[k]) ∧
  (∀ (t : Tick) (c : Cal) (q : Fin 24) (s : State), OnTime s t → s.cap.cal = some c →
    c.step = .switchBack → c.spare = some q → c.conv ≠ q → maySwitch (s.at t) c.conv = true →
    After (.channelSwitchover t) s fun u =>
      u.cap.feed[c.conv] = some c.conv ∧ u.cap.feed[q] = some q ∧ u.cap.cal = none) ∧
  (∀ (t : Tick) (m0 mp mm : Int) (c : Cal) (s : State), OnTime s t → s.cap.cal = some c →
    c.step = .levels → c.since + 3 * (3200 + 40 * calSamplesOf s) ≤ t → m0.natAbs ≤ 512 → mm < mp →
    31785 ≤ roundDiv (2 ^ 30 : Nat) (mp - mm).natAbs → roundDiv (2 ^ 30 : Nat) (mp - mm).natAbs ≤ 33751 →
    After (.calLevelsDone t m0 mp mm) s fun u =>
      u.cap.conv[c.conv].offset = m0 ∧
      (u.cap.conv[c.conv].gain : Int) = roundDiv (2 ^ 30 : Nat) (mp - mm).natAbs ∧
      u.cap.conv[c.conv].passed = some t ∧ u.cap.conv[c.conv].retired = s.cap.conv[c.conv].retired ∧
      u.tal[24] = s.tal[24] + 1 ∧ ∀ k, k ≠ c.conv → u.cap.conv[k] = s.cap.conv[k]) ∧
  (∀ (t : Tick) (m0 mp mm : Int) (c : Cal) (s : State), OnTime s t → s.cap.cal = some c →
    c.step = .levels → c.since + 3 * (3200 + 40 * calSamplesOf s) ≤ t → 512 < m0.natAbs →
    After (.calLevelsDone t m0 mp mm) s fun u =>
      u.cap.conv[c.conv] = { s.cap.conv[c.conv] with retired := true } ∧ u.cap.cal = none ∧
      ∀ k, k ≠ c.conv → u.cap.conv[k] = s.cap.conv[k]) ∧
  (∀ (t : Tick) (mc ms : Int) (c : Cal) (s : State), OnTime s t → s.cap.cal = some c →
    c.step = .overlapBack → c.since + 40 * overlapOf s ≤ t → (mc - ms).natAbs ≤ mismatchOf s →
    After (.calReturnOverlapEnd t mc ms) s fun u =>
      u.cap.cal = some { c with step := .switchBack, since := t } ∧ u.cap.conv = s.cap.conv) ∧
  (∀ (t : Tick) (mc ms : Int) (c : Cal) (s : State), OnTime s t → s.cap.cal = some c →
    c.step = .overlapBack → c.since + 40 * overlapOf s ≤ t → mismatchOf s < (mc - ms).natAbs →
    After (.calReturnOverlapEnd t mc ms) s fun u =>
      u.cap.conv[c.conv].retired = true ∧ u.cap.cal = none)

/-- The timer and software raise their trigger latch, an overrun of a pending latch is counted, RUN
starts an engine, ends it at once or after its pass and ends a fault, the pass starts 16 tk after its trigger
and after the held writes of the pass before, and a write from outside goes to data memory or waits during a
pass; a single flipped bit of the row it meets is corrected and counted, two refuse it (R90 to R95, R370,
R371). CE7 takes the writes and triggers of the engine it mirrors as well (R114).
Rows that complete here, each with its own effect under conditions on the state and the operands alone:
ENGINE_TIMER_TRIGGER, SWTRIG, RUN, PASS_START, DMEM_WRITE. -/
def Obligations.EnginePasses : Prop :=
  (∀ (t : Tick) (e : Fin 8) (s : State), OnTime s t → ceTimerPeriod s e ≠ 0 →
    t % max (ceTimerPeriod s e) 400 = ceTphasePhase s e % max (ceTimerPeriod s e) 400 →
    (s.ce[e].state = .idle ∨ s.ce[e].state = .running) →
    After (.engineTimerTrigger t e) s fun u =>
      u.ce[e].timerPend = true ∧ u.ce[e].state = s.ce[e].state ∧ u.ce[e].w = s.ce[e].w ∧
      u.ce[e].dmem = s.ce[e].dmem ∧
      (∀ x, x ≠ e → x ≠ 7 ∨ mirrored s e = false → u.ce[x] = s.ce[x]) ∧
      u.tal[32 + e.val] = if s.ce[e].timerPend then s.tal[32 + e.val] + 1 else s.tal[32 + e.val]) ∧
  (∀ (t : Tick) (e : Fin 8) (s : State), OnTime s t →
    (s.ce[e].state = .idle ∨ s.ce[e].state = .running) →
    After (.swtrig t e) s fun u =>
      u.ce[e].swPend = true ∧ u.ce[e].state = s.ce[e].state ∧
      (∀ x, x ≠ e → x ≠ 7 ∨ mirrored s e = false → u.ce[x] = s.ce[x]) ∧
      u.tal[32 + e.val] = if s.ce[e].swPend then s.tal[32 + e.val] + 1 else s.tal[32 + e.val]) ∧
  (∀ (t : Tick) (e : Fin 8) (s : State), Quiet s t → s.ce[e].state = .stopped → s.boot.act.busy = false →
    After (.run t e true) s fun u =>
      u.ce[e] = { s.ce[e] with
        state := .idle, run := true, setPend := false, timerPend := false, swPend := false } ∧
      ∀ x, x ≠ e → u.ce[x] = s.ce[x]) ∧
  (∀ (t : Tick) (e : Fin 8) (s : State), Quiet s t → s.ce[e].state = .fault → s.boot.act.busy = false →
    After (.run t e false) s fun u =>
      u.ce[e] = { s.ce[e] with state := .stopped, run := false, cause := 0 } ∧
      ∀ x, x ≠ e → u.ce[x] = s.ce[x]) ∧
  (∀ (t : Tick) (e : Fin 8) (pup : List (Fin 512 × Fin 266)) (dup : List (Fin 128 × Fin 266)) (s : State),
    OnTime s t → s.ce[e].state = .idle → s.ce[e].anyPend = true →
    max (s.ce[e].raised + 16) s.ce[e].readyAt ≤ t →
    After (.passStart t e pup dup) s fun u =>
      u.ce[e].state = .running ∧ u.ce[e].pstart = max (s.ce[e].raised + 16) s.ce[e].readyAt ∧
      u.ce[e].cycles = 0 ∧ u.ce[e].stack = [] ∧ u.ce[e].staged = [] ∧ u.ce[e].w = s.ce[e].w ∧
      u.ce[e].flags = s.ce[e].flags ∧
      u.ce[e].pc = (if s.ce[e].setPend then s.ce[e].entrySet
        else if s.ce[e].timerPend then s.ce[e].entryTimer else s.ce[e].entrySet) ∧
      u.ce[e].pflips = flipRows s.ce[e].pflips pup ∧ u.ce[e].dflips = flipRows s.ce[e].dflips dup ∧
      ∀ x, x ≠ e → u.ce[x] = s.ce[x]) ∧
  (∀ (t : Tick) (e : Fin 8) (j : Fin 1024) (v : Word24) (s : State), Quiet s t →
    s.ce[e].state ≠ .running → s.ce[e].dataFlips j.val = [] →
    After (.dmemWrite t e j v) s fun u =>
      u.ce[e] = { s.ce[e].cleanRow j.val with dmem := sput 0 s.ce[e].dmem j.val v } ∧
      ∀ x, x ≠ e → x ≠ 7 ∨ mirrored s e = false → u.ce[x] = s.ce[x]) ∧
  (∀ (t : Tick) (e : Fin 8) (j : Fin 1024) (v : Word24) (s : State), Quiet s t →
    s.ce[e].state = .running → s.ce[e].hold.length < 192 →
    After (.dmemWrite t e j v) s fun u =>
      u.ce[e] = { s.ce[e] with hold := s.ce[e].hold ++ [(j.val, v)] } ∧
      ∀ x, x ≠ e → x ≠ 7 ∨ mirrored s e = false → u.ce[x] = s.ce[x]) ∧
  (∀ (t : Tick) (e : Fin 8) (j : Fin 1024) (v : Word24) (s : State), Quiet s t → mirrored s e = false →
    s.ce[e].state ≠ .running → (s.ce[e].dataFlips j.val).length = 1 →
    After (.dmemWrite t e j v) s fun u =>
      u.ce[e].dmem = sput 0 s.ce[e].dmem j.val v ∧ u.ce[e].rowBad j.val = false ∧
      u.sys.eccAddr = rowAddr e j.val ∧ u.tal[133] = s.tal[133] + 1) ∧
  (∀ (t : Tick) (e : Fin 8) (j : Fin 1024) (v : Word24) (s : State), Quiet s t → mirrored s e = false →
    s.ce[e].state ≠ .running → 2 ≤ (s.ce[e].dataFlips j.val).length →
    After (.dmemWrite t e j v) s fun u =>
      u.ce = s.ce ∧ u.sys.eccBad = rowAddr e j.val ∧ u.tal[134] = s.tal[134] + 1) ∧
  (∀ (t : Tick) (e : Fin 8) (v : Bool) (s : State), Quiet s t → s.ce[e].state = .running →
    s.boot.act.busy = false →
    After (.run t e v) s fun u =>
      u.ce[e] = { s.ce[e] with run := v } ∧ ∀ x, x ≠ e → u.ce[x] = s.ce[x]) ∧
  (∀ (t : Tick) (e : Fin 8) (s : State), Quiet s t → s.ce[e].state = .idle → s.boot.act.busy = false →
    After (.run t e false) s fun u =>
      u.ce[e] = { s.ce[e] with state := .stopped, run := false } ∧
      (∀ x, x ≠ e → u.ce[x] = s.ce[x]) ∧
      ∀ g : Fin 4, s.red.tok[g].holder = some e → s.red.tok[g].state = .held →
        u.red.tok[g].state = .expired ∧ u.red.tok[g].holder = none) ∧
  (∀ (t : Tick) (e : Fin 8) (j : Fin 1024) (v : Word24) (s : State), Quiet s t → mirrored s e = true →
    s.ce[7].state ≠ .running → s.ce[7].dataFlips j.val = [] →
    After (.dmemWrite t e j v) s fun u => u.ce[7].dmem = sput (0 : Word24) s.ce[7].dmem j.val v)

/-- A program load starts only in STOPPED and inside the SRAM and the program memory; it ends, while the
engine is still STOPPED, with the words in the program memory, the flag word cleared and RESULT 0 (R113).
Rows that complete here, each with its own effect under conditions on the state and the operands alone:
PROGRAM_LOAD, PROGRAM_LOADED. -/
def Obligations.ProgramLoads : Prop :=
  (∀ (t : Tick) (e : Fin 8) (v : Word32) (s : State), OnTime s t → v.getLsbD 31 = true →
    s.ce[e].loadBusy = false → s.ce[e].state = .stopped → inSram s.ce[e].loadSrc = true →
    bits v.toNat 8 0 + loadRows v.toNat ≤ 512 →
    s.ce[e].loadSrc + 32 * loadRows v.toNat ≤ sramEnd →
    After (.programLoad t e v) s fun u =>
      u.ce[e] = { s.ce[e] with
        loadBusy := true, loadFrom := t, loadCount := bits v.toNat 24 16, loadDest := bits v.toNat 8 0
        goRows := loadRows v.toNat, goDest := bits v.toNat 8 0, goSrc := s.ce[e].loadSrc } ∧
      ∀ x, x ≠ e → u.ce[x] = s.ce[x]) ∧
  (∀ (t : Tick) (e : Fin 8) (v : Word32) (s : State), Quiet s t → v.getLsbD 31 = true →
    s.ce[e].loadBusy = false → s.ce[e].state ≠ .stopped →
    After (.programLoad t e v) s fun u =>
      u.ce[e].loadResult = 1 ∧ u.ce[e].loadBusy = false ∧ u.ce[e].pmem = s.ce[e].pmem) ∧
  (∀ (t : Tick) (e : Fin 8) (s : State), Quiet s t → s.ce[e].loadBusy = true → bootLoadSlot s e = none →
    s.ce[e].state = .stopped → s.sys.flips = [] →
    After (.programLoaded t e) s fun u =>
      u.ce[e].loadBusy = false ∧ u.ce[e].loadResult = 0 ∧ u.ce[e].flags = 0 ∧
      u.ce[e].w = s.ce[e].w ∧ u.ce[e].dmem = s.ce[e].dmem ∧ u.mem = s.mem ∧
      u.ce[e].pmem = (s.ce[e].loadWords (8 * s.ce[e].goDest)
        (wordsOf (memBytes s s.ce[e].goSrc (32 * s.ce[e].goRows)))).pmem ∧
      ∀ x, x ≠ e → u.ce[x] = s.ce[x]) ∧
  (∀ (t : Tick) (e : Fin 8) (s : State), Quiet s t → s.ce[e].loadBusy = true → bootLoadSlot s e = none →
    s.ce[e].state ≠ .stopped →
    After (.programLoaded t e) s fun u =>
      u.ce[e] = { s.ce[e] with loadBusy := false, loadResult := 1 } ∧
      ∀ x, x ≠ e → u.ce[x] = s.ce[x])

/-- NOP, LD, LDI, MOV and MOVS take one cycle and change one register and no flag (R99, R101). ADD and SUB wrap with W and else saturate with SAT_ADD; ABS and SHF saturate with SAT_ADD; MUL
rounds the scaled product and saturates with SAT_MUL (R89, R99).
Rows that complete here, each with its own effect under conditions on the state and the operands alone: NOP,
LD, LDI, MOV, MOVS, ADD, SUB, ABS, SHF, MUL. -/
def Obligations.EngineArithmetic : Prop :=
  ∀ (e : Fin 8) (s : State), let k := s.ce[e]; let w := fetchWord k
    let a := (k.reg (fA w)).toInt; let b := (k.reg (fB w)).toInt
    (Issues s e 0x00 → After (.nop e) s fun u => Ran s u e 1 (k.pc + 1) k) ∧
    (Issues s e 0x01 → After (.ld e) s fun u => Writes s u e 1 (fD w)
      (sget 0 k.dmem ((fAddr w + if fX w then (k.reg (fA w)).toNat % 1024 else 0) % 1024)) 0) ∧
    (Issues s e 0x03 → After (.ldi e) s fun u => Writes s u e 1 (fD w)
      (BitVec.ofInt 24 ((w.extractLsb' 0 21).toInt * if w.getLsbD 21 then 8 else 1)) 0) ∧
    (Issues s e 0x04 → After (.mov e) s fun u => Writes s u e 1 (fD w) (k.reg (fA w)) 0) ∧
    (Issues s e 0x05 → After (.movs e) s fun u => Writes s u e 1 (fD w)
      (BitVec.ofNat 24 (special e k (w.toNat % 8))) 0) ∧
    (Issues s e 0x08 → After (.add e) s fun u =>
      if fX w then Writes s u e 1 (fD w) (k.reg (fA w) + k.reg (fB w)) 0
      else Writes s u e 1 (fD w) (sat24 (a + b)) (satFlag (a + b) 0b000001)) ∧
    (Issues s e 0x09 → After (.sub e) s fun u =>
      if fX w then Writes s u e 1 (fD w) (k.reg (fA w) - k.reg (fB w)) 0
      else Writes s u e 1 (fD w) (sat24 (a - b)) (satFlag (a - b) 0b000001)) ∧
    (Issues s e 0x0A → After (.abs e) s fun u =>
      Writes s u e 1 (fD w) (sat24 a.natAbs) (satFlag a.natAbs 0b000001)) ∧
    (Issues s e 0x0B → After (.shf e) s fun u =>
      let n := clampI (w.extractLsb' 0 6).toInt (-23) 23
      let x := if 0 ≤ n then a * 2 ^ n.toNat else roundDiv a (2 ^ (-n).toNat)
      Writes s u e 1 (fD w) (sat24 x) (satFlag x 0b000001)) ∧
    (Issues s e 0x0C → After (.mul e) s fun u =>
      let x := roundDiv (a * b * 2 ^ (w.toNat % 16)) (2 ^ 23)
      Writes s u e 1 (fD w) (sat24 x) (satFlag x 0b000010))

/-- MAC and MSU add and subtract a product to an accumulator saturated to 48 bits, MVA scales an
accumulator into a register, DIV truncates the quotient and names a division by 0 (R89, R99).
Rows that complete here, each with its own effect under conditions on the state and the operands alone: MAC,
MSU, MVA, DIV. -/
def Obligations.EngineAccumulators : Prop :=
  ∀ (e : Fin 8) (s : State), let k := s.ce[e]; let w := fetchWord k
    let a := (k.reg (fA w)).toInt; let b := (k.reg (fB w)).toInt
    let acc := (k.acc.getD (fK w) 0).toInt
    (Issues s e 0x0D → After (.mac e) s fun u =>
      let x := (if fX w then 0 else acc) + a * b
      Ran s u e 1 (k.pc + 1) { k with
        acc := k.acc.setIfInBounds (fK w) (BitVec.ofInt 48 (satI 48 x))
        flags := k.flags ||| (if satI 48 x = x then 0 else 0b000100)
        rose := k.rose ||| ((if satI 48 x = x then 0 else 0b000100) &&& ~~~k.flags) }) ∧
    (Issues s e 0x0E → After (.msu e) s fun u =>
      let x := (if fX w then 0 else acc) - a * b
      Ran s u e 1 (k.pc + 1) { k with
        acc := k.acc.setIfInBounds (fK w) (BitVec.ofInt 48 (satI 48 x))
        flags := k.flags ||| (if satI 48 x = x then 0 else 0b000100)
        rose := k.rose ||| ((if satI 48 x = x then 0 else 0b000100) &&& ~~~k.flags) }) ∧
    (Issues s e 0x0F → After (.mva e) s fun u =>
      let x := roundDiv (acc * 2 ^ (w.toNat % 16)) (2 ^ 23)
      Writes s u e 1 (fD w) (sat24 x) (satFlag x 0b000100)) ∧
    (Issues s e 0x10 → After (.div e) s fun u =>
      if b = 0 then Writes s u e 12 (fD w)
        (if a = 0 then 0 else if 0 < a then 0x7FFFFF else 0x800000) 0b010000
      else Writes s u e 12 (fD w) (sat24 ((a * 2 ^ (23 - w.toNat % 16)).tdiv b))
        (satFlag ((a * 2 ^ (23 - w.toNat % 16)).tdiv b) 0b000010))

/-- SINCOS, CLARKE, PARK and SVM write two or three registers in a row (R102, R103, R105).
Rows that complete here, each with its own effect under conditions on the state and the operands alone:
SINCOS, CLARKE, PARK, SVM. -/
def Obligations.EngineVectors : Prop :=
  ∀ (e : Fin 8) (s : State), let k := s.ce[e]; let w := fetchWord k; let d := fD w
    let r (i : Nat) : Int := (k.reg i).toInt; let a := fA w
    (Issues s e 0x14 → After (.sincos e) s fun u =>
      Writes2 s u e 3 d (BitVec.ofInt 24 (sineAt (k.reg a).toNat 0))
        (BitVec.ofInt 24 (sineAt (k.reg a).toNat 256)) 0) ∧
    (Issues s e 0x15 → fX w = true → After (.clarke e) s fun u =>
      let y := divSqrt3 (r a + 2 * r (a + 1))
      Writes2 s u e 3 d (k.reg a) (sat24 y) (satFlag y 0b000001)) ∧
    (Issues s e 0x15 → fX w = false → After (.clarke e) s fun u =>
      let x := roundDiv (2 * r a - r (a + 1) - r (a + 2)) 3
      let y := divSqrt3 (r (a + 1) - r (a + 2))
      Writes2 s u e 3 d (sat24 x) (sat24 y) (satFlag x 0b000001 ||| satFlag y 0b000001)) ∧
    (Issues s e 0x16 → After (.park e) s fun u =>
      let sn := r (fB w); let cs := r (fB w + 1)
      let x := roundDiv (if fX w then r a * cs - r (a + 1) * sn else r a * cs + r (a + 1) * sn) (2 ^ 23)
      let y := roundDiv (if fX w then r a * sn + r (a + 1) * cs else r (a + 1) * cs - r a * sn) (2 ^ 23)
      Writes2 s u e 3 d (sat24 x) (sat24 y) (satFlag x 0b000001 ||| satFlag y 0b000001)) ∧
    (Issues s e 0x18 → After (.svm e) s fun u =>
      let ps := svmPhases (r a) (r (a + 1))
      (∀ i : Fin 3, u.ce[e].reg (d + i) =
        BitVec.ofInt 24 (clampI (svmDuty (ps.getD i (0, 0)) (svmMid ps)) 0 0x7FFFFF)) ∧
      (∀ i, i < d ∨ d + 2 < i → u.ce[e].reg i = k.reg i) ∧
      u.ce[e].cycles = k.cycles + 6 ∧ u.ce[e].pc = k.pc + 1 ∧ SameBut [.clk, .ce, .rng] s u)

/-- LIM clamps between two data words, MINS and MAXS choose the best of a run of registers and its
position, LUT interpolates and names an operand outside the table, PI keeps its integrator within its
limits (R104, R106, R107).
Rows that complete here, each with its own effect under conditions on the state and the operands alone: LIM,
MINS, MAXS, LUT, PI. -/
def Obligations.EngineChoices : Prop :=
  ∀ (e : Fin 8) (s : State), let k := s.ce[e]; let w := fetchWord k; let a := fA w
    let m (i : Nat) : Int := (k.peek (fAddr w + i)).toInt
    (Issues s e 0x19 → After (.lim e) s fun u =>
      Writes s u e 2 (fD w) (BitVec.ofInt 24 (clampI (k.reg a).toInt (m 0) (m 1))) 0) ∧
    (Issues s e 0x1A → After (.mins e) s fun u =>
      u.ce[e].win < fN w ∧ u.ce[e].reg (fD w) = k.reg (a + u.ce[e].win) ∧
      (∀ i, i < fN w → (k.reg (a + u.ce[e].win)).toInt ≤ (k.reg (a + i)).toInt) ∧
      (∀ i, i < u.ce[e].win → (k.reg (a + u.ce[e].win)).toInt < (k.reg (a + i)).toInt) ∧
      u.ce[e] = { k with
        w := u.ce[e].w, win := u.ce[e].win, cycles := k.cycles + fN w, pc := k.pc + 1 } ∧
      (w.getLsbD 10 = false →
        Ran s u e (fN w) (k.pc + 1) { k with w := u.ce[e].w, win := u.ce[e].win })) ∧
    (Issues s e 0x1B → After (.maxs e) s fun u =>
      u.ce[e].win < fN w ∧ u.ce[e].reg (fD w) = k.reg (a + u.ce[e].win) ∧
      (∀ i, i < fN w → (k.reg (a + i)).toInt ≤ (k.reg (a + u.ce[e].win)).toInt) ∧
      (∀ i, i < u.ce[e].win → (k.reg (a + i)).toInt < (k.reg (a + u.ce[e].win)).toInt) ∧
      u.ce[e] = { k with
        w := u.ce[e].w, win := u.ce[e].win, cycles := k.cycles + fN w, pc := k.pc + 1 } ∧
      (w.getLsbD 10 = false →
        Ran s u e (fN w) (k.pc + 1) { k with w := u.ce[e].w, win := u.ce[e].win })) ∧
    (Issues s e 0x1C → After (.lut e) s fun u =>
      let x := (k.reg a).toInt - m 1
      let n := lutN k w
      let sp := 2 ^ lutE k w
      if x < 0 then Writes s u e 4 (fD w) (k.peek (fAddr w + 3)) 0b100000
      else if ((n - 1) * sp : Nat) ≤ x then Writes s u e 4 (fD w) (k.peek (fAddr w + 2 + n)) 0b100000
      else Writes s u e 4 (fD w) (BitVec.ofInt 24 (roundDiv (m (3 + x.toNat / sp) * sp +
        (m (4 + x.toNat / sp) - m (3 + x.toNat / sp)) * (x.toNat % sp : Nat)) sp)) 0) ∧
    (Issues s e 0x17 → After (.pi e) s fun u =>
      let x := (k.reg a).toInt
      let p0 := roundDiv (m 0 * x) (2 ^ 16)
      let p := satI 24 p0
      let i1 := clampI (m 2 + roundDiv (m 1 * x) (2 ^ 16)) (m 3 - p) (m 4 - p)
      let i2 := clampI i1 (m 3) (m 4)
      u.ce[e].reg (fD w) = BitVec.ofInt 24 (clampI (p + i2) (m 3) (m 4)) ∧
      u.ce[e].dmem = sput 0 k.dmem ((fAddr w + 2) % 1024) (BitVec.ofInt 24 i2) ∧
      (∀ i, i ≠ fD w → u.ce[e].reg i = k.reg i) ∧
      u.ce[e].flags = k.flags ||| satFlag p0 0b000010 ∧
      u.ce[e].cycles = k.cycles + 4 ∧ u.ce[e].pc = k.pc + 1 ∧ SameBut [.clk, .ce, .rng] s u)

/-- BR, CALL and RET set the program counter, END ends the pass, after which the engine is IDLE, starts its
next pass or is STOPPED, FCLR clears flags, ST stores a data word (R91, R93, R96, R99, R100). A single flipped
bit in the row an engine fetches is corrected and counted (R90); the address that is noted then is a free
value (log 124). An illegal instruction, the pass limit and a double-bit error in a fetched or a read row put
the engine into FAULT with causes 1, 4, 5 and 6; its leases end, and the fault is reported to the island (R90,
R100, R112, R300).
Rows that complete here, each with its own effect under conditions on the state and the operands alone: BR,
CALL, RET, END, FCLR, ST, NOP, LD, ILLEGAL_OP, OVERTIME. -/
def Obligations.EngineFlow : Prop :=
  ∀ (e : Fin 8) (s : State), let k := s.ce[e]; let w := fetchWord k
    (Issues s e 0x20 → After (.br e) s fun u =>
      if brCond k w then Ran s u e 2 (w.toNat % 4096) k else Ran s u e 1 (k.pc + 1) k) ∧
    (Issues s e 0x21 → k.stack.length < 4 → After (.call e) s fun u =>
      Ran s u e 2 (w.toNat % 4096) { k with stack := (k.pc + 1) :: k.stack }) ∧
    (∀ (a : Nat) (l : List Nat), Issues s e 0x22 → k.stack = a :: l → a ≤ 4095 →
      After (.ret e) s fun u => Ran s u e 2 a { k with stack := l }) ∧
    (Issues s e 0x23 → k.run = true → k.anyPend = false → k.hold = [] → k.rose = 0 →
      After (.endPass e) s fun u =>
        u.ce[e] = { k with
          state := .idle, pc := k.pc + 1, cycles := k.cycles + 1, flagsEnd := k.flags
          passLast := min (k.cycles + 1) 65535, passMax := max k.passMax (min (k.cycles + 1) 65535)
          readyAt := issueTick k + 4, staged := [], stack := [] } ∧
        ∀ x, x ≠ e → u.ce[x] = s.ce[x]) ∧
    (Issues s e 0x23 → k.run = true → k.anyPend = true → k.hold = [] →
      After (.endPass e) s fun u =>
        u.ce[e].state = .running ∧ u.ce[e].pstart = issueTick k + 4 ∧ u.ce[e].cycles = 0 ∧
        u.ce[e].flagsEnd = k.flags ∧ u.ce[e].w = k.w ∧
        u.ce[e].pc = (if k.setPend then k.entrySet else if k.timerPend then k.entryTimer
          else k.entrySet) ∧
        ∀ x, x ≠ e → u.ce[x] = s.ce[x]) ∧
    (Issues s e 0x23 → k.run = false →
      After (.endPass e) s fun u =>
        u.ce[e].state = .stopped ∧ u.ce[e].run = false ∧ u.ce[e].hold = [] ∧
        ∀ x, x ≠ e → u.ce[x] = s.ce[x]) ∧
    (Issues s e 0x2C → After (.fclr e) s fun u =>
      Ran s u e 1 (k.pc + 1) { k with flags := k.flags &&& ~~~w.extractLsb' 0 6 }) ∧
    (∀ j : Nat, Issues s e 0x02 →
      j = (fAddr w + if fX w then (k.reg (fA w)).toNat % 1024 else 0) % 1024 → k.dataFlips j = [] →
      After (.st e) s fun u =>
        u.ce[e] = { k.cleanRow j with
          dmem := sput 0 k.dmem j (k.reg (fD w)), pc := k.pc + 1, cycles := k.cycles + 1 } ∧
        (∀ x, x ≠ e → u.ce[x] = s.ce[x]) ∧ u.mem = s.mem ∧ u.gsc = s.gsc) ∧
    (∀ j : Nat, Issues s e 0x02 →
      j = (fAddr w + if fX w then (k.reg (fA w)).toNat % 1024 else 0) % 1024 → k.rowBad j = true →
      After (.st e) s fun u =>
        u.ce[e] = { k with pc := k.pc + 1, cycles := k.cycles + 1 } ∧
        ∀ x, x ≠ e → u.ce[x] = s.ce[x]) ∧
    (k.state = .running → issueFault s e = 0 → opcode w = 0x00 → (pcFlips k).length = 1 →
      k.pc < 4095 → s.boot.act.busy = false → Quiet s (issueTick k) →
      After (.nop e) s fun u =>
        u.ce[e] = { k with
          pflips := sput [] k.pflips (k.pc / 8) [], pc := k.pc + 1, cycles := k.cycles + 1 } ∧
        u.tal[133] = s.tal[133] + 1 ∧ u.draws = s.draws + 1 ∧ ∀ x, x ≠ e → u.ce[x] = s.ce[x]) ∧
    (OnTime s (issueTick k) → k.state = .running → k.cycles < passLimit s e → 2 ≤ (pcFlips k).length →
      s.boot.act.busy = false →
      After (.nop e) s fun u =>
        u.ce[e].state = .fault ∧ u.ce[e].cause = 5 ∧
        u.rng.net = s.rng.net ++ [⟨issueTick k + 40, bCE, 0x50 + e, 1, 0, 0⟩] ∧
        ∀ x, x ≠ e → u.ce[x] = s.ce[x]) ∧
    (∀ j ∈ readsOf k w, OnTime s (issueTick k) → k.state = .running → issueFault s e = 0 →
      opcode w = 0x01 → pcFlips k = [] → k.rowBad j = true → s.boot.act.busy = false →
      After (.ld e) s fun u =>
        u.ce[e].state = .fault ∧ u.ce[e].cause = 6 ∧ u.ce[e].w = k.w ∧
        u.rng.net = s.rng.net ++ [⟨issueTick k + 40, bCE, 0x50 + e, 1, 0, 0⟩]) ∧
    (OnTime s (issueTick k) → k.state = .running → issueFault s e = 1 → s.boot.act.busy = false →
      After (.illegalOp e) s fun u =>
        u.ce[e].state = .fault ∧ u.ce[e].cause = 1 ∧ u.ce[e].w = k.w ∧ u.ce[e].acc = k.acc ∧
        u.rng.net = s.rng.net ++ [⟨issueTick k + 40, bCE, 0x50 + e, 1, 0, 0⟩] ∧
        (∀ g : Fin 4, s.red.tok[g].holder = some e → s.red.tok[g].state = .held →
          u.red.tok[g].state = .expired ∧ u.red.tok[g].holder = none) ∧
        ∀ x, x ≠ e → u.ce[x] = s.ce[x]) ∧
    (OnTime s (k.pstart + 4 * passLimit s e) → k.state = .running → issueFault s e = 4 →
      s.boot.act.busy = false →
      After (.overtime e) s fun u =>
        u.ce[e].state = .fault ∧ u.ce[e].cause = 4 ∧ u.ce[e].w = k.w ∧
        u.rng.net = s.rng.net ++ [⟨k.pstart + 4 * passLimit s e + 40, bCE, 0x50 + e, 1, 0, 0⟩] ∧
        ∀ x, x ≠ e → u.ce[x] = s.ce[x])

/-- DUTY stages a clamped value for a group the engine serves; COMMIT of the accepting engine hands
the staged slots to the scheduler with its tick and epoch; RENEW keeps a held lease alive and takes a
free token; POST offers a record (R108 to R111, R300 to R302).
Rows that complete here, each with its own effect under conditions on the state and the operands alone:
DUTY, COMMIT, RENEW, POST. -/
def Obligations.EngineCommits : Prop :=
  ∀ (e : Fin 8) (s : State), let k := s.ce[e]; let w := fetchWord k; let r := issueTick k
    (Issues s e 0x28 → ceHas s e (fGroup w) = true → After (.duty e) s fun u =>
      let x := (k.reg (fA w)).toInt
      Ran s u e 1 (k.pc + 1) { k with
        staged := stage (16 * fGroup w + fSlot w) (BitVec.ofInt 24 (clampI x 0 0x7FFFFF)) k.staged
        flags := k.flags ||| (if clampI x 0 0x7FFFFF = x then 0 else 0b001000)
        rose := k.rose ||| ((if clampI x 0 0x7FFFFF = x then 0 else 0b001000) &&& ~~~k.flags) }) ∧
    (∀ g : Fin 3, Issues s e 0x29 → w.getLsbD 0 = false → fGroup w = g.val → ceHas s e g = true →
      s.gsc.cfgBad = false → redStbyEn s g = false → s.red.tok[g.val].state = .held →
      s.red.tok[g.val].holder = some e → r + 8 < s.red.tok[g.val].leaseEnd →
      After (.commit e) s fun u =>
        u.gsc.g[g.val].commits = s.gsc.g[g.val].commits ++
          [⟨r + 8, e, s.red.tok[g.val].epoch, stagedOf k g⟩] ∧
        u.ce[e].staged = (k.staged.filter fun y => y.1 / 16 ≠ g.val) ∧ u.ce[e].pc = k.pc + 1 ∧
        u.ce[e].cycles = k.cycles + 2 ∧ u.red = s.red ∧ u.glk = s.glk) ∧
    (∀ g : Fin 3, Issues s e 0x29 → w.getLsbD 0 = true → fGroup w = g.val → ceHas s e g = true →
      s.gsc.cfgBad = false → redStbyEn s g = false → s.red.tok[g.val].state = .held →
      s.red.tok[g.val].holder = some e → r + 8 < s.red.tok[g.val].leaseEnd → k.run = true →
      k.anyPend = false → k.hold = [] → s.boot.act.tasks = [] →
      After (.commit e) s fun u =>
        u.gsc.g[g.val].commits = s.gsc.g[g.val].commits ++
          [⟨r + 8, e, s.red.tok[g.val].epoch, stagedOf k g⟩] ∧
        u.ce[e].staged = [] ∧ u.ce[e].state = .idle ∧ u.ce[e].readyAt = r + 8 ∧
        u.ce[e].cycles = k.cycles + 2) ∧
    (∀ b : Fin 3, Issues s e 0x29 → w.getLsbD 0 = false → fGroup w = 4 + b.val →
      ceHas s e (4 + b.val) = true → e = 6 → redStbyEn s (4 + b.val) = false →
      s.sys.dom[(8 : Fin 10)] = .on → s.axb.b[b].state = .stopped →
      After (.commit e) s fun u =>
        (u.axb.b[b].commits.map fun c => (c.slots, c.run)) =
          (s.axb.b[b].commits.map fun c => (c.slots, c.run)) ++ [(stagedOf k (4 + b.val), false)] ∧
        u.ce[e].staged = (k.staged.filter fun y => y.1 / 16 ≠ 4 + b.val) ∧ u.ce[e].pc = k.pc + 1 ∧
        u.ce[e].cycles = k.cycles + 2) ∧
    (∀ g : Fin 4, Issues s e 0x2A → fGroup w = g.val → eligible s g e = true →
      s.red.tok[g].state = .held → s.red.tok[g].holder = some e → r < s.red.tok[g].leaseEnd →
      s.red.tok[g].fresh = false →
      After (.renew e) s fun u =>
        u.red.tok[g] = { s.red.tok[g] with leaseEnd := r + loopOf s g + 32000 } ∧
        (∀ x, x ≠ g → u.red.tok[x] = s.red.tok[x]) ∧ u.ce[e].tok = 0 ∧
        u.ce[e].tokEpoch = s.red.tok[g].epoch.setWidth 16 ∧ u.ce[e].renewed = true ∧
        u.ce[e].pc = k.pc + 1 ∧ u.ce[e].cycles = k.cycles + 2) ∧
    (∀ g : Fin 4, Issues s e 0x2A → fGroup w = g.val → eligible s g e = true →
      s.red.tok[g].state = .free → winner s g r = some e →
      After (.renew e) s fun u =>
        u.red.tok[g].state = .held ∧ u.red.tok[g].holder = some e ∧
        u.red.tok[g].epoch = s.red.tok[g].epoch + 1 ∧
        u.red.tok[g].leaseEnd = r + loopOf s g + 32000 ∧ u.ce[e].tok = 1 ∧
        ∀ x, x ≠ g → u.red.tok[x] = s.red.tok[x]) ∧
    (Issues s e 0x2B → After (.post e) s fun u =>
      let o := s.offer (Fin.ofNat 32 (bits w.toNat 17 13))
        [eventWord s r bCE (0x50 + e) (w.toNat % 1024) (wrapN 32 (k.reg (fA w)).toInt) (postPayload k (fA w))]
      u.lrg = o.1.lrg ∧ u.ce[e] = { k with postr := !o.2, pc := k.pc + 1, cycles := k.cycles + 6 } ∧
      ∀ x, x ≠ e → u.ce[x] = s.ce[x])

/-- TRX writes the four words of the input block to both engines of the pair on change and at every
multiple of 100 µs (R120); the demand of FLY moves toward the request by RAMP and the machine then runs,
the demand of EXIT moves toward 0, and where every machine has reached 0 the ramping ones are IDLE and the
mode is STANDBY (R137, R138). A restart request releases the rows that hold the machine's group where each
of them may be released so, else it is rejected (R136, R272); 100 ms below the standstill speed make
standstill (R134).
Rows that complete here, each with its own effect under conditions on the state and the operands alone:
TRX_INPUT_WRITE, RESTART_REQUEST, STANDSTILL. -/
def Obligations.TractionMachines : Prop :=
  (∀ (t : Tick) (m : Fin 2) (s : State), OnTime s t → machOn s m = true →
    (t % 160000 ≠ 0 ∧ s.trx.m[m].dirty = true) ∨ (t % 160000 = 0 ∧ s.trx.m[m].state ≠ .fly ∧
      ∀ k : Fin 2, s.trx.m[k].state ≠ .exit) →
    After (.trxInputWrite t m) s fun u =>
      u.trx.m[m] = { s.trx.m[m] with dirty := false } ∧
      (∀ k, k ≠ m → u.trx.m[k] = s.trx.m[k]) ∧ (∀ e, e ∉ pairOf m → u.ce[e] = s.ce[e]) ∧
      ∀ e ∈ pairOf m, Wrote s.ce[e] u.ce[e] (trxMapInWord s m) (inputBlock s m)) ∧
  (∀ (t : Tick) (m : Fin 2) (s : State), OnTime s t → t % 160000 = 0 → machOn s m = true →
    s.trx.m[m].state = .fly → s.trx.m[m].flyAt ≠ t → (∀ k : Fin 2, s.trx.m[k].state ≠ .exit) →
    After (.trxInputWrite t m) s fun u =>
      let a : Int := if s.trx.m[m].reqSpeed then (tmaxOf s m : Nat) else s.trx.m[m].treq
      let x := rampTo s.trx.m[m].tdem a (max (trxFlyRamp s m) 1)
      u.trx.m[m] = { s.trx.m[m] with
        tdem := x, state := if x = a then .run else .fly, dirty := false } ∧
      ∀ k, k ≠ m → u.trx.m[k] = s.trx.m[k]) ∧
  (∀ (t : Tick) (m : Fin 2) (s : State), OnTime s t → t % 160000 = 0 → machOn s m = true →
    s.trx.m[m].state = .exit → rampTo s.trx.m[m].tdem 0 (max (trxTrateExit s m) 1) ≠ 0 →
    After (.trxInputWrite t m) s fun u =>
      u.trx.m[m] = { s.trx.m[m] with
        tdem := rampTo s.trx.m[m].tdem 0 (max (trxTrateExit s m) 1), dirty := false } ∧
      (∀ k, k ≠ m → u.trx.m[k] = s.trx.m[k]) ∧ u.pba = s.pba) ∧
  (∀ (t : Tick) (m : Fin 2) (s : State), OnTime s t → s.trx.m[m].restart = true →
    (s.rng.active.filter fun a => rowGroup s a.row (groupOf m)) ≠ [] →
    (∀ a ∈ s.rng.active, rowGroup s a.row (groupOf m) = true → flies s a = true) →
    s.rng.failed = false → s.rng.brakeHold = false → s.rng.shutdown = false →
    After (.restartRequest t m) s fun u =>
      u.rng.active = (s.rng.active.filter fun a => !rowGroup s a.row (groupOf m)) ∧
      u.trx.m[m].restart = false ∧ u.trx.m[m].state = s.trx.m[m].state ∧
      u.rng.pattern[groupOf m] = .none) ∧
  (∀ (t : Tick) (m : Fin 2) (s : State), OnTime s t → s.trx.m[m].restart = true →
    (s.rng.active.filter fun a => rowGroup s a.row (groupOf m)) = [] ∨
      (∃ a ∈ s.rng.active, rowGroup s a.row (groupOf m) = true ∧ flies s a = false) ∨
      s.rng.failed = true ∨ s.rng.brakeHold = true ∨ s.rng.shutdown = true →
    After (.restartRequest t m) s fun u =>
      u.trx.m[m] = { s.trx.m[m] with state := .relocked, restart := false, dirty := true } ∧
      u.rng = s.rng ∧ ∀ k, k ≠ m → u.trx.m[k] = s.trx.m[k]) ∧
  (∀ (t : Tick) (m : Fin 2) (x : Tick) (s : State), OnTime s t → s.trx.m[m].slowSince = some x →
    isSlow s m = true → x + 160000000 ≤ t →
    After (.standstill t m) s fun u =>
      u.trx.m[m] = { s.trx.m[m] with standstill := true } ∧
      ∀ k, k ≠ m → u.trx.m[k] = s.trx.m[k]) ∧
  (∀ (t : Tick) (m : Fin 2) (s : State), OnTime s t → t % 160000 = 0 → machOn s m = true →
    s.trx.m[m].state = .exit → rampTo s.trx.m[m].tdem 0 (max (trxTrateExit s m) 1) = 0 →
    (∀ k ∈ machines s, k ≠ m → s.trx.m[k].tdem = 0 ∧ s.trx.m[k].state ≠ .run ∧ s.trx.m[k].state ≠ .fly) →
    s.pba.mode = .drive →
    After (.trxInputWrite t m) s fun u =>
      u.trx.m[m].state = .idle ∧ u.trx.m[m].tdem = 0 ∧ u.pba.mode = .standby)

/-- The quadrature decoder counts one up or down by the sequence 00, 10, 11, 01 and DIR, ignores both
inputs together but counts them as illegal (R143, R144); the observers take one step for every 160 tk
(R148); SETREF, CLEAR, ARM, LATCH and the read of POS_LPOS do what R145, R146 and R150 say; a delivery
latches and writes angle and speed to the engines (R151).
Rows that complete here, each with its own effect under conditions on the state and the operands alone:
ENCODER_INPUT_CHANGE, OBSERVER_STEP, SETREF, CLEAR, ARM, LPOS_CAPTURE, LATCH, DELIVERY_TICK. -/
def Obligations.Encoders : Prop :=
  (∀ (t : Tick) (e : Fin 2) (a b z : Bool) (s : State), OnTime s t → posEncEn s e = true →
    (quadIndex a b + 4 - quadIndex s.pos.enc[e].a s.pos.enc[e].b) % 4 = 1 ∨
      (quadIndex a b + 4 - quadIndex s.pos.enc[e].a s.pos.enc[e].b) % 4 = 3 →
    z = false ∨ s.pos.enc[e].z = true ∨ abCode a b ≠ posIdxQual s e →
    After (.encoderInputChange t e a b z) s fun u =>
      let up := (quadIndex a b + 4 - quadIndex s.pos.enc[e].a s.pos.enc[e].b) % 4 = 1
      let d : Int := if posEncDir s e then (if up then -1 else 1) else (if up then 1 else -1)
      (u.pos.enc[e].cnt : Int) = (s.pos.enc[e].cnt + d) % countsOf s e ∧
      u.pos.enc[e].rev = s.pos.enc[e].rev + floorDiv (s.pos.enc[e].cnt + d) (countsOf s e) ∧
      u.pos.enc[e].a = a ∧ u.pos.enc[e].b = b ∧ u.pos.enc[e].z = z ∧
      u.pos.enc[e].state = s.pos.enc[e].state ∧ ∀ k, k ≠ e → u.pos.enc[k] = s.pos.enc[k]) ∧
  (∀ (t : Tick) (e : Fin 2) (a b z : Bool) (s : State), OnTime s t → posEncEn s e = true →
    (quadIndex a b + 4 - quadIndex s.pos.enc[e].a s.pos.enc[e].b) % 4 = 2 →
    z = false ∨ s.pos.enc[e].z = true ∨ abCode a b ≠ posIdxQual s e →
    After (.encoderInputChange t e a b z) s fun u =>
      u.pos.enc[e].cnt = s.pos.enc[e].cnt ∧ u.pos.enc[e].rev = s.pos.enc[e].rev ∧
      u.pos.enc[e].a = a ∧ u.pos.enc[e].b = b ∧ u.tal[52] = s.tal[52] + 1) ∧
  (∀ (t : Tick) (e : Fin 2) (s : State), OnTime s t → posEncEn s e = true →
    posIdxMode s e = 1 ∨ (posIdxMode s e = 2 ∧ s.pos.enc[e].armed = true) ∨ posIdxMode s e = 3 →
    s.pos.enc[e].state = .unreferenced → s.pos.enc[e].z = false →
    abCode s.pos.enc[e].a s.pos.enc[e].b = posIdxQual s e → s.pos.enc[e].cnt < countsOf s e →
    After (.encoderInputChange t e s.pos.enc[e].a s.pos.enc[e].b true) s fun u =>
      u.pos.enc[e].cnt = 0 ∧ u.pos.enc[e].state = .referenced ∧
      u.pos.enc[e].theta = s.pos.enc[e].theta - deviation s e * 65536 ∧
      u.tal[53] = s.tal[53] + 1) ∧
  (∀ (t : Tick) (s : State), OnTime s t → t % 160 = 0 →
    After (.observerStep t) s fun u => ∀ e : Fin 2, posEncEn s e = true → s.pos.enc[e].stepTick < t →
      let k := s.pos.enc[e]
      let err := F.ofFix16 (obsError s e)
      u.pos.enc[e].stepTick = t ∧ u.pos.enc[e].theta = sgn 64 (wrapN 64 (k.theta + thetaStep s e err)) ∧
      u.pos.enc[e].omega = F.add (F.add k.omega (F.mul obsT k.alpha))
        (F.mul (F.mul obsT (gainL2 (omegaB s e))) err) ∧
      u.pos.enc[e].alpha = F.add k.alpha (F.mul (F.mul obsT (gainL3 (omegaB s e))) err) ∧
      u.pos.enc[e].cnt = k.cnt ∧ u.pos.enc[e].rev = k.rev) ∧
  (∀ (t : Tick) (e : Fin 2) (s : State), OnTime s t → s.pos.enc[e].state = .unreferenced →
    posRefcntCount s e < countsOf s e →
    After (.setref t e) s fun u =>
      u.pos.enc[e].cnt = posRefcntCount s e ∧ u.pos.enc[e].state = .referenced ∧
      u.pos.enc[e].omega = s.pos.enc[e].omega ∧ u.pos.enc[e].alpha = s.pos.enc[e].alpha ∧
      u.pos.enc[e].theta = s.pos.enc[e].theta +
        wrapCounts ((posRefcntCount s e : Int) - s.pos.enc[e].cnt) (countsOf s e) * 65536 ∧
      ∀ k, k ≠ e → u.pos.enc[k] = s.pos.enc[k]) ∧
  (∀ (t : Tick) (e : Fin 2) (s : State), OnTime s t → s.pos.enc[e].state = .fault →
    encCause (s.at t) e = false →
    After (.clear t e) s fun u =>
      u.pos.enc[e] = { s.pos.enc[e] with
        state := .unreferenced, cause := 0, omega := 0, alpha := 0
        theta := (s.pos.enc[e].cnt + (countsOf s e : Int) * s.pos.enc[e].rev) * 65536 } ∧
      ∀ k, k ≠ e → u.pos.enc[k] = s.pos.enc[k]) ∧
  (∀ (t : Tick) (e : Fin 2) (s : State), Quiet s t →
    (After (.arm t e) s fun u => u.pos.enc[e] = { s.pos.enc[e] with armed := true } ∧
      ∀ k, k ≠ e → u.pos.enc[k] = s.pos.enc[k]) ∧
    (After (.lposCapture t e) s fun u =>
      u.pos.enc[e] = { s.pos.enc[e] with captured := s.pos.enc[e].latch } ∧
      ∀ k, k ≠ e → u.pos.enc[k] = s.pos.enc[k]) ∧
    (OnTime s t → After (.latch t e) s fun u =>
      u.pos.enc[e].latch.cnt = s.pos.enc[e].cnt ∧ u.pos.enc[e].latch.rev = s.pos.enc[e].rev ∧
      u.pos.enc[e].latch.stamp = t ∧ u.pos.enc[e].latch.lpos = lposAt s e t ∧
      u.pos.enc[e].latch.lang = angleAt s e t ∧ u.pos.enc[e].cnt = s.pos.enc[e].cnt ∧
      ∀ k, k ≠ e → u.pos.enc[k] = s.pos.enc[k])) ∧
  (∀ (t : Tick) (e : Fin 2) (s : State), OnTime s t → isDelivery s e t = true →
    After (.deliveryTick t e) s fun u =>
      u.pos.enc[e].latch.stamp = t ∧ u.pos.enc[e].latch.cnt = s.pos.enc[e].cnt ∧
      u.pos.enc[e].latch.rev = s.pos.enc[e].rev ∧ u.pos.enc[e].latch.lang = angleAt s e t ∧
      (∀ k : Fin 8, bit (posDelivEngines s e) k = true → k ≠ 7 →
        Wrote s.ce[k] u.ce[k] (posDelivWord s e) [angleAt s e t, speedWord s e]) ∧
      ∀ k : Fin 8, bit (posDelivEngines s e) k = false → k ≠ 7 → u.ce[k] = s.ce[k])

/-- At a period start the written period and phase take effect (R159). A conversion takes the oldest
commit 64 tk after its tick: a stale one changes nothing else, one with room on its links makes the entries
of the plans of its legs, and one without room is refused (R161, R166, R168, R170). A lease ends at its
tick (R300), and a driven group left unclaimed for WAIT is reported (R172).
Rows that complete here, each with its own effect under conditions on the state and the operands alone:
CARRIER_PERIOD_START, COMMIT_CONVERSION, LEASE_EXPIRY, TOKEN_UNCLAIMED. -/
def Obligations.GateScheduler : Prop :=
  (∀ (t : Tick) (g : Fin 4) (s : State), OnTime s t → periodDue (s.at t) g = true →
    After (.carrierPeriodStart t g) s fun u =>
      u.gsc.g[g] = { s.gsc.g[g] with
        pstart := t, started := true, period := s.gsc.g[g].periodW, phase := s.gsc.g[g].phaseW } ∧
      (∀ k, k ≠ g → u.gsc.g[k] = s.gsc.g[k]) ∧ u.gsc.leg = s.gsc.leg ∧ (g ≠ 3 → u.dcc = s.dcc)) ∧
  (∀ (t : Tick) (g : Fin 4) (c : Commit) (cs : List Commit) (s : State), OnTime s t →
    s.gsc.g[g].commits = c :: cs → c.tick + 64 ≤ t →
    s.red.tok[g].state = .revoked ∨ s.red.tok[g].epoch ≠ c.epoch →
    After (.commitConversion t g) s fun u =>
      u.gsc.g[g] = { s.gsc.g[g] with commits := cs } ∧ u.gsc.leg = s.gsc.leg ∧ u.glk = s.glk ∧
      u.emitted = s.emitted ∧ ∀ k, k ≠ g → u.gsc.g[k] = s.gsc.g[k]) ∧
  (∀ (t : Tick) (g : Fin 4) (c : Commit) (cs : List Commit) (s : State), OnTime s t →
    s.gsc.g[g].commits = c :: cs → c.tick + 64 ≤ t → s.red.tok[g].state ≠ .revoked →
    s.red.tok[g].epoch = c.epoch →
    firstFull s g c.epoch (commitTarget s g c).start (legsRetaken s g c) (commitEdges s g c) = none →
    After (.commitConversion t g) s fun u =>
      u.gsc.g[g].commits = cs ∧ u.gsc.g[g].target = some (commitTarget s g c).start ∧
      u.gsc.g[g].duty = newDuties s.gsc.g[g] c.slots ∧
      u.gsc.g[g].state = (if s.gsc.g[g].state = .opened then .driven else s.gsc.g[g].state) ∧
      (∀ l : Fin 12, u.glk[l].queue = queueWith g c.epoch (commitTarget s g c).start l (commitEdges s g c)
        (withoutParts (legsRetaken s g c) (commitTarget s g c).start s.glk[l].queue)) ∧
      (∀ q ∈ plansOf s g c, u.gsc.leg[q.leg].tracked = ((q.trans.getLast?.map (·.next)).getD q.base)) ∧
      (∀ l : Fin 24, legIn s g l = false → u.gsc.leg[l] = s.gsc.leg[l]) ∧
      ∀ k, k ≠ g → u.gsc.g[k] = s.gsc.g[k]) ∧
  (∀ (t : Tick) (g : Fin 4) (s : State), OnTime s t → s.red.tok[g].state = .held →
    s.red.tok[g].leaseEnd ≤ t → s.red.tok[g].handing = none →
    After (.leaseExpiry t g) s fun u =>
      u.red.tok[g].state = .expired ∧ u.red.tok[g].holder = none ∧
      u.red.tok[g].epoch = s.red.tok[g].epoch ∧ ∀ k, k ≠ g → u.red.tok[k] = s.red.tok[k]) ∧
  (∀ (t : Tick) (g : Fin 4) (s : State), OnTime s t → s.red.tok[g].state = .expired →
    s.red.tok[g].unclaimed = false → s.red.tok[g].expiredAt + gscClaimWait s g ≤ t →
    s.gsc.g[g].state = .driven →
    After (.tokenUnclaimed t g) s fun u =>
      u.red.tok[g] = { s.red.tok[g] with unclaimed := true } ∧
      u.rng.net = s.rng.net ++ [⟨t + 40, bGSC, 0xC0 + g, 3, 0, 0⟩] ∧
      ∀ k, k ≠ g → u.red.tok[k] = s.red.tok[k]) ∧
  (∀ (t : Tick) (g : Fin 4) (c : Commit) (cs : List Commit) (l : Fin 12) (s : State), OnTime s t →
    s.gsc.g[g].commits = c :: cs → c.tick + 64 ≤ t → s.red.tok[g].state ≠ .revoked →
    s.red.tok[g].epoch = c.epoch →
    firstFull s g c.epoch (commitTarget s g c).start (legsRetaken s g c) (commitEdges s g c) = some l →
    After (.commitConversion t g) s fun u =>
      u.gsc.g[g] = { s.gsc.g[g] with commits := cs } ∧ u.gsc.leg = s.gsc.leg ∧ u.glk = s.glk ∧
      u.tal[58] = s.tal[58] + 1)

/-- An edge frame on a free port of an UP link carries the oldest live entry, and the next one where the
first is stamped 600 tk or more after the start of the frame (R4, R169, R175, R176); a beacon leaves at a
multiple of 1,600 tk with the time and the axle token's epoch (R177); a due LOSS frame carries the pattern
(R178); frames start on character boundaries (R173). A fault comma is counted, reported with F, and reaches
the island 40 tk later (R18, R174); STATUS is kept and its counts are added (R175, R182); characters that
make no valid frame count and change nothing else (R175).
Rows that complete here, each with its own effect under conditions on the state and the operands alone:
EDGE_FRAME, BEACON, LOSS_FRAME, FAULT_COMMA, STATUS, CONFIG_REPLY, ECHO_REPLY. -/
def Obligations.GateLinkFrames : Prop :=
  (∀ (t : Tick) (l : Fin 12) (e : Entry) (s : State), OnTime s t → s.glk[l].state = .up →
    s.glk[l].queue = [e] → e.stamp ≤ t + horizonOf s → staleEntry s e = false →
    s.glk[l].busyTo ≤ t → s.glk[l].armDue = false →
    After (.edgeFrame t l) s fun u =>
      let x := charTick (s.at t) l
      u.glk[l] = { s.glk[l] with
        queue := [], busyTo := x + 40 * (linkFrame 1 1 (entryBytes e)).length, beaconOut := false } ∧
      u.emitted = ⟨14 + l, x, linkFrame 1 1 (leBytes 2 e.stamp ++ [entryByte e])⟩ ::
        s.emitted.filterMap (cutAt (14 + l) x) ∧
      t ≤ x ∧ x < t + 40 ∧ (x : Int) % 40 = s.glk[l].busyTo % 40 ∧ ∀ k, k ≠ l → u.glk[k] = s.glk[k]) ∧
  (∀ (t : Tick) (l : Fin 12) (s : State), OnTime s t → linkCarries s.glk[l] = true → t % 1600 = 0 →
    s.glk[l].busyTo ≤ t → s.glk[l].armDue = false → edgeReady (s.at t) l = false →
    s.glk[l].lossDue = false → s.glk[l].cmdDue = none →
    After (.beacon t l) s fun u =>
      let x := charTick (s.at t) l
      u.glk[l] = { s.glk[l] with busyTo := x + 440, beaconDue := false, beaconOut := true } ∧
      u.emitted = ⟨14 + l, x, linkFrame 2 0 (beaconBytes s l x)⟩ ::
        s.emitted.filterMap (cutAt (14 + l) x) ∧
      (∀ g, linkGroup s l = some g → beaconBytes s l x = leBytes 4 x ++
        leBytes 2 s.red.ax[g].aepoch.toNat ++
        [if s.red.ax[g].state = 3 ∨ s.red.ax[g].state = 4 then 1 else 0]) ∧
      ∀ k, k ≠ l → u.glk[k] = s.glk[k]) ∧
  (∀ (t : Tick) (l : Fin 12) (s : State), OnTime s t → linkCarries s.glk[l] = true →
    s.glk[l].busyTo ≤ t → s.glk[l].armDue = false → edgeReady (s.at t) l = false →
    s.glk[l].lossDue = true →
    After (.lossFrame t l) s fun u =>
      let x := charTick (s.at t) l
      u.glk[l] = { s.glk[l] with busyTo := x + 240, lossDue := false, beaconOut := false } ∧
      u.emitted = ⟨14 + l, x, linkFrame 5 0 (patternBytes s.glk[l].lossP)⟩ ::
        s.emitted.filterMap (cutAt (14 + l) x) ∧
      ∀ k, k ≠ l → u.glk[k] = s.glk[k]) ∧
  (∀ (t : Tick) (l : Fin 12) (b : Byte) (s : State), OnTime s t → linkHears s.glk[l] = true →
    b.toNat / 16 % 8 < 5 →
    After (.faultComma t l b (~~~b)) s fun u =>
      u.rng.net = s.rng.net ++ [⟨t + 40, bGLK, 14 + l, 4, b, 0⟩] ∧ u.tal[65] = s.tal[65] + 1 ∧
      u.tal[71] = (if b.toNat / 16 % 8 = 1 then s.tal[71] + 1 else s.tal[71]) ∧
      (t + 40, .comma l b) ∈ u.flights ∧ u.psp = s.psp ∧ u.glk = s.glk) ∧
  (∀ (t : Tick) (l : Fin 12) (b c : Byte) (s : State), OnTime s t → linkHears s.glk[l] = true →
    c ≠ ~~~b ∨ 5 ≤ b.toNat / 16 % 8 →
    After (.faultComma t l b c) s fun u =>
      u.rng.net = s.rng.net ++ [⟨t + 40, bGLK, 14 + l, 4, 0x2F, 0⟩] ∧ u.tal[65] = s.tal[65] + 1 ∧
      (t + 40, .comma l 0x2F) ∈ u.flights ∧ u.psp = s.psp ∧ u.glk = s.glk) ∧
  (∀ (t : Tick) (l : Fin 12) (q : Fin 16) (st gates supply late err drop : Byte) (s : State), OnTime s t →
    linkHears s.glk[l] = true → s.glk[l].state ≠ .sync ∧ s.glk[l].good < 16 →
    After (.status t l (hubFrame 8 q [st, gates, supply, late, err, drop])) s fun u =>
      u.glk[l] = { s.glk[l] with
        hState := st, hGates := gates, hSupply := supply, hLate := late, hErr := err, hDrop := drop
        lastStatus := t, good := 0 } ∧
      u.tal[64] = s.tal[64] + BitVec.ofNat 64 (late - s.glk[l].hLate).toNat ∧
      u.tal[62] = s.tal[62] + BitVec.ofNat 64 (err - s.glk[l].hErr).toNat ∧
      u.tal[66] = s.tal[66] + BitVec.ofNat 64 (drop - s.glk[l].hDrop).toNat ∧
      ∀ k, k ≠ l → u.glk[k] = s.glk[k]) ∧
  (∀ (t : Tick) (l : Fin 12) (q : Fin 16) (supply late err drop : Byte) (s : State), OnTime s t →
    s.glk[l].state = .sync → s.glk[l].good = 15 →
    After (.status t l (hubFrame 8 q [4, 0, supply, late, err, drop])) s fun u =>
      u.glk[l].state = .up ∧ u.glk[l].since = t ∧ u.glk[l].lossDue = s.glk[l].lossDue ∧
      u.glk[l].queue = s.glk[l].queue) ∧
  (∀ (t : Tick) (l : Fin 12) (e d : Entry) (es : List Entry) (s : State), OnTime s t →
    s.glk[l].state = .up → s.glk[l].queue = e :: d :: es → staleEntry s e = false → staleEntry s d = false →
    t + 640 ≤ e.stamp → e.stamp ≤ t + horizonOf s → d.stamp ≤ t + horizonOf s →
    s.glk[l].busyTo ≤ t → s.glk[l].armDue = false →
    After (.edgeFrame t l) s fun u =>
      let x := charTick (s.at t) l
      u.glk[l].queue = es ∧
      u.emitted = ⟨14 + l, x, linkFrame 1 2 (entryBytes e ++ entryBytes d)⟩ ::
        s.emitted.filterMap (cutAt (14 + l) x) ∧ ∀ k, k ≠ l → u.glk[k] = s.glk[k]) ∧
  (∀ (t : Tick) (l : Fin 12) (cs : List LinkChar) (s : State), OnTime s t → linkHears s.glk[l] = true →
    heardOf cs = .discarded →
    (After (.status t l cs) s fun u => u.tal[62] = s.tal[62] + 1 ∧ u.glk = s.glk) ∧
    (After (.configReply t l cs) s fun u => u.tal[62] = s.tal[62] + 1 ∧ u.glk = s.glk) ∧
    After (.echoReply t l cs) s fun u => u.tal[62] = s.tal[62] + 1 ∧ u.glk = s.glk) ∧
  (∀ (t : Tick) (l : Fin 12) (s : State), OnTime s t → edgeReady (s.at t) l = true →
    s.glk[l].busyTo ≤ t → s.glk[l].armDue = true →
    After (.edgeFrame t l) s fun u =>
      let x := charTick (s.at t) l
      u.glk[l] = { s.glk[l] with busyTo := x + 160, armDue := false, beaconOut := false } ∧
      u.emitted = ⟨14 + l, x, linkFrame 4 0 []⟩ :: s.emitted.filterMap (cutAt (14 + l) x) ∧
      ∀ k, k ≠ l → u.glk[k] = s.glk[k])

/-- Bring-up: alignment within 1 ms starts MEASURE with a read of TURN, the echoes give the round trips, the
replies of IDENTIFY and CONFIGURE move the link on; 1 ms in ALIGN or SYNC and a reply missing for
10 µs fail it with the cause of the state; silence of 30 µs, loss of alignment and code errors lose
an UP link, RETRAIN starts it anew (R179). Between which points a round trip runs is the model's choice
(log 58).
Rows that complete here, each with its own effect under conditions on the state and the operands alone:
ALIGNMENT_ACHIEVED, ECHO_REPLY, CONFIG_REPLY, ALIGN_TIMEOUT, SYNC_TIMEOUT, REPLY_TIMEOUT, STATUS_SILENCE,
ALIGNMENT_LOST, CODE_ERRORS, RETRAIN. -/
def Obligations.GateLinkBringUp : Prop :=
  (∀ (t : Tick) (l : Fin 12) (s : State), OnTime s t → s.glk[l].state = .align →
    t < s.glk[l].since + 1600000 →
    After (.alignmentAchieved t l) s fun u =>
      let x := frameTick (s.at t) l
      u.glk[l].state = .measure ∧ u.glk[l].since = t ∧ u.glk[l].step = 0 ∧
      u.glk[l].cmdSeq = (s.glk[l].cmdSeq + 1) % 16 ∧
      u.emitted = ⟨14 + l, x, linkFrame 3 s.glk[l].cmdSeq (0x82 :: leBytes 4 0)⟩ ::
        s.emitted.filterMap (cutAt (14 + l) x) ∧
      ∀ k, k ≠ l → u.glk[k] = s.glk[k]) ∧
  (∀ (t : Tick) (l : Fin 12) (q : Fin 16) (token : Byte) (s : State), OnTime s t → s.glk[l].state = .measure →
    1 ≤ s.glk[l].step → s.glk[l].step < 8 → token.toNat = s.glk[l].step → t < s.glk[l].sent + 16000 →
    After (.echoReply t l (hubFrame 10 q [token])) s fun u =>
      let x := frameTick (s.at t) l
      u.glk[l].trips = (t - 200 - s.glk[l].sent) :: s.glk[l].trips ∧
      u.glk[l].step = s.glk[l].step + 1 ∧ u.glk[l].state = .measure ∧
      u.emitted = ⟨14 + l, x, linkFrame 6 0 [BitVec.ofNat 8 (s.glk[l].step + 1)]⟩ ::
        s.emitted.filterMap (cutAt (14 + l) x) ∧
      ∀ k, k ≠ l → u.glk[k] = s.glk[k]) ∧
  (∀ (t : Tick) (l : Fin 12) (q : Fin 16) (a : Byte) (d : Word32) (s : State), OnTime s t →
    s.glk[l].state = .measure → s.glk[l].step = 0 → s.glk[l].cmdSeq = (q.val + 1) % 16 →
    t < s.glk[l].sent + 16000 →
    After (.configReply t l (hubFrame 9 q (a :: leBytes 4 d.toNat ++ [0]))) s fun u =>
      u.glk[l].turn = d.toNat ∧ u.glk[l].trips = [] ∧ u.glk[l].step = 1 ∧ u.glk[l].state = .measure ∧
      ∀ k, k ≠ l → u.glk[k] = s.glk[k]) ∧
  (∀ (t : Tick) (l : Fin 12) (q : Fin 16) (a : Byte) (d : Word32) (s : State), OnTime s t →
    s.glk[l].state = .identify → s.glk[l].step = 1 → s.glk[l].cmdSeq = (q.val + 1) % 16 →
    t < s.glk[l].sent + 16000 →
    After (.configReply t l (hubFrame 9 q (a :: leBytes 4 d.toNat ++ [0]))) s fun u =>
      let ok := (glkHubidId s l = 0 ∨ s.glk[l].hubId.toNat = glkHubidId s l) ∧ 16 ≤ d.toNat % 256 ∧
        (glkCfgRedundant s l = true → d.getLsbD 8 = true)
      u.glk[l].state = (if ok then .configure else .failed) ∧
      (¬ok → u.rng.net = s.rng.net ++ [⟨t + 40, bGLK, 14 + l, 3, 0, 0⟩]) ∧
      ∀ k, k ≠ l → u.glk[k] = s.glk[k]) ∧
  (∀ (t : Tick) (l : Fin 12) (q : Fin 16) (a : Byte) (d : Word32) (r : Byte) (s : State), OnTime s t →
    linkCarries s.glk[l] = true → s.glk[l].cmdBusy = true → s.glk[l].cmdDue = none →
    s.glk[l].cmdSeq = (q.val + 1) % 16 → t < s.glk[l].cmdSent + 16000 →
    After (.configReply t l (hubFrame 9 q (a :: leBytes 4 d.toNat ++ [r]))) s fun u =>
      u.glk[l] = { s.glk[l] with
        cmdBusy := false, cmdResult := if r = 0 then 0 else 2
        cmdData := if s.glk[l].cmdFly = true ∧ r = 0 then d else s.glk[l].cmdData } ∧
      ∀ k, k ≠ l → u.glk[k] = s.glk[k]) ∧
  (∀ (t : Tick) (l : Fin 12) (s : State), OnTime s t → s.glk[l].since + 1600000 ≤ t →
    (s.glk[l].state = .align → After (.alignTimeout t l) s fun u =>
      u.glk[l].state = .failed ∧ u.rng.net = s.rng.net ++ [⟨t + 40, bGLK, 14 + l, 3, 0, 0⟩]) ∧
    (s.glk[l].state = .sync → After (.syncTimeout t l) s fun u =>
      u.glk[l].state = .failed ∧ u.rng.net = s.rng.net ++ [⟨t + 40, bGLK, 14 + l, 3, 0, 0⟩])) ∧
  (∀ (t : Tick) (l : Fin 12) (s : State), OnTime s t →
    s.glk[l].state = .measure ∨ s.glk[l].state = .identify ∨ s.glk[l].state = .configure →
    s.glk[l].sent + 16000 ≤ t →
    After (.replyTimeout t l) s fun u =>
      u.glk[l].state = .failed ∧ u.rng.net = s.rng.net ++ [⟨t + 40, bGLK, 14 + l, 3, 0, 0⟩] ∧
      ∀ k, k ≠ l → u.glk[k] = s.glk[k]) ∧
  (∀ (t : Tick) (l : Fin 12) (s : State), OnTime s t → linkCarries s.glk[l] = true →
    s.glk[l].cmdBusy = true → s.glk[l].cmdDue = none → s.glk[l].cmdSent + 16000 ≤ t →
    After (.replyTimeout t l) s fun u =>
      u.glk[l] = { s.glk[l] with cmdBusy := false, cmdResult := 1 } ∧
      ∀ k, k ≠ l → u.glk[k] = s.glk[k]) ∧
  (∀ (t : Tick) (l : Fin 12) (s : State), OnTime s t → s.glk[l].state = .up →
    let lost := fun u : State =>
      u.glk[l].state = (if glkCfgAutoRetry s l then .align else .failed) ∧ u.glk[l].since = t ∧
      u.rng.net = s.rng.net ++ [⟨t + 40, bGLK, 14 + l, 2, 0, 0⟩] ∧ u.tal[63] = s.tal[63] + 1 ∧
      u.glk[l].queue = s.glk[l].queue ∧ ∀ k, k ≠ l → u.glk[k] = s.glk[k]
    (s.glk[l].lastStatus + 48000 ≤ t → After (.statusSilence t l) s lost) ∧
    After (.alignmentLost t l) s lost ∧ After (.codeErrors t l) s lost) ∧
  (∀ (t : Tick) (l : Fin 12) (g : Fin 4) (s : State), OnTime s t → linkGroup s l = some g →
    After (.retrain t l) s fun u =>
      u.glk[l].state = .align ∧ u.glk[l].since = t ∧ ∀ k, k ≠ l → u.glk[k] = s.glk[k])

/-- A write of GLK_CMD with GO sends a CONFIG frame on an UP or SYNC link and is then busy; while
busy it is refused with BUSY and nothing changes; after lock a write of a hub register below 0x20 is
refused with RESULT 3 (R180).
Rows that complete here, each with its own effect under conditions on the state and the operands alone:
CONFIG_EXCHANGE. -/
def Obligations.GateLinkExchange : Prop :=
  (∀ (t : Tick) (id : Fin 64) (l : Fin 12) (v : Word32) (s : State), OnTime s t →
    v.getLsbD 31 = true → s.glk[l].cmdBusy = false → linkCarries s.glk[l] = true → s.glk[l].busyTo ≤ t →
    v.getLsbD 7 = true ∨ s.boot.locked = false ∨ 0x20 ≤ v.toNat % 128 →
    s.glk[l].armDue = false → edgeReady (s.at t) l = false → s.glk[l].lossDue = false →
    After (.configExchange t id l v) s fun u =>
      let q := s.glk[l].cmdSeq
      let x := charTick (s.at t) l
      u.glk[l].cmdBusy = true ∧ u.glk[l].cmdAddr = v.toNat % 128 ∧ u.glk[l].cmdFly = v.getLsbD 7 ∧
      u.glk[l].cmdSeq = (q + 1) % 16 ∧ u.glk[l].cmdSent = x + 40 * 9 ∧ u.bus.err = 0 ∧
      u.emitted = ⟨14 + l, x, linkFrame 3 q
        (BitVec.ofNat 8 ((if v.getLsbD 7 then 128 else 0) + v.toNat % 128) ::
          leBytes 4 (if v.getLsbD 7 then 0 else s.glk[l].cmdData.toNat))⟩ ::
        s.emitted.filterMap (cutAt (14 + l) x) ∧
      ∀ k, k ≠ l → u.glk[k] = s.glk[k]) ∧
  (∀ (t : Tick) (id : Fin 64) (l : Fin 12) (v : Word32) (s : State), Quiet s t → v.getLsbD 31 = true →
    s.glk[l].cmdBusy = true →
    After (.configExchange t id l v) s fun u =>
      u.glk = s.glk ∧ u.bus.err = 7 ∧ u.emitted = s.emitted) ∧
  (∀ (t : Tick) (id : Fin 64) (l : Fin 12) (v : Word32) (s : State), Quiet s t → v.getLsbD 31 = true →
    v.getLsbD 7 = false → v.toNat % 128 < 0x20 → s.glk[l].cmdBusy = false → s.boot.locked = true →
    After (.configExchange t id l v) s fun u =>
      u.glk[l].cmdResult = 3 ∧ u.glk[l].cmdBusy = false ∧ u.emitted = s.emitted) ∧
  (∀ (t : Tick) (id : Fin 64) (l : Fin 12) (v : Word32) (s : State), Quiet s t → v.getLsbD 31 = true →
    linkCarries s.glk[l] = false → s.glk[l].cmdBusy = false →
    After (.configExchange t id l v) s fun u =>
      u.glk[l].cmdResult = 3 ∧ u.glk[l].cmdBusy = false ∧ u.emitted = s.emitted) ∧
  (∀ (t : Tick) (id : Fin 64) (l : Fin 12) (v : Word32) (s : State), Quiet s t → v.getLsbD 31 = false →
    After (.configExchange t id l v) s fun u =>
      u.glk[l] = { s.glk[l] with cmdRead := v.getLsbD 7, cmdAddr := v.toNat % 128 } ∧
      u.emitted = s.emitted)

/-- A command that fails a check of R48 is answered and changes no mode, machine or brake: MODE_REQ to a
mode that R40 does not reach, and a frame that needs Blaze from another path. An accepted MODE_REQ changes
the mode, or first turns the domains on that the mode needs (R40, R48, R377); in DRIVE it takes the exit
ramp of the machines that run (R138), in CHARGE hand-over (R251). RESET 1 leaves SAFE_HOLD and releases
its rows, RESET 2 arms the deliberate reset (R272, R280). BRAKE_RELEASE energises the channels of its mask
(R274); BRAKE_TEST starts the test, which ends at once with ABORTED where a brake shows a fault (R279).
Rows that complete here, each with its own effect under conditions on the state and the operands alone:
MODE_REQ, RESET, BRAKE_RELEASE, BRAKE_TEST. -/
def Obligations.GateModes : Prop :=
  (∀ (t : Tick) (c : Cmd) (s : State), OnTime s t → Offered s c 0x01 → c.target = 0 → 0 ≤ c.arg 1 →
    c.arg 1 ≤ 4 → (c.arg 1 = 2 → c.path.blaze.isSome = true) →
    s.pba.mode ≠ .drive → s.pba.mode ≠ .charge → reachable s.pba.mode (modeOf (c.arg 1)) = true →
    modeCond s (modeOf (c.arg 1)) = true →
    modeOf (c.arg 1) = .standby ∨ modeOf (c.arg 1) = .off ∨ domainsReady s = true →
    After (.modeReq t) s fun u =>
      u.pba.mode = modeOf (c.arg 1) ∧ u.pba.prev = s.pba.mode ∧ u.pba.queue = s.pba.queue.tail ∧
      u.tal[16] = s.tal[16] + 1) ∧
  (∀ (t : Tick) (c : Cmd) (s : State), OnTime s t → Offered s c 0x01 → c.target = 0 → 0 ≤ c.arg 1 →
    c.arg 1 ≤ 4 → (c.arg 1 = 2 → c.path.blaze.isSome = true) →
    reachable s.pba.mode (modeOf (c.arg 1)) = false →
    After (.modeReq t) s fun u =>
      u.pba.mode = s.pba.mode ∧ u.pba.queue = s.pba.queue.tail ∧ u.tal[17] = s.tal[17] + 1 ∧
      u.trx = s.trx ∧ u.rng = s.rng ∧ u.sbc = s.sbc) ∧
  (∀ (t : Tick) (c : Cmd) (s : State), OnTime s t → Offered s c 0x01 → c.arg 1 = 2 →
    c.path.blaze = none →
    After (.modeReq t) s fun u =>
      u.pba.mode = s.pba.mode ∧ u.pba.queue = s.pba.queue.tail ∧ u.tal[18] = s.tal[18] + 1 ∧
      u.trx = s.trx) ∧
  (∀ (t : Tick) (m : Fin 2) (c : Cmd) (s : State), OnTime s t → Offered s c 0x01 → c.target = 0 →
    c.arg 1 = 1 → s.pba.mode = .drive → modeCond s .standby = true → machOn s m = true →
    s.trx.m[m].state = .run ∨ s.trx.m[m].state = .fly →
    After (.modeReq t) s fun u =>
      u.pba.mode = .drive ∧ u.trx.m[m].state = .exit ∧
      u.trx.m[m].tdem = (if s.trx.m[m].speedMode ∧ s.trx.m[m].state = .run then (tmaxOf s m : Int)
        else s.trx.m[m].tdem)) ∧
  (∀ (t : Tick) (c : Cmd) (s : State), OnTime s t → Offered s c 0x60 → c.path.blaze.isSome = true →
    c.target = 0 → c.arg 1 = 1 → s.pba.mode = .safeHold → s.rng.failed = false → allGone s = true →
    axleStill s = true →
    After (.reset t) s fun u =>
      u.pba.mode = (if s.pba.volts < pbaModeCfgHvOff s then .off else .standby) ∧
      u.tal[16] = s.tal[16] + 1 ∧ u.rng.lock = s.rng.lock ∧
      ∀ a ∈ u.rng.active, resetReleases s a = false) ∧
  (∀ (t : Tick) (i : Fin 64) (c : Cmd) (s : State), OnTime s t → Offered s c 0x60 →
    c.path.blaze = some i → blzCpeerPeer s i = rngResetauthId s → c.target = 0 → c.arg 1 = 2 →
    s.pba.mode = .lockout → s.rng.lock = .locked → s.rng.failed = false → allGone s = true →
    axleStill s = true → s.rng.safeReset = false →
    After (.reset t) s fun u =>
      u.pba.mode = .lockout ∧ u.rng.lock = .armed ∧ u.rng.armedAt = t ∧ u.sbc = s.sbc) ∧
  (∀ (t : Tick) (c : Cmd) (s : State), OnTime s t → Offered s c 0x50 → c.path.blaze.isSome = true →
    c.target = 0 → 1 ≤ c.arg 1 → c.arg 1 ≤ 3 → modeIn s [.standby, .drive, .service] = true →
    s.rng.failed = false → (∀ a ∈ s.rng.active, rngActBrake s a.row = 0) →
    After (.brakeRelease t) s fun u => ∀ n : Fin 2,
      (bit (c.arg 1).toNat n = true → u.sbc.ch[n].energised = true ∧
        (s.sbc.ch[n].energised = false → u.sbc.ch[n].changed = t)) ∧
      (bit (c.arg 1).toNat n = false → u.sbc.ch[n] = s.sbc.ch[n])) ∧
  (∀ (t : Tick) (c : Cmd) (s : State), OnTime s t → Offered s c 0x51 → c.path.blaze.isSome = true →
    c.target = 0 → s.pba.mode = .service → s.rng.failed = false → axleStill s = true →
    brakesSound s = true → torqueOk s (machines s) (c.arg 1) = true →
    After (.brakeTest t) s fun u =>
      u.rng.test.step = 3 ∧ u.rng.test.start = t ∧ u.rng.test.reset = false ∧
      u.rng.test.torque = (if c.arg 1 = 0 then (10 * trxBtestTorque s : Int) else c.arg 1) ∧
      u.rng.lifted[(0 : Fin 4)] = true ∧ u.rng.lifted[(1 : Fin 4)] = true ∧ u.sbc = s.sbc) ∧
  (∀ (t : Tick) (c : Cmd) (s : State), OnTime s t → Offered s c 0x01 → c.target = 0 → 2 ≤ c.arg 1 →
    c.arg 1 ≤ 4 → (c.arg 1 = 2 → c.path.blaze.isSome = true) → s.pba.mode = .standby →
    modeCond s (modeOf (c.arg 1)) = true → domainsReady s = false →
    After (.modeReq t) s fun u =>
      u.pba.mode = .standby ∧ u.pba.toMode = some (modeOf (c.arg 1)) ∧
      ∀ d ∈ neededDomains s, bit u.sys.pdctl.toNat d = true) ∧
  (∀ (t : Tick) (c : Cmd) (s : State), OnTime s t → Offered s c 0x01 → c.target = 0 → c.arg 1 = 1 →
    s.pba.mode = .drive → modeCond s .standby = true →
    (∀ m ∈ machines s, s.trx.m[m].state ≠ .run ∧ s.trx.m[m].state ≠ .fly ∧ s.trx.m[m].state ≠ .exit) →
    After (.modeReq t) s fun u => u.pba.mode = .standby ∧ u.pba.prev = .drive) ∧
  (∀ (t : Tick) (c : Cmd) (s : State), OnTime s t → Offered s c 0x01 → c.target = 0 → c.arg 1 = 1 →
    s.pba.mode = .charge →
    After (.modeReq t) s fun u =>
      u.pba.mode = .charge ∧ u.chg.state = .handover ∧ u.chg.exitPending = true) ∧
  (∀ (t : Tick) (c : Cmd) (s : State), OnTime s t → Offered s c 0x51 → c.path.blaze.isSome = true →
    c.target = 0 → s.pba.mode = .service → s.rng.failed = false → axleStill s = true →
    (∀ n : Fin 2, s.sbc.ch[n].energised = false) → (∃ n : Fin 2, s.sbc.ch[n].faults ≠ 0) →
    torqueOk s (machines s) (c.arg 1) = true →
    After (.brakeTest t) s fun u => u.rng.test.step = 0 ∧ u.rng.test.result = 4 ∧ u.sbc = s.sbc)

/-- TORQUE_REQ and SPEED_REQ reach the machines that TARGET names: in RUN they take effect at once, from
RELOCKED a flying restart begins where it is enabled, and their response waits for the arbiter (R53, R118,
R136). The requests of the charger, the converter and the bridges are stored, and a mode that R49 does not
admit refuses a torque or speed request (R49, R219, R233, R249, R251, R255).
Rows that complete here, each with its own effect under conditions on the state and the operands alone:
TORQUE_REQ, SPEED_REQ, CHARGE_START, CHARGE_STOP, CHARGE_LIMITS, CONV_SETPOINT, GEAR_SHIFT, PARK_LOCK,
PUMP_SPEED. -/
def Obligations.GateRequests : Prop :=
  (∀ (t : Tick) (m : Fin 2) (ms : List (Fin 2)) (c : Cmd) (s : State), OnTime s t → Offered s c 0x10 →
    s.pba.mode = .drive → reach s c.target = m :: ms → torqueOk s (m :: ms) (c.arg 1) = true →
    After (.torqueReq t) s fun u =>
      u.pba.waiting = s.pba.waiting ++ [⟨c, .drive, if m = 0 then 1 else 2, some m⟩] ∧
      (∀ x ∈ m :: ms, u.trx.m[x].treq = c.arg 1 ∧ u.trx.m[x].reqSpeed = false ∧
        u.trx.m[x].sreq = s.trx.m[x].sreq ∧
        (s.trx.m[x].state = .run →
          u.trx.m[x].state = .run ∧ u.trx.m[x].tdem = c.arg 1 ∧ u.trx.m[x].speedMode = false) ∧
        (s.trx.m[x].state = .relocked → trxFlyEn s x = true →
          u.trx.m[x].state = .fly ∧ u.trx.m[x].tdem = 0 ∧ u.trx.m[x].restart = true)) ∧
      ∀ x, x ∉ m :: ms → u.trx.m[x] = s.trx.m[x]) ∧
  (∀ (t : Tick) (m : Fin 2) (ms : List (Fin 2)) (c : Cmd) (s : State), OnTime s t → Offered s c 0x11 →
    s.pba.mode = .drive → reach s c.target = m :: ms → (c.arg 1).natAbs ≤ 240000 →
    After (.speedReq t) s fun u =>
      u.pba.waiting = s.pba.waiting ++ [⟨c, .drive, if m = 0 then 1 else 2, some m⟩] ∧
      (∀ x ∈ m :: ms, u.trx.m[x].sreq = c.arg 1 ∧ u.trx.m[x].reqSpeed = true ∧
        u.trx.m[x].treq = s.trx.m[x].treq ∧
        (s.trx.m[x].state = .run → u.trx.m[x].state = .run ∧ u.trx.m[x].speedMode = true) ∧
        (s.trx.m[x].state = .relocked → trxFlyEn s x = true →
          u.trx.m[x].state = .fly ∧ u.trx.m[x].tdem = 0 ∧ u.trx.m[x].restart = true)) ∧
      ∀ x, x ∉ m :: ms → u.trx.m[x] = s.trx.m[x]) ∧
  (∀ (t : Tick) (c : Cmd) (s : State), Quiet s t → s.pba.mode ≠ .drive →
    (Offered s c 0x10 → After (.torqueReq t) s fun u =>
      u.trx = s.trx ∧ u.pba.mode = s.pba.mode ∧ u.pba.waiting = s.pba.waiting ∧
      u.pba.queue = s.pba.queue.tail) ∧
    (Offered s c 0x11 → After (.speedReq t) s fun u =>
      u.trx = s.trx ∧ u.pba.mode = s.pba.mode ∧ u.pba.waiting = s.pba.waiting ∧
      u.pba.queue = s.pba.queue.tail)) ∧
  (∀ (t : Tick) (c : Cmd) (s : State), OnTime s t → Offered s c 0x20 → c.target = 0 →
    s.pba.mode = .charge → s.chg.state = .idle →
    After (.chargeStart t) s fun u =>
      u.chg.state = .wait ∧ u.chg.since = t ∧ u.chg.term = 0 ∧ u.chg.ilim = s.chg.ilim ∧
      u.pba.waiting = s.pba.waiting ++ [⟨c, .charge, 6, none⟩]) ∧
  (∀ (t : Tick) (c : Cmd) (s : State), OnTime s t → Offered s c 0x21 → c.target = 0 →
    s.pba.mode = .charge → s.chg.state.session = true →
    After (.chargeStop t) s fun u =>
      u.chg.state = .handover ∧ u.chg.term = 3 ∧ u.chg.start = t ∧
      u.tal[88] = s.tal[88] + 1 ∧ u.tal[89] = s.tal[89] + 1 ∧
      (chargerOff s = false → u.chg.step = 1 ∧ u.obc.rampDown = true)) ∧
  (∀ (t : Tick) (c : Cmd) (s : State), Quiet s t → Offered s c 0x22 → c.target = 0 →
    modeIn s [.standby, .charge] = true → 0 ≤ c.arg 1 → c.arg 1 ≤ (chgMaxImax s : Nat) →
    (chgVminVmin s : Nat) ≤ c.arg 2 → c.arg 2 ≤ (chgMaxVmax s : Nat) →
    After (.chargeLimits t) s fun u =>
      u.chg = { s.chg with ilim := (c.arg 1).toNat, vlim := (c.arg 2).toNat }) ∧
  (∀ (t : Tick) (c : Cmd) (s : State), OnTime s t → Offered s c 0x30 → c.target = 0 →
    modeIn s [.standby, .drive, .charge, .service, .safeHold] = true → s.dcc.state = .idle →
    0 < c.arg 1 → (dccLimitsVminMv s : Nat) ≤ c.arg 1 →
    c.arg 1 ≤ (dccLimitsVmaxMv s : Nat) → 0 ≤ c.arg 2 → c.arg 2 ≤ 65535 →
    After (.convSetpoint t) s fun u =>
      u.dcc.state = .softStart ∧ u.dcc.target = (c.arg 1).toNat ∧ u.dcc.since = t ∧
      u.dcc.attempt = 0 ∧ u.pba.waiting = s.pba.waiting ++ [⟨c, s.pba.mode, 0, none⟩]) ∧
  (∀ (t : Tick) (b : Fin 3) (c : Cmd) (s : State), Quiet s t → Offered s c 0x40 → c.target = 0 →
    bridgeOf s 2 = some b → 0 ≤ c.arg 1 → c.arg 1 ≤ 7 → c.arg 1 ≤ (axbMotorTopGear s b : Nat) →
    modeIn s [.standby, .service] = true ∨ (s.pba.mode = .drive ∧ ∀ m : Fin 2, s.trx.m[m].treq = 0) →
    After (.gearShift t) s fun u =>
      u.axb.b[b] = { s.axb.b[b] with
        cmdCount := (s.axb.b[b].cmdCount + 1) % 16, cmdArg := c.arg 1 } ∧
      u.pba.waiting = s.pba.waiting ++ [⟨c, s.pba.mode, Fin.ofNat 7 (3 + b), none⟩] ∧
      ∀ x, x ≠ b → u.axb.b[x] = s.axb.b[x]) ∧
  (∀ (t : Tick) (b : Fin 3) (c : Cmd) (s : State), Quiet s t → Offered s c 0x41 → c.target = 0 →
    bridgeOf s 3 = some b → s.pba.mode ≠ .lockout →
    (c.arg 1 = 1 ∧ (s.pba.mode = .drive → axleStill s = true)) ∨ (c.arg 1 = 0 ∧ s.pba.mode ≠ .safeHold) →
    After (.parkLock t) s fun u =>
      u.axb.b[b] = { s.axb.b[b] with
        cmdCount := (s.axb.b[b].cmdCount + 1) % 16, cmdArg := c.arg 1 } ∧
      ∀ x, x ≠ b → u.axb.b[x] = s.axb.b[x]) ∧
  (∀ (t : Tick) (b : Fin 3) (c : Cmd) (s : State), Quiet s t → Offered s c 0x42 → c.target = b.val →
    s.pba.mode ≠ .lockout → axbCtlRole s b = 1 → 0 ≤ c.arg 1 →
    c.arg 1 ≤ (axbMotorMaxRpm s b : Nat) →
    After (.pumpSpeed t) s fun u =>
      u.axb.b[b] = { s.axb.b[b] with
        cmdCount := (s.axb.b[b].cmdCount + 1) % 16, cmdArg := c.arg 1 } ∧
      u.pba.waiting = s.pba.waiting ++ [⟨c, s.pba.mode, Fin.ofNat 7 (3 + b), none⟩] ∧
      ∀ x, x ≠ b → u.axb.b[x] = s.axb.b[x]) ∧
  (∀ (t : Tick) (c : Cmd) (s : State), OnTime s t → Offered s c 0x30 → c.target = 0 →
    modeIn s [.standby, .drive, .charge, .service, .safeHold] = true →
    0 ≤ c.arg 2 → c.arg 2 ≤ 65535 →
    (c.arg 1 = 0 → s.dcc.state = .run ∨ s.dcc.state = .softStart → After (.convSetpoint t) s fun u =>
      u.dcc.state = .idle) ∧
    ((dccLimitsVminMv s : Nat) ≤ c.arg 1 → c.arg 1 ≤ (dccLimitsVmaxMv s : Nat) → 0 < c.arg 1 →
      s.dcc.state = .run → c.arg 1 ≠ ((s.dcc.vref + 500) / 1000 : Nat) →
      After (.convSetpoint t) s fun u => u.dcc = { s.dcc with
        target := (c.arg 1).toNat
        rate := if c.arg 2 = 0 then max (dccSlewDefSlew s) 1 else (c.arg 2).toNat }))

/-- A cycle of the arbiter gives the converter its reserve first, then the machines their shares of what
is left (truncated: the model's choice, log 116), then the bridges in order, while no request is
regenerative; it grants no more than is asked and nothing to a consumer that a reaction holds off, and takes
every waiting command; limits that reach STALE_MS are stale (R53 to R60), on the start tick of a cycle
already in that cycle by the model's choice (log 118). The DC link below HV_OFF for 10 ms in STANDBY
turns the mode OFF (R40); a write of a limit register takes effect on its tick (R61).
Rows that complete here, each with its own effect under conditions on the state and the operands alone:
ARBITER_CYCLE, LIMITS_STALE, DC_LINK_LOW_TIMEOUT, LIMIT_REGISTER_WRITE. -/
def Obligations.PowerArbiter : Prop :=
  (∀ (t : Tick) (s : State), OnTime s t → t % 1600000 = 0 → s.pba.cycle ≠ t → s.pba.stale = false →
    t < s.pba.limStamp + staleMs s * 1600000 → s.pba.limStamp < t → s.pba.mode ≠ .charge →
    (∀ n : Fin 7, 0 ≤ s.pba.req[n] ∧ heldOff s n = false) →
    After (.arbiterCycle t) s fun u =>
      let r (n : Fin 7) : Nat := s.pba.req[n].toNat
      let d := s.pba.limDis.toNat
      let g0 := min (min (r 0) (pbaDccReserveWatts s)) d
      let drive := r 1 + r 2
      let g1 := if drive ≤ d - g0 then r 1 else r 1 * (d - g0) / drive
      let g2 := if drive ≤ d - g0 then r 2 else r 2 * (d - g0) / drive
      let left := d - g0 - g1 - g2
      let g3 := min (r 3) left
      let g4 := min (r 4) (left - g3)
      let g5 := min (r 5) (left - g3 - g4)
      u.pba.cycle = t ∧ u.pba.waiting = [] ∧ u.pba.req = s.pba.req ∧ u.pba.mode = s.pba.mode ∧
      u.pba.grant = #v[(g0 : Int), g1, g2, g3, g4, g5, 0]) ∧
  (∀ (t : Tick) (s : State), OnTime s t → s.pba.stale = false →
    s.pba.limStamp + staleMs s * 1600000 ≤ t →
    After (.limitsStale t) s fun u => u.pba = { s.pba with stale := true }) ∧
  (∀ (t x : Tick) (s : State), OnTime s t → s.pba.hvLow = some x → s.pba.mode = .standby →
    x + 16000000 ≤ t →
    After (.dcLinkLowTimeout t) s fun u =>
      u.pba.mode = .off ∧ u.pba.prev = .standby ∧ u.sbc.ch[(0 : Fin 2)].energised = false ∧
      u.sbc.ch[(1 : Fin 2)].energised = false) ∧
  (∀ (t : Tick) (v : Word32) (s : State), OnTime s t →
    (After (.limitRegisterWrite t true v) s fun u =>
      u.pba.limChg = v ∧ u.pba.limDis = s.pba.limDis ∧ u.pba.limStamp = t ∧ u.pba.stale = false) ∧
    (After (.limitRegisterWrite t false v) s fun u =>
      u.pba.limDis = v ∧ u.pba.limChg = s.pba.limChg ∧ u.pba.limStamp = t ∧ u.pba.stale = false)) ∧
  (∀ (t : Tick) (s : State), OnTime s t → t % 1600000 = 0 → s.pba.cycle ≠ t →
    After (.arbiterCycle t) s fun u =>
      u.pba.cycle = t ∧ u.pba.waiting = [] ∧ u.pba.req = s.pba.req ∧ u.pba.mode = s.pba.mode ∧
      ∀ n : Fin 7, (heldOff s n = true → u.pba.grant[n] = 0) ∧
        (0 ≤ s.pba.req[n] → 0 ≤ u.pba.grant[n] ∧ u.pba.grant[n] ≤ s.pba.req[n]) ∧
        (s.pba.req[n] ≤ 0 → s.pba.req[n] ≤ u.pba.grant[n] ∧ u.pba.grant[n] ≤ 0))

/-- The copy of the time base on the power die is loaded 96 tk after each multiple of 1,600 tk and is
stale 4 µs after the latest beacon (R29, R31); loss of the die-to-die interface is reported (R17); the
island takes the speeds every 1,600 tk and rewrites the link-loss patterns every 1 ms (R22).
Rows that complete here, each with its own effect under conditions on the state and the operands alone:
TIME_BEACON, POWER_TB_STALE, D2D_INTERFACE_LOSS, SPEED_REPORT, LOSS_PATTERN_REFRESH. -/
def Obligations.DieTiming : Prop :=
  (∀ (t : Tick) (s : State), OnTime s t → t % 1600 = 96 →
    After (.timeBeacon t) s fun u =>
      u.clk.now = t ∧ u.clk.power = t ∧ u.clk.lastBeacon = t ∧ u.clk.stale = false) ∧
  (∀ (t : Tick) (s : State), OnTime s t → s.clk.stale = false → s.clk.lastBeacon + 6400 ≤ t →
    After (.powerTbStale t) s fun u =>
      u.clk.stale = true ∧ u.clk.lastBeacon = s.clk.lastBeacon ∧
      u.rng.net = s.rng.net ++ [⟨t, bRNG, 0xFF, 3, 0, 0⟩]) ∧
  (∀ (t : Tick) (s : State), OnTime s t →
    After (.d2dInterfaceLoss t) s fun u =>
      u.rng.net = s.rng.net ++ [⟨t, bRNG, 0xFF, 3, 0, 0⟩] ∧ u.rng.active = s.rng.active) ∧
  (∀ (t : Tick) (s : State), OnTime s t → t % 1600 = 0 →
    After (.speedReport t) s fun u => ∀ m : Fin 2,
      u.trx.m[m].encSpeed =
        if machOn s m then speedOf s (encOf s m) else s.trx.m[m].encSpeed) ∧
  (∀ (t : Tick) (s : State), OnTime s t → t % 1600000 = 0 → s.rng.failed = false →
    After (.lossPatternRefresh t) s fun u => ∀ (l : Fin 12) (g : Fin 4), glkCfgEn s l = true →
      linkGroup s l = some g →
      u.glk[l] = { s.glk[l] with
        lossP := patternBits s l (lossPattern s g), lossDue := linkCarries s.glk[l] })

/-- The island evaluates the report it has received: every firing row becomes active and is counted,
the brakes that a row names are applied, and the mode follows (R268 to R271). A set is decided 200 tk
after its first report (R190); an AUTO row is released 100 ms after its causes are gone (R272); an
island failure and a shutdown act without the table (R262, R418).
Rows that complete here, each with its own effect under conditions on the state and the operands alone:
FAULT_REPORT, SET_DECIDED, AUTO_RELEASE, ISLAND_FAILURE, SHUTDOWN_TRIP, SHUTDOWN_RESET_HOLD. -/
def Obligations.IslandReports : Prop :=
  (∀ (t : Tick) (q : Report) (s : State), OnTime s t → oldestRx s.rng.net = some q.rx →
    batchOf q.rx s.rng.net = [q] → q.rx ≤ t → batchWaits s [q] = false →
    s.rng.failed = false → s.rng.powered = true → s.rng.test.step ≠ 3 →
    s.boot.act.busy = false → (s.rng.lock = .none ∨ s.rng.lock = .locked) →
    After (.faultReport t) s fun u =>
      u.rng.net = (s.rng.net.filter fun x => x.rx ≠ q.rx) ∧ u.rng.last = some q ∧ u.pba.mode = modeAfter s (firing s q) ∧
      u.tal[91] = s.tal[91] + BitVec.ofNat 64 (firing s q).length ∧
      (∀ r ∈ firing s q, rowActive u r = true) ∧
      (∀ r, rowActive s r = true → rowActive u r = true) ∧
      ∀ n : Fin 2, (∃ r ∈ firing s q, bit (rngActBrake s r) n = true) →
        u.sbc.ch[n].energised = false) ∧
  (∀ (t : Tick) (g : Fin 4) (s : State), OnTime s t → s.psp.set[g].inForce = true →
    s.psp.set[g].decided = false → s.rng.failed = false → s.psp.set[g].opened + 200 ≤ t →
    s.boot.act.busy = false →
    After (.setDecided t g) s fun u =>
      u.psp.set[g].decided = true ∧ u.psp.set[g].reports = s.psp.set[g].reports ∧
      u.tal[67] = s.tal[67] + 1 ∧ ∀ k, k ≠ g → u.psp.set[k] = s.psp.set[k]) ∧
  (∀ (t : Tick) (x : Nat) (a : ActiveRow) (r : Fin 128) (s : State), OnTime s t →
    (s.rng.active.find? fun y => y.row = r.val) = some a → a.goneSince = some x → x + 160000000 ≤ t →
    rowMode s r = 0 → rngActAuto s r = true → rowGone s a = true → s.rng.failed = false →
    After (.autoRelease t r) s fun u =>
      u.rng.active = (s.rng.active.filter fun y => y.row ≠ r.val) ∧ u.tal[93] = s.tal[93] + 1 ∧
      u.pba = s.pba) ∧
  (∀ (t : Tick) (s : State), OnTime s t → s.rng.failed = false → s.boot.act.busy = false →
    After (.islandFailure t) s fun u =>
      u.rng.failed = true ∧ u.rng.alive = false ∧ (∀ g : Fin 4, u.red.tok[g].state = .revoked) ∧
      (∀ b : Fin 3, u.axb.b[b].state = .held ∧ u.axb.b[b].island = 1) ∧
      ∀ n : Fin 2, u.sbc.ch[n].energised = false) ∧
  (∀ (t : Tick) (n : Fin 14) (s : State), OnTime s t → s.rng.failed = false →
    s.rng.shutdown = false → s.boot.act.busy = false →
    After (.shutdownTrip t n) s fun u =>
      u.rng.shutdown = true ∧ u.rng.shutAt = t ∧ u.pba.mode = .lockout ∧
      (∀ g : Fin 4, u.red.tok[g].state = .revoked) ∧ ∀ n : Fin 2, u.sbc.ch[n].energised = false) ∧
  (∀ (t : Tick) (s : State), OnTime s t → s.rng.shutdown = true → s.rng.shutAt + 1600000 ≤ t →
    After (.shutdownResetHold t) s fun u =>
      u.rng = s.rng ∧ u.sbc = s.sbc ∧ u.flog = s.flog ∧ u.mem = [] ∧ u.pba.mode = .off ∧
      u.boot.locked = false ∧ u.boot.phase = 0 ∧ u.clk.now = t)

/-- The island counts a clock or a supply out of its limits and reports it on the second or the tenth
time in a row, a silent clock at once (R264, R265); ALIVE toggles every 1 ms (R263); a loss of VDD_SAFE
resets the device but what R261 keeps; the fault log pins its first record and wraps after 255 more,
and clears in SERVICE by its code (R281).
Rows that complete here, each with its own effect under conditions on the state and the operands alone:
CLOCK_MEASUREMENT, CLOCK_NO_EDGE, SUPPLY_COMPARISON, ALIVE_TOGGLE, VDD_SAFE_LOW, VDD_SAFE_POWER_ON,
FLOG_STORE, FLOG_CLEAR. -/
def Obligations.IslandMonitors : Prop :=
  (∀ (t : Tick) (c0 c1 c2 c3 c4 : Nat) (s : State), OnTime s t →
    After (.clockMeasurement t c0 c1 c2 c3 c4) s fun u =>
      (∀ c : Fin 5, u.rng.clock[c].count = #v[c0, c1, c2, c3, c4][c]) ∧
      (∀ c : Fin 5, u.rng.clock[c].run =
        if 92 * clockCounts[c] ≤ 100 * #v[c0, c1, c2, c3, c4][c] ∧
          100 * #v[c0, c1, c2, c3, c4][c] ≤ 108 * clockCounts[c] then 0
        else s.rng.clock[c].run + 1) ∧
      ((∀ c : Fin 5, u.rng.clock[c].run ≠ 2) → u.rng.net = s.rng.net)) ∧
  (∀ (t : Tick) (c : Fin 5) (s : State), OnTime s t → s.rng.clock[c].run < 2 →
    After (.clockNoEdge t c) s fun u =>
      u.rng.clock[c].run = 2 ∧ u.rng.net = s.rng.net ++ [⟨t, bRNG, 0xC0 + c, 1, 0, 0⟩] ∧
      ∀ k, k ≠ c → u.rng.clock[k] = s.rng.clock[k]) ∧
  (∀ (t : Tick) (v0 v1 v2 v3 v4 v5 : Nat) (s : State), OnTime s t →
    After (.supplyComparison t v0 v1 v2 v3 v4 v5) s fun u =>
      (∀ i : Fin 6, u.rng.supply[i].run =
        if supplyLimits[i].1 ≤ #v[v0, v1, v2, v3, v4, v5][i] ∧
          #v[v0, v1, v2, v3, v4, v5][i] ≤ supplyLimits[i].2 then 0 else s.rng.supply[i].run + 1) ∧
      ((∀ i : Fin 6, u.rng.supply[i].run ≠ 10) → u.rng.net = s.rng.net)) ∧
  (∀ (t : Tick) (s : State), OnTime s t → s.rng.failed = false → s.rng.powered = true →
    s.rng.aliveAt + 1600000 ≤ t →
    After (.aliveToggle t) s fun u =>
      u.rng = { s.rng with alive := !s.rng.alive, aliveAt := t }) ∧
  (∀ (t : Tick) (s : State),
    After (.vddSafeLow t) s fun u =>
      u.rng.powered = false ∧ u.rng.shutdown = s.rng.shutdown ∧ u.rng.active = [] ∧ u.nor = s.nor ∧
      u.flog.recs = s.flog.recs ∧ u.flog.waiting = [] ∧ u.mem = [] ∧ u.pba.mode = .off ∧
      u.clk.locked = false ∧ u.boot.phase = 0 ∧ u.boot.released = s.boot.released) ∧
  (∀ (t : Tick) (s : State), Quiet s t → s.rng.powered = false → s.boot.released = true →
    s.rng.shutdown = false →
    After (.vddSafePowerOn t) s fun u => u.rng.powered = true ∧ u.boot.phase = 1 ∧ u.nor = s.nor) ∧
  (∀ (t : Tick) (w : Word256) (ws : List Word256) (s : State), Quiet s t → s.flog.waiting = w :: ws →
    After (.flogStore t) s fun u =>
      u.flog.waiting = ws ∧ u.flog.pinned = true ∧ u.flog.count = min (s.flog.count + 1) 256 ∧
      (s.flog.pinned = false → u.flog.recs = sput 0 s.flog.recs 0 w ∧ u.flog.next = s.flog.next) ∧
      (s.flog.pinned = true → u.flog.recs = sput 0 s.flog.recs s.flog.next w ∧
        u.flog.next = if s.flog.next = 255 then 1 else s.flog.next + 1)) ∧
  (∀ (t : Tick) (v : BitVec 16) (s : State), Quiet s t →
    After (.flogClear t v) s fun u =>
      u.flog = if v = 0xC1EA ∧ s.pba.mode = .service then
        { s.flog with recs := [], pinned := false, count := 0, next := 1 } else s.flog)

/-- An energised channel takes a test pulse every INTERVAL, alternately on its two switches (R275).
A check that finds no cause clears the shown ones; a cause found in three evaluations in a row applies both
brakes and enters LOCKOUT (R276, R278).
The brake test ends with MOVED, TORQUE, also 200 ms after its first commit, or PASS (R279).
Rows that complete here, each with its own effect under conditions on the state and the operands alone:
TEST_PULSE, PULSE_CHECK, BRAKE_CHECK, MOVE_CHECK, TORQUE_CHECK, BRAKE_TEST_TORQUE_END. -/
def Obligations.SafeBrake : Prop :=
  (∀ (t : Tick) (n : Fin 2) (s : State), OnTime s t → s.sbc.ch[n].energised = true →
    nextPulse s n ≤ t → pulseOn (s.at t) n = false →
    After (.testPulse t n) s fun u =>
      u.sbc.ch[n] = { s.sbc.ch[n] with pulse := true, pulseAt := t, retryAt := none } ∧
      ∀ k, k ≠ n → u.sbc.ch[k] = s.sbc.ch[k]) ∧
  (∀ (t : Tick) (n : Fin 2) (v : Int) (s : State), OnTime s t → s.sbc.ch[n].pulse = true →
    pulseOn (s.at t) n = true → s.sbc.ch[n].pulseAt + 32000 ≤ t →
    let good := if s.sbc.ch[n].pulseHigh then v ≤ 20 else (s.sbc.vbrk : Int) - 20 ≤ v
    (good → After (.pulseCheck t n v) s fun u =>
      u.sbc.ch[n].pulse = false ∧ u.sbc.ch[n].pulseHigh = !s.sbc.ch[n].pulseHigh ∧
      u.sbc.ch[n].pulseFails = 0 ∧
      u.sbc.ch[n].passed = s.sbc.ch[n].passed + 1 ∧ u.rng = s.rng ∧
      ∀ k, k ≠ n → u.sbc.ch[k] = s.sbc.ch[k]) ∧
    (¬good → s.sbc.ch[n].pulseFails = 0 → After (.pulseCheck t n v) s fun u =>
      u.sbc.ch[n].pulse = false ∧ u.sbc.ch[n].pulseFails = 1 ∧
      u.sbc.ch[n].retryAt = some (s.sbc.ch[n].pulseAt + 16000000) ∧ u.rng = s.rng) ∧
    (¬good → s.sbc.ch[n].pulseFails ≠ 0 → s.rng.failed = false → s.boot.act.busy = false →
      After (.pulseCheck t n v) s fun u =>
        u.rng.brakeHold = true ∧ u.pba.mode = .lockout ∧ u.tal[94] = s.tal[94] + 1 ∧
        ∀ k : Fin 2, u.sbc.ch[k].energised = false)) ∧
  (∀ (t : Tick) (n : Fin 2) (vhs vls vfb : Int) (icoil vbrk : Nat) (s : State), OnTime s t →
    t % 800000 = 0 → s.sbc.ch[n].changed + 32000000 ≤ t → pulseOn (s.at t) n = false →
    (if s.sbc.ch[n].energised then (vbrk : Int) - 20 ≤ vhs ∧ vls ≤ 20 ∧ sbcLimitsIOpen s ≤ icoil ∧
      icoil < 3000 ∧ (vfb - vhs).natAbs ≤ sbcLimitsFbTol s else vhs ≤ 20 ∧ vfb ≤ (sbcLimitsFbTol s : Nat)) →
    After (.brakeCheck t n vhs vls vfb icoil vbrk) s fun u =>
      u.sbc.ch[n].vhs = vhs ∧ u.sbc.ch[n].icoil = icoil ∧ u.sbc.vbrk = vbrk ∧
      u.sbc.ch[n].faults = 0 ∧ u.sbc.ch[n].energised = s.sbc.ch[n].energised ∧ (∀ i : Fin 7, u.sbc.ch[n].fails[i] = 0) ∧ u.pba = s.pba) ∧
  (∀ (t : Tick) (n : Fin 2) (vhs vls vfb : Int) (icoil vbrk : Nat) (s : State), OnTime s t →
    t % 800000 = 0 → s.sbc.ch[n].changed + 32000000 ≤ t → s.sbc.ch[n].energised = false →
    20 < vhs → vfb ≤ (sbcLimitsFbTol s : Nat) → s.sbc.ch[n].fails[(0 : Fin 7)] = 2 → s.rng.failed = false → s.boot.act.busy = false →
    After (.brakeCheck t n vhs vls vfb icoil vbrk) s fun u =>
      u.sbc.ch[n].faults.getLsbD 1 = true ∧ u.rng.brakeHold = true ∧ u.pba.mode = .lockout ∧
      u.tal[94] = s.tal[94] + 1 ∧ ∀ k : Fin 2, u.sbc.ch[k].energised = false) ∧
  (∀ (t : Tick) (s : State), OnTime s t → s.rng.test.step = 3 → s.rng.test.start < t →
    (t - s.rng.test.start) % 1600000 = 0 →
    let d (m : Fin 2) : Nat := (countOf s (encOf s m) - s.rng.test.startCnt[m]).natAbs
    After (.moveCheck t) s fun u =>
      (∀ m ∈ machines s, u.rng.test.move[m] = max s.rng.test.move[m] (d m)) ∧
      u.rng.test.step = (if (machines s).any fun m =>
        max (rngBtestMoveLimit s) 1 ≤ max s.rng.test.move[m] (d m) then 0 else 3) ∧
      (u.rng.test.step = 0 → u.rng.test.result = 2 ∧ u.tal[96] = s.tal[96] + 1)) ∧
  (∀ (t : Tick) (s : State), OnTime s t → s.rng.test.step = 3 → s.rng.test.first = none →
    s.rng.test.start + 160000000 ≤ t →
    After (.torqueCheck t) s fun u =>
      u.rng.test.step = 0 ∧ u.rng.test.result = 3 ∧ u.tal[95] = s.tal[95] + 1) ∧
  (∀ (t f : Tick) (s : State), OnTime s t → s.rng.test.step = 3 → s.rng.test.first = some f →
    f + 3200000000 ≤ t →
    After (.brakeTestTorqueEnd t) s fun u =>
      u.rng.test.step = 0 ∧ u.tal[95] = s.tal[95] + 1 ∧
      u.rng.test.result = if (machines s).all fun m => s.rng.test.torqueOk[m] then 1 else 3) ∧
  (∀ (t : Tick) (n : Fin 2) (vhs vls vfb : Int) (icoil vbrk : Nat) (s : State), OnTime s t →
    t % 800000 = 0 → s.sbc.ch[n].changed + 32000000 ≤ t → s.sbc.ch[n].energised = true →
    pulseOn (s.at t) n = false → (vbrk : Int) - 20 ≤ vhs → vls ≤ 20 → sbcLimitsIOpen s ≤ icoil →
    3000 ≤ icoil → (vfb - vhs).natAbs ≤ sbcLimitsFbTol s → s.sbc.ch[n].fails[(5 : Fin 7)] = 2 →
    s.rng.failed = false → s.boot.act.busy = false →
    After (.brakeCheck t n vhs vls vfb icoil vbrk) s fun u =>
      u.rng.brakeHold = true ∧ u.pba.mode = .lockout ∧ u.tal[94] = s.tal[94] + 1 ∧
      ∀ k : Fin 2, u.sbc.ch[k].energised = false) ∧
  (∀ (t f : Tick) (s : State), OnTime s t → s.rng.test.step = 3 → s.rng.test.first = some f →
    f + 320000000 ≤ t → (∃ m ∈ machines s, s.rng.test.torqueOk[m] = false) →
    After (.torqueCheck t) s fun u =>
      u.rng.test.step = 0 ∧ u.rng.test.result = 3 ∧ u.tal[95] = s.tal[95] + 1)

/-- The steps of the deliberate reset while the island has not failed: a press in time after ARMED, its release between 100 and 500 ms
later starts the test, and a press too long or none in ARM_S abandons the sequence (R280).
Rows that complete here, each with its own effect under conditions on the state and the operands alone:
SAFE_RESET_RISE, SAFE_RESET_FALL, PRESS_TIMEOUT, ARM_TIMEOUT. -/
def Obligations.DeliberateReset : Prop :=
  (∀ (t : Tick) (s : State), OnTime s t → s.rng.failed = false → s.rng.lock = .armed →
    After (.safeResetRise t) s fun u =>
      u.rng.safeReset = true ∧ u.rng.pressAt = t - 8000000 ∧
      u.rng.lock = (if t - 8000000 < s.rng.armedAt + armTicks s then .pressed else .locked)) ∧
  (∀ (t : Tick) (s : State), OnTime s t → s.rng.failed = false → s.rng.lock = .pressed → axleStill s = true →
    brakesSound s = true → 160000000 ≤ t - 8000000 - s.rng.pressAt →
    t - 8000000 - s.rng.pressAt < 800000000 →
    After (.safeResetFall t) s fun u =>
      u.rng.safeReset = false ∧ u.rng.lock = .testing ∧ u.rng.test.step = 3 ∧
      u.rng.test.reset = true ∧ u.rng.test.torque = (10 * trxBtestTorque s : Int) ∧
      u.rng.test.start = t) ∧
  (∀ (t : Tick) (s : State), OnTime s t → s.rng.failed = false → s.rng.lock = .pressed →
    800000000 ≤ t - 8000000 - s.rng.pressAt →
    After (.safeResetFall t) s fun u =>
      u.rng.safeReset = false ∧ u.rng.lock = .locked ∧ u.rng.test = s.rng.test ∧
      u.tal[97] = s.tal[97] + 1) ∧
  (∀ (t : Tick) (s : State), OnTime s t → s.rng.failed = false → s.rng.lock = .pressed → s.rng.safeReset = true →
    s.rng.pressAt + 808000000 ≤ t →
    After (.pressTimeout t) s fun u => u.rng.lock = .locked ∧ u.tal[97] = s.tal[97] + 1) ∧
  (∀ (t : Tick) (s : State), OnTime s t → s.rng.failed = false → s.rng.lock = .armed →
    s.rng.armedAt + armTicks s + 8000000 ≤ t →
    After (.armTimeout t) s fun u => u.rng.lock = .locked ∧ u.tal[97] = s.tal[97] + 1)

/-- At a period start of a bridge its written period and phase take effect and the commits that came
before are taken (R201, R202); it posts its two urgent requests 1,600 tk ahead (R413), writes its input
block SWIN after the start (R205), executes its next edge unless the interlock stops it (R200), stops
when its commits stay away (R213), and forgets its restarts after 1 s in RUN (R212).
Rows that complete here, each with its own effect under conditions on the state and the operands alone:
AXB_PERIOD_START, URGENT_REQUEST, AXB_INPUT_WRITE, PULSE_EDGE, COMMIT_TIMEOUT, RESTART_COUNT_RESET. -/
def Obligations.BridgePeriods : Prop :=
  (∀ (t x : Tick) (b : Fin 3) (s : State), OnTime s t → axbDue (s.at t) b = some x →
    (s.axb.b[b].commits.all fun c => x ≤ c.tick || c.slots.all fun y => y.1 != 4) = true →
    After (.axbPeriodStart t b) s fun u =>
      u.axb.b[b].pstart = x ∧ u.axb.b[b].started = true ∧ u.axb.b[b].written = false ∧
      u.axb.b[b].period = axbPeriod (axbCarrierPeriod s b) ∧
      u.axb.b[b].cphase = axbCphasePhase s b ∧ u.axb.b[b].state = s.axb.b[b].state ∧
      u.axb.b[b].commits = (s.axb.b[b].commits.filter fun c => !decide (c.tick < x)) ∧
      u.axb.b[b].slots = (s.axb.b[b].commits.filter fun c => c.tick < x).foldl
        (fun v c => c.slots.foldl (fun v y => v.setIfInBounds y.1 y.2) v) s.axb.b[b].slots ∧
      ∀ k, k ≠ b → u.axb.b[k] = s.axb.b[k]) ∧
  (∀ (t x : Tick) (b : Fin 3) (c : BCommit) (y : Nat × Word24) (s : State), OnTime s t →
    axbDue (s.at t) b = some x → s.axb.b[b].commits = [c] → c.tick < x → s.axb.b[b].state = .stopped →
    (c.slots.find? fun z => z.1 = 4) = some y →
    After (.axbPeriodStart t b) s fun u =>
      u.axb.b[b].commits = [] ∧ u.axb.b[b].slots = c.slots.foldl (fun v y => v.setIfInBounds y.1 y.2)
        s.axb.b[b].slots ∧
      u.axb.b[b].state = (match y.2.toNat % 4 with
        | 0 => .stopped | 1 => .direct | 2 => .precharge | _ => .brake)) ∧
  (∀ (t x : Tick) (b : Fin 3) (s : State), OnTime s t → axbOn s b = true → axbCtlSample s b = true →
    axbLattice s b ((s.at t).clk.power + 1600) = x → (s.at t).clk.power + 1600 < x + 40 →
    (∀ r ∈ s.hka.resv, r.aperture + 800 ≤ x ∨ x + 1600 ≤ r.aperture) → s.hka.busy = none →
    After (.urgentRequest t b) s fun u =>
      u.hka.resv = s.hka.resv ++ [⟨x, b, false, axbCtlHkU s b⟩, ⟨x + 800, b, true, axbCtlHkV s b⟩] ∧
      u.axb = s.axb) ∧
  (∀ (t : Tick) (b : Fin 3) (s : State), OnTime s t → axbOn s b = true → s.axb.b[b].started = true →
    s.axb.b[b].written = false → s.axb.b[b].pstart + 40 * swinOf s b + 160 ≤ (s.at t).clk.power →
    After (.axbInputWrite t b) s fun u =>
      (axbCtlSample s b = false → u.axb.b[b] = { s.axb.b[b] with written := true }) ∧
      u.axb.b[b].written = true ∧ (∀ k, k ≠ b → u.axb.b[k] = s.axb.b[k]) ∧
      Wrote s.ce[(6 : Fin 8)] u.ce[(6 : Fin 8)] (axbMapInWord s b) (axbBlock s.axb.b[b])) ∧
  (∀ (t : Tick) (b : Fin 3) (e : PEdge) (es : List PEdge) (s : State), OnTime s t →
    s.axb.b[b].edges = e :: es → e.tick ≤ (s.at t).clk.power →
    s.axb.b[b].phase[e.phase].gate e.high ≠ e.on →
    (e.on = true → interlocked s.axb.b[b].phase[e.phase] e.high e.tick (40 * deadOf s b) = false ∧
      (e.high = true → s.axb.b[b].phase[e.phase].locked = false)) →
    After (.pulseEdge t b) s fun u =>
      u.axb.b[b].edges = es ∧
      u.axb.b[b].phase[e.phase] = s.axb.b[b].phase[e.phase].setGate e.high e.on e.tick ∧
      u.cap.notices = (4 + b.val, e.tick) :: s.cap.notices ∧
      ∀ k, k ≠ e.phase → u.axb.b[b].phase[k] = s.axb.b[b].phase[k]) ∧
  (∀ (t : Tick) (b : Fin 3) (e : PEdge) (es : List PEdge) (s : State), OnTime s t →
    s.axb.b[b].edges = e :: es → e.tick ≤ (s.at t).clk.power → e.on = true →
    interlocked s.axb.b[b].phase[e.phase] e.high e.tick (40 * deadOf s b) = true →
    After (.pulseEdge t b) s fun u =>
      u.axb.b[b] = { s.axb.b[b] with edges := es } ∧ u.tal[74] = s.tal[74] + 1 ∧
      u.rng.net = s.rng.net ++ [⟨t + 40, bAXB, 0xC0 + b, 3, 0, 0⟩] ∧ u.cap = s.cap) ∧
  (∀ (t : Tick) (b : Fin 3) (s : State), OnTime s t →
    (s.axb.b[b].state.running = true ∨ s.axb.b[b].state = .stalled) →
    s.axb.b[b].lastCommit + max (axbCtlWatch s b) 1 * 1600000 ≤ t →
    After (.commitTimeout t b) s fun u =>
      u.axb.b[b].state = .stopped ∧ u.axb.b[b].since = t ∧ u.tal[77] = s.tal[77] + 1 ∧
      ∀ k, k ≠ b → u.axb.b[k] = s.axb.b[k]) ∧
  (∀ (t : Tick) (b : Fin 3) (s : State), OnTime s t → s.axb.b[b].state = .run →
    s.axb.b[b].since + 1600000000 ≤ t →
    After (.restartCountReset t b) s fun u =>
      u.axb.b[b] = { s.axb.b[b] with restarts := 0 } ∧ ∀ k, k ≠ b → u.axb.b[k] = s.axb.b[k])

/-- BOOT_LOW of a phase is set and cleared by its comparator; below UVLO a high side that is on turns
off and the supply holds it off until it recovers (R207, R209); VS out of its range and VDRV low are
kept, recorded and reported, and so is their return (R211).
Rows that complete here, each with its own effect under conditions on the state and the operands alone:
BOOT_LOW_CLEARED, BOOT_UVLO_RECOVERED, BOOT_LOW_ENTERED, BOOT_UVLO, VS_BAD, VS_GOOD, VDRV_LOW, VDRV_GOOD. -/
def Obligations.BridgeSupplies : Prop :=
  (∀ (t : Tick) (b p : Fin 3) (v : Nat) (s : State), Quiet s t →
    (axbBootLowThr s b + axbBootHyst s b < v → After (.bootLowCleared t b p v) s fun u =>
      u.axb.b[b].phase[p] = { s.axb.b[b].phase[p] with bootLow := false } ∧
      (∀ q, q ≠ p → u.axb.b[b].phase[q] = s.axb.b[b].phase[q]) ∧
      ∀ k, k ≠ b → u.axb.b[k] = s.axb.b[k]) ∧
    (After (.bootUvloRecovered t b p) s fun u =>
      u.axb.b[b].phase[p] = { s.axb.b[b].phase[p] with uvlo := false } ∧
      (∀ q, q ≠ p → u.axb.b[b].phase[q] = s.axb.b[b].phase[q]) ∧
      ∀ k, k ≠ b → u.axb.b[k] = s.axb.b[k])) ∧
  (∀ (t : Tick) (b p : Fin 3) (v : Nat) (s : State), Quiet s t → v < axbBootLowThr s b →
    s.axb.b[b].phase[p].bootLow = false →
    After (.bootLowEntered t b p v) s fun u =>
      u.axb.b[b].phase[p] = { s.axb.b[b].phase[p] with bootLow := true } ∧
      u.tal[73] = s.tal[73] + 1 ∧ (∀ q, q ≠ p → u.axb.b[b].phase[q] = s.axb.b[b].phase[q]) ∧
      ∀ k, k ≠ b → u.axb.b[k] = s.axb.b[k]) ∧
  (∀ (t : Tick) (b p : Fin 3) (s : State), OnTime s t → s.axb.b[b].phase[p].uvlo = false →
    s.axb.b[b].phase[p].gh = true →
    After (.bootUvlo t b p) s fun u =>
      u.axb.b[b].phase[p].uvlo = true ∧ u.axb.b[b].phase[p].hold = true ∧
      u.axb.b[b].phase[p].gh = false ∧ u.axb.b[b].phase[p].bootLow = true ∧
      u.axb.b[b].phase[p].gl = s.axb.b[b].phase[p].gl ∧ u.tal[72] = s.tal[72] + 1 ∧
      ∀ q, q ≠ p → u.axb.b[b].phase[q] = s.axb.b[b].phase[q]) ∧
  (∀ (t : Tick) (b : Fin 3) (v : Nat) (s : State), OnTime s t → axbCtlEn s b = true →
    (s.axb.b[b].vsBad = false → v < axbVsVsMin s b ∨ axbVsVsMax s b < v →
      After (.vsBad t b v) s fun u =>
        u.axb.b[b] = { s.axb.b[b] with vsBad := true } ∧
        u.rng.net = s.rng.net ++ [⟨t + 40, bAXB, 0xC0 + b, 9, 0, 0⟩]) ∧
    (s.axb.b[b].vsBad = true → axbVsVsMin s b ≤ v → v ≤ axbVsVsMax s b →
      After (.vsGood t b v) s fun u =>
        u.axb.b[b] = { s.axb.b[b] with vsBad := false } ∧ u.rng.net = s.rng.net)) ∧
  (∀ (t : Tick) (v : Nat) (s : State), OnTime s t →
    (s.axb.vdrvLow = false → After (.vdrvLow t v) s fun u =>
      u.axb = { s.axb with vdrvLow := true } ∧
      u.rng.net = s.rng.net ++ [⟨t + 40, bAXB, 0xFF, 11, 0, 0⟩]) ∧
    (s.axb.vdrvLow = true → After (.vdrvGood t v) s fun u =>
      u.axb = { s.axb with vdrvLow := false } ∧ u.rng.net = s.rng.net))

/-- The sequencer of six-step operation: PRECHARGE to ALIGN to RAMP, forced steps while it ramps,
COAST when the ramp ends or synchronism is lost, a further start or STALLED after it, RUN with its
scheduled step changes, and the crossings that set them, each found by FILT counted samples in a row and
stamped 80 tk before the first; a third crossing in a row that was there at the end of blanking loses
synchronism (R212, R214, R215, R217). The interval that a single crossing leaves at the entry to RUN is
the model's choice (log 64).
Rows that complete here, each with its own effect under conditions on the state and the operands alone:
PRECHARGE_ELAPSED, ALIGN_ELAPSED, RAMP_STEP, RAMP_TIMEOUT, LOSS_OF_SYNCHRONISM, COAST_ELAPSED, STEP_CHANGE,
ZERO_CROSSING. -/
def Obligations.BridgeSixStep : Prop :=
  (∀ (t : Tick) (b : Fin 3) (s : State), OnTime s t → s.axb.b[b].state = .precharge →
    s.axb.b[b].since + axbStartPrecharge s b * 16000 ≤ t →
    After (.prechargeElapsed t b) s fun u =>
      u.axb.b[b].state = .align ∧ u.axb.b[b].step = 0 ∧ u.axb.b[b].since = t ∧
      ∀ k, k ≠ b → u.axb.b[k] = s.axb.b[k]) ∧
  (∀ (t : Tick) (b : Fin 3) (s : State), OnTime s t → s.axb.b[b].state = .align →
    s.axb.b[b].since + axbStartAlignMs s b * 1600000 ≤ t →
    After (.alignElapsed t b) s fun u =>
      u.axb.b[b].state = .ramp ∧ u.axb.b[b].rampFrom = t ∧ u.axb.b[b].stepAt = t ∧
      u.axb.b[b].stepLen = 16000 * axbRampTStart s b ∧ u.axb.b[b].t60 = u.axb.b[b].stepLen ∧ u.axb.b[b].step = s.axb.b[b].nextOf ∧
      u.axb.b[b].zcRun = 0 ∧ ∀ k, k ≠ b → u.axb.b[k] = s.axb.b[k]) ∧
  (∀ (t : Tick) (b : Fin 3) (s : State), OnTime s t → s.axb.b[b].state = .ramp →
    s.axb.b[b].stepAt + s.axb.b[b].stepLen ≤ t → t < s.axb.b[b].rampFrom + rampTicks s b →
    After (.rampStep t b) s fun u =>
      u.axb.b[b].state = .ramp ∧ u.axb.b[b].step = s.axb.b[b].nextOf ∧
      u.axb.b[b].stepAt = s.axb.b[b].stepAt + s.axb.b[b].stepLen ∧
      u.axb.b[b].steps = s.axb.b[b].steps + (if s.axb.b[b].dir then -1 else 1) ∧
      u.axb.b[b].stepLen = rampLen s b
        (s.axb.b[b].stepAt + s.axb.b[b].stepLen - s.axb.b[b].rampFrom)) ∧
  (∀ (t : Tick) (b : Fin 3) (s : State), OnTime s t →
    (s.axb.b[b].state = .ramp → s.axb.b[b].rampFrom + rampTicks s b ≤ t →
      After (.rampTimeout t b) s fun u =>
        u.axb.b[b].state = .coast ∧ u.axb.b[b].since = t ∧ u.tal[75] = s.tal[75] + 1) ∧
    (s.axb.b[b].state = .run → s.axb.b[b].crossed = false →
      s.axb.b[b].stepAt + 2 * s.axb.b[b].t60 ≤ t →
      After (.lossOfSynchronism t b) s fun u =>
        u.axb.b[b].state = .coast ∧ u.axb.b[b].since = t ∧ u.tal[75] = s.tal[75] + 1)) ∧
  (∀ (t : Tick) (b : Fin 3) (s : State), OnTime s t → s.axb.b[b].state = .coast →
    s.axb.b[b].since + axbRamp2CoastMs s b * 1600000 ≤ t →
    After (.coastElapsed t b) s fun u =>
      if s.axb.b[b].restarts < axbCtlRestarts s b then
        u.axb.b[b].state = .precharge ∧ u.axb.b[b].restarts = s.axb.b[b].restarts + 1 ∧
          u.axb.b[b].dir = s.axb.b[b].reqDir
      else u.axb.b[b].state = .stalled ∧ u.tal[76] = s.tal[76] + 1) ∧
  (∀ (t x : Tick) (b : Fin 3) (s : State), OnTime s t → s.axb.b[b].state = .run →
    s.axb.b[b].nextStep = some x → x ≤ t →
    After (.stepChange t b) s fun u =>
      u.axb.b[b].state = .run ∧ u.axb.b[b].step = s.axb.b[b].nextOf ∧ u.axb.b[b].stepAt = x ∧
      u.axb.b[b].crossed = false ∧ u.axb.b[b].nextStep = none) ∧
  (∀ (t : Tick) (b : Fin 3) (x : Nat × Bool) (xs : List (Nat × Bool)) (s : State), Quiet s t →
    s.axb.b[b].state = .run → s.axb.b[b].crossed = false → s.axb.b[b].nextStep = none →
    s.axb.b[b].filtRun = 0 → (x :: xs).length = max (axbZcFilt s b) 1 →
    (∀ y ∈ x :: xs, counts s b y.1 = true ∧ y.2 = s.axb.b[b].expected) →
    s.axb.b[b].filtSeen = true ∨ s.axb.b[b].earlyRun < 2 →
    After (.zeroCrossing t b (x :: xs)) s fun u =>
      let stamp := if s.axb.b[b].filtSeen then x.1 - 80 else blankEnd s b
      u.axb.b[b] = { s.axb.b[b] with
        crossed := true, lastCross := stamp, t60 := stamp - s.axb.b[b].lastCross
        earlyRun := if s.axb.b[b].filtSeen then 0 else s.axb.b[b].earlyRun + 1
        filtRun := (x :: xs).length, filtAt := x.1
        nextStep := some (stamp +
          (stamp - s.axb.b[b].lastCross) * (120 - min (axbZcAdvance s b) 120) / 240) }) ∧
  (∀ (t : Tick) (b : Fin 3) (x : Nat × Bool) (xs : List (Nat × Bool)) (s : State), Quiet s t →
    s.axb.b[b].state = .ramp → s.axb.b[b].crossed = false → s.axb.b[b].nextStep = none →
    s.axb.b[b].filtRun = 0 → (x :: xs).length = max (axbZcFilt s b) 1 →
    (∀ y ∈ x :: xs, counts s b y.1 = true ∧ y.2 = s.axb.b[b].expected) →
    s.axb.b[b].stepAt ≤ x.1 - 80 → s.axb.b[b].stepLen ≤ 4 * (x.1 - 80 - s.axb.b[b].stepAt) →
    4 * (x.1 - 80 - s.axb.b[b].stepAt) < 3 * s.axb.b[b].stepLen →
    After (.zeroCrossing t b (x :: xs)) s fun u =>
      u.axb.b[b].crossed = true ∧ u.axb.b[b].zcRun = s.axb.b[b].zcRun + 1 ∧
      u.axb.b[b].lastCross = x.1 - 80 ∧ u.axb.b[b].step = s.axb.b[b].step ∧
      u.axb.b[b].state = (if max (axbRamp2ZcLock s b) 1 ≤ s.axb.b[b].zcRun + 1 then .run else .ramp)) ∧
  (∀ (t : Tick) (b : Fin 3) (x : Nat × Bool) (xs : List (Nat × Bool)) (s : State), Quiet s t →
    s.axb.b[b].state = .run → s.axb.b[b].crossed = false → s.axb.b[b].nextStep = none →
    s.axb.b[b].filtRun = 0 → (x :: xs).length = max (axbZcFilt s b) 1 →
    (∀ y ∈ x :: xs, counts s b y.1 = true ∧ y.2 = s.axb.b[b].expected) →
    s.axb.b[b].filtSeen = false → 2 ≤ s.axb.b[b].earlyRun →
    After (.zeroCrossing t b (x :: xs)) s fun u =>
      u.axb.b[b].state = .coast ∧ u.tal[75] = s.tal[75] + 1)

/-- Peak-current mode: a turn-on LEAD ahead of its place in a period, on either phase, issued where the
links have room and skipped where the comparator already reads above the peak; a trip after the blanking
time and TMAX turn the phase off, the earlier of the two, with MIN_ON counted (R222 to R226). SYNC_IN
edges within 10 % of PERIOD synchronise the periods, 2 × PERIOD without one lose it (R228); VREF slews to
the target once in 1,600 tk and SOFT_START ends there (R232); RETRY_WAIT ends 1 s after the stop (R230);
SYNC_OUT follows the periods and is low while the converter does not switch (R229).
Rows that complete here, each with its own effect under conditions on the state and the operands alone:
TURN_ON_ENTRY, PEAK_TRIP, TMAX_TURN_OFF, SYNC_IN_EDGE, SYNC_LOST, VREF_SLEW, RETRY_WAIT_EXPIRY,
SYNC_OUT_TRANSITION. -/
def Obligations.Converter : Prop :=
  (∀ (t x : Tick) (p : Fin 2) (cur : Word24) (s : State), OnTime s t → s.dcc.state.converting = true →
    s.dcc.enable.getLsbD p = true → s.dcc.since + leadOf s + 160 ≤ x →
    s.dcc.phase[p].lastOn ≠ some (t + leadOf s) →
    ((p = 0 ∧ x = t + leadOf s ∧ isDccStart s x = true) ∨
      (p = 1 ∧ s.gsc.g[(3 : Fin 4)].started = true ∧ x = s.gsc.g[(3 : Fin 4)].pstart ∧
        x + dccLength s x / 2 = t + leadOf s)) →
    (peakAt s s.dcc.ipk < cur.toInt → After (.turnOnEntry t p cur) s fun u =>
      u.dcc.phase[p] = { s.dcc.phase[p] with
        skipped := true, minOn := false, maxed := false, lastOn := some (t + leadOf s), ipk := s.dcc.ipk
        ton := none } ∧
      u.tal[81] = s.tal[81] + 1 ∧ u.glk = s.glk ∧ ∀ k, k ≠ p → u.dcc.phase[k] = s.dcc.phase[k]) ∧
    (cur.toInt ≤ peakAt s s.dcc.ipk → After (.turnOnEntry t p cur) s fun u =>
      u.dcc.phase[p] = { s.dcc.phase[p] with
        skipped := false, lastOn := some (t + leadOf s), ipk := s.dcc.ipk
        ton := if dccFits s p (t + leadOf s) 1 then some (t + leadOf s) else none
        period := dccLength s x } ∧
      (dccFits s p (t + leadOf s) 1 = true → ∀ l : Fin 24, l.1 = dccLeg s p →
        u.gsc.leg[l] = { s.gsc.leg[l] with tracked := 1, last := some (t + leadOf s) }) ∧
      ∀ k, k ≠ p → u.dcc.phase[k] = s.dcc.phase[k])) ∧
  (∀ (t ton : Tick) (p : Fin 2) (s : State), OnTime s t → s.dcc.phase[p].ton = some ton → 40 ≤ t →
    ton + 40 * dccTimingBlank s ≤ t - 40 →
    After (.peakTrip t p) s fun u =>
      let last := ton + tmaxTicks s s.dcc.phase[p].period
      let early := decide (t - 40 < ton + 40 * dccTimingBlank s + 40)
      u.dcc.phase[p].ton = none ∧ u.dcc.phase[p].lastOff = min last (t - 40 + leadOf s) ∧
      u.dcc.phase[p].maxed = decide (last < t - 40 + leadOf s) ∧
      u.dcc.phase[p].minOn = (early && !u.dcc.phase[p].maxed) ∧
      u.tal[80] = s.tal[80] + b2n u.dcc.phase[p].minOn ∧
      u.dcc.phase[p].thr = BitVec.ofInt 24 (thrAt s s.dcc.phase[p].ipk ((t - 40 - ton) / 40)) ∧
      u.dcc.state = s.dcc.state ∧
      ∀ k, k ≠ p → u.dcc.phase[k] = s.dcc.phase[k]) ∧
  (∀ (t ton : Tick) (p : Fin 2) (s : State), OnTime s t → s.dcc.phase[p].ton = some ton →
    ton + tmaxTicks s s.dcc.phase[p].period + 40 ≤ t + leadOf s →
    After (.tmaxTurnOff t p) s fun u =>
      u.dcc.phase[p].ton = none ∧ u.dcc.phase[p].maxed = true ∧ u.dcc.phase[p].minOn = false ∧
      u.dcc.phase[p].lastOff = ton + tmaxTicks s s.dcc.phase[p].period ∧ u.tal[80] = s.tal[80] ∧
      ∀ k, k ≠ p → u.dcc.phase[k] = s.dcc.phase[k]) ∧
  (∀ (t prev : Tick) (s : State), OnTime s t → dccCfgSyncEn s = true → s.dcc.edge = some prev →
    prev + 80 ≤ t → t < prev + 2 * periodOf s 3 →
    After (.syncInEdge t) s fun u =>
      let d := t - 80 - prev
      if 9 * periodOf s 3 ≤ 10 * d ∧ 10 * d ≤ 11 * periodOf s 3 then
        u.dcc.edge = some (t - 80) ∧ u.dcc.spacing = d ∧ u.dcc.edges = s.dcc.edges + 1 ∧
        u.dcc.starts = s.dcc.starts ++
          [t - 80 + clampN (dccSyncDelay s) (leadOf s + 160) (periodOf s 3)] ∧
        u.dcc.locked = (s.dcc.locked || s.dcc.edges == 3)
      else u.dcc = s.dcc) ∧
  (∀ (t e : Tick) (s : State), OnTime s t → dccCfgSyncEn s = true → s.dcc.edge = some e →
    e + 2 * periodOf s 3 ≤ t →
    After (.syncLost t) s fun u =>
      u.dcc = { s.dcc with edge := none, edges := 0, locked := false } ∧
      (s.dcc.locked = true ∨ 0 < s.dcc.edges → u.tal[82] = s.tal[82] + 1)) ∧
  (∀ (t : Tick) (s : State), OnTime s t → t % 1600 = 0 → s.dcc.state.converting = true →
    s.dcc.slewAt ≠ some t →
    After (.vrefSlew t) s fun u =>
      (u.dcc.vref : Int) = rampTo s.dcc.vref (1000 * s.dcc.target : Nat) (slewRate s) ∧
      u.dcc.state = (if u.dcc.vref = 1000 * s.dcc.target then .run else s.dcc.state) ∧
      u.dcc = { s.dcc with vref := u.dcc.vref, state := u.dcc.state, slewAt := some t }) ∧
  (∀ (t : Tick) (s : State), OnTime s t → s.dcc.state = .retryWait →
    s.dcc.stopAt + 1600000000 ≤ t →
    After (.retryWaitExpiry t) s fun u =>
      u.dcc.state = .softStart ∧ u.dcc.attempt = s.dcc.attempt + 1 ∧ u.dcc.since = t ∧
      u.dcc.target = s.dcc.target ∧ (u.dcc.vref : Int) = max (voutUv s) 0) ∧
  (∀ (t : Tick) (v : Bool) (s : State), OnTime s t →
    let p := dccLength s s.gsc.g[(3 : Fin 4)].pstart
    let d := ((t : Int) - s.gsc.g[(3 : Fin 4)].pstart - (40 * dccSyncOutShift s : Nat)) % (p : Int)
    (if v then s.dcc.state.converting = true ∧ d < 40
      else s.dcc.state.converting = true → ((p / 2 : Nat) : Int) ≤ d ∧ d < ((p / 2 + 40 : Nat) : Int)) →
    After (.syncOutTransition t v) s fun u => u.dcc = { s.dcc with syncOut := v }) ∧
  (∀ (t : Tick) (s : State), OnTime s t → dccCfgSyncEn s = true →
    (∀ e ∈ s.dcc.edge, e + 2 * periodOf s 3 ≤ t) →
    After (.syncInEdge t) s fun u =>
      u.dcc.edge = some (t - 80) ∧ u.dcc.edges = 0 ∧ u.dcc.starts = s.dcc.starts ∧
      (s.dcc.edge.isSome = true → u.dcc.locked = false ∧
        (s.dcc.locked = true ∨ 0 < s.dcc.edges → u.tal[82] = s.tal[82] + 1)))

/-- The inlet: a pilot cycle counts toward the state its levels show, the third in a row is accepted
while a cable is seen, 100 ms long for state E (R241); twenty measurements in a row give the cable code,
and without a cable the pilot state is A (R244); an accepted state ends a session or counts in hand-over
as R251 and R255 say; IIN_LIM is the least of station, cable and limit (R243, R245); 2 s in state B
qualify (R246); OBC writes its input block (R247); a temperature older than 1 s puts the band to 5
(R250).
Rows that complete here, each with its own effect under conditions on the state and the operands alone:
PILOT_CYCLE, PP_MEASUREMENT, IIN_LIMIT_UPDATE, QUALIFIED, OBC_INPUT_WRITE, TEMP_STALE. -/
def Obligations.ChargerInlet : Prop :=
  (∀ (t : Tick) (vh vl : Int) (period duty : Nat) (s : State), OnTime s t → s.chg.cable = 0 →
    After (.pilotCycle t vh vl period duty) s fun u =>
      u.chg.vh = vh ∧ u.chg.vl = vl ∧ u.chg.duty = duty ∧ u.chg.cand = pilotOf vh vl period ∧
      u.chg.candRun = (if s.chg.cand = pilotOf vh vl period then s.chg.candRun + 1 else 1) ∧
      u.chg.pilot = s.chg.pilot ∧ u.chg.state = s.chg.state) ∧
  (∀ (t : Tick) (vh vl : Int) (period duty : Nat) (s : State), OnTime s t → s.chg.cable ≠ 0 →
    s.chg.cand = pilotOf vh vl period → 2 ≤ s.chg.candRun → s.chg.pilot ≠ pilotOf vh vl period →
    (pilotOf vh vl period = 4 → s.chg.candAt + 160000000 ≤ t) →
    After (.pilotCycle t vh vl period duty) s fun u =>
      let new := pilotOf vh vl period
      u.chg.pilot = new ∧ u.chg.bAt = (if new = 1 then t else s.chg.bAt) ∧
      u.chg.pwm = pwmOf vl period ∧ u.tal[85] = s.tal[85] + 1 ∧
      (s.chg.state = .handover → u.chg.ignored = min (s.chg.ignored + 1) 255 ∧
        u.tal[87] = s.tal[87] + 1 ∧ u.chg.state = .handover) ∧
      (s.chg.state ≠ .handover → new = 0 → u.chg.state = .handover ∧ u.chg.exitPending = true) ∧
      (s.chg.state.session = true → 3 ≤ new → u.chg.state = .handover ∧ u.chg.term = 5 ∧
        u.tal[86] = s.tal[86] + 1)) ∧
  (∀ (t : Tick) (ohms : Nat) (s : State), OnTime s t → s.chg.ccand = cableOf ohms →
    19 ≤ s.chg.ccandRun → s.chg.cable ≠ cableOf ohms →
    After (.ppMeasurement t ohms) s fun u =>
      u.chg.cable = cableOf ohms ∧ u.chg.cableAt = t ∧ u.chg.ohms = min ohms 65535 ∧
      (s.chg.cable ≠ 0 → cableOf ohms ≠ 0 → u.tal[85] = s.tal[85] + 1 ∧ u.chg.pilot = s.chg.pilot) ∧
      (cableOf ohms = 0 → u.chg.pilot = 0)) ∧
  (∀ (t : Tick) (s : State), OnTime s t → t % 1600000 = 0 →
    After (.iinLimitUpdate t) s fun u =>
      u.obc = { s.obc with
        iinLim := min (min (pilotAmps s) (cableAmps s.chg.cable)) (obcCfgIinMax s) }) ∧
  (∀ (t : Tick) (s : State), OnTime s t → s.chg.pilot = 1 → goodCable s.chg.cable = true →
    s.chg.state ≠ .handover →
    max (max s.chg.bAt s.chg.cableAt) s.chg.handAt + 3200000000 ≤ t →
    After (.qualified t) s fun u => u.chg = { s.chg with qualified := true }) ∧
  (∀ (t : Tick) (s : State), OnTime s t → t % 1600000 = 0 ∨ s.obc.dirty = true →
    After (.obcInputWrite t) s fun u =>
      u.obc.dirty = false ∧ u.obc.iset = s.obc.iset ∧
      Wrote s.ce[(4 : Fin 8)] u.ce[(4 : Fin 8)] (obcMapInWord s) (obcBlock s) ∧
      (mirrored s 4 = false → ∀ e : Fin 8, e ≠ 4 → u.ce[e] = s.ce[e])) ∧
  (∀ (t : Tick) (s : State), Quiet s t → tempFresh (s.at t) = false →
    After (.tempStale t) s fun u => u.chg = { s.chg with band := 5 })

/-- The changes of the charge supervisor at an evaluation, at its deadlines and in hand-over (R251,
R252, R254, R256).
Rows that complete here, each with its own effect under conditions on the state and the operands alone:
SUPERVISOR_EVALUATION, SAFETY_TIMER_EXPIRY, WAIT_TIMEOUT, PRECOND_TIMEOUT, NO_SUPPLY, TOPOFF_ELAPSED,
TERMINATION_CURRENT_HOLD, CV_ENTRY, RECHARGE, RAMP_END, HANDOVER_DONE. -/
def Obligations.ChargerStates : Prop :=
  (∀ (t : Tick) (next : SState) (s : State), OnTime s t → t % 1600000 = 0 → s.chg.pilot ≠ 0 →
    inletBad s = false →
    ((s.chg.state = .wait ∧ supplied s = true ∧ goodBand (bandNow (s.at t)) = true ∧ next = .cc) ∨
      (s.chg.state = .wait ∧ supplied s = true ∧ goodBand (bandNow (s.at t)) = false ∧
        chgCfgPrecondEn s = true ∧ next = .precond) ∨
      (s.chg.state = .precond ∧ goodBand (bandNow (s.at t)) = true ∧ next = .cc)) →
    After (.supervisorEvaluation t) s fun u =>
      u.chg.state = next ∧ u.chg.since = t ∧ u.chg.s2 = true ∧ u.obc.run = true ∧
      u.chg.elapsed = (if next = .cc then 0 else s.chg.elapsed) ∧ u.chg.band = bandNow (s.at t)) ∧
  (∀ (t : Tick) (s : State), OnTime s t → t % 1600000 = 0 → s.chg.pilot ≠ 0 → inletBad s = false →
    s.chg.state.charging = true →
    After (.supervisorEvaluation t) s fun u =>
      u.chg.state = s.chg.state ∧ u.chg.elapsed = s.chg.elapsed + u.chg.lastAdd ∧
      u.chg.lastAdd = (if s.obc.iset = 0 then 0
        else if s.chg.band = 1 ∨ s.chg.band = 3 ∨ s.obc.limiter = 3 then 1 else 2) ∧
      u.chg.band = bandNow (s.at t)) ∧
  (∀ (t : Tick) (s : State), OnTime s t →
    let ended := fun (term : Nat) (u : State) =>
      u.chg.state = .handover ∧ u.chg.term = term ∧ u.chg.start = t ∧
      u.chg.step = (if chargerOff s then 3 else 1) ∧ u.obc.rampDown = !chargerOff s ∧
      u.tal[88] = s.tal[88] + 1 ∧ u.tal[89] = s.tal[89] + 1
    (s.chg.state.charging = true → chgTimerLimitMin s ≠ 0 →
      chgTimerLimitMin s * 120000 ≤ s.chg.elapsed → After (.safetyTimerExpiry t) s (ended 2)) ∧
    (s.chg.state = .wait → 0 < chgCfgWaitS s → s.chg.since + chgCfgWaitS s * 1600000000 ≤ t →
      After (.waitTimeout t) s (ended 8)) ∧
    (s.chg.state = .precond → 0 < chgTimerPrecondMin s →
      s.chg.since + chgTimerPrecondMin s * 96000000000 ≤ t →
      After (.precondTimeout t) s (ended 7)) ∧
    (s.chg.state = .cc ∨ s.chg.state = .precond →
      (s.chg.busSeen = false ∧ s.chg.s2At + obcGridSupplyWait s * 1600000000 ≤ t) ∨
        (∃ x ∈ s.chg.busLostAt, x + 1600000000 ≤ t) → After (.noSupply t) s (ended 9)) ∧
    (s.chg.state = .topoff → s.chg.since + chgTermTopoffMin s * 96000000000 ≤ t →
      After (.topoffElapsed t) s (ended 1)) ∧
    (∀ x ∈ s.chg.lowCurrent, s.chg.state = .cv → x + chgTermTermS s * 1600000000 ≤ t →
      chgTermTopoffMin s = 0 → After (.terminationCurrentHold t) s (ended 1))) ∧
  (∀ (t x : Tick) (s : State), OnTime s t → s.chg.state = .cc → s.chg.limSince = some x →
    max x s.chg.since + 1600000000 ≤ t →
    After (.cvEntry t) s fun u =>
      u.chg.state = .cv ∧ u.chg.since = t ∧ u.chg.elapsed = s.chg.elapsed) ∧
  (∀ (t x : Tick) (s : State), OnTime s t → s.chg.state = .cv → s.chg.lowCurrent = some x →
    x + chgTermTermS s * 1600000000 ≤ t → 0 < chgTermTopoffMin s →
    After (.terminationCurrentHold t) s fun u => u.chg.state = .topoff ∧ u.chg.since = t) ∧
  (∀ (t x : Tick) (s : State), OnTime s t → s.chg.state = .maintain → s.chg.lowVoltage = some x →
    supplied s = true → goodBand s.chg.band = true → x + 16000000000 ≤ t →
    After (.recharge t) s fun u =>
      u.chg.state = .cc ∧ u.chg.since = t ∧ u.chg.elapsed = 0 ∧ u.tal[90] = s.tal[90] + 1) ∧
  (∀ (t : Tick) (s : State), OnTime s t → s.chg.state = .handover → s.chg.step = 1 →
    (s.obc.iset = 0 ∧ currentGone s = true) ∨ s.chg.start + 160000000 ≤ t ∨ chargerOff s = true →
    After (.rampEnd t) s fun u =>
      u.chg.step = 3 ∧ u.chg.h3At = t ∧ u.chg.s2 = false ∧ u.obc.run = false ∧ u.obc.iset = 0) ∧
  (∀ (t : Tick) (s : State), OnTime s t → s.chg.state = .handover → s.chg.step = 3 →
    10 ≤ s.chg.offRun ∨ s.chg.h3At + 144000000 ≤ t →
    After (.handoverDone t) s fun u =>
      u.chg.state = (if s.chg.term = 1 then .maintain else .idle) ∧ u.chg.step = 0 ∧
      u.chg.handAt = t ∧ u.chg.dropped = decide (10 ≤ s.chg.offRun) ∧
      u.chg.duration = min ((t - s.chg.start) / 1600000) 255 ∧ u.chg.exitPending = false ∧
      u.pba.mode = (if (s.chg.exitPending = true ∨ s.chg.pilot = 0) ∧ s.pba.mode = .charge then .standby
        else s.pba.mode)) ∧
  (∀ (t : Tick) (s : State), OnTime s t → t % 1600000 = 0 → s.chg.state.session = true →
    s.chg.pilot = 0 ∨ inletBad s = true →
    After (.supervisorEvaluation t) s fun u =>
      u.chg.state = .handover ∧ u.chg.exitPending = (s.chg.exitPending || s.chg.pilot == 0) ∧
      u.chg.term = (if s.chg.pilot = 0 then 4 else 5) ∧
      u.tal[86] = s.tal[86] + (if s.chg.pilot = 0 then 0 else 1))

/-- A good Blaze frame takes its stamp and SEQ, lets a waiting entry run and is delivered by its KIND; one
that fails a test fails a running entry, or lets it wait again with AUTO, and is reported, a waiting entry
stays (R290, R292, R294); a duplicate and a frame that no entry takes are counted alone; an entry silent
until its close tick and 1 ms more fails, a running one with AUTO waits again (R293). A transmit entry sends
its oldest payload with the next SEQ over CAN or the fabric (R287, R291), a heartbeat without payload after
HEART, and the end of a deliberate reset lets a FAILED entry wait again (R294).
Rows that complete here, each with its own effect under conditions on the state and the operands alone:
BLAZE_FRAME, SILENCE_TEST, BLAZE_TRANSMIT, HEARTBEAT, RESTART. -/
def Obligations.Blaze : Prop :=
  (∀ (t : Tick) (i : Fin 64) (f : BlzFrame) (fs : List BlzFrame) (s : State), OnTime s t →
    s.rng.powered = true → s.blz.rx = f :: fs → (all64.find? fun k => connTakes s f k) = some i →
    s.blz.conn[i].state = .waiting ∨ s.blz.conn[i].state = .running → blazeTest s f i = some 0 →
    After (.blazeFrame t) s fun u =>
      u.blz.rx = fs ∧ u.tal[100] = s.tal[100] + 1 ∧ u.blz.conn[i] = { s.blz.conn[i] with
        state := .running, seq := f.seq, got := true, p := f.stamp } ∧
      (∀ k, k ≠ i → u.blz.conn[k] = s.blz.conn[k]) ∧
      (s.blz.conn[i].got = true → (s.blz.conn[i].seq + 1) % 65536 = f.seq → u.tal[104] = s.tal[104]) ∧
      (∀ p : Fin 4, blzCoptKind s i = 1 → redAxpeerEn s p = true → redAxpeerRx s p = i.val →
        (∀ q : Fin 4, q < p → redAxpeerEn s q = true → redAxpeerRx s q ≠ i.val) →
        u.red.inbox = s.red.inbox ++ [(p, f.stamp, f.payload)]) ∧
      (blzCoptKind s i ≠ 1 → u.red.inbox = s.red.inbox)) ∧
  (∀ (t : Tick) (i : Fin 64) (f : BlzFrame) (fs : List BlzFrame) (ev : Nat) (s : State), OnTime s t →
    s.rng.powered = true → s.blz.rx = f :: fs → (all64.find? fun k => connTakes s f k) = some i →
    s.blz.conn[i].state = .waiting ∨ s.blz.conn[i].state = .running → blazeTest s f i = some ev → ev ≠ 0 →
    After (.blazeFrame t) s fun u =>
      u.blz.conn[i] = { s.blz.conn[i] with
        state := if s.blz.conn[i].state = .running ∧ blzCoptAuto s i = false then .failed else .waiting
        since := if s.blz.conn[i].state = .running ∧ blzCoptAuto s i = true then t
          else s.blz.conn[i].since } ∧
      u.tal[103] = s.tal[103] + 1 ∧ u.tal[100] = s.tal[100] ∧ u.blz.rx = fs ∧
      u.rng.net = s.rng.net ++ [⟨t, bBLZ, 0xC0 + blzCoptRgrp s i, ev, 0, 0⟩] ∧
      ∀ k, k ≠ i → u.blz.conn[k] = s.blz.conn[k]) ∧
  (∀ (t : Tick) (f : BlzFrame) (fs : List BlzFrame) (s : State), Quiet s t → s.rng.powered = true →
    s.blz.rx = f :: fs →
    (∀ i, (all64.find? fun k => connTakes s f k) = some i →
      s.blz.conn[i].state = .failed ∨ s.blz.conn[i].state = .closed) →
    After (.blazeFrame t) s fun u =>
      u.blz = { s.blz with rx := fs } ∧ u.tal[101] = s.tal[101] + 1 ∧ u.rng = s.rng) ∧
  (∀ (t c : Tick) (i : Fin 64) (s : State), OnTime s t → t % 160000 = 0 → s.rng.powered = true →
    (∀ f ∈ s.blz.rx.head?, t ≤ f.stamp) → closeTick s i = some c → blzCdefEn s i = true →
    blzCdefDir s i = false → c + 1600000 ≤ t →
    After (.silenceTest t) s fun u =>
      u.blz.conn[i] = { s.blz.conn[i] with
        state := if s.blz.conn[i].state = .running ∧ blzCoptAuto s i = true then .waiting else .failed
        since := if s.blz.conn[i].state = .running ∧ blzCoptAuto s i = true then t
          else s.blz.conn[i].since } ∧ u.blz.rx = s.blz.rx) ∧
  (∀ (t : Tick) (i : Fin 64) (bs : List Byte) (q : List (List Byte)) (s : State), OnTime s t →
    s.blz.conn[i].txq = bs :: q → mayTransmit (s.at t) i = true →
    After (.blazeTransmit t i) s fun u =>
      u.blz.conn[i] = { s.blz.conn[i] with
        txq := q, got := true, lastTx := t, seq := (s.blz.conn[i].seq + 1) % 65536 } ∧
      u.tal[105] = s.tal[105] + 1 ∧ ∀ k, k ≠ i → u.blz.conn[k] = s.blz.conn[k]) ∧
  (∀ (t : Tick) (i : Fin 64) (s : State), OnTime s t → s.blz.conn[i].txq = [] →
    mayTransmit (s.at t) i = true → blzCtimeMax s i ≠ 0 →
    s.blz.conn[i].lastTx + blzCtimeMax s i * 160000 ≤ t →
    After (.heartbeat t i) s fun u =>
      u.blz.conn[i] = { s.blz.conn[i] with
        got := true, lastTx := t, seq := (s.blz.conn[i].seq + 1) % 65536 } ∧
      u.tal[105] = s.tal[105] + 1 ∧ ∀ k, k ≠ i → u.blz.conn[k] = s.blz.conn[k]) ∧
  (∀ (t : Tick) (i : Fin 64) (s : State), OnTime s t → s.blz.conn[i].state = .failed →
    After (.restart t i) s fun u =>
      u.blz.conn[i] = { s.blz.conn[i] with state := .waiting, since := t } ∧
      ∀ k, k ≠ i → u.blz.conn[k] = s.blz.conn[k]) ∧
  (∀ (t : Tick) (i : Fin 64) (f : BlzFrame) (fs : List BlzFrame) (s : State), Quiet s t →
    s.rng.powered = true → s.blz.rx = f :: fs → (all64.find? fun k => connTakes s f k) = some i →
    s.blz.conn[i].state = .running → blazeTest s f i = none →
    After (.blazeFrame t) s fun u =>
      u.blz = { s.blz with rx := fs } ∧ u.tal[102] = s.tal[102] + 1 ∧ u.rng = s.rng)

/-- A lockstep mismatch stops the pair and is reported (R298); the self-test counts its cycle, shows its
health bits and reports the comparators that did not detect (R307); a request moves a drive token to TARGET
on the holder's next set pass with a new epoch, or ends with the RESULT that says why not (R306); a role
swap asks for it or counts what it skips, and yields the axle tokens held in MODE 1 (R308).
Rows that complete here, each with its own effect under conditions on the state and the operands alone:
LOCKSTEP_MISMATCH, SELF_TEST_CYCLE, HAND_OVER_REQUEST, TOKEN_HANDED, ROLE_SWAP. -/
def Obligations.Redundancy : Prop :=
  (∀ (t : Tick) (k : Fin 6) (pc : Word32) (s : State), OnTime s t → s.red.pair[k].state = 0 →
    s.red.pair[k].released = true →
    After (.lockstepMismatch t k pc) s fun u =>
      u.red.pair[k] = { s.red.pair[k] with state := 2 } ∧ u.tal[106] = s.tal[106] + 1 ∧
      u.rng.net = s.rng.net ++ [⟨t + 40, bRED, 0x40 + 2 * k, 1, 0, 0⟩] ∧
      ∀ x, x ≠ k → u.red.pair[x] = s.red.pair[x]) ∧
  (∀ (t start : Tick) (d : BitVec 6) (s : State), OnTime s t → s.red.started = some start →
    start < t → (t - start) % 16000000 = 0 →
    After (.selfTestCycle t d) s fun u =>
      u.red.hcycle = (s.red.hcycle + 1) % 256 ∧
      (u.red.health.testBit 0 = true ↔ ∀ k : Fin 6, s.red.pair[k].state = 0 → bit d.toNat k = true) ∧
      (u.red.health.testBit 2 = true ↔ ∀ g : Fin 4, axGroup s g = true → ∀ l : Fin 12,
        linkGroup s l = some g → glkCfgEn s l = true → s.glk[l].state = .up) ∧
      (u.red.health.testBit 4 = true ↔ ∀ g : Fin 4, axGroup s g = true →
        s.red.tok[g].state = .held ∧ t < s.red.tok[g].leaseEnd) ∧
      u.rng.net.length = s.rng.net.length + ((List.finRange 6).filter fun k : Fin 6 =>
        s.red.pair[k].state = 0 && !bit d.toNat k).length ∧
      u.red.tok = s.red.tok ∧ u.red.pair = s.red.pair) ∧
  (∀ (t : Tick) (g : Fin 4) (e : Fin 8) (v : Word32) (s : State), OnTime s t →
    s.red.tok[g].state = .held → t < s.red.tok[g].leaseEnd →
    s.red.tok[g].holder ≠ some e → eligible s g e = true → v.toNat / 2 ^ 8 % 16 = e.val →
    v.getLsbD 15 = true → s.ce[e].state ≠ .stopped →
    (v.getLsbD 14 = true ∨ s.red.step[stepGroup g].inStep = true →
      After (.handOverRequest t g v) s fun u =>
        u.red.tok[g] = { s.red.tok[g] with
          target := e.val, result := 1, handing := some e, handAt := t } ∧
        ∀ k, k ≠ g → u.red.tok[k] = s.red.tok[k]) ∧
    (v.getLsbD 14 = false → s.red.step[stepGroup g].inStep = false →
      After (.handOverRequest t g v) s fun u =>
        u.red.tok[g] = { s.red.tok[g] with target := e.val, result := 3, handing := none } ∧
        ∀ k, k ≠ g → u.red.tok[k] = s.red.tok[k])) ∧
  (∀ (t : Tick) (g : Fin 4) (e h : Fin 8) (s : State), OnTime s t → s.red.tok[g].state = .held →
    t < s.red.tok[g].leaseEnd → s.red.tok[g].handing = some e → s.red.tok[g].holder = some h →
    s.ce[h].state = .running → s.ce[h].trig.toNat % 65536 ≠ 0 → s.red.tok[g].handAt ≤ s.ce[h].pstart →
    s.ce[h].pstart ≤ t →
    After (.tokenHanded t g) s fun u =>
      u.red.tok[g].holder = some e ∧ u.red.tok[g].former = some h ∧ u.red.tok[g].state = .held ∧
      u.red.tok[g].epoch = s.red.tok[g].epoch + 1 ∧ u.red.tok[g].handing = none ∧
      u.red.tok[g].result = 0 ∧ u.red.tok[g].fresh = true ∧
      u.red.tok[g].leaseEnd = s.ce[h].pstart + loopOf s g + 32000 ∧
      ∀ k, k ≠ g → u.red.tok[k] = s.red.tok[k]) ∧
  (∀ (t start : Tick) (n : Nat) (s : State), OnTime s t → s.red.started = some start → start < t →
    redSwapPeriodS s = n → 1 ≤ n → n ≤ 3600 → redAxcfgMode s ≤ 1 → (t - start) % (n * 1600000000) = 0 →
    After (.roleSwap t) s fun u =>
      (∀ (g : Fin 4) (e : Fin 8), s.red.tok[g].state = .held → t < s.red.tok[g].leaseEnd →
        stepPartner s (stepGroup g) = some e → s.red.step[stepGroup g].inStep = true →
        s.ce[e].state ≠ .stopped →
        u.red.tok[g] = { s.red.tok[g] with result := 1, handing := some e, handAt := t }) ∧
      ((∀ g : Fin 4, s.red.step[stepGroup g].inStep = false) → u.tal[110] = s.tal[110] + 4) ∧
      (redAxcfgMode s = 0 → u.red.ax = s.red.ax) ∧
      (redAxcfgMode s = 1 → (∃ p : Fin 4, peerOk (s.at t) p = true) → ∀ g : Fin 4,
        u.red.ax[g] = if axGroup s g = true ∧ s.red.ax[g].state = 3 then
          { s.red.ax[g] with state := 4, yieldAt := t } else s.red.ax[g])) ∧
  (∀ (t : Tick) (g : Fin 4) (v : Word32) (s : State), OnTime s t →
    (v.getLsbD 15 = false → After (.handOverRequest t g v) s fun u =>
      u.red.tok[g] = { s.red.tok[g] with target := v.toNat / 2 ^ 8 % 16 } ∧ u.tal = s.tal) ∧
    (v.getLsbD 15 = true → s.red.tok[g].state ≠ .held ∨ 8 ≤ v.toNat / 2 ^ 8 % 16 →
      leaseOver s.red.tok[g] t = false →
      After (.handOverRequest t g v) s fun u =>
        u.red.tok[g] = { s.red.tok[g] with
          target := v.toNat / 2 ^ 8 % 16, result := 2, handing := none }))

/-- Axle tokens: the 500 µs tick gives up a group the device cannot drive and sends STATE to each peer; the
frame of a peer is taken, moves the epochs on and ends a hold at a smaller epoch, and a yield to this node
is claimed; a free group is claimed after its rank's wait with an epoch of its residue, a yield without an
answer is taken back after 4 ms, and a peer that stops is unhealthy (R309 to R312).
Rows that complete here, each with its own effect under conditions on the state and the operands alone:
AXLE_STATE_TICK, AXLE_TOKEN_FRAME, AXLE_CLAIM, YIELD_TIMEOUT, PEER_UNHEALTHY. -/
def Obligations.AxleTokens : Prop :=
  (∀ (t : Tick) (s : State), OnTime s t → t % 800000 = 0 → redAxcfgMode s ≠ 0 →
    s.red.started.isSome = true →
    After (.axleStateTick t) s fun u =>
      (∀ g : Fin 4, u.red.ax[g] =
        if axGroup s g = true ∧ axHeld s g = true ∧ s.red.health / 8 % 4 ≠ 3 then
          { s.red.ax[g] with state := 1, holderNode := 0 } else s.red.ax[g]) ∧
      (∀ p : Fin 4, redAxpeerEn s p = true →
        ∀ j : Fin 64, j.val = redAxpeerTx s p % 64 → blzCdefEn s j = true → blzCdefDir s j = true →
          let bs := u.blz.conn[j].txq.getLast?.getD []
          bs.length = 40 ∧ byteAt bs 0 = 1 ∧ leAt bs 2 2 = s.red.health % 65536 ∧ byteAt bs 4 = s.red.hcycle % 256) ∧
      u.red.peer = s.red.peer) ∧
  (∀ (t stamp : Tick) (p : Fin 4) (body : List Byte) (q : List (Fin 4 × Nat × List Byte)) (s : State),
    OnTime s t → s.red.inbox = (p, stamp, body) :: q → body.length = 40 → redAxcfgMode s ≠ 0 →
    byteAt body 0 = 1 ∨ byteAt body 0 = 2 →
    After (.axleTokenFrame t) s fun u =>
      u.red.inbox = q ∧ u.red.peer[p].health = leAt body 2 2 ∧ u.red.peer[p].node = byteAt body 1 ∧
      u.red.peer[p].hcycle = byteAt body 4 ∧
      (byteAt body 0 = 1 → u.red.peer[p].at1 = stamp ∧ u.red.peer[p].at2 = s.red.peer[p].at1) ∧
      (∀ k, k ≠ p → u.red.peer[k] = s.red.peer[k]) ∧
      ∀ g : Fin 4,
        let ep := BitVec.ofNat 32 (leAt body (8 + 8 * g) 4)
        (axGroup s g = false → u.red.ax[g] = s.red.ax[g]) ∧
        (axGroup s g = true → byteAt body 0 = 1 → bit (byteAt body (12 + 8 * g)) 0 = true →
          epochAfter ep s.red.ax[g].aepoch = true →
          u.red.ax[g].state = 1 ∧ u.red.ax[g].aepoch = ep ∧ u.red.ax[g].holderNode = byteAt body 1) ∧
        (axGroup s g = true → byteAt body 0 = 1 → bit (byteAt body (12 + 8 * g)) 0 = false ∨
          epochAfter ep s.red.ax[g].aepoch = false →
          u.red.ax[g].state = s.red.ax[g].state ∧ u.red.ax[g].aepoch = s.red.ax[g].aepoch) ∧
        (axGroup s g = true → byteAt body 0 = 2 → u.red.ax[g].state =
          if byteAt body 6 = s.skd.node ∧ bit (byteAt body 5) g = true ∧ s.red.ax[g].state = 1 ∧
            s.red.health = 0x1F then 3 else s.red.ax[g].state)) ∧
  (∀ (t : Tick) (g : Fin 4) (s : State), OnTime s t → redAxcfgMode s ≠ 0 → axGroup s g = true →
    s.red.ax[g].state = 1 → s.red.health = 0x1F →
    freeFrom s g + redAxcfgRank s * 6400000 ≤ t →
    After (.axleClaim t g) s fun u =>
      u.red.ax[g].state = 3 ∧ u.red.ax[g].aepoch = claimEpoch s g ∧
      u.red.ax[g].holderNode = s.skd.node ∧ u.tal[111] = s.tal[111] + 1 ∧
      ∀ k, k ≠ g → u.red.ax[k] = s.red.ax[k]) ∧
  (∀ (t : Tick) (g : Fin 4) (s : State), OnTime s t → s.red.ax[g].state = 4 →
    s.red.ax[g].yieldAt + 6400000 ≤ t →
    After (.yieldTimeout t g) s fun u =>
      u.red.ax[g] = { s.red.ax[g] with state := 3 } ∧ u.tal[110] = s.tal[110] + 1 ∧
      ∀ k, k ≠ g → u.red.ax[k] = s.red.ax[k]) ∧
  (∀ (t : Tick) (p : Fin 4) (s : State), OnTime s t → s.red.peer[p].healthy = true →
    redAxpeerEn s p = false ∨ s.red.peer[p].health ≠ 0x1F ∨ s.red.peer[p].hcycleAt + 48000000 ≤ t ∨
      (∀ j : Fin 64, j.val = redAxpeerRx s p % 64 → s.blz.conn[j].state ≠ .running) →
    After (.peerUnhealthy t p) s fun u =>
      u.red.peer[p] = { s.red.peer[p] with healthy := false } ∧ u.red.ax = s.red.ax ∧
      ∀ k, k ≠ p → u.red.peer[k] = s.red.peer[k])

/-- A skid port: alignment brings CREDIT and a CREDIT frame, the neighbour's CREDIT brings UP (R316),
freed units are told in a CREDIT frame (R336), silence and 3 ms without CRUISE bring it back to ALIGN
with its queues emptied (R316); a CRUISE frame is kept (R321) and one leaves every UP port each
millisecond (R320).
Rows that complete here, each with its own effect under conditions on the state and the operands alone:
PORT_ALIGNED, CREDIT, CREDIT_UPDATE, PORT_SILENCE, CRUISE_TIMEOUT, CRUISE, CRUISE_TICK. -/
def Obligations.FabricPorts : Prop :=
  (∀ (t : Tick) (p : Fin 8) (s : State), OnTime s t → domOn s 6 = true →
    s.skd.port[p].state = .align →
    After (.portAligned t p) s fun u =>
      u.skd.port[p] = { s.skd.port[p] with
        state := .credit, creditAt := t
        link := s.skd.port[p].link ++
          [⟨buildFrame 255 s.skd.node 0 0 10 0 (leBytes 6 0), 0, 10, t, none, 0⟩] } ∧
      ∀ q, q ≠ p → u.skd.port[q] = s.skd.port[q]) ∧
  (∀ (t : Tick) (p : Fin 8) (bs : List Byte) (s : State), OnTime s t → domOn s 6 = true →
    frameGood bs = true → frKind bs = 10 →
    s.skd.port[p].state = .credit ∨ s.skd.port[p].state = .up →
    After (.credit t p bs) s fun u =>
      u.skd.port[p].state = .up ∧ u.skd.port[p].theirs =
        #v[leAt (frPayload bs) 0 2, leAt (frPayload bs) 2 2, leAt (frPayload bs) 4 2] ∧
      (s.skd.port[p].state = .credit → u.skd.port[p].infoAt = t ∧ u.skd.port[p].advertAt = t ∧
        u.skd.port[p].link.length = s.skd.port[p].link.length + 1) ∧
      (s.skd.port[p].state = .up → u.skd.port[p] = { s.skd.port[p] with
        theirs := u.skd.port[p].theirs }) ∧
      ∀ q, q ≠ p → u.skd.port[q] = s.skd.port[q]) ∧
  (∀ (t : Tick) (p : Fin 8) (s : State), OnTime s t →
    s.skd.port[p].state = .up ∨ s.skd.port[p].state = .credit →
    8 ≤ s.skd.port[p].untold ∨ s.skd.port[p].creditAt + 16000 ≤ t →
    After (.creditUpdate t p) s fun u =>
      u.skd.port[p] = { s.skd.port[p] with
        untold := 0, creditAt := t
        link := s.skd.port[p].link ++ [⟨buildFrame 255 s.skd.node 0 0 10 0
          (leBytes 2 s.skd.port[p].freed[(0 : Fin 3)] ++ leBytes 2 s.skd.port[p].freed[(1 : Fin 3)] ++
            leBytes 2 s.skd.port[p].freed[(2 : Fin 3)]), 0, 10, t, none, 0⟩] } ∧
      ∀ q, q ≠ p → u.skd.port[q] = s.skd.port[q]) ∧
  (∀ (t : Tick) (p : Fin 8) (c : Fin 3) (s : State), OnTime s t →
    s.skd.port[p].state = .up ∨ s.skd.port[p].state = .credit →
    After (.portSilence t p c) s fun u =>
      u.skd.port[p].state = .align ∧ u.skd.port[p].link = [] ∧ u.skd.port[p].out = [] ∧
      u.tal[124] = s.tal[124] + (if s.skd.port[p].state = .up then 1 else 0) ∧
      u.tal[123] = s.tal[123] + s.skd.port[p].link.length + s.skd.port[p].out.length ∧ u.skd.offers = s.skd.offers.filter (fun o => o.1 % 8 ≠ p.val) ∧
      ∀ q : Fin 8, q ≠ p → u.skd.port[q].state = s.skd.port[q].state ∧
        u.skd.port[q].link = s.skd.port[q].link) ∧
  (∀ (t : Tick) (p : Fin 8) (s : State), OnTime s t → s.skd.port[p].state = .up →
    s.skd.port[p].infoAt + 4800000 ≤ t →
    After (.cruiseTimeout t p) s fun u =>
      u.skd.port[p].state = .align ∧ u.skd.port[p].link = [] ∧ u.skd.port[p].out = [] ∧
      u.tal[124] = s.tal[124] + 1 ∧ u.skd.offers = s.skd.offers.filter (fun o => o.1 % 8 ≠ p.val)) ∧
  (∀ (t : Tick) (p : Fin 8) (bs : List Byte) (s : State), OnTime s t → domOn s 6 = true →
    frameGood bs = true → frKind bs = 1 → s.skd.port[p].state = .up →
    After (.cruise t p bs) s fun u =>
      u.skd.port[p].info = some (cruiseOf (frPayload bs)) ∧ u.skd.port[p].infoAt = t ∧
      u.skd.port[p].state = .up ∧ u.skd.view = bestView u ∧ u.skd.coordFar = viewFar u ∧
      ∀ q, q ≠ p → u.skd.port[q] = s.skd.port[q]) ∧
  (∀ (t : Tick) (s : State), OnTime s t → domOn s 6 = true → t % 1600000 = 0 →
    After (.cruiseTick t) s fun u => u.skd.view = bestView (s.at t) ∧
      u.skd.cseq = (if ownView u = true then (s.skd.cseq + 1) % 65536 else s.skd.cseq) ∧ ∀ p : Fin 8,
      u.skd.port[p].link.length =
        s.skd.port[p].link.length + (if s.skd.port[p].state = .up then 1 else 0) ∧
      u.skd.port[p].out = s.skd.port[p].out ∧ u.skd.port[p].state = s.skd.port[p].state)

/-- Numbers: a view stable for 3 ms makes the device the coordinator, asks one for a number or confirms the
one held (R322); the coordinator grants the number a die holds or asks for, lets a lower die take one over,
keeps a request for a held number and refuses one when no number is free; an ASSIGN for the own die is
taken, a refusal and a conflict end the number; requests are repeated after 20 ms, and 1 s after a refusal;
a holder unreachable for HOLD_MS loses its number and its streams, and the die that waits for it gets it
(R322, R323).
Rows that complete here, each with its own effect under conditions on the state and the operands alone:
VIEW_STABLE, ASSIGN_REQ, ASSIGN, ASSIGN_RETRY, UNBLAZED_RETRY, HOLD_EXPIRY. -/
def Obligations.FabricNumbers : Prop :=
  (∀ (t : Tick) (q : Fin 8) (v : SkdView) (s : State), OnTime s t → s.skd.cruise = .elect →
    s.skd.view = some v → v.port = some q → s.skd.viewAt + 4800000 ≤ t →
    After (.viewStable t) s fun u =>
      u.skd.cruise = (if s.skd.node = 0 then .numbering else .numbered) ∧ u.skd.reqAt = t ∧
      u.skd.node = s.skd.node ∧ u.skd.isCoord = s.skd.isCoord) ∧
  (∀ (t : Tick) (v : SkdView) (s : State), OnTime s t → s.skd.cruise = .elect →
    s.skd.view = some v → v.port = none → s.skd.viewAt + 4800000 ≤ t → s.skd.isCoord = false →
    After (.viewStable t) s fun u =>
      u.skd.cruise = .numbered ∧ u.skd.isCoord = true ∧ u.skd.aligned = true ∧
      u.skd.node = (if 1 ≤ s.skd.node ∧ s.skd.node ≤ 253 then s.skd.node
        else if 1 ≤ skdCfgReqNode s ∧ skdCfgReqNode s ≤ 253 then skdCfgReqNode s else 1) ∧
      u.skd.coordNode = u.skd.node ∧ ∃ e ∈ u.skd.nums, e.num = u.skd.node ∧ e.die = s.skd.dieId) ∧
  (∀ (t : Tick) (p : Fin 8) (bs : List Byte) (n die req present : Nat) (s : State), OnTime s t →
    domOn s 6 = true →
    frameGood bs = true → frKind bs = 3 → frDest bs = 254 → frClass bs = 1 →
    s.skd.port[p].state = .up → s.skd.isCoord = true → s.skd.node ≠ 254 → 1 ≤ n → n ≤ 253 →
    leAt (frPayload bs) 0 8 = die → byteAt (frPayload bs) 8 = req → byteAt (frPayload bs) 9 = present →
    (present = n ∧ (∀ e ∈ holderOf s n, e.die = die ∨ (die < e.die ∧ e.die ≠ s.skd.dieId))) ∨
      ((present = 0 ∨ 253 < present ∨ ∃ e ∈ holderOf s present, e.die < die) ∧
        ((req = n ∧ ∀ e ∈ holderOf s n, e.die = die) ∨
          ((req = 0 ∨ 253 < req ∨ ∃ e ∈ holderOf s req, e.die ≠ die ∧ e.lost = none) ∧
            holderOf s n = none ∧ ∀ k < n, 1 ≤ k → (holderOf s k).isSome = true))) →
    After (.assignReq t p bs) s fun u =>
      (∃ e ∈ u.skd.nums, e.num = n ∧ e.die = die) ∧
      ∀ e ∈ u.skd.nums, (e.num = n ∧ e.die = die) ∨
        (e.num ≠ n ∧ e.die ≠ die ∧ ∃ x ∈ s.skd.nums, x.num = e.num ∧ x.die = e.die)) ∧
  (∀ (t : Tick) (p : Fin 8) (bs : List Byte) (s : State), OnTime s t → domOn s 6 = true →
    frameGood bs = true → frKind bs = 4 → frDest bs = 255 → frSrc bs ≠ 0 → s.skd.node ≠ 255 →
    s.skd.port[p].state = .up → (treePorts s).contains p = true →
    let n := byteAt (frPayload bs) 8
    let res := byteAt (frPayload bs) 9
    (leAt (frPayload bs) 0 8 ≠ s.skd.dieId → After (.assign t p bs) s fun u =>
      u.skd.coordNode = frSrc bs ∧ u.skd.node = s.skd.node ∧ u.skd.cruise = s.skd.cruise) ∧
    (leAt (frPayload bs) 0 8 = s.skd.dieId →
      (res = 0 → n ≠ 0 → s.skd.cruise = .numbering ∨ s.skd.cruise = .numbered →
        After (.assign t p bs) s fun u =>
          u.skd.node = n ∧ u.skd.cruise = .numbered ∧ u.skd.coordNode = frSrc bs) ∧
      (res = 1 → s.skd.cruise = .numbering → After (.assign t p bs) s fun u =>
        u.skd.node = s.skd.node ∧ u.skd.cruise = .unblazed ∧ u.skd.refusedAt = t) ∧
      (res = 2 → s.skd.cruise = .numbered → After (.assign t p bs) s fun u =>
        u.skd.node = 0 ∧ u.skd.cruise = .numbering ∧ u.skd.reqAt = t))) ∧
  (∀ (t : Tick) (s : State), OnTime s t → s.skd.cruise = .numbering →
    s.skd.reqAt + 32000000 ≤ t →
    After (.assignRetry t) s fun u =>
      u.skd.reqAt = t ∧ u.skd.cruise = .numbering ∧ u.skd.node = s.skd.node) ∧
  (∀ (t : Tick) (s : State), OnTime s t → s.skd.cruise = .unblazed →
    s.skd.refusedAt + 1600000000 ≤ t →
    After (.unblazedRetry t) s fun u => u.skd.cruise = .numbering ∧ u.skd.reqAt = t) ∧
  (∀ (t : Tick) (s : State), OnTime s t → s.skd.isCoord = true →
    (∀ w ∈ s.skd.reqWait, ∀ e ∈ s.skd.nums, e.num = w.2 →
      e.lost.any (fun x => decide (x + max (skdCruiseHoldMs s) 1 * 1600000 ≤ t)) = false) →
    After (.holdExpiry t) s fun u =>
      let gone (e : NumEntry) : Bool :=
        e.lost.any fun x => decide (x + max (skdCruiseHoldMs s) 1 * 1600000 ≤ t)
      u.skd.nums = s.skd.nums.filter (fun e => !gone e) ∧
      u.skd.owner = s.skd.owner.filter fun o => !(s.skd.nums.any fun e => gone e && e.num == o.2)) ∧
  (∀ (t : Tick) (die n : Nat) (e : NumEntry) (s : State), OnTime s t → s.skd.isCoord = true →
    s.skd.reqWait = [(die, n)] → 1 ≤ n → n ≤ 253 → e ∈ s.skd.nums → e.num = n →
    (∀ x ∈ s.skd.nums, x.num = n → x.lost.any
      (fun y => decide (y + max (skdCruiseHoldMs s) 1 * 1600000 ≤ t)) = true) →
    After (.holdExpiry t) s fun u => u.skd.reqWait = [] ∧ ∃ x ∈ u.skd.nums, x.num = n ∧ x.die = die) ∧
  (∀ (t : Tick) (p : Fin 8) (bs : List Byte) (die req : Nat) (s : State), OnTime s t →
    domOn s 6 = true → frameGood bs = true → frKind bs = 3 → frDest bs = 254 → frClass bs = 1 →
    s.skd.port[p].state = .up → s.skd.isCoord = true → s.skd.node ≠ 254 →
    leAt (frPayload bs) 0 8 = die → byteAt (frPayload bs) 8 = req → byteAt (frPayload bs) 9 = 0 →
    (1 ≤ req → req ≤ 253 → (∃ e ∈ holderOf s req, e.die ≠ die ∧ e.lost.isSome = true) →
      After (.assignReq t p bs) s fun u => u.skd.nums = s.skd.nums ∧
        u.skd.reqWait = (s.skd.reqWait.filter fun w => w.1 ≠ die) ++ [(die, req)]) ∧
    (req = 0 → (∀ k < 254, 1 ≤ k → (holderOf s k).isSome = true) →
      After (.assignReq t p bs) s fun u => u.skd.nums = s.skd.nums ∧
        u.skd.unblazed = min (s.skd.unblazed + 1) 255))

/-- Routes and registrations: each entry of a ROUTE frame is an offer, or withdraws one, and forms its
route anew (R325, R326); the whole table leaves every 10 ms, changed entries after 100 µs, in frames of at
most 128 entries, and offers older than 35 ms are withdrawn; the coordinator grants a free stream and no
other, the answer is kept, a request unanswered for 20 ms is repeated (R329, R330); a refusal is recorded at
its source (R339).
Rows that complete here, each with its own effect under conditions on the state and the operands alone:
ROUTE, ROUTE_ADVERTISEMENT, ROUTE_UPDATE, ROUTE_WITHDRAWAL, REGISTER, REGISTER_REPLY, REGISTER_RETRY,
REFUSAL. -/
def Obligations.FabricRoutes : Prop :=
  (∀ (t : Tick) (p : Fin 8) (bs : List Byte) (es : List (Byte × Byte)) (s : State), OnTime s t →
    domOn s 6 = true → frameGood bs = true → frKind bs = 2 → s.skd.port[p].state = .up →
    frPayload bs = es.flatMap (fun e => [e.1, e.2]) →
    (∀ e ∈ es, 1 ≤ e.1.toNat ∧ e.1.toNat ≤ 253 ∧ e.1.toNat ≠ s.skd.node ∧
      (e.2.toNat ≤ 16 ∨ e.2.toNat = 255)) →
    After (.route t p bs) s fun u =>
      u.skd.offers = es.foldl (fun os e => sput {} os (8 * e.1.toNat + p)
        (if e.2.toNat = 255 then {} else ⟨min (e.2.toNat + 1) 16, t⟩)) s.skd.offers ∧
      (∀ e ∈ es, routeOf u e.1.toNat = newRoute u e.1.toNat) ∧
      (es.length = 1 → ∀ e ∈ es, routeOf u e.1.toNat =
        newRoute { s with skd := { s.skd with offers := u.skd.offers } } e.1.toNat)) ∧
  (∀ (t : Tick) (p : Fin 8) (s : State), OnTime s t → s.skd.port[p].state = .up →
    s.skd.port[p].advertAt + 16000000 ≤ t →
    After (.routeAdvertisement t p) s fun u =>
      let ns := tableNodes s
      u.skd.port[p].advertAt = t ∧
      u.skd.port[p].link.length = s.skd.port[p].link.length + (ns.length + 127) / 128 ∧
      ((u.skd.port[p].link.drop s.skd.port[p].link.length).all fun f => f.kind == 2 && f.tick == t) = true ∧
      (1 ≤ ns.length → ns.length ≤ 128 → u.skd.port[p].link = s.skd.port[p].link ++
        [(⟨buildFrame 255 s.skd.node 0 0 2 0 (ns.flatMap (routeEntry s p)), 0, 2, t, none, 0⟩ : SkdFrame)]) ∧
      ∀ q, q ≠ p → u.skd.port[q] = s.skd.port[q]) ∧
  (∀ (t : Tick) (p : Fin 8) (s : State), OnTime s t → s.skd.port[p].state = .up →
    s.skd.port[p].changed ≠ [] → s.skd.port[p].updateAt + 160000 ≤ t →
    After (.routeUpdate t p) s fun u =>
      let ns := s.skd.port[p].changed
      u.skd.port[p].changed = [] ∧ u.skd.port[p].updateAt = t ∧
      u.skd.port[p].link.length = s.skd.port[p].link.length + (ns.length + 127) / 128 ∧
      (ns.length ≤ 128 → u.skd.port[p].link = s.skd.port[p].link ++
        [⟨buildFrame 255 s.skd.node 0 0 2 0 (ns.flatMap (routeEntry s p)), 0, 2, t, none, 0⟩]) ∧
      ∀ q, q ≠ p → u.skd.port[q] = s.skd.port[q]) ∧
  (∀ (t : Tick) (s : State), OnTime s t →
    After (.routeWithdrawal t) s fun u =>
      (u.skd.offers = s.skd.offers.filter fun o => decide (t < o.2.tick + 56000000)) ∧
      ∀ o ∈ s.skd.offers, o.2.tick + 56000000 ≤ t → routeOf u (o.1 / 8) = newRoute u (o.1 / 8)) ∧
  (∀ (t : Tick) (p : Fin 8) (bs : List Byte) (st : Nat) (s : State), OnTime s t → domOn s 6 = true →
    frameGood bs = true → frKind bs = 5 → frDest bs = 254 → frSrc bs ≠ 0 →
    s.skd.port[p].state = .up → s.skd.isCoord = true → s.skd.node ≠ 254 →
    leAt (frPayload bs) 0 2 % 4096 = st →
    (s.skd.owner.length < 4096 → sget 0 s.skd.owner st = 0 →
      After (.register t p bs) s fun u => u.skd.owner = sput 0 s.skd.owner st (frSrc bs)) ∧
    (sget 0 s.skd.owner st ≠ 0 ∨ 4096 ≤ s.skd.owner.length →
      After (.register t p bs) s fun u => u.skd.owner = s.skd.owner)) ∧
  (∀ (t : Tick) (p : Fin 8) (bs : List Byte) (s : State), OnTime s t → domOn s 6 = true →
    frameGood bs = true → frKind bs = 6 → frDest bs = s.skd.node → s.skd.node ≠ 0 → frSrc bs ≠ 0 →
    s.skd.port[p].state = .up → s.skd.isCoord = false →
    s.skd.regWait.any (fun w => w.1 == leAt (frPayload bs) 0 2 % 4096) = true →
    After (.registerReply t p bs) s fun u =>
      u.skd.result = sput 0 s.skd.result (leAt (frPayload bs) 0 2 % 4096) (byteAt (frPayload bs) 2 % 8) ∧
      u.tal[121] = s.tal[121] + (if byteAt (frPayload bs) 2 % 8 = 1 then 0 else 1) ∧
      (s.skd.regLeft = [] → u.skd.regWait =
        s.skd.regWait.filter fun w => w.1 ≠ leAt (frPayload bs) 0 2 % 4096)) ∧
  (∀ (t : Tick) (s : State), OnTime s t →
    After (.registerRetry t) s fun u =>
      (u.skd.regWait = s.skd.regWait.map fun w => if w.2 + 32000000 ≤ t then (w.1, t) else w) ∧
      u.skd.result = s.skd.result ∧ u.skd.cruise = s.skd.cruise) ∧
  (∀ (t : Tick) (p : Fin 8) (bs : List Byte) (s : State), OnTime s t → domOn s 6 = true →
    frameGood bs = true → frKind bs = 7 → frDest bs = s.skd.node → s.skd.node ≠ 0 → frSrc bs ≠ 0 →
    s.skd.port[p].state = .up →
    After (.refusal t p bs) s fun u =>
      u.lrg = (s.recordAt t bSKD 0xFF 8
        (leAt (frPayload bs) 0 2 % 4096 + put (byteAt (frPayload bs) 2) 16)
        (leAt (frPayload bs) 4 2)).lrg ∧
      u.skd.cruise = s.skd.cruise)

/-- DATA for the own number is delivered to the layer that names its stream or counted, one for another
number is forwarded on its route with one hop more or discarded (R328, R332); a port sends its next frame
when it is free, a link-local one first, and stamps those of the time exchange (R333, R337); aged C1 frames
are dropped (R339); the exchange of fabric time and what its answer does, a slew or, in OFF beyond 1,600 tk,
a step (R333 to R335); records posted and fetched (R331).
Rows that complete here, each with its own effect under conditions on the state and the operands alone:
DATA, OUTPUT_FRAME, C1_AGE_DROP, TIME_EXCHANGE, TIME_REQ, TIME_RESP, TIME_EXCHANGE_TIMEOUT,
TB_ALIGN_TIMEOUT, TXPOST, RECORD_FETCH. -/
def Obligations.FabricData : Prop :=
  (∀ (t stamp : Tick) (p : Fin 8) (bs : List Byte) (s : State), OnTime s t → domOn s 6 = true →
    frameGood bs = true → frKind bs = 0 → frDest bs = s.skd.node → s.skd.node ≠ 0 → frSrc bs ≠ 0 →
    s.skd.port[p].state = .up → blzStream s (frStream bs) = true →
    After (.data t p stamp bs) s fun u =>
      u.blz.rx = s.blz.rx ++ [⟨true, p, frStream bs, stamp, frPayload bs⟩] ∧ u.pba = s.pba ∧
      u.skd.drops = s.skd.drops) ∧
  (∀ (t stamp : Tick) (p : Fin 8) (bs : List Byte) (s : State), OnTime s t → domOn s 6 = true →
    frameGood bs = true → frKind bs = 0 → frDest bs ≠ s.skd.node → frDest bs < 254 →
    s.skd.port[p].state = .up → reachOf s (frDest bs) = 0 →
    After (.data t p stamp bs) s fun u =>
      u.tal[118] = s.tal[118] + 1 ∧ u.blz = s.blz ∧ u.pba = s.pba ∧
      ∀ q : Fin 8, u.skd.port[q].out = s.skd.port[q].out) ∧
  (∀ (t : Tick) (p : Fin 8) (f : SkdFrame) (s : State), OnTime s t →
    s.skd.port[p].state = .up ∨ s.skd.port[p].state = .credit → nextLink s.skd.port[p] = some f →
    s.skd.port[p].busy ≤ 5 * t →
    After (.outputFrame t p) s fun u =>
      let b := if f.kind = 9 then
        buildFrame 255 (frSrc f.bytes) 0 0 9 0 ((frPayload f.bytes).take 8 ++ leBytes 8 t) else f.bytes
      u.skd.port[p].link = eraseFrame f s.skd.port[p].link ∧
      u.skd.port[p].busy = 5 * t + (b.length + 3) * 64 ∧
      u.emitted = ⟨p, t, 0xFB :: (b ++ [0xFD])⟩ :: s.emitted ∧
      u.skd.t1 = (if f.kind = 8 then some t else s.skd.t1)) ∧
  (∀ (t : Tick) (p : Fin 8) (s : State), OnTime s t →
    After (.c1AgeDrop t p) s fun u =>
      let old (f : SkdFrame) : Bool := f.cls == 1 && decide (f.tick + max (skdClassC1Age s) 1 * 1600 ≤ t)
      let kept := s.skd.port[p].out.filter fun f => !old f
      u.skd.port[p].out.take kept.length = kept ∧
      u.tal[114] = s.tal[114] + (s.skd.port[p].out.filter old).length ∧
      ((s.skd.port[p].out.all fun f => !old f || f.kind != 0) = true → u.skd.port[p].out = kept)) ∧
  (∀ (t : Tick) (p : Fin 8) (s : State), OnTime s t → parentPort s = some p →
    s.skd.port[p].state = .up → t % 1600000 = 0 →
    After (.timeExchange t) s fun u =>
      u.skd.exchange = true ∧ u.skd.t1 = none ∧ u.skd.port[p].link = s.skd.port[p].link ++
        [⟨buildFrame 255 s.skd.node 0 0 8 0 [], 0, 8, t, none, 0⟩]) ∧
  (∀ (t stamp : Tick) (p : Fin 8) (bs : List Byte) (s : State), OnTime s t → domOn s 6 = true →
    frameGood bs = true → frKind bs = 8 → s.skd.port[p].state = .up →
    After (.timeReq t p stamp bs) s fun u =>
      u.skd.port[p].link = s.skd.port[p].link ++ [⟨buildFrame 255 s.skd.node 0 0 9 0
        (leBytes 8 stamp ++ leBytes 8 0), 0, 9, t, none, 0⟩] ∧
      ∀ q, q ≠ p → u.skd.port[q] = s.skd.port[q]) ∧
  (∀ (t t1 t4 : Tick) (p : Fin 8) (bs : List Byte) (s : State), OnTime s t → domOn s 6 = true →
    frameGood bs = true → frKind bs = 9 → s.skd.port[p].state = .up → parentPort s = some p →
    s.skd.exchange = true → s.skd.t1 = some t1 → t4 < t1 + 32000 →
    After (.timeResp t p t4 bs) s fun u =>
      let t2 : Int := sgn 64 (leAt (frPayload bs) 0 8)
      let t3 : Int := sgn 64 (leAt (frPayload bs) 8 8)
      u.skd.exchange = false ∧ u.skd.t1 = none ∧ u.skd.toff = ((t2 - t1) - (t4 - t3)).tdiv 2 ∧
      u.skd.tdelay = ((t2 - t1) + (t4 - t3)).tdiv 2 ∧ u.skd.slewFor = 0 ∧
      (if 1600 < u.skd.toff.natAbs ∧ s.pba.mode = .off then
        u.skd.slew = 0 ∧ u.clk.now = ((t : Int) + u.skd.toff).toNat
      else u.skd.slew = u.skd.toff ∧ u.clk.now = t) ∧ (s.skd.isCoord = false → 16 < u.skd.toff.natAbs → u.skd.aligned = false)) ∧
  (∀ (t x : Tick) (s : State), OnTime s t → s.skd.exchange = true → s.skd.t1 = some x →
    x + 32000 ≤ t →
    After (.timeExchangeTimeout t) s fun u =>
      u.skd = { s.skd with exchange := false, t1 := none }) ∧
  (∀ (t : Tick) (s : State), OnTime s t → s.skd.isCoord = false →
    s.skd.exchangedAt + 8000000 ≤ t →
    After (.tbAlignTimeout t) s fun u => u.skd = { s.skd with aligned := false, close := 0 }) ∧
  (∀ (t : Tick) (id : Fin 64) (v : Word32) (s : State), Quiet s t → domOn s 6 = true →
    s.skd.post.length < 64 →
    After (.txpost t id v) s fun u =>
      u.skd = { s.skd with post := s.skd.post ++ [v.toNat / 32 * 32] } ∧ u.bus.err = 0) ∧
  (∀ (t : Tick) (id : Fin 64) (v : Word32) (s : State), Quiet s t → domOn s 6 = true →
    64 ≤ s.skd.post.length →
    After (.txpost t id v) s fun u =>
      u.skd = s.skd ∧ u.bus.err = 7 ∧ u.tal[122] = s.tal[122] + 1) ∧
  (∀ (t : Tick) (a : Nat) (q : List Nat) (s : State), OnTime s t → s.skd.post = a :: q →
    domOn s 6 = true → inSram a = true →
    streamSends s (leNat (memBytes s a 4) % 4096) = false ∨ 256 < leNat (memBytes s a 4) / 2 ^ 16 % 512 →
    After (.recordFetch t) s fun u =>
      u.skd = { s.skd with post := q } ∧ u.tal[122] = s.tal[122] + 1) ∧
  (∀ (t : Tick) (a st len : Nat) (b : List Byte) (r : Fin 8) (q : List Nat) (s : State), OnTime s t →
    s.skd.post = a :: q → domOn s 6 = true → inSram a = true → s.sys.flips = [] →
    leNat (memBytes s a 4) % 4096 = st → leNat (memBytes s a 4) / 2 ^ 16 % 512 = len →
    buildFrame (skdStrDest s st) s.skd.node (skdStrClass s st) 0 0 st (memBytes s (a + 4) len) = b →
    streamSends s st = true → len ≤ 256 → skdStrDest s st ≠ s.skd.node →
    (skdStrClass s st = 0 → s.skd.shaped = [] ∧ tokensOf b ≤ s.skd.tokens ∧
      s.skd.tokens ≤ 131072000) →
    (skdStrClass s st = 2 → ownC2 s = false) → c3Refused s b = false →
    1 ≤ skdStrDest s st → skdStrDest s st ≤ 253 → reachOf s (skdStrDest s st) = 1 →
    (routeOf s (skdStrDest s st)).port = r.val → inSram (a + 288) = true →
    After (.recordFetch t) s fun u =>
      u.skd.post = q ∧ u.skd.port[r].out = s.skd.port[r].out ++
        [⟨b, skdStrClass s st, 0, t, none, s.skd.nextIdent⟩] ∧
      ∀ x, x ≠ r → u.skd.port[x] = s.skd.port[x]) ∧
  (∀ (t stamp : Tick) (p : Fin 8) (bs : List Byte) (s : State), OnTime s t → domOn s 6 = true →
    frameGood bs = true → frKind bs = 0 → frDest bs = s.skd.node → s.skd.node ≠ 0 → frSrc bs ≠ 0 →
    s.skd.port[p].state = .up → blzStream s (frStream bs) = false → limStream s (frStream bs) = false →
    srcStream s (frStream bs) = false → skdStrRx s (frStream bs) = false →
    After (.data t p stamp bs) s fun u =>
      u.tal[120] = s.tal[120] + 1 ∧ u.blz = s.blz ∧ u.pba = s.pba ∧
      u.skd.drops = sput 0 s.skd.drops (frStream bs)
        (min (sget 0 s.skd.drops (frStream bs) + 1) 16777215)) ∧
  (∀ (t stamp : Tick) (p q : Fin 8) (bs : List Byte) (s : State), OnTime s t → domOn s 6 = true →
    frameGood bs = true → frKind bs = 0 → frDest bs ≠ s.skd.node → frDest bs < 254 → frDest bs ≠ 0 →
    frSrc bs ≠ 0 → s.skd.port[p].state = .up → reachOf s (frDest bs) = 1 →
    (routeOf s (frDest bs)).port = q.val → frHops bs < 14 →
    c3Refused s (withHops bs (frHops bs + 1)) = false →
    After (.data t p stamp bs) s fun u =>
      u.tal[113] = s.tal[113] + 1 ∧ u.blz = s.blz ∧ u.pba = s.pba ∧
      u.skd.port[q].out = s.skd.port[q].out ++ [⟨buildFrame (frDest bs) (frSrc bs) (frClass bs)
        (frHops bs + 1) 0 (frStream bs) (frPayload bs), frClass bs, 0, t, some p, s.skd.nextIdent⟩] ∧
      ∀ x, x ≠ q → u.skd.port[x].out = s.skd.port[x].out) ∧
  (∀ (t : Tick) (p : Fin 8) (f : SkdFrame) (s : State), OnTime s t → s.skd.port[p].state = .up →
    nextLink s.skd.port[p] = none → nextOut s s.skd.port[p] = some f → s.skd.shaped = [] →
    (s.skd.port[p].out.all fun x => !c1Old (s.at t) x) = true → s.skd.port[p].busy ≤ 5 * t →
    After (.outputFrame t p) s fun u =>
      u.skd.port[p].out = eraseFrame f s.skd.port[p].out ∧ u.skd.port[p].link = s.skd.port[p].link ∧
      u.skd.port[p].busy = 5 * t + (f.bytes.length + 3) * 64 ∧
      u.emitted = ⟨p, t, 0xFB :: (f.bytes ++ [0xFD])⟩ :: s.emitted ∧
      u.skd.port[p].sent = (if f.cls < 3 then s.skd.port[p].sent.setIfInBounds f.cls
        ((s.skd.port[p].sent.getD f.cls 0 + unitsOf f.bytes) % 65536) else s.skd.port[p].sent))

/-- A frame received counts in tally counter 125, moves the receive counter as the standard gives and goes to
the Blaze entry that names it, or by the first filter that admits it to a receive buffer, which an unread
frame keeps unless OVW, or nowhere (R350 to R353, R361). One with a recessive res bit goes nowhere (R345). A
write of SHSEL captures a buffer and clears NEW (R354), and is an error with PD_CAN off (R346).
Rows that complete here, each with its own effect under conditions on the state and the operands alone:
CAN_FRAME_RECEIVED, SHSEL. -/
def Obligations.CanReception : Prop :=
  (∀ (t stamp : Tick) (ch : Fin 6) (f : CanFrame) (s : State), Quiet s t → canRuns s ch = true →
    (f.fdf = true → canCfgFd s ch = true ∧ f.res = false) → s.can[ch].tecCount ≤ 255 →
    f.ide = false → blzCan s ch f.ident = true →
    After (.canFrameReceived t ch stamp f) s fun u =>
      u.blz.rx = s.blz.rx ++ [⟨false, ch, f.ident, stamp, f.data⟩] ∧ u.tal[125] = s.tal[125] + 1 ∧
      ∀ b : Fin 64, u.can[ch].buf[b] = s.can[ch].buf[b]) ∧
  (∀ (t stamp : Tick) (ch : Fin 6) (f : CanFrame) (i : Nat) (b : Fin 64) (s : State), Quiet s t →
    canRuns s ch = true → (f.fdf = true → canCfgFd s ch = true ∧ f.res = false) →
    s.can[ch].tecCount ≤ 255 →
    (f.ide = true ∨
      (blzCan s ch f.ident = false ∧ limCan s ch f.ident = false ∧ srcCan s ch f.ident = false)) →
    ((List.range 128).find? fun j => filterHits s ch f j) = some i → canFltActAction s ch i = 0 →
    canFltActBuf s ch i = b.val → canBufEn s ch b = true → canBufDir s ch b = false →
    After (.canFrameReceived t ch stamp f) s fun u =>
      u.can[ch].buf[b] = (if s.can[ch].buf[b].new = true ∧ canBufOvw s ch b = false then s.can[ch].buf[b]
        else { s.can[ch].buf[b] with frame := f, stamp := stamp, filter := i, new := true }) ∧
      u.tal[128] = s.tal[128] + b2n s.can[ch].buf[b].new ∧
      u.tal[125] = s.tal[125] + 1 ∧ u.blz = s.blz ∧
      ∀ x, x ≠ b → u.can[ch].buf[x] = s.can[ch].buf[x]) ∧
  (∀ (t : Tick) (id : Fin 64) (ch : Fin 6) (b : Fin 64) (s : State), Quiet s t →
    (domOn s 7 = true → After (.shsel t id ch b) s fun u =>
      u.can[ch].shadow = s.can[ch].buf[b] ∧
      u.can[ch].buf[b] = { s.can[ch].buf[b] with new := false } ∧ u.bus.err = 0 ∧
      (∀ x, x ≠ b → u.can[ch].buf[x] = s.can[ch].buf[x]) ∧ ∀ k, k ≠ ch → u.can[k] = s.can[k]) ∧
    (domOn s 7 = false → After (.shsel t id ch b) s fun u => u.bus.err = 5 ∧ u.can = s.can)) ∧
  (∀ (t stamp : Tick) (ch : Fin 6) (f : CanFrame) (s : State), Quiet s t → canRuns s ch = true →
    (f.fdf = true → canCfgFd s ch = true) → s.can[ch].tecCount ≤ 255 →
    After (.canFrameReceived t ch stamp f) s fun u =>
      let good : Bool := !(f.fdf && f.res)
      u.tal[125] = s.tal[125] + b2n good ∧ u.can[ch].tecCount = s.can[ch].tecCount ∧
      u.can[ch].other = false ∧ (∀ k, k ≠ ch → u.can[k] = s.can[k]) ∧
      (good = false ∨ canCfgListen s ch = true → u.can[ch].recCount = s.can[ch].recCount) ∧
      (good = true → canCfgListen s ch = false → s.can[ch].recCount ≤ 127 →
        u.can[ch].recCount = s.can[ch].recCount - 1) ∧
      (good = true → canCfgListen s ch = false → 127 < s.can[ch].recCount →
        119 ≤ u.can[ch].recCount ∧ u.can[ch].recCount ≤ 127)) ∧
  (∀ (t stamp : Tick) (ch : Fin 6) (f : CanFrame) (s : State), Quiet s t → canRuns s ch = true →
    (f.fdf = true → canCfgFd s ch = true ∧ f.res = false) → s.can[ch].tecCount ≤ 255 →
    (f.ide = true ∨
      (blzCan s ch f.ident = false ∧ limCan s ch f.ident = false ∧ srcCan s ch f.ident = false)) →
    (∀ i, ((List.range 128).find? fun j => filterHits s ch f j) = some i →
      2 ≤ canFltActAction s ch i) →
    After (.canFrameReceived t ch stamp f) s fun u =>
      u.tal[125] = s.tal[125] + 1 ∧ u.blz = s.blz ∧ u.pba = s.pba ∧
      (((List.range 128).find? fun j => filterHits s ch f j) = none → u.tal[127] = s.tal[127] + 1) ∧
      ∀ b : Fin 64, u.can[ch].buf[b] = s.can[ch].buf[b])

/-- GO copies the staged frame into a transmit buffer, which becomes pending, or is refused with code
REFUSED (R356); ABORT ends a frame that is not on the bus with ABORTED, and marks one that is (R358);
an attempt that succeeds ends with SENT, and one that fails is tried again unless it is one-shot or aborted
(R358).
The error counters move as the standard gives, and the state follows from them; bus-off ends what is
pending; an error frame sent counts (R358, R361). Bus-off is left only after RECOVER, with both counters at
0 (R362). With PD_CAN off a write to the channel is an error (R346). That the counters add 8, 1 and 8 is the
standard's, which R361 names; when a start of frame comes is the model's choice (log 91).
Rows that complete here, each with its own effect under conditions on the state and the operands alone:
TXCMD_GO, ABORT, RECOVER, TRANSMISSION_END, CAN_ERROR, BUS_ON. -/
def Obligations.CanSending : Prop :=
  (∀ (t : Tick) (id : Fin 64) (ch : Fin 6) (b : Fin 64) (s : State), Quiet s t → domOn s 7 = true →
    canBufEn s ch b = true → canBufDir s ch b = true → s.can[ch].buf[b].pend = false →
    After (.txcmdGo t id ch b) s fun u =>
      u.can[ch].buf[b] = { s.can[ch].buf[b] with
        frame := stagedFrame s ch, pend := true, oneshot := canTxinfoOneshot s ch
        abort := false, txres := 0 } ∧
      u.bus.err = 0 ∧ (∀ x, x ≠ b → u.can[ch].buf[x] = s.can[ch].buf[x]) ∧
      ∀ k, k ≠ ch → u.can[k] = s.can[k]) ∧
  (∀ (t : Tick) (id : Fin 64) (ch : Fin 6) (b : Fin 64) (s : State), Quiet s t →
    (domOn s 7 = true →
      (canBufEn s ch b = false ∨ canBufDir s ch b = false ∨ s.can[ch].buf[b].pend = true) →
      After (.txcmdGo t id ch b) s fun u => u.bus.err = 7 ∧ u.can = s.can) ∧
    (domOn s 7 = false →
      (After (.txcmdGo t id ch b) s fun u => u.bus.err = 5 ∧ u.can = s.can) ∧
      (After (.abort t id ch b) s fun u => u.bus.err = 5 ∧ u.can = s.can) ∧
      (After (.recover t id ch) s fun u => u.bus.err = 5 ∧ u.can = s.can))) ∧
  (∀ (t : Tick) (id : Fin 64) (ch : Fin 6) (b : Fin 64) (s : State), Quiet s t → domOn s 7 = true →
    s.can[ch].buf[b].pend = true →
    s.can[ch].offer ≠ .buffer b ∨ (t < s.can[ch].sofAt ∧ s.clk.now < s.can[ch].sofAt) →
    After (.abort t id ch b) s fun u =>
      u.can[ch].buf[b] = { s.can[ch].buf[b] with pend := false, abort := false, txres := 4 } ∧
      u.tal[129] = s.tal[129] + 1 ∧ u.bus.err = 0 ∧
      ∀ x, x ≠ b → u.can[ch].buf[x] = s.can[ch].buf[x]) ∧
  (∀ (t : Tick) (id : Fin 64) (ch : Fin 6) (b : Fin 64) (s : State), Quiet s t → domOn s 7 = true →
    s.can[ch].buf[b].pend = true → s.can[ch].offer = .buffer b → s.can[ch].sofAt ≤ s.clk.now →
    After (.abort t id ch b) s fun u =>
      u.can[ch].buf[b] = { s.can[ch].buf[b] with abort := true } ∧ u.tal = s.tal ∧ u.bus.err = 0) ∧
  (∀ (t : Tick) (ch : Fin 6) (b : Fin 64) (delay : Option Nat) (s : State), Quiet s t →
    canSends s ch = true → s.can[ch].offer = .buffer b → s.can[ch].tecCount ≤ 255 →
    After (.transmissionEnd t ch .sent delay) s fun u =>
      u.can[ch].buf[b] = { s.can[ch].buf[b] with pend := false, abort := false, txres := 1 } ∧
      u.tal[126] = s.tal[126] + 1 ∧ u.can[ch].tecCount = s.can[ch].tecCount - 1 ∧
      u.can[ch].lastSent = offered s.can[ch] ∧
      ∀ x, x ≠ b → u.can[ch].buf[x] = s.can[ch].buf[x]) ∧
  (∀ (t : Tick) (ch : Fin 6) (flag : Bool) (s : State), Quiet s t → canRuns s ch = true →
    canCfgListen s ch = false →
    After (.canError t ch .transmit flag) s fun u =>
      u.can[ch].tecCount = s.can[ch].tecCount + 8 ∧ u.can[ch].recCount = s.can[ch].recCount ∧
      u.can[ch].st = confine (s.can[ch].tecCount + 8) s.can[ch].recCount ∧
      (u.can[ch].st = 2 → u.can[ch].queue = [] ∧ u.can[ch].offer = .none ∧
        u.can[ch].recovering = canCfgAutoRecover s ch ∧ ∀ b : Fin 64, u.can[ch].buf[b] =
          if s.can[ch].buf[b].pend then
            { s.can[ch].buf[b] with pend := false, abort := false, txres := 5 }
          else s.can[ch].buf[b]) ∧
      u.tal[131] = s.tal[131] + (if flag then 1 else 0)) ∧
  (∀ (t : Tick) (ch : Fin 6) (k : CanFault) (flag : Bool) (s : State), Quiet s t → canRuns s ch = true →
    canCfgListen s ch = false → s.can[ch].tecCount ≤ 255 → k ≠ .transmit →
    After (.canError t ch k flag) s fun u =>
      u.can[ch].tecCount = s.can[ch].tecCount ∧
      u.can[ch].recCount = s.can[ch].recCount +
        (if k = .receive then 1 else if k = .dominant then 8 else 0) ∧
      u.can[ch].st = (if k = .uncounted then s.can[ch].st
        else confine s.can[ch].tecCount u.can[ch].recCount) ∧
      u.tal[131] = s.tal[131] + (if flag then 1 else 0)) ∧
  (∀ (t : Tick) (id : Fin 64) (ch : Fin 6) (s : State), Quiet s t → domOn s 7 = true →
    s.can[ch].st = 2 →
    After (.recover t id ch) s fun u =>
      u.can[ch] = { s.can[ch] with recovering := true } ∧ u.bus.err = 0 ∧
      ∀ k, k ≠ ch → u.can[k] = s.can[k]) ∧
  (∀ (t : Tick) (id : Fin 64) (ch : Fin 6) (s : State), Quiet s t → domOn s 7 = true →
    s.can[ch].st ≠ 2 →
    After (.recover t id ch) s fun u => u.can = s.can ∧ u.bus.err = 0) ∧
  (∀ (t : Tick) (ch : Fin 6) (s : State), Quiet s t → s.can[ch].st = 2 → s.can[ch].recovering = true →
    After (.busOn t ch) s fun u =>
      u.can[ch].st = 0 ∧ u.can[ch].tecCount = 0 ∧ u.can[ch].recCount = 0 ∧
      u.can[ch].recovering = false ∧ ∀ k, k ≠ ch → u.can[k] = s.can[k]) ∧
  (∀ (t : Tick) (ch : Fin 6) (b : Fin 64) (delay : Option Nat) (res : CanResult) (s : State),
    Quiet s t → canSends s ch = true → s.can[ch].offer = .buffer b → res = .arbLost ∨ res = .error →
    After (.transmissionEnd t ch res delay) s fun u =>
      let ends := s.can[ch].buf[b].oneshot || s.can[ch].buf[b].abort
      u.can[ch].buf[b] = (if ends then { s.can[ch].buf[b] with
        pend := false, abort := false
        txres := if s.can[ch].buf[b].oneshot = false then 4 else if res = .arbLost then 2 else 3 }
        else s.can[ch].buf[b]) ∧
      u.tal[129] = s.tal[129] + b2n ends ∧ u.tal[126] = s.tal[126] ∧
      u.can[ch].tecCount = s.can[ch].tecCount ∧
      ∀ x, x ≠ b → u.can[ch].buf[x] = s.can[ch].buf[x]) ∧
  (∀ (t : Tick) (ch : Fin 6) (f : CanFrame) (q : List CanFrame) (delay : Option Nat) (s : State),
    Quiet s t → canSends s ch = true → s.can[ch].offer = .queue → s.can[ch].queue = f :: q →
    s.can[ch].tecCount ≤ 255 →
    After (.transmissionEnd t ch .sent delay) s fun u =>
      u.can[ch].queue = q ∧ u.tal[126] = s.tal[126] + 1 ∧
      u.can[ch].lastSent = some { f with esi := f.fdf && s.can[ch].esi } ∧
      u.can[ch].buf = s.can[ch].buf)

/-- Reset keeps the NOR but for what a programmer left there, the stored fault log and the commands that wait,
and clears the rest (R392, R394); the straps are sampled, the time base starts at 0 unless STRAP_TEST holds
phase 1, die ID and trims come from the fault log's flash, a slot is chosen, its records are written and the
device locks, with the lock-time checks made (indexes past 63 modulo 64: the model's choice, log 81) and the pairs of powered cores released (R393, R398, R441). A
slot that fails is bad, and two bad slots leave BOOT_FAILED (R394). That a record not yet stored is lost at
reset is the model's choice (log 77).
Rows that complete here, each with its own effect under conditions on the state and the operands alone:
RESET_ASSERT, RESET_RELEASE, PLL_LOCK, FLOG_READ, SLOT_SELECT, IMAGE_READ_DONE, START_LOCK. -/
def Obligations.StartUp : Prop :=
  (∀ (t : Tick) (cells : List (Nat × Byte)) (s : State),
    After (.resetAssert t cells) s fun u =>
      u.boot.phase = 0 ∧ u.boot.locked = false ∧ u.clk.locked = false ∧
      u.nor = cells.foldl (fun m c => sput 0xFF m c.1 c.2) s.nor ∧
      u.flog = { s.flog with waiting := [] } ∧ u.pending = s.pending ∧ u.ce = State.reset.ce ∧
      u.pba = State.reset.pba ∧ u.regs = State.reset.regs ∧ u.mem = []) ∧
  (∀ (t : Tick) (bs sp st : Bool) (s : State), Quiet s t → s.boot.released = false →
    After (.resetRelease t bs sp st) s fun u =>
      u.boot = { s.boot with
        released := true, bootSlot := bs, splitEn := sp, strapTest := st
        phase := if s.rng.powered = true ∧ s.rng.shutdown = false then 1 else 0 }) ∧
  (∀ (t : Tick) (s : State), Quiet s t → s.boot.phase = 1 →
    (s.boot.strapTest = false → After (.pllLock t) s fun u =>
      u.clk.locked = true ∧ u.clk.now = 0 ∧ u.boot = { s.boot with phase := 2 }) ∧
    (s.boot.strapTest = true → After (.pllLock t) s fun u => u.boot = s.boot)) ∧
  (∀ (t : Tick) (s : State), Quiet s t → s.boot.phase = 2 →
    After (.flogRead t) s fun u =>
      u.boot.phase = 3 ∧ u.skd.dieId = s.flog.die ∧
      ∀ c : Fin 24, u.cap.conv[c].gain = bits s.flog.capTrim[c].toNat 31 16 ∧
        u.cap.conv[c].offset = sgn 16 s.flog.capTrim[c].toNat) ∧
  (∀ (t : Tick) (s : State), Quiet s t → s.boot.phase = 3 → causeOf s (firstSlot s) = 0 →
    headerCause s (firstSlot s) = 0 →
    After (.slotSelect t false) s fun u =>
      u.boot = { s.boot with phase := 4, slot := firstSlot s } ∧ u.tal = s.tal) ∧
  (∀ (t : Tick) (s : State), Quiet s t → s.boot.phase = 3 →
    causeOf s (firstSlot s) ≠ 0 ∨ headerCause s (firstSlot s) ≠ 0 →
    causeOf s (!firstSlot s) = 0 → headerCause s (!firstSlot s) = 0 →
    After (.slotSelect t false) s fun u =>
      u.boot.phase = 4 ∧ u.boot.slot = !firstSlot s ∧
      u.tal[142] = s.tal[142] + (if causeOf s (firstSlot s) = 0 then 1 else 0) ∧
      causeOf u (firstSlot s) = (if causeOf s (firstSlot s) = 0 then headerCause s (firstSlot s)
        else causeOf s (firstSlot s))) ∧
  (∀ (t : Tick) (silent : Bool) (s : State), Quiet s t → s.boot.phase = 3 →
    (∀ b : Bool, silent = true ∨ causeOf s b ≠ 0 ∨ headerCause s b ≠ 0) →
    After (.slotSelect t silent) s fun u =>
      u.boot.failed = true ∧ u.boot.locked = false ∧
      (∀ b : Bool, causeOf u b = if causeOf s b ≠ 0 then causeOf s b
        else if silent then 7 else headerCause s b) ∧
      u.tal[142] = s.tal[142] + (if s.boot.causeA = 0 then 1 else 0) +
        (if s.boot.causeB = 0 then 1 else 0) ∧
      u.ce = State.reset.ce ∧ u.glk = State.reset.glk) ∧
  (∀ (t : Tick) (s : State), Quiet s t → s.boot.phase = 4 → s.boot.failed = false →
    imageCause s s.boot.slot = 0 →
    After (.imageReadDone t) s fun u =>
      u.boot.phase = 5 ∧ u.boot.slot = s.boot.slot ∧ u.boot.imgId = hdrImage s s.boot.slot ∧
      u.boot.version = hdrVersion s s.boot.slot ∧ u.boot.secver = hdrSecver s s.boot.slot ∧
      u.nor = s.nor) ∧
  (∀ (t : Tick) (s : State), Quiet s t → s.boot.phase = 4 → s.boot.failed = false →
    imageCause s s.boot.slot ≠ 0 →
    After (.imageReadDone t) s fun u =>
      causeOf u s.boot.slot = imageCause s s.boot.slot ∧ u.tal[142] = s.tal[142] + 1 ∧
      (causeOf s (!s.boot.slot) = 0 → u.boot.phase = 3 ∧ u.boot.failed = false ∧ u.regs = s.regs ∧
        u.mem = s.mem) ∧
      (causeOf s (!s.boot.slot) ≠ 0 → u.boot.failed = true ∧ u.boot.locked = false)) ∧
  (∀ (t : Tick) (s : State), OnTime s t → s.boot.phase = 5 →
    After (.startLock t) s fun u =>
      u.boot.phase = 7 ∧ u.boot.locked = true ∧ u.red.started = some t ∧ u.cap.calFrom = t ∧
      (∀ r : Fin 32, u.lrg.ring[r].bad = ringBad s r) ∧
      (∀ m : Fin 2, machOn s m = true → trxFails s m ≠ 0 → u.trx.cfgBad = true) ∧
      (∀ l : Fin 24, legBad s l = true → u.gsc.cfgBad = true) ∧
      ∀ k : Fin 6, u.red.pair[k].state = (if domOn s (pairDom k) then (if pairSplit s k then 1 else 0)
        else 3) ∧
        u.red.pair[k].released = (domOn s (pairDom k) || s.red.pair[k].released))

/-- ERASE and PROGRAM begin for addresses inside the slot that did not start and set OTHER to UNKNOWN,
or end with RESULT 3, VERIFY begins, and a GO while one is busy is refused with code REFUSED (R401); the
operation that ends erases a sector, clears bits or judges the slot, or meets an error and leaves every other
byte as it was (R399, R401). That a program
of the NOR clears bits is the model's presumption (log 10).
Rows that complete here, each with its own effect under conditions on the state and the operands alone:
ERASE, PROGRAM, VERIFY, NV_OPERATION_DONE. -/
def Obligations.NorOperations : Prop :=
  (∀ (t : Tick) (id : Fin 64) (s : State), Quiet s t → Canonical s → s.boot.nvBusy = false →
    inOther s (bootNvaddrAddr s / 0x10000 * 0x10000) 0x10000 = true →
    After (.erase t id) s fun u =>
      u.boot = { s.boot with
        nvBusy := true, nvResult := 0, nvOp := 0, nvData := [], other := 0
        nvAddr := bootNvaddrAddr s / 0x10000 * 0x10000 } ∧
      u.bus.err = 0 ∧ u.nor = s.nor) ∧
  (∀ (t : Tick) (id : Fin 64) (s : State), Quiet s t → Canonical s → s.boot.nvBusy = false →
    inOther s (bootNvaddrAddr s / 0x10000 * 0x10000) 0x10000 = false →
    After (.erase t id) s fun u =>
      u.boot.nvResult = 3 ∧ u.boot.nvBusy = false ∧ u.boot.other = s.boot.other ∧ u.nor = s.nor ∧
      u.bus.err = 0) ∧
  (∀ (t : Tick) (id : Fin 64) (s : State), Quiet s t → Canonical s → s.boot.nvBusy = false →
    inOther s (bootNvaddrAddr s) (32 * bootNvlenLen32 s) = true →
    sramBase ≤ 32 * bootNvsramAddr s → 32 * bootNvsramAddr s + 32 * bootNvlenLen32 s ≤ sramEnd →
    (∀ i, i < bootNvlenLen32 s → flipsAt s (32 * (bootNvsramAddr s + i)) = []) →
    After (.program t id) s fun u =>
      u.boot = { s.boot with
        nvBusy := true, nvResult := 0, nvOp := 1, nvAddr := bootNvaddrAddr s, other := 0
        nvData := memBytes s (32 * bootNvsramAddr s) (32 * bootNvlenLen32 s) } ∧
      u.bus.err = 0 ∧ u.nor = s.nor) ∧
  (∀ (t : Tick) (id : Fin 64) (s : State), Quiet s t → s.boot.nvBusy = false →
    After (.verify t id) s fun u =>
      u.boot = { s.boot with nvBusy := true, nvResult := 0, nvOp := 2, nvAddr := 0, nvData := [] } ∧
      u.bus.err = 0 ∧ u.nor = s.nor) ∧
  (∀ (t : Tick) (id : Fin 64) (c : Instr) (s : State), Quiet s t → s.boot.nvBusy = true →
    c = .erase t id ∨ c = .program t id ∨ c = .verify t id ∨ c = .select t id →
    After c s fun u => u.bus.err = 7 ∧ u.boot = s.boot ∧ u.nor = s.nor) ∧
  (∀ (t : Tick) (s : State), Quiet s t → Canonical s → s.boot.nvBusy = true → s.boot.nvOp = 0 →
    After (.nvOperationDone t false) s fun u =>
      u.boot = { s.boot with nvBusy := false, nvResult := 0 } ∧
      ∀ a, norByte u a =
        if s.boot.nvAddr ≤ a ∧ a < s.boot.nvAddr + 0x10000 then 0xFF else norByte s a) ∧
  (∀ (t : Tick) (s : State), Quiet s t → Canonical s → s.boot.nvBusy = true → s.boot.nvOp = 1 →
    After (.nvOperationDone t false) s fun u =>
      u.boot = { s.boot with nvBusy := false, nvResult := 0 } ∧
      ∀ a, norByte u a = if s.boot.nvAddr ≤ a ∧ a < s.boot.nvAddr + s.boot.nvData.length
        then norByte s a &&& s.boot.nvData.getD (a - s.boot.nvAddr) 0 else norByte s a) ∧
  (∀ (t : Tick) (s : State), Quiet s t → s.boot.nvBusy = true → s.boot.nvOp = 2 →
    After (.nvOperationDone t false) s fun u =>
      u.boot.nvBusy = false ∧ u.boot.nvResult = 0 ∧ u.nor = s.nor ∧
      u.boot.other = (if headerCause s (!s.boot.slot) = 0 ∧ imageCause s (!s.boot.slot) = 0
        then 1 else 2)) ∧
  (∀ (t : Tick) (s : State), Quiet s t → Canonical s → s.boot.nvBusy = true →
    s.boot.nvOp = 0 ∨ s.boot.nvOp = 1 →
    After (.nvOperationDone t true) s fun u =>
      u.boot = { s.boot with nvBusy := false, nvResult := 1 } ∧
      ∀ a, a < s.boot.nvAddr ∨
        s.boot.nvAddr + (if s.boot.nvOp = 0 then 0x10000 else s.boot.nvData.length) ≤ a →
        norByte u a = norByte s a) ∧
  (∀ (t : Tick) (s : State), Quiet s t → s.boot.nvBusy = true → s.boot.nvOp = 2 →
    After (.nvOperationDone t true) s fun u =>
      u.boot.nvBusy = false ∧ u.boot.nvResult = 1 ∧ u.boot.other = 2 ∧ u.nor = s.nor) ∧
  (∀ (t : Tick) (id : Fin 64) (s : State), Quiet s t → s.boot.nvBusy = false →
    inOther s (bootNvaddrAddr s) (32 * bootNvlenLen32 s) = false ∨
      32 * bootNvsramAddr s < sramBase ∨ sramEnd < 32 * bootNvsramAddr s + 32 * bootNvlenLen32 s →
    After (.program t id) s fun u =>
      u.boot.nvResult = 3 ∧ u.boot.nvBusy = false ∧ u.boot.other = s.boot.other ∧ u.nor = s.nor ∧
      u.bus.err = 0)

/-- SELECT writes to the other slot the GENERATION of the started slot plus 1, only if the other slot
is VERIFIED, and an error of the NOR ends it with RESULT 1; the next start-up with BOOT_SLOT low then chooses the other slot (R399).
Rows that complete here, each with its own effect under conditions on the state and the operands alone:
SELECT, NV_OPERATION_DONE. -/
def Obligations.SelectWritesGeneration : Prop :=
  (∀ (t : Tick) (id : Fin 64) (s : State), Quiet s t → s.boot.nvBusy = false → s.boot.other = 1 →
    After (.select t id) s fun u =>
      u.boot = { s.boot with nvBusy := true, nvResult := 0, nvOp := 3, nvAddr := 0, nvData := [] } ∧
      u.bus.err = 0 ∧ u.nor = s.nor) ∧
  (∀ (t : Tick) (id : Fin 64) (s : State), Quiet s t → s.boot.nvBusy = false → s.boot.other ≠ 1 →
    After (.select t id) s fun u =>
      u.boot.nvResult = 2 ∧ u.boot.nvBusy = false ∧ u.nor = s.nor) ∧
  (∀ (t : Tick) (s : State), Quiet s t → Canonical s → s.boot.nvBusy = true → s.boot.nvOp = 3 →
    After (.nvOperationDone t false) s fun u =>
      generation u (!s.boot.slot) = (generation s s.boot.slot + 1) % 2 ^ 32 ∧
      u.boot = { s.boot with nvBusy := false, nvResult := 0 } ∧
      (∀ a, a < slotBase (!s.boot.slot) ∨ slotBase (!s.boot.slot) + 4 ≤ a →
        norByte u a = norByte s a) ∧
      ∀ v : State, v.nor = u.nor → v.boot.bootSlot = false → firstSlot v = !s.boot.slot) ∧
  (∀ (t : Tick) (s : State), Quiet s t → Canonical s → s.boot.nvBusy = true → s.boot.nvOp = 3 →
    After (.nvOperationDone t true) s fun u =>
      u.boot = { s.boot with nvBusy := false, nvResult := 1 } ∧
      ∀ a, a < slotBase (!s.boot.slot) ∨ slotBase (!s.boot.slot) + 4 ≤ a → norByte u a = norByte s a)

/-- An activation is taken for an engine partition of a VERIFIED slot, is not permitted for another
and ends with RESULT 2 without one; a partition missing or with a bad digest ends it with RESULT 6, one
too large with RESULT 7, one whose register records differ with RESULT 3, and a good one is staged and
begins with its first engine stopped (R402, R404). A step that does not come into step ends with RESULT 5, or
goes on to the hand-over with FORCE (R402). The anti-rollback
counter is raised in OFF or STANDBY alone (R400).
Rows that complete here, each with its own effect under conditions on the state and the operands alone:
ACTIVATE, ACTIVATION_READ_DONE, STEP_WAIT_EXPIRY, RAISE. -/
def Obligations.Activations : Prop :=
  (∀ (t : Tick) (v : Word32) (s : State), Quiet s t → v.getLsbD 31 = true → s.boot.act.busy = false →
    (partEngines (bits v.toNat 3 0)).isEmpty = false → s.boot.other = 1 →
    After (.activate t v) s fun u =>
      u.boot = { s.boot with act :=
        { busy := true, result := 1, part := bits v.toNat 3 0, force := v.getLsbD 29 } } ∧
      u.ce = s.ce) ∧
  (∀ (t : Tick) (v : Word32) (s : State), Quiet s t → v.getLsbD 31 = true → s.boot.act.busy = false →
    ((partEngines (bits v.toNat 3 0)).isEmpty = true ∨ s.boot.other ≠ 1) →
    After (.activate t v) s fun u =>
      u.boot.act.busy = false ∧
      u.boot.act.result = (if (partEngines (bits v.toNat 3 0)).isEmpty then 4 else 2) ∧
      u.tal[140] = s.tal[140] + 1 ∧ u.ce = s.ce) ∧
  (∀ (t : Tick) (s : State), Quiet s t → s.boot.act.busy = true → s.boot.act.staged = false →
    partEntry s (!s.boot.slot) s.boot.act.part = none →
    After (.activationReadDone t) s fun u =>
      u.boot.act.busy = false ∧ u.boot.act.result = 6 ∧ u.tal[140] = s.tal[140] + 1 ∧
      u.regs = s.regs) ∧
  (∀ (t : Tick) (p : PartEntry) (s : State), Quiet s t → s.boot.act.busy = true → s.boot.act.staged = false →
    partEntry s (!s.boot.slot) s.boot.act.part = some p →
    1024 * bootStageszStageKib s < p.length →
    After (.activationReadDone t) s fun u =>
      u.boot.act.busy = false ∧ u.boot.act.result = 7 ∧ u.tal[140] = s.tal[140] + 1 ∧
      u.regs = s.regs) ∧
  (∀ (t : Tick) (p : PartEntry) (s : State), Quiet s t → s.boot.act.busy = true → s.boot.act.staged = false →
    partEntry s (!s.boot.slot) s.boot.act.part = some p →
    p.length ≤ 1024 * bootStageszStageKib s → digestOk s (!s.boot.slot) p = false →
    After (.activationReadDone t) s fun u =>
      u.boot.act.busy = false ∧ u.boot.act.result = 6 ∧ u.tal[140] = s.tal[140] + 1 ∧
      u.regs = s.regs) ∧
  (∀ (t : Tick) (p : PartEntry) (e : Fin 8) (ts : List BootTask) (s : State), Quiet s t →
    s.boot.act.busy = true → s.boot.act.staged = false →
    partEntry s (!s.boot.slot) s.boot.act.part = some p →
    p.length ≤ 1024 * bootStageszStageKib s → digestOk s (!s.boot.slot) p = true →
    (itemsOf s (!s.boot.slot) s.boot.act.part).all (sameReg s) = true →
    actTasks s s.boot.act.part = .stop e :: ts →
    After (.activationReadDone t) s fun u =>
      u.boot.act.busy = true ∧ u.boot.act.staged = true ∧ u.ce[e].run = false ∧ u.regs = s.regs ∧
      (s.ce[e].state = .running → u.ce[e].state = .running ∧ u.boot.act.tasks = .stop e :: ts) ∧
      (s.ce[e].state ≠ .running → u.ce[e].state = .stopped ∧
        ∃ x, u.boot.act.tasks.head? = some (.load x true) ∧ u.ce[x].loadBusy = true)) ∧
  (∀ (t : Tick) (c : Fin 7) (e : Fin 8) (ts : List BootTask) (s : State), OnTime s t →
    s.boot.act.busy = true → s.boot.act.staged = true → s.boot.act.begun = true →
    s.boot.act.tasks = .inStep c e :: ts →
    s.boot.act.since + msTk * max (bootCfgStepWait s) 1 ≤ t →
    (s.boot.act.force = false ∨ s.ce[e].state = .fault → After (.stepWaitExpiry t) s fun u =>
      u.boot.act.ending = 5 ∧ u.boot.act.busy = true ∧ u.ce[e].run = false ∧
      (s.ce[e].state = .running → u.boot.act.tasks = [.stop e, .load e false, .run e]) ∧
      (s.ce[e].state ≠ .running → u.boot.act.tasks = [.load e false, .run e])) ∧
    (∀ (g : Fin 4) (x : Fin 8), s.boot.act.force = true → s.ce[e].state ≠ .fault →
      ts.head? = some (.handOver g x) → s.red.tok[g].state = .held → s.red.tok[g].holder ≠ some x →
      eligible s g x = true → s.ce[x].state ≠ .stopped → After (.stepWaitExpiry t) s fun u =>
        u.boot.act.tasks = ts ∧ u.boot.act.begun = true ∧ u.boot.act.busy = true ∧
        u.red.tok[g].handing = some x)) ∧
  (∀ (t : Tick) (s : State), Quiet s t → s.pba.mode = .off ∨ s.pba.mode = .standby →
    After (.raise t 0x5EC1) s fun u =>
      u.flog = { s.flog with steps := max s.flog.steps s.boot.secver } ∧ u.tal[140] = s.tal[140]) ∧
  (∀ (t : Tick) (s : State), Quiet s t → s.pba.mode ≠ .off → s.pba.mode ≠ .standby →
    After (.raise t 0x5EC1) s fun u => u.flog = s.flog ∧ u.tal[140] = s.tal[140] + 1) ∧
  (∀ (t : Tick) (v : BitVec 16) (s : State), Quiet s t → v ≠ 0x5EC1 →
    After (.raise t v) s fun u => u.flog = s.flog ∧ u.tal = s.tal)

/-- HOLD of a powered pair asks it for its checkpoint, or stops a pair in STATE 2 at once; CHECKPOINT stops it, a
wait that runs out gives RESULT 5 with nothing changed, and the load releases the cores, counts the
restart and gives its RESULT (R405).
Rows that complete here, each with its own effect under conditions on the state and the operands alone:
HOLD, CHECKPOINT, HOLD_WAIT_EXPIRY, PAIR_LOAD_DONE. -/
def Obligations.PairRestarts : Prop :=
  (∀ (t : Tick) (k : Fin 6) (v : Word32) (s : State), OnTime s t → v.getLsbD 31 = true →
    s.boot.pair[k].step = 0 → domOn s (pairDom k) = true → s.red.pair[k].state ≠ 2 →
    After (.hold t k v) s fun u =>
      u.boot.pair[k] = { s.boot.pair[k] with
        step := 1, other := v.getLsbD 29, from2 := false, since := t, result := 1 } ∧
      u.sys.restartReq[mainCore k] = true ∧ u.red = s.red ∧ u.mem = s.mem ∧
      ∀ x, x ≠ k → u.boot.pair[x] = s.boot.pair[x]) ∧
  (∀ (t : Tick) (k : Fin 6) (v : Word32) (s : State), OnTime s t → v.getLsbD 31 = true →
    s.boot.pair[k].step = 0 → domOn s (pairDom k) = true → s.red.pair[k].state = 2 →
    After (.hold t k v) s fun u =>
      u.boot.pair[k] = { s.boot.pair[k] with
        step := 3, other := v.getLsbD 29, from2 := true, since := t, result := 1 } ∧
      u.red.pair[k] = { s.red.pair[k] with released := false } ∧
      ∀ x, x ≠ k → u.boot.pair[x] = s.boot.pair[x] ∧ u.red.pair[x] = s.red.pair[x]) ∧
  (∀ (t : Tick) (k : Fin 6) (s : State), OnTime s t → s.boot.pair[k].step = 1 →
    After (.checkpoint t k) s fun u =>
      u.boot.pair[k] = { s.boot.pair[k] with step := 3, since := t } ∧
      u.red.pair[k] = { s.red.pair[k] with released := false } ∧
      u.sys.restartReq[mainCore k] = false ∧ ∀ x, x ≠ k → u.boot.pair[x] = s.boot.pair[x]) ∧
  (∀ (t : Tick) (k : Fin 6) (s : State), OnTime s t → s.boot.pair[k].step = 1 →
    s.boot.pair[k].since + msTk * max (bootCfgHoldWait s) 1 ≤ t →
    After (.holdWaitExpiry t k) s fun u =>
      u.boot.pair[k] = { s.boot.pair[k] with step := 0, result := 5 } ∧ u.red = s.red ∧
      u.mem = s.mem ∧ u.sys.restartReq[mainCore k] = false) ∧
  (∀ (t : Tick) (k : Fin 6) (s : State), Quiet s t → s.boot.pair[k].step = 3 →
    After (.pairLoadDone t k) s fun u =>
      u.boot.pair[k] = { s.boot.pair[k] with
        step := 0, restarts := (s.boot.pair[k].restarts + 1) % 256
        result := pairResult s (s.boot.slot != s.boot.pair[k].other) k } ∧
      u.red.pair[k] = { s.red.pair[k] with
        state := if pairSplit s k then 1 else 0, released := true } ∧
      u.tal[141] = s.tal[141] + 1 ∧ ∀ x, x ≠ k → u.red.pair[x] = s.red.pair[x]) ∧
  (∀ (t : Tick) (k : Fin 6) (v : Word32) (s : State), OnTime s t →
    v.getLsbD 31 = false ∨ s.boot.pair[k].step ≠ 0 ∨ domOn s (pairDom k) = false →
    After (.hold t k v) s fun u => u.boot.pair = s.boot.pair ∧ u.red = s.red ∧ u.mem = s.mem)

/-- A sequence loop takes the table and the length written and begins with the first enabled entry, with
PERIOD 0 as soon as none runs; a loop that is due while another runs is counted (R412). A conversion begins
at a reserved aperture before anything else, after 16 sequence conversions with a die sensor, and with a
sensor when the converter has been idle (R413 to R415); it ends 800 tk later with its code in the mean of its
entry, which the next entry or the end of the loop follows, in the current word of a bridge unless its period
is unsampled, or in a temperature, which the warning follows (R204, R411, R412, R416, R417).
Rows that complete here, each with its own effect under conditions on the state and the operands alone:
SEQUENCE_LOOP_START, CONVERSION_APERTURE, IDLE_SENSOR_CONVERSION, CONVERSION_END, HKA_RESULT_CAPTURE. -/
def Obligations.Housekeeping : Prop :=
  (∀ (t : Tick) (o : Option (Fin 64)) (s : State), Quiet s t → hkaCfgRun s = true →
    s.hka.looping = false → loopTick (s.at t) = true ∨ loopTicks s = 0 →
    ((all64.find? fun i => decide (i.val ≤ hkaSeqLast s) &&
      entEn (BitVec.ofNat 32 (rd s (0x60010100 + 4 * i.val)))) = o) →
    After (.sequenceLoopStart t) s fun u =>
      u.hka.looping = o.isSome ∧ u.hka.entry = o.getD s.hka.entry ∧ u.hka.period = hkaSeqPeriod s ∧
      u.hka.last = hkaSeqLast s ∧ u.hka.loopFrom = u.clk.power ∧ u.hka.done = 0 ∧
      (∀ i : Fin 64, u.hka.ent[i] = BitVec.ofNat 32 (rd s (0x60010100 + 4 * i.val))) ∧
      u.hka.busy = s.hka.busy) ∧
  (∀ (t : Tick) (s : State), Quiet s t → hkaCfgRun s = true → s.hka.looping = true → loopTick (s.at t) = true →
    After (.sequenceLoopStart t) s fun u =>
      u.hka = { s.hka with due := true } ∧ u.tal[144] = s.tal[144] + 1) ∧
  (∀ (t : Tick) (r : Reservation) (s : State), Quiet s t → s.hka.busy = none →
    reservedNow (s.at t) = some r →
    After (.conversionAperture t) s fun u =>
      u.hka = { s.hka with
        resv := s.hka.resv.filter fun q => q != r
        busy := some ⟨.urgent r.bridge r.v, r.input, false, r.aperture, refSettling s false⟩ }) ∧
  (∀ (t : Tick) (s : State), Quiet s t → s.hka.busy = none → reservedNow (s.at t) = none →
    beforeReserved (s.at t) = true → 16 ≤ s.hka.since →
    After (.conversionAperture t) s fun u =>
      u.hka = { s.hka with busy := some ⟨.sensor s.hka.next, 32 + s.hka.next.val, false,
        u.clk.power, refSettling s false⟩ }) ∧
  (∀ (t : Tick) (s : State), Quiet s t → s.hka.busy = none → reservedNow (s.at t) = none →
    beforeReserved (s.at t) = true → s.hka.since < 16 → s.hka.looping = true →
    0 < s.hka.done ∨ s.hka.ended + 40 * entDelay s.hka.ent[s.hka.entry] ≤ (s.at t).clk.power →
    After (.conversionAperture t) s fun u =>
      u.hka = { s.hka with busy := some ⟨.entry s.hka.entry, entInput s.hka.ent[s.hka.entry],
        entRef s.hka.ent[s.hka.entry], u.clk.power,
        refSettling s (entRef s.hka.ent[s.hka.entry])⟩ }) ∧
  (∀ (t : Tick) (s : State), Quiet s t → s.hka.busy = none → reservedNow (s.at t) = none →
    beforeReserved (s.at t) = true → s.hka.ended + 8000 ≤ (s.at t).clk.power →
    After (.idleSensorConversion t) s fun u =>
      u.hka = { s.hka with busy := some ⟨.sensor s.hka.next, 32 + s.hka.next.val, false,
        u.clk.power, refSettling s false⟩ }) ∧
  (∀ (t : Tick) (code : Fin 4096) (e : Fin 64) (c : HkConv) (s : State), Quiet s t →
    s.hka.busy = some c → c.kind = .entry e → c.aperture + 800 ≤ (s.at t).clk.power →
    s.hka.done + 1 ≤ entRepeat s.hka.ent[e] →
    After (.conversionEnd t code) s fun u =>
      u.hka = { s.hka with
        busy := none, ended := c.aperture + 800, done := s.hka.done + 1
        sum := s.hka.sum + code.val, unsettled := s.hka.unsettled || c.unsettled
        since := s.hka.since + 1 }) ∧
  (∀ (t : Tick) (code : Fin 4096) (e : Fin 64) (i : Fin 48) (c : HkConv) (s : State), Quiet s t →
    s.hka.busy = some c → c.kind = .entry e → c.aperture + 800 ≤ (s.at t).clk.power →
    s.hka.done = entRepeat s.hka.ent[e] → c.input = i.val →
    After (.conversionEnd t code) s fun u =>
      u.hka.busy = none ∧ u.hka.done = 0 ∧ u.hka.sum = 0 ∧
      u.hka.res[i] = { s.hka.res[i] with
        unsettled := s.hka.unsettled || c.unsettled, count := s.hka.done
        mean := (s.hka.sum + code.val) * 16 / (s.hka.done + 1), stamp := c.aperture } ∧
      (∀ k, k ≠ i → u.hka.res[k] = s.hka.res[k]) ∧
      (∀ x : Fin 64, nextEntry? s.hka (e.val + 1) = some x →
        u.hka.entry = x ∧ u.hka.looping = s.hka.looping) ∧
      (nextEntry? s.hka (e.val + 1) = none → s.hka.due = false → s.hka.period ≠ 0 →
        u.hka.looping = false) ∧
      (nextEntry? s.hka (e.val + 1) = none → s.hka.due = true ∨ s.hka.period = 0 →
        u.hka.loopFrom = u.clk.power ∧ u.hka.due = false ∧ u.hka.period = hkaSeqPeriod s)) ∧
  (∀ (t : Tick) (code : Fin 4096) (b : Fin 3) (v : Bool) (c : HkConv) (s : State), Quiet s t →
    s.hka.busy = some c → c.kind = .urgent b v → c.aperture + 800 ≤ (s.at t).clk.power →
    After (.conversionEnd t code) s fun u =>
      u.hka.busy = none ∧ u.axb.b[b] = (if s.axb.b[b].missed then s.axb.b[b] else if v
        then { s.axb.b[b] with codeV := code.val, iv := currentWord (axbZeroZeroV s b) code.val }
        else { s.axb.b[b] with codeU := code.val, iu := currentWord (axbZeroZeroU s b) code.val }) ∧
      ∀ k, k ≠ b → u.axb.b[k] = s.axb.b[k]) ∧
  (∀ (t : Tick) (code : Fin 4096) (i : Fin 14) (c : HkConv) (s : State), Quiet s t →
    s.hka.busy = some c → c.kind = .sensor i → c.aperture + 800 ≤ (s.at t).clk.power →
    After (.conversionEnd t code) s fun u =>
      u.hka = { s.hka with
        busy := none, ended := c.aperture + 800, since := s.hka.since - 16
        next := Fin.ofNat 14 (i.val + 1) } ∧
      u.thm.temp[i] = Config.dieTemp s.flog.trim i code ∧
      u.thm.peak[i] = max s.thm.peak[i] (Config.dieTemp s.flog.trim i code) ∧
      u.thm.warn = (if s.thm.warn then u.thm.temp.toList.any (fun x => decide (1450 ≤ x))
        else u.thm.temp.toList.any fun x => decide (1500 ≤ x)) ∧
      ∀ k, k ≠ i → u.thm.temp[k] = s.thm.temp[k] ∧ u.thm.peak[k] = s.thm.peak[k]) ∧
  (∀ (t : Tick) (i : Fin 48) (s : State), Quiet s t →
    After (.hkaResultCapture t i) s fun u =>
      u.hka.res[i] = { s.hka.res[i] with captured := s.hka.res[i].stamp } ∧
      ∀ k, k ≠ i → u.hka.res[k] = s.hka.res[k])

/-- At every multiple of 1 ms an enabled thermal model takes the loss of the millisecond, moves its two
stages, and its LIMIT and HOT follow the temperature; a model that is not enabled clears its sums
(R419 to R421). A coolant temperature not written for 1 s is stale (R420).
Rows that complete here, each with its own effect under conditions on the state and the operands alone:
MODEL_STEP, COOLANT_STALE. -/
def Obligations.ThermalModels : Prop :=
  (∀ (t : Tick) (m : Fin 3) (s : State), OnTime s t → t % msTk = 0 → thmMsrcEn s m = true →
    After (.modelStep t) s fun u =>
      u.thm.model[m].p = lossOf s m ∧
      u.thm.model[m].dt1 =
        stageOf s.thm.model[m].dt1 (lossOf s m) (thmMrthR1 s m) (thmMtauTau1 s m) ∧
      u.thm.model[m].dt2 =
        stageOf s.thm.model[m].dt2 (lossOf s m) (thmMrthR2 s m) (thmMtauTau2 s m) ∧
      u.thm.model[m].tj = ((coolant (s.at t) m).add u.thm.model[m].dt1).add u.thm.model[m].dt2 ∧
      u.thm.model[m].limit = limitOf s m u.thm.model[m].tj ∧
      u.thm.model[m].n = 0 ∧ u.thm.model[m].nv = 0 ∧
      u.thm.model[m].hot = (if s.thm.model[m].hot
        then !u.thm.model[m].tj.le (Frac.of ((thmMlimTjTrip s m : Int) - 5) 1)
        else (Frac.of (thmMlimTjTrip s m) 1).le u.thm.model[m].tj)) ∧
  (∀ (t : Tick) (m : Fin 3) (s : State), OnTime s t → t % msTk = 0 → thmMsrcEn s m = false →
    After (.modelStep t) s fun u =>
      u.thm.model[m] = { s.thm.model[m] with n := 0, sumSq := 0, sumAbs := 0, nv := 0, sumV := 0 }) ∧
  (∀ (t : Tick) (m : Fin 3) (s : State), Quiet s t → coolOld (s.at t) m = true → s.thm.model[m].stale = false →
    After (.coolantStale t m) s fun u =>
      u.thm.model[m] = { s.thm.model[m] with stale := true } ∧ u.tal[147] = s.tal[147] + 1 ∧
      ∀ k, k ≠ m → u.thm.model[k] = s.thm.model[k])

/-- A TIME packet is made at every multiple of 1 ms (R428), a MESSAGE packet by a write of TRC_MSG with
the writer's ID and the stamp, or it is dropped and counted without room, and a LOSS packet tells of what was
dropped once room has returned (R429, R430); the kept samples of a traced channel make SAMPLE packets of at
most 16 (R79, R426, R427). The port sends the next packet in the order of R430 between K27.7 and its CRC, a
pair of K28.5 before it where one is due, and is busy for its characters (R425, R426). Which samples are kept
and where the pair of K28.5 stands in a run of packets are the model's choices (log 125, log 96).
Rows that complete here, each with its own effect under conditions on the state and the operands alone:
TRACE_TIME, MESSAGE, SAMPLE_PACKET, PACKET_SEND. -/
def Obligations.TracePort : Prop :=
  (∀ (t : Tick) (s : State), OnTime s t → t % msTk = 0 → trcCfgEn s = true →
    After (.traceTime t) s fun u =>
      let lost := s.trc.lostSamples + s.trc.lostEvents + s.trc.lostMessages
      u.trc.buf = s.trc.buf ++ [⟨.time, 1 :: leBytes 8 t⟩] ++
        (if 0 < lost ∧ traceLevel s + 12 ≤ 16384 - 64 then [⟨.loss, 5 ::
          (leBytes 2 (min s.trc.lostSamples 65535) ++ leBytes 2 (min s.trc.lostEvents 65535) ++
            leBytes 2 (min s.trc.lostMessages 65535))⟩] else []) ∧
      u.trc.lostSamples + u.trc.lostEvents + u.trc.lostMessages =
        (if traceLevel s + 12 ≤ 16384 - 64 then 0 else lost) ∧
      u.trc.busy = s.trc.busy ∧ u.tal = s.tal) ∧
  (∀ (t : Tick) (id : Fin 64) (v : Word32) (s : State), OnTime s t → trcCfgEn s = true →
    traceLevel s + 13 ≤ 16384 - 64 →
    After (.message t id v) s fun u =>
      let lost := s.trc.lostSamples + s.trc.lostEvents + s.trc.lostMessages
      u.trc.buf = s.trc.buf ++
        [⟨.message, 4 :: BitVec.ofNat 8 id.val :: (leBytes 4 t ++ leBytes 4 v.toNat)⟩] ++
        (if 0 < lost then [⟨.loss, 5 ::
          (leBytes 2 (min s.trc.lostSamples 65535) ++ leBytes 2 (min s.trc.lostEvents 65535) ++
            leBytes 2 (min s.trc.lostMessages 65535))⟩] else []) ∧
      u.trc.lostSamples + u.trc.lostEvents + u.trc.lostMessages = 0 ∧
      u.bus.err = 0 ∧ u.tal = s.tal) ∧
  (∀ (t : Tick) (id : Fin 64) (v : Word32) (s : State), OnTime s t → trcCfgEn s = true →
    16384 - 64 < traceLevel s + 13 →
    After (.message t id v) s fun u =>
      u.trc = { s.trc with lostMessages := s.trc.lostMessages + 1 } ∧
      u.tal[150] = s.tal[150] + 1 ∧ u.bus.err = 0) ∧
  (∀ (t : Tick) (lane : Fin 4) (k : Fin 24) (qs : List Sample) (s : State), OnTime s t →
    trcCfgEn s = true → capTraceEn s = true → capTraceCh3Ch0 s / 64 ^ lane.val % 64 = k.val →
    s.trc.lostSamples + s.trc.lostEvents + s.trc.lostMessages = 0 →
    (∀ q ∈ qs, (feedAt (s.at t) k q.stamp).isSome = true) →
    traceLevel s + 42 * qs.length ≤ 16384 - 64 →
    After (.samplePacket t lane qs) s fun u =>
      let n := 2 ^ capTraceDecim s
      let runs := runsOf (40 * n) [] (keptOf n s.cap.tap[lane] qs)
      u.trc = { s.trc with buf := s.trc.buf ++ runs.map fun run =>
        ⟨.sample, 2 :: BitVec.ofNat 8 k.val :: BitVec.ofNat 8 run.length ::
          (leBytes 4 (run.head?.elim 0 fun q => q.stamp) ++ (run.map (sampleBytes (s.at t) k)).flatten)⟩ } ∧
      (∀ run ∈ runs, 1 ≤ run.length ∧ run.length ≤ 16) ∧
      runs.flatten = keptOf n s.cap.tap[lane] qs ∧
      u.cap.tap[lane] = (s.cap.tap[lane] + qs.length) % n) ∧
  (∀ (t : Tick) (p : TracePacket) (s : State), OnTime s t → trcCfgEn s = true →
    s.trc.busy ≤ 5 * t → nextPacket s.trc.buf = some p →
    After (.packetSend t) s fun u =>
      let due := commaDue (s.at t) (p.body.length + 3)
      let body := bodyAt p (if due then t + 6 else t)
      u.emitted = ⟨30, t, (if due then [0xBC, 0xBC] else []) ++ 0xFB :: (body ++ [crc8 body, 0xFD])⟩ ::
        s.emitted ∧
      u.trc.busy = 5 * t + (if due then 32 else 0) + 16 * (body.length + 3) ∧
      (s.trc.lostSamples + s.trc.lostEvents + s.trc.lostMessages = 0 →
        u.trc.buf = s.trc.buf.erase p) ∧
      u.trc.buf.take (s.trc.buf.erase p).length = s.trc.buf.erase p)

/-- A write to TAL_INC adds AMOUNT to counter COUNTER, with an AMOUNT of 0 used as 1; it is accepted
only for counters 0 to 15 and 192 to 255, and for any other it returns code REFUSED and changes
nothing but what every bus error counts and records (R374, R433).
Rows that complete here, each with its own effect under conditions on the state and the operands alone:
TAL_INC. -/
def Obligations.TallyIncrement : Prop :=
  (∀ (t : Tick) (id : Fin 64) (v : Word32) (n : Fin 256) (s : State), Quiet s t → bits v.toNat 7 0 = n.val →
    n.val < 16 ∨ 192 ≤ n.val →
    After (.talInc t id v) s fun u =>
      u.tal[n] = s.tal[n] + BitVec.ofNat 64 (max 1 (bits v.toNat 23 8)) ∧ u.bus.err = 0 ∧
      (∀ k, k ≠ n → u.tal[k] = s.tal[k]) ∧ SameBut [.clk, .bus, .tal] s u) ∧
  (∀ (t : Tick) (id : Fin 64) (v : Word32) (s : State), Quiet s t → 16 ≤ bits v.toNat 7 0 →
    bits v.toNat 7 0 < 192 →
    After (.talInc t id v) s fun u =>
      u.bus.err = 7 ∧ SameBut [.clk, .bus, .lrg, .trc, .tal] s u ∧ u.tal[132] = s.tal[132] + 1 ∧
      ∀ k : Fin 256, k ≠ 132 → k ≠ 137 → k ≠ 138 → k ≠ 149 → u.tal[k] = s.tal[k])
end

