-- ==== Sys2Proof/Laws/AreaBase.lean ====
section
/-!
SUPPORT. Areas of the state under the plain constructions: a choice, a walk over a list, a change of
one field.
-/

namespace Sys2Proof.Machine

open Sys2Proof

theorem notMem_of_sub {p : Area} {l m : List Area} (h : p ∉ m) (d : l ⊆ m) : p ∉ l := fun x => h (d x)

theorem area_ite {c : Prop} [Decidable c] {a b : State} {p : Area} {x : p.type} (ha : area a p = x)
    (hb : area b p = x) : area (if c then a else b) p = x := by
  split
  · exact ha
  · exact hb

theorem area_dite {c : Prop} [Decidable c] {a : c → State} {b : ¬c → State} {p : Area} {x : p.type}
    (ha : ∀ h, area (a h) p = x) (hb : ∀ h, area (b h) p = x) : area (dite c a b) p = x := by
  split
  · exact ha _
  · exact hb _

theorem area_ite_fst {α : Type} {c : Prop} [Decidable c] {a b : State × α} {p : Area} {x : p.type}
    (ha : area a.1 p = x) (hb : area b.1 p = x) : area (if c then a else b).1 p = x := by
  split
  · exact ha
  · exact hb

theorem area_foldl {α : Type} {p : Area} (f : State → α → State)
    (h : ∀ s x, area (f s x) p = area s p) :
    ∀ (l : List α) (s : State), area (l.foldl f s) p = area s p
  | [], _ => rfl
  | x :: l, s => (area_foldl f h l (f s x)).trans (h s x)

theorem area_each {α : Type} {p : Area} (s : State) (l : List α) (f : State → α → State)
    (h : ∀ s x, area (f s x) p = area s p) : area (s.each l f) p = area s p := area_foldl f h l s

theorem area_clk {s : State} {x : Clk} {p : Area} {l : List Area} 
    (h : p ∉ l) (d : Area.clk ∈ l) : area { s with clk := x } p = area s p := by
  cases p <;> first | rfl | exact absurd d h
theorem area_bus {s : State} {x : Bus} {p : Area} {l : List Area} 
    (h : p ∉ l) (d : Area.bus ∈ l) : area { s with bus := x } p = area s p := by
  cases p <;> first | rfl | exact absurd d h
theorem area_sys {s : State} {x : Sys} {p : Area} {l : List Area} 
    (h : p ∉ l) (d : Area.sys ∈ l) : area { s with sys := x } p = area s p := by
  cases p <;> first | rfl | exact absurd d h
theorem area_mbx {s : State} {x : Vector Mailbox 64} {p : Area} {l : List Area} 
    (h : p ∉ l) (d : Area.mbx ∈ l) : area { s with mbx := x } p = area s p := by
  cases p <;> first | rfl | exact absurd d h
theorem area_lrg {s : State} {x : Lrg} {p : Area} {l : List Area} 
    (h : p ∉ l) (d : Area.lrg ∈ l) : area { s with lrg := x } p = area s p := by
  cases p <;> first | rfl | exact absurd d h
theorem area_trc {s : State} {x : Trc} {p : Area} {l : List Area} 
    (h : p ∉ l) (d : Area.trc ∈ l) : area { s with trc := x } p = area s p := by
  cases p <;> first | rfl | exact absurd d h
theorem area_tal {s : State} {x : Vector (BitVec 64) 256} {p : Area} {l : List Area} 
    (h : p ∉ l) (d : Area.tal ∈ l) : area { s with tal := x } p = area s p := by
  cases p <;> first | rfl | exact absurd d h
theorem area_pba {s : State} {x : Pba} {p : Area} {l : List Area} 
    (h : p ∉ l) (d : Area.pba ∈ l) : area { s with pba := x } p = area s p := by
  cases p <;> first | rfl | exact absurd d h
theorem area_cap {s : State} {x : Cap} {p : Area} {l : List Area} 
    (h : p ∉ l) (d : Area.cap ∈ l) : area { s with cap := x } p = area s p := by
  cases p <;> first | rfl | exact absurd d h
theorem area_ce {s : State} {x : Vector Engine 8} {p : Area} {l : List Area} 
    (h : p ∉ l) (d : Area.ce ∈ l) : area { s with ce := x } p = area s p := by
  cases p <;> first | rfl | exact absurd d h
theorem area_trx {s : State} {x : Trx} {p : Area} {l : List Area} 
    (h : p ∉ l) (d : Area.trx ∈ l) : area { s with trx := x } p = area s p := by
  cases p <;> first | rfl | exact absurd d h
theorem area_pos {s : State} {x : Pos} {p : Area} {l : List Area} 
    (h : p ∉ l) (d : Area.pos ∈ l) : area { s with pos := x } p = area s p := by
  cases p <;> first | rfl | exact absurd d h
theorem area_gsc {s : State} {x : Gsc} {p : Area} {l : List Area} 
    (h : p ∉ l) (d : Area.gsc ∈ l) : area { s with gsc := x } p = area s p := by
  cases p <;> first | rfl | exact absurd d h
theorem area_glk {s : State} {x : Vector Link 12} {p : Area} {l : List Area} 
    (h : p ∉ l) (d : Area.glk ∈ l) : area { s with glk := x } p = area s p := by
  cases p <;> first | rfl | exact absurd d h
theorem area_psp {s : State} {x : Psp} {p : Area} {l : List Area} 
    (h : p ∉ l) (d : Area.psp ∈ l) : area { s with psp := x } p = area s p := by
  cases p <;> first | rfl | exact absurd d h
theorem area_rng {s : State} {x : Rng} {p : Area} {l : List Area} 
    (h : p ∉ l) (d : Area.rng ∈ l) : area { s with rng := x } p = area s p := by
  cases p <;> first | rfl | exact absurd d h
theorem area_sbc {s : State} {x : Sbc} {p : Area} {l : List Area} 
    (h : p ∉ l) (d : Area.sbc ∈ l) : area { s with sbc := x } p = area s p := by
  cases p <;> first | rfl | exact absurd d h
theorem area_flog {s : State} {x : Flog} {p : Area} {l : List Area} 
    (h : p ∉ l) (d : Area.flog ∈ l) : area { s with flog := x } p = area s p := by
  cases p <;> first | rfl | exact absurd d h
theorem area_red {s : State} {x : Red} {p : Area} {l : List Area} 
    (h : p ∉ l) (d : Area.red ∈ l) : area { s with red := x } p = area s p := by
  cases p <;> first | rfl | exact absurd d h
theorem area_dcc {s : State} {x : Dcc} {p : Area} {l : List Area} 
    (h : p ∉ l) (d : Area.dcc ∈ l) : area { s with dcc := x } p = area s p := by
  cases p <;> first | rfl | exact absurd d h
theorem area_obc {s : State} {x : Obc} {p : Area} {l : List Area} 
    (h : p ∉ l) (d : Area.obc ∈ l) : area { s with obc := x } p = area s p := by
  cases p <;> first | rfl | exact absurd d h
theorem area_chg {s : State} {x : Chg} {p : Area} {l : List Area} 
    (h : p ∉ l) (d : Area.chg ∈ l) : area { s with chg := x } p = area s p := by
  cases p <;> first | rfl | exact absurd d h
theorem area_hka {s : State} {x : Hka} {p : Area} {l : List Area} 
    (h : p ∉ l) (d : Area.hka ∈ l) : area { s with hka := x } p = area s p := by
  cases p <;> first | rfl | exact absurd d h
theorem area_thm {s : State} {x : Thm} {p : Area} {l : List Area} 
    (h : p ∉ l) (d : Area.thm ∈ l) : area { s with thm := x } p = area s p := by
  cases p <;> first | rfl | exact absurd d h
theorem area_axb {s : State} {x : Axb} {p : Area} {l : List Area} 
    (h : p ∉ l) (d : Area.axb ∈ l) : area { s with axb := x } p = area s p := by
  cases p <;> first | rfl | exact absurd d h
theorem area_skd {s : State} {x : Skd} {p : Area} {l : List Area} 
    (h : p ∉ l) (d : Area.skd ∈ l) : area { s with skd := x } p = area s p := by
  cases p <;> first | rfl | exact absurd d h
theorem area_blz {s : State} {x : Blz} {p : Area} {l : List Area} 
    (h : p ∉ l) (d : Area.blz ∈ l) : area { s with blz := x } p = area s p := by
  cases p <;> first | rfl | exact absurd d h
theorem area_can {s : State} {x : Vector CanChan 6} {p : Area} {l : List Area} 
    (h : p ∉ l) (d : Area.can ∈ l) : area { s with can := x } p = area s p := by
  cases p <;> first | rfl | exact absurd d h
theorem area_boot {s : State} {x : Boot} {p : Area} {l : List Area} 
    (h : p ∉ l) (d : Area.boot ∈ l) : area { s with boot := x } p = area s p := by
  cases p <;> first | rfl | exact absurd d h
theorem area_regs {s : State} {x : Sparse Word32} {p : Area} {l : List Area} 
    (h : p ∉ l) (d : Area.regs ∈ l) : area { s with regs := x } p = area s p := by
  cases p <;> first | rfl | exact absurd d h
theorem area_mem {s : State} {x : List Host.Cell} {p : Area} {l : List Area} 
    (h : p ∉ l) (d : Area.mem ∈ l) : area { s with mem := x } p = area s p := by
  cases p <;> first | rfl | exact absurd d h
theorem area_nor {s : State} {x : Sparse Byte} {p : Area} {l : List Area} 
    (h : p ∉ l) (d : Area.nor ∈ l) : area { s with nor := x } p = area s p := by
  cases p <;> first | rfl | exact absurd d h
theorem area_emitted {s : State} {x : List Emission} {p : Area} {l : List Area} 
    (h : p ∉ l) (d : Area.emitted ∈ l) : area { s with emitted := x } p = area s p := by
  cases p <;> first | rfl | exact absurd d h
theorem area_flights {s : State} {x : List (Nat × Flight)} {p : Area} {l : List Area} 
    (h : p ∉ l) (d : Area.flights ∈ l) : area { s with flights := x } p = area s p := by
  cases p <;> first | rfl | exact absurd d h
theorem area_draws {s : State} {x : Nat} {p : Area} {l : List Area} 
    (h : p ∉ l) (d : Area.draws ∈ l) : area { s with draws := x } p = area s p := by
  cases p <;> first | rfl | exact absurd d h
theorem area_pending {s : State} {x : List Instr} {p : Area} {l : List Area} 
    (h : p ∉ l) (d : Area.pending ∈ l) : area { s with pending := x } p = area s p := by
  cases p <;> first | rfl | exact absurd d h

end Sys2Proof.Machine
end

