-- ==== Sys2Proof/Laws/AreaOps.lean ====
section
/-!
SUPPORT. Which areas of the state each operation of Ops.lean may change.
-/

namespace Sys2Proof.Machine

open Sys2Proof

theorem State.clockTo_area (s : State) (t : Tick) {p : Area} (h : p ∉ [Area.clk]) :
    area (State.clockTo s t) p = area s p := by
  unfold State.clockTo
  try dsimp only
  repeat' first
    | with_reducible rfl
    | with_reducible refine area_ite ?_ ?_
    | with_reducible refine area_dite (fun _ => ?_) (fun _ => ?_)
    | with_reducible refine (area_each _ _ _ fun _ _ => ?_).trans ?_
    | with_reducible refine (area_foldl _ (fun _ _ => ?_) _ _).trans ?_
    | dsimp only
    | split
    | with_reducible refine (area_clk h (by decide)).trans ?_

theorem State.launch_area (s : State) (t : Nat) (f : Flight) {p : Area} (h : p ∉ [Area.flights]) :
    area (State.launch s t f) p = area s p := by
  unfold State.launch
  try dsimp only
  repeat' first
    | with_reducible rfl
    | with_reducible refine area_ite ?_ ?_
    | with_reducible refine area_dite (fun _ => ?_) (fun _ => ?_)
    | with_reducible refine (area_each _ _ _ fun _ _ => ?_).trans ?_
    | with_reducible refine (area_foldl _ (fun _ _ => ?_) _ _).trans ?_
    | dsimp only
    | split
    | with_reducible refine (area_flights h (by decide)).trans ?_

theorem State.draw_area (s : State) {p : Area} (h : p ∉ [Area.draws]) :
    area (State.draw s).1 p = area s p := by
  unfold State.draw
  try dsimp only
  repeat' first
    | with_reducible rfl
    | with_reducible refine area_ite ?_ ?_
    | with_reducible refine area_dite (fun _ => ?_) (fun _ => ?_)
    | with_reducible refine (area_each _ _ _ fun _ _ => ?_).trans ?_
    | with_reducible refine (area_foldl _ (fun _ _ => ?_) _ _).trans ?_
    | with_reducible refine area_ite_fst ?_ ?_
    | dsimp only
    | split
    | with_reducible refine (area_draws h (by decide)).trans ?_

theorem State.store_area (s : State) (a : Nat) (bs : List Byte) {p : Area} (h : p ∉ [Area.mem]) :
    area (State.store s a bs) p = area s p := by
  unfold State.store
  try dsimp only
  repeat' first
    | with_reducible rfl
    | with_reducible refine area_ite ?_ ?_
    | with_reducible refine area_dite (fun _ => ?_) (fun _ => ?_)
    | with_reducible refine (area_each _ _ _ fun _ _ => ?_).trans ?_
    | with_reducible refine (area_foldl _ (fun _ _ => ?_) _ _).trans ?_
    | dsimp only
    | split
    | with_reducible refine (area_mem h (by decide)).trans ?_

theorem State.setFlips_area (s : State) (a : Nat) (f : List (Fin 266)) {p : Area} (h : p ∉ [Area.sys]) :
    area (State.setFlips s a f) p = area s p := by
  unfold State.setFlips
  try dsimp only
  repeat' first
    | with_reducible rfl
    | with_reducible refine area_ite ?_ ?_
    | with_reducible refine area_dite (fun _ => ?_) (fun _ => ?_)
    | with_reducible refine (area_each _ _ _ fun _ _ => ?_).trans ?_
    | with_reducible refine (area_foldl _ (fun _ _ => ?_) _ _).trans ?_
    | dsimp only
    | split
    | with_reducible refine (area_sys h (by decide)).trans ?_

theorem State.storeWord_area (s : State) (a : Nat) (w : Word256) {p : Area} (h : p ∉ [Area.sys, .mem]) :
    area (State.storeWord s a w) p = area s p := by
  unfold State.storeWord
  try dsimp only
  repeat' first
    | with_reducible rfl
    | with_reducible refine area_ite ?_ ?_
    | with_reducible refine area_dite (fun _ => ?_) (fun _ => ?_)
    | with_reducible refine (State.setFlips_area _ _ _ (notMem_of_sub h (by decide))).trans ?_
    | with_reducible refine (State.store_area _ _ _ (notMem_of_sub h (by decide))).trans ?_

theorem State.tallyBy_area (s : State) (n : Nat) (k : Nat) {p : Area} (h : p ∉ [Area.tal]) :
    area (State.tallyBy s n k) p = area s p := by
  unfold State.tallyBy
  try dsimp only
  repeat' first
    | with_reducible rfl
    | with_reducible refine area_ite ?_ ?_
    | with_reducible refine area_dite (fun _ => ?_) (fun _ => ?_)
    | with_reducible refine (area_each _ _ _ fun _ _ => ?_).trans ?_
    | with_reducible refine (area_foldl _ (fun _ _ => ?_) _ _).trans ?_
    | dsimp only
    | split
    | with_reducible refine (area_tal h (by decide)).trans ?_

theorem State.tally_area (s : State) (n : Nat) {p : Area} (h : p ∉ [Area.tal]) :
    area (State.tally s n) p = area s p := by
  unfold State.tally
  try dsimp only
  repeat' first
    | with_reducible rfl
    | with_reducible refine area_ite ?_ ?_
    | with_reducible refine area_dite (fun _ => ?_) (fun _ => ?_)
    | with_reducible refine (State.tallyBy_area _ _ _ (notMem_of_sub h (by decide))).trans ?_

theorem State.modTrc_area (s : State) (f : Trc → Trc) {p : Area} (h : p ∉ [Area.trc]) :
    area (State.modTrc s f) p = area s p := by
  unfold State.modTrc
  try dsimp only
  repeat' first
    | with_reducible rfl
    | with_reducible refine area_ite ?_ ?_
    | with_reducible refine area_dite (fun _ => ?_) (fun _ => ?_)
    | with_reducible refine (area_each _ _ _ fun _ _ => ?_).trans ?_
    | with_reducible refine (area_foldl _ (fun _ _ => ?_) _ _).trans ?_
    | dsimp only
    | split
    | with_reducible refine (area_trc h (by decide)).trans ?_

theorem State.traceLoss_area (s : State) {p : Area} (h : p ∉ [Area.trc]) :
    area (State.traceLoss s) p = area s p := by
  unfold State.traceLoss
  try dsimp only
  repeat' first
    | with_reducible rfl
    | with_reducible refine area_ite ?_ ?_
    | with_reducible refine area_dite (fun _ => ?_) (fun _ => ?_)
    | with_reducible refine (area_each _ _ _ fun _ _ => ?_).trans ?_
    | with_reducible refine (area_foldl _ (fun _ _ => ?_) _ _).trans ?_
    | dsimp only
    | split
    | with_reducible refine (area_trc h (by decide)).trans ?_

theorem State.traceOffer_area (s : State) (k : TraceKind) (body : List Byte) {p : Area} (h : p ∉ [Area.trc, .tal]) :
    area (State.traceOffer s k body) p = area s p := by
  unfold State.traceOffer
  try dsimp only
  repeat' first
    | with_reducible rfl
    | with_reducible refine area_ite ?_ ?_
    | with_reducible refine area_dite (fun _ => ?_) (fun _ => ?_)
    | with_reducible refine (State.traceLoss_area _ (notMem_of_sub h (by decide))).trans ?_
    | with_reducible refine (State.modTrc_area _ _ (notMem_of_sub h (by decide))).trans ?_
    | with_reducible refine (State.tally_area _ _ (notMem_of_sub h (by decide))).trans ?_
    | with_reducible refine (area_each _ _ _ fun _ _ => ?_).trans ?_
    | with_reducible refine (area_foldl _ (fun _ _ => ?_) _ _).trans ?_
    | dsimp only
    | split

theorem State.modRing_area (s : State) (r : Fin 32) (f : Ring → Ring) {p : Area} (h : p ∉ [Area.lrg]) :
    area (State.modRing s r f) p = area s p := by
  unfold State.modRing
  try dsimp only
  repeat' first
    | with_reducible rfl
    | with_reducible refine area_ite ?_ ?_
    | with_reducible refine area_dite (fun _ => ?_) (fun _ => ?_)
    | with_reducible refine (area_each _ _ _ fun _ _ => ?_).trans ?_
    | with_reducible refine (area_foldl _ (fun _ _ => ?_) _ _).trans ?_
    | dsimp only
    | split
    | with_reducible refine (area_lrg h (by decide)).trans ?_

theorem State.mirrorOffer_area (s : State) (r : Fin 32) (flags : Byte) (ws : List Word256) {p : Area} (h : p ∉ [Area.trc, .tal]) :
    area (State.mirrorOffer s r flags ws) p = area s p := by
  unfold State.mirrorOffer
  try dsimp only
  repeat' first
    | with_reducible rfl
    | with_reducible refine area_ite ?_ ?_
    | with_reducible refine area_dite (fun _ => ?_) (fun _ => ?_)
    | with_reducible refine (State.traceOffer_area _ _ _ (notMem_of_sub h (by decide))).trans ?_
    | with_reducible refine (area_each _ _ _ fun _ _ => ?_).trans ?_
    | with_reducible refine (area_foldl _ (fun _ _ => ?_) _ _).trans ?_

theorem State.offer_area (s : State) (r : Fin 32) (ws : List Word256) {p : Area} (h : p ∉ [Area.lrg, .trc, .tal]) :
    area (State.offer s r ws).1 p = area s p := by
  unfold State.offer
  try dsimp only
  repeat' first
    | with_reducible rfl
    | with_reducible refine area_ite ?_ ?_
    | with_reducible refine area_dite (fun _ => ?_) (fun _ => ?_)
    | with_reducible refine (State.mirrorOffer_area _ _ _ _ (notMem_of_sub h (by decide))).trans ?_
    | with_reducible refine (State.modRing_area _ _ _ (notMem_of_sub h (by decide))).trans ?_
    | with_reducible refine (State.tally_area _ _ (notMem_of_sub h (by decide))).trans ?_
    | with_reducible refine (State.tallyBy_area _ _ _ (notMem_of_sub h (by decide))).trans ?_
    | with_reducible refine (area_each _ _ _ fun _ _ => ?_).trans ?_
    | with_reducible refine (area_foldl _ (fun _ _ => ?_) _ _).trans ?_
    | with_reducible refine area_ite_fst ?_ ?_
    | dsimp only
    | split
    | with_reducible refine (area_lrg h (by decide)).trans ?_

theorem State.recordAt_area (s : State) (stamp : Nat) (blk : Nat) (unit : Nat) (ev : Nat) (detail : optParam Nat 0) (payload : optParam Nat 0) {p : Area} (h : p ∉ [Area.lrg, .trc, .tal]) :
    area (State.recordAt s stamp blk unit ev detail payload) p = area s p := by
  unfold State.recordAt
  try dsimp only
  repeat' first
    | with_reducible rfl
    | with_reducible refine area_ite ?_ ?_
    | with_reducible refine area_dite (fun _ => ?_) (fun _ => ?_)
    | with_reducible refine (State.offer_area _ _ _ (notMem_of_sub h (by decide))).trans ?_

theorem State.record_area (s : State) (blk : Nat) (unit : Nat) (ev : Nat) (detail : optParam Nat 0) (payload : optParam Nat 0) {p : Area} (h : p ∉ [Area.lrg, .trc, .tal]) :
    area (State.record s blk unit ev detail payload) p = area s p := by
  unfold State.record
  try dsimp only
  repeat' first
    | with_reducible rfl
    | with_reducible refine area_ite ?_ ?_
    | with_reducible refine area_dite (fun _ => ?_) (fun _ => ?_)
    | with_reducible refine (State.recordAt_area _ _ _ _ _ _ _ (notMem_of_sub h (by decide))).trans ?_

theorem State.logRecord_area (s : State) (w : Word256) {p : Area} (h : p ∉ [Area.tal, .flog]) :
    area (State.logRecord s w) p = area s p := by
  unfold State.logRecord
  try dsimp only
  repeat' first
    | with_reducible rfl
    | with_reducible refine area_ite ?_ ?_
    | with_reducible refine area_dite (fun _ => ?_) (fun _ => ?_)
    | with_reducible refine (State.tally_area _ _ (notMem_of_sub h (by decide))).trans ?_
    | with_reducible refine (area_each _ _ _ fun _ _ => ?_).trans ?_
    | with_reducible refine (area_foldl _ (fun _ _ => ?_) _ _).trans ?_
    | dsimp only
    | split
    | with_reducible refine (area_flog h (by decide)).trans ?_

theorem State.report_area (s : State) (blk : Nat) (unit : Nat) (ev : Nat) (f : optParam Byte 0) (sub : optParam Nat 0) {p : Area} (h : p ∉ [Area.rng]) :
    area (State.report s blk unit ev f sub) p = area s p := by
  unfold State.report
  try dsimp only
  repeat' first
    | with_reducible rfl
    | with_reducible refine area_ite ?_ ?_
    | with_reducible refine area_dite (fun _ => ?_) (fun _ => ?_)
    | with_reducible refine (area_each _ _ _ fun _ _ => ?_).trans ?_
    | with_reducible refine (area_foldl _ (fun _ _ => ?_) _ _).trans ?_
    | dsimp only
    | split
    | with_reducible refine (area_rng h (by decide)).trans ?_

theorem State.recordReport_area (s : State) (blk : Nat) (unit : Nat) (ev : Nat) (detail : optParam Nat 0) (payload : optParam Nat 0) (sub : optParam Nat 0) {p : Area} (h : p ∉ [Area.lrg, .trc, .tal, .rng]) :
    area (State.recordReport s blk unit ev detail payload sub) p = area s p := by
  unfold State.recordReport
  try dsimp only
  repeat' first
    | with_reducible rfl
    | with_reducible refine area_ite ?_ ?_
    | with_reducible refine area_dite (fun _ => ?_) (fun _ => ?_)
    | with_reducible refine (State.report_area _ _ _ _ _ _ (notMem_of_sub h (by decide))).trans ?_
    | with_reducible refine (State.record_area _ _ _ _ _ _ (notMem_of_sub h (by decide))).trans ?_

theorem State.busError_area (s : State) (id : Fin 64) (a : Nat) (code : Nat) {p : Area} (h : p ∉ [Area.bus, .lrg, .trc, .tal]) :
    area (State.busError s id a code) p = area s p := by
  unfold State.busError
  try dsimp only
  repeat' first
    | with_reducible rfl
    | with_reducible refine area_ite ?_ ?_
    | with_reducible refine area_dite (fun _ => ?_) (fun _ => ?_)
    | with_reducible refine (State.record_area _ _ _ _ _ _ (notMem_of_sub h (by decide))).trans ?_
    | with_reducible refine (State.tally_area _ _ (notMem_of_sub h (by decide))).trans ?_
    | with_reducible refine (area_each _ _ _ fun _ _ => ?_).trans ?_
    | with_reducible refine (area_foldl _ (fun _ _ => ?_) _ _).trans ?_
    | dsimp only
    | split
    | with_reducible refine (area_bus h (by decide)).trans ?_

theorem State.busDone_area (s : State) (d : List Byte) {p : Area} (h : p ∉ [Area.bus]) :
    area (State.busDone s d) p = area s p := by
  unfold State.busDone
  try dsimp only
  repeat' first
    | with_reducible rfl
    | with_reducible refine area_ite ?_ ?_
    | with_reducible refine area_dite (fun _ => ?_) (fun _ => ?_)
    | with_reducible refine (area_each _ _ _ fun _ _ => ?_).trans ?_
    | with_reducible refine (area_foldl _ (fun _ _ => ?_) _ _).trans ?_
    | dsimp only
    | split
    | with_reducible refine (area_bus h (by decide)).trans ?_

theorem State.emit_area (s : State) (port : Nat) (bs : List Byte) {p : Area} (h : p ∉ [Area.emitted]) :
    area (State.emit s port bs) p = area s p := by
  unfold State.emit
  try dsimp only
  repeat' first
    | with_reducible rfl
    | with_reducible refine area_ite ?_ ?_
    | with_reducible refine area_dite (fun _ => ?_) (fun _ => ?_)
    | with_reducible refine (area_each _ _ _ fun _ _ => ?_).trans ?_
    | with_reducible refine (area_foldl _ (fun _ _ => ?_) _ _).trans ?_
    | dsimp only
    | split
    | with_reducible refine (area_emitted h (by decide)).trans ?_

end Sys2Proof.Machine
end

