-- ==== Sys2Proof/Laws/AreaCanOps.lean ====
section
/-!
SUPPORT. Which areas of the state each operation of CanOps.lean may change.
-/

namespace Sys2Proof.Machine

open Sys2Proof

theorem State.modCan_area (s : State) (ch : Fin 6) (f : CanChan → CanChan) {p : Area} (h : p ∉ [Area.can]) :
    area (State.modCan s ch f) p = area s p := by
  unfold State.modCan
  try dsimp only
  repeat' first
    | with_reducible rfl
    | with_reducible refine area_ite ?_ ?_
    | with_reducible refine area_dite (fun _ => ?_) (fun _ => ?_)
    | with_reducible refine (area_each _ _ _ fun _ _ => ?_).trans ?_
    | with_reducible refine (area_foldl _ (fun _ _ => ?_) _ _).trans ?_
    | dsimp only
    | split
    | with_reducible refine (area_can h (by decide)).trans ?_

theorem State.modBuf_area (s : State) (ch : Fin 6) (b : Fin 64) (f : CanBuf → CanBuf) {p : Area} (h : p ∉ [Area.can]) :
    area (State.modBuf s ch b f) p = area s p := by
  unfold State.modBuf
  try dsimp only
  repeat' first
    | with_reducible rfl
    | with_reducible refine area_ite ?_ ?_
    | with_reducible refine area_dite (fun _ => ?_) (fun _ => ?_)
    | with_reducible refine (State.modCan_area _ _ _ (notMem_of_sub h (by decide))).trans ?_

theorem State.reoffer_area (s : State) (ch : Fin 6) (sof : Nat) {p : Area} (h : p ∉ [Area.can]) :
    area (State.reoffer s ch sof) p = area s p := by
  unfold State.reoffer
  try dsimp only
  repeat' first
    | with_reducible rfl
    | with_reducible refine area_ite ?_ ?_
    | with_reducible refine area_dite (fun _ => ?_) (fun _ => ?_)
    | with_reducible refine (State.modCan_area _ _ _ (notMem_of_sub h (by decide))).trans ?_

theorem State.frameEnd_area (s : State) (ch : Fin 6) {p : Area} (h : p ∉ [Area.can]) :
    area (State.frameEnd s ch) p = area s p := by
  unfold State.frameEnd
  try dsimp only
  repeat' first
    | with_reducible rfl
    | with_reducible refine area_ite ?_ ?_
    | with_reducible refine area_dite (fun _ => ?_) (fun _ => ?_)
    | with_reducible refine (State.reoffer_area _ _ _ (notMem_of_sub h (by decide))).trans ?_
    | with_reducible refine (State.modCan_area _ _ _ (notMem_of_sub h (by decide))).trans ?_

theorem State.offerIdle_area (s : State) (ch : Fin 6) {p : Area} (h : p ∉ [Area.can]) :
    area (State.offerIdle s ch) p = area s p := by
  unfold State.offerIdle
  try dsimp only
  repeat' first
    | with_reducible rfl
    | with_reducible refine area_ite ?_ ?_
    | with_reducible refine area_dite (fun _ => ?_) (fun _ => ?_)
    | with_reducible refine (State.reoffer_area _ _ _ (notMem_of_sub h (by decide))).trans ?_

theorem State.canQueue_area (s : State) (ch : Fin 6) (f : CanFrame) {p : Area} (h : p ∉ [Area.tal, .can]) :
    area (State.canQueue s ch f) p = area s p := by
  unfold State.canQueue
  try dsimp only
  repeat' first
    | with_reducible rfl
    | with_reducible refine area_ite ?_ ?_
    | with_reducible refine area_dite (fun _ => ?_) (fun _ => ?_)
    | with_reducible refine (State.offerIdle_area _ _ (notMem_of_sub h (by decide))).trans ?_
    | with_reducible refine (State.modCan_area _ _ _ (notMem_of_sub h (by decide))).trans ?_
    | with_reducible refine (State.tally_area _ _ (notMem_of_sub h (by decide))).trans ?_

theorem State.bufFailed_area (s : State) (ch : Fin 6) (b : Fin 64) (res : Nat) {p : Area} (h : p ∉ [Area.lrg, .trc, .tal, .can]) :
    area (State.bufFailed s ch b res) p = area s p := by
  unfold State.bufFailed
  try dsimp only
  repeat' first
    | with_reducible rfl
    | with_reducible refine area_ite ?_ ?_
    | with_reducible refine area_dite (fun _ => ?_) (fun _ => ?_)
    | with_reducible refine (State.modBuf_area _ _ _ _ (notMem_of_sub h (by decide))).trans ?_
    | with_reducible refine (State.record_area _ _ _ _ _ _ (notMem_of_sub h (by decide))).trans ?_
    | with_reducible refine (State.tally_area _ _ (notMem_of_sub h (by decide))).trans ?_

theorem State.busOff_area (s : State) (ch : Fin 6) {p : Area} (h : p ∉ [Area.lrg, .trc, .tal, .rng, .can]) :
    area (State.busOff s ch) p = area s p := by
  unfold State.busOff
  try dsimp only
  repeat' first
    | with_reducible rfl
    | with_reducible refine area_ite ?_ ?_
    | with_reducible refine area_dite (fun _ => ?_) (fun _ => ?_)
    | with_reducible refine (State.bufFailed_area _ _ _ _ (notMem_of_sub h (by decide))).trans ?_
    | with_reducible refine (State.modCan_area _ _ _ (notMem_of_sub h (by decide))).trans ?_
    | with_reducible refine (State.recordReport_area _ _ _ _ _ _ _ (notMem_of_sub h (by decide))).trans ?_
    | with_reducible refine (State.tallyBy_area _ _ _ (notMem_of_sub h (by decide))).trans ?_
    | with_reducible refine (area_each _ _ _ fun _ _ => ?_).trans ?_
    | with_reducible refine (area_foldl _ (fun _ _ => ?_) _ _).trans ?_

theorem State.setCounters_area (s : State) (ch : Fin 6) (tec : Nat) (rec : Nat) {p : Area} (h : p ∉ [Area.lrg, .trc, .tal, .rng, .can]) :
    area (State.setCounters s ch tec rec) p = area s p := by
  unfold State.setCounters
  try dsimp only
  repeat' first
    | with_reducible rfl
    | with_reducible refine area_ite ?_ ?_
    | with_reducible refine area_dite (fun _ => ?_) (fun _ => ?_)
    | with_reducible refine (State.busOff_area _ _ (notMem_of_sub h (by decide))).trans ?_
    | with_reducible refine (State.modCan_area _ _ _ (notMem_of_sub h (by decide))).trans ?_
    | with_reducible refine (State.record_area _ _ _ _ _ _ (notMem_of_sub h (by decide))).trans ?_

theorem State.goodReceive_area (s : State) (ch : Fin 6) {p : Area} (h : p ∉ [Area.lrg, .trc, .tal, .rng, .can, .draws]) :
    area (State.goodReceive s ch) p = area s p := by
  unfold State.goodReceive
  try dsimp only
  repeat' first
    | with_reducible rfl
    | with_reducible refine area_ite ?_ ?_
    | with_reducible refine area_dite (fun _ => ?_) (fun _ => ?_)
    | with_reducible refine (State.setCounters_area _ _ _ _ (notMem_of_sub h (by decide))).trans ?_
    | with_reducible refine (State.draw_area _ (notMem_of_sub h (by decide))).trans ?_

theorem State.storeFrame_area (s : State) (ch : Fin 6) (b : Fin 64) (i : Nat) (stamp : Nat) (f : CanFrame) {p : Area} (h : p ∉ [Area.lrg, .trc, .tal, .can]) :
    area (State.storeFrame s ch b i stamp f) p = area s p := by
  unfold State.storeFrame
  try dsimp only
  repeat' first
    | with_reducible rfl
    | with_reducible refine area_ite ?_ ?_
    | with_reducible refine area_dite (fun _ => ?_) (fun _ => ?_)
    | with_reducible refine (State.modBuf_area _ _ _ _ (notMem_of_sub h (by decide))).trans ?_
    | with_reducible refine (State.record_area _ _ _ _ _ _ (notMem_of_sub h (by decide))).trans ?_
    | with_reducible refine (State.tally_area _ _ (notMem_of_sub h (by decide))).trans ?_

theorem State.canFilter_area (s : State) (ch : Fin 6) (stamp : Nat) (f : CanFrame) {p : Area} (h : p ∉ [Area.lrg, .trc, .tal, .can]) :
    area (State.canFilter s ch stamp f) p = area s p := by
  unfold State.canFilter
  try dsimp only
  repeat' first
    | with_reducible rfl
    | with_reducible refine area_ite ?_ ?_
    | with_reducible refine area_dite (fun _ => ?_) (fun _ => ?_)
    | with_reducible refine (State.storeFrame_area _ _ _ _ _ _ (notMem_of_sub h (by decide))).trans ?_
    | with_reducible refine (State.offer_area _ _ _ (notMem_of_sub h (by decide))).trans ?_
    | with_reducible refine (State.tally_area _ _ (notMem_of_sub h (by decide))).trans ?_
    | with_reducible refine (area_each _ _ _ fun _ _ => ?_).trans ?_
    | with_reducible refine (area_foldl _ (fun _ _ => ?_) _ _).trans ?_
    | with_reducible refine area_ite_fst ?_ ?_
    | dsimp only
    | split

end Sys2Proof.Machine
end

