-- ==== Sys2Proof/Laws/AreaToken.lean ====
section
/-!
SUPPORT. Which areas of the state each operation of Token.lean may change.
-/

namespace Sys2Proof.Machine

open Sys2Proof

theorem State.modTok_area (s : State) (g : Fin 4) (f : Token → Token) {p : Area} (h : p ∉ [Area.red]) :
    area (State.modTok s g f) p = area s p := by
  unfold State.modTok
  try dsimp only
  repeat' first
    | with_reducible rfl
    | with_reducible refine area_ite ?_ ?_
    | with_reducible refine area_dite (fun _ => ?_) (fun _ => ?_)
    | with_reducible refine (area_each _ _ _ fun _ _ => ?_).trans ?_
    | with_reducible refine (area_foldl _ (fun _ _ => ?_) _ _).trans ?_
    | dsimp only
    | split
    | with_reducible refine (area_red h (by decide)).trans ?_

theorem State.modGroup_area (s : State) (g : Fin 4) (f : Group → Group) {p : Area} (h : p ∉ [Area.gsc]) :
    area (State.modGroup s g f) p = area s p := by
  unfold State.modGroup
  try dsimp only
  repeat' first
    | with_reducible rfl
    | with_reducible refine area_ite ?_ ?_
    | with_reducible refine area_dite (fun _ => ?_) (fun _ => ?_)
    | with_reducible refine (area_each _ _ _ fun _ _ => ?_).trans ?_
    | with_reducible refine (area_foldl _ (fun _ _ => ?_) _ _).trans ?_
    | dsimp only
    | split
    | with_reducible refine (area_gsc h (by decide)).trans ?_

theorem State.modLeg_area (s : State) (l : Fin 24) (f : Leg → Leg) {p : Area} (h : p ∉ [Area.gsc]) :
    area (State.modLeg s l f) p = area s p := by
  unfold State.modLeg
  try dsimp only
  repeat' first
    | with_reducible rfl
    | with_reducible refine area_ite ?_ ?_
    | with_reducible refine area_dite (fun _ => ?_) (fun _ => ?_)
    | with_reducible refine (area_each _ _ _ fun _ _ => ?_).trans ?_
    | with_reducible refine (area_foldl _ (fun _ _ => ?_) _ _).trans ?_
    | dsimp only
    | split
    | with_reducible refine (area_gsc h (by decide)).trans ?_

theorem State.modLink_area (s : State) (l : Fin 12) (f : Link → Link) {p : Area} (h : p ∉ [Area.glk]) :
    area (State.modLink s l f) p = area s p := by
  unfold State.modLink
  try dsimp only
  repeat' first
    | with_reducible rfl
    | with_reducible refine area_ite ?_ ?_
    | with_reducible refine area_dite (fun _ => ?_) (fun _ => ?_)
    | with_reducible refine (area_each _ _ _ fun _ _ => ?_).trans ?_
    | with_reducible refine (area_foldl _ (fun _ _ => ?_) _ _).trans ?_
    | dsimp only
    | split
    | with_reducible refine (area_glk h (by decide)).trans ?_

theorem State.modCe_area (s : State) (e : Fin 8) (f : Engine → Engine) {p : Area} (h : p ∉ [Area.ce]) :
    area (State.modCe s e f) p = area s p := by
  unfold State.modCe
  try dsimp only
  repeat' first
    | with_reducible rfl
    | with_reducible refine area_ite ?_ ?_
    | with_reducible refine area_dite (fun _ => ?_) (fun _ => ?_)
    | with_reducible refine (area_each _ _ _ fun _ _ => ?_).trans ?_
    | with_reducible refine (area_foldl _ (fun _ _ => ?_) _ _).trans ?_
    | dsimp only
    | split
    | with_reducible refine (area_ce h (by decide)).trans ?_

theorem State.modTrx_area (s : State) (m : Fin 2) (f : Traction → Traction) {p : Area} (h : p ∉ [Area.trx]) :
    area (State.modTrx s m f) p = area s p := by
  unfold State.modTrx
  try dsimp only
  repeat' first
    | with_reducible rfl
    | with_reducible refine area_ite ?_ ?_
    | with_reducible refine area_dite (fun _ => ?_) (fun _ => ?_)
    | with_reducible refine (area_each _ _ _ fun _ _ => ?_).trans ?_
    | with_reducible refine (area_foldl _ (fun _ _ => ?_) _ _).trans ?_
    | dsimp only
    | split
    | with_reducible refine (area_trx h (by decide)).trans ?_

theorem State.sendFrom_area (s : State) (l : Fin 12) (t : Nat) (bs : List Byte) {p : Area} (h : p ∉ [Area.glk, .emitted]) :
    area (State.sendFrom s l t bs) p = area s p := by
  unfold State.sendFrom
  try dsimp only
  repeat' first
    | with_reducible rfl
    | with_reducible refine area_ite ?_ ?_
    | with_reducible refine area_dite (fun _ => ?_) (fun _ => ?_)
    | with_reducible refine (State.modLink_area _ _ _ (notMem_of_sub h (by decide))).trans ?_
    | with_reducible refine (area_each _ _ _ fun _ _ => ?_).trans ?_
    | with_reducible refine (area_foldl _ (fun _ _ => ?_) _ _).trans ?_
    | dsimp only
    | split
    | with_reducible refine (area_emitted h (by decide)).trans ?_

theorem State.sendLink_area (s : State) (l : Fin 12) (bs : List Byte) {p : Area} (h : p ∉ [Area.glk, .emitted]) :
    area (State.sendLink s l bs) p = area s p := by
  unfold State.sendLink
  try dsimp only
  repeat' first
    | with_reducible rfl
    | with_reducible refine area_ite ?_ ?_
    | with_reducible refine area_dite (fun _ => ?_) (fun _ => ?_)
    | with_reducible refine (State.sendFrom_area _ _ _ _ (notMem_of_sub h (by decide))).trans ?_

theorem State.sendNext_area (s : State) (l : Fin 12) (bs : List Byte) {p : Area} (h : p ∉ [Area.glk, .emitted]) :
    area (State.sendNext s l bs) p = area s p := by
  unfold State.sendNext
  try dsimp only
  repeat' first
    | with_reducible rfl
    | with_reducible refine area_ite ?_ ?_
    | with_reducible refine area_dite (fun _ => ?_) (fun _ => ?_)
    | with_reducible refine (State.sendFrom_area _ _ _ _ (notMem_of_sub h (by decide))).trans ?_

theorem State.sendPattern_area (s : State) (l : Fin 12) (p0 : BitVec 4) {p : Area} (h : p ∉ [Area.glk, .emitted]) :
    area (State.sendPattern s l p0) p = area s p := by
  unfold State.sendPattern
  try dsimp only
  repeat' first
    | with_reducible rfl
    | with_reducible refine area_ite ?_ ?_
    | with_reducible refine area_dite (fun _ => ?_) (fun _ => ?_)
    | with_reducible refine (State.sendLink_area _ _ _ (notMem_of_sub h (by decide))).trans ?_

theorem State.legsFrom_area (s : State) (g : Fin 4) (p0 : Pattern) {p : Area} (h : p ∉ [Area.gsc]) :
    area (State.legsFrom s g p0) p = area s p := by
  unfold State.legsFrom
  try dsimp only
  repeat' first
    | with_reducible rfl
    | with_reducible refine area_ite ?_ ?_
    | with_reducible refine area_dite (fun _ => ?_) (fun _ => ?_)
    | with_reducible refine (State.modLeg_area _ _ _ (notMem_of_sub h (by decide))).trans ?_
    | with_reducible refine (area_each _ _ _ fun _ _ => ?_).trans ?_

theorem State.legsOff_area (s : State) (g : Fin 4) {p : Area} (h : p ∉ [Area.gsc]) :
    area (State.legsOff s g) p = area s p := by
  unfold State.legsOff
  try dsimp only
  repeat' first
    | with_reducible rfl
    | with_reducible refine area_ite ?_ ?_
    | with_reducible refine area_dite (fun _ => ?_) (fun _ => ?_)
    | with_reducible refine (State.modLeg_area _ _ _ (notMem_of_sub h (by decide))).trans ?_
    | with_reducible refine (area_each _ _ _ fun _ _ => ?_).trans ?_

theorem State.flush_area (s : State) (g : Fin 4) {p : Area} (h : p ∉ [Area.gsc, .glk]) :
    area (State.flush s g) p = area s p := by
  unfold State.flush
  try dsimp only
  repeat' first
    | with_reducible rfl
    | with_reducible refine area_ite ?_ ?_
    | with_reducible refine area_dite (fun _ => ?_) (fun _ => ?_)
    | with_reducible refine (State.modLink_area _ _ _ (notMem_of_sub h (by decide))).trans ?_
    | with_reducible refine (State.modGroup_area _ _ _ (notMem_of_sub h (by decide))).trans ?_
    | with_reducible refine (area_each _ _ _ fun _ _ => ?_).trans ?_

theorem State.dropStale_area (s : State) (g : Fin 4) {p : Area} (h : p ∉ [Area.glk]) :
    area (State.dropStale s g) p = area s p := by
  unfold State.dropStale
  try dsimp only
  repeat' first
    | with_reducible rfl
    | with_reducible refine area_ite ?_ ?_
    | with_reducible refine area_dite (fun _ => ?_) (fun _ => ?_)
    | with_reducible refine (State.modLink_area _ _ _ (notMem_of_sub h (by decide))).trans ?_
    | with_reducible refine (area_each _ _ _ fun _ _ => ?_).trans ?_

theorem State.serveArm_area (s : State) (l : Fin 12) {p : Area} (h : p ∉ [Area.glk, .emitted]) :
    area (State.serveArm s l) p = area s p := by
  unfold State.serveArm
  try dsimp only
  repeat' first
    | with_reducible rfl
    | with_reducible refine area_ite ?_ ?_
    | with_reducible refine area_dite (fun _ => ?_) (fun _ => ?_)
    | with_reducible refine (State.sendNext_area _ _ _ (notMem_of_sub h (by decide))).trans ?_
    | with_reducible refine (State.modLink_area _ _ _ (notMem_of_sub h (by decide))).trans ?_

theorem State.supplyLoss_area (s : State) (g : Fin 4) (p0 : Pattern) {p : Area} (h : p ∉ [Area.glk]) :
    area (State.supplyLoss s g p0) p = area s p := by
  unfold State.supplyLoss
  try dsimp only
  repeat' first
    | with_reducible rfl
    | with_reducible refine area_ite ?_ ?_
    | with_reducible refine area_dite (fun _ => ?_) (fun _ => ?_)
    | with_reducible refine (State.modLink_area _ _ _ (notMem_of_sub h (by decide))).trans ?_
    | with_reducible refine (area_each _ _ _ fun _ _ => ?_).trans ?_

theorem State.cancelHand_area (s : State) (g : Fin 4) {p : Area} (h : p ∉ [Area.lrg, .trc, .tal, .red]) :
    area (State.cancelHand s g) p = area s p := by
  unfold State.cancelHand
  try dsimp only
  repeat' first
    | with_reducible rfl
    | with_reducible refine area_ite ?_ ?_
    | with_reducible refine area_dite (fun _ => ?_) (fun _ => ?_)
    | with_reducible refine (State.modTok_area _ _ _ (notMem_of_sub h (by decide))).trans ?_
    | with_reducible refine (State.record_area _ _ _ _ _ _ (notMem_of_sub h (by decide))).trans ?_
    | with_reducible refine (area_each _ _ _ fun _ _ => ?_).trans ?_
    | with_reducible refine (area_foldl _ (fun _ _ => ?_) _ _).trans ?_
    | dsimp only
    | split

theorem State.dropTok_area (s : State) (g : Fin 4) (st : TokState) {p : Area} (h : p ∉ [Area.lrg, .trc, .tal, .glk, .red]) :
    area (State.dropTok s g st) p = area s p := by
  unfold State.dropTok
  try dsimp only
  repeat' first
    | with_reducible rfl
    | with_reducible refine area_ite ?_ ?_
    | with_reducible refine area_dite (fun _ => ?_) (fun _ => ?_)
    | with_reducible refine (State.cancelHand_area _ _ (notMem_of_sub h (by decide))).trans ?_
    | with_reducible refine (State.dropStale_area _ _ (notMem_of_sub h (by decide))).trans ?_
    | with_reducible refine (State.modTok_area _ _ _ (notMem_of_sub h (by decide))).trans ?_

theorem State.refreshTok_area (s : State) (g : Fin 4) {p : Area} (h : p ∉ [Area.lrg, .trc, .tal, .glk, .red]) :
    area (State.refreshTok s g) p = area s p := by
  unfold State.refreshTok
  try dsimp only
  repeat' first
    | with_reducible rfl
    | with_reducible refine area_ite ?_ ?_
    | with_reducible refine area_dite (fun _ => ?_) (fun _ => ?_)
    | with_reducible refine (State.dropTok_area _ _ _ (notMem_of_sub h (by decide))).trans ?_
    | with_reducible refine (area_each _ _ _ fun _ _ => ?_).trans ?_
    | with_reducible refine (area_foldl _ (fun _ _ => ?_) _ _).trans ?_
    | dsimp only
    | split

theorem State.expireTok_area (s : State) (g : Fin 4) {p : Area} (h : p ∉ [Area.lrg, .trc, .tal, .glk, .red]) :
    area (State.expireTok s g) p = area s p := by
  unfold State.expireTok
  try dsimp only
  repeat' first
    | with_reducible rfl
    | with_reducible refine area_ite ?_ ?_
    | with_reducible refine area_dite (fun _ => ?_) (fun _ => ?_)
    | with_reducible refine (State.dropTok_area _ _ _ (notMem_of_sub h (by decide))).trans ?_
    | with_reducible refine (State.modTok_area _ _ _ (notMem_of_sub h (by decide))).trans ?_

theorem State.engineGone_area (s : State) (e : Fin 8) {p : Area} (h : p ∉ [Area.lrg, .trc, .tal, .glk, .red]) :
    area (State.engineGone s e) p = area s p := by
  unfold State.engineGone
  try dsimp only
  repeat' first
    | with_reducible rfl
    | with_reducible refine area_ite ?_ ?_
    | with_reducible refine area_dite (fun _ => ?_) (fun _ => ?_)
    | with_reducible refine (State.expireTok_area _ _ (notMem_of_sub h (by decide))).trans ?_
    | with_reducible refine (area_each _ _ _ fun _ _ => ?_).trans ?_

theorem State.allOff_area (s : State) (g : Fin 4) {p : Area} (h : p ∉ [Area.glk, .emitted]) :
    area (State.allOff s g) p = area s p := by
  unfold State.allOff
  try dsimp only
  repeat' first
    | with_reducible rfl
    | with_reducible refine area_ite ?_ ?_
    | with_reducible refine area_dite (fun _ => ?_) (fun _ => ?_)
    | with_reducible refine (State.sendPattern_area _ _ _ (notMem_of_sub h (by decide))).trans ?_
    | with_reducible refine (area_each _ _ _ fun _ _ => ?_).trans ?_

theorem State.releaseGroup_area (s : State) (g : Fin 4) {p : Area} (h : p ∉ [Area.lrg, .trc, .tal, .gsc, .glk, .red, .emitted]) :
    area (State.releaseGroup s g) p = area s p := by
  unfold State.releaseGroup
  try dsimp only
  repeat' first
    | with_reducible rfl
    | with_reducible refine area_ite ?_ ?_
    | with_reducible refine area_dite (fun _ => ?_) (fun _ => ?_)
    | with_reducible refine (State.allOff_area _ _ (notMem_of_sub h (by decide))).trans ?_
    | with_reducible refine (State.dropTok_area _ _ _ (notMem_of_sub h (by decide))).trans ?_
    | with_reducible refine (State.flush_area _ _ (notMem_of_sub h (by decide))).trans ?_
    | with_reducible refine (State.legsOff_area _ _ (notMem_of_sub h (by decide))).trans ?_
    | with_reducible refine (State.modGroup_area _ _ _ (notMem_of_sub h (by decide))).trans ?_

theorem State.trxSafe_area (s : State) (m : Fin 2) {p : Area} (h : p ∉ [Area.trx]) :
    area (State.trxSafe s m) p = area s p := by
  unfold State.trxSafe
  try dsimp only
  repeat' first
    | with_reducible rfl
    | with_reducible refine area_ite ?_ ?_
    | with_reducible refine area_dite (fun _ => ?_) (fun _ => ?_)
    | with_reducible refine (State.modTrx_area _ _ _ (notMem_of_sub h (by decide))).trans ?_
    | with_reducible refine (area_each _ _ _ fun _ _ => ?_).trans ?_
    | with_reducible refine (area_foldl _ (fun _ _ => ?_) _ _).trans ?_
    | dsimp only
    | split

theorem State.trxPattern_area (s : State) (m : Fin 2) {p : Area} (h : p ∉ [Area.trx]) :
    area (State.trxPattern s m) p = area s p := by
  unfold State.trxPattern
  try dsimp only
  repeat' first
    | with_reducible rfl
    | with_reducible refine area_ite ?_ ?_
    | with_reducible refine area_dite (fun _ => ?_) (fun _ => ?_)
    | with_reducible refine (State.modTrx_area _ _ _ (notMem_of_sub h (by decide))).trans ?_

theorem State.dispatch_area (s : State) (g : Fin 4) (p0 : Pattern) (trac : Nat) {p : Area} (h : p ∉ [Area.lrg, .trc, .tal, .trx, .gsc, .glk, .rng, .red, .emitted]) :
    area (State.dispatch s g p0 trac) p = area s p := by
  unfold State.dispatch
  try dsimp only
  repeat' first
    | with_reducible rfl
    | with_reducible refine area_ite ?_ ?_
    | with_reducible refine area_dite (fun _ => ?_) (fun _ => ?_)
    | with_reducible refine (State.trxPattern_area _ _ (notMem_of_sub h (by decide))).trans ?_
    | with_reducible refine (State.trxSafe_area _ _ (notMem_of_sub h (by decide))).trans ?_
    | with_reducible refine (State.dropTok_area _ _ _ (notMem_of_sub h (by decide))).trans ?_
    | with_reducible refine (State.supplyLoss_area _ _ _ (notMem_of_sub h (by decide))).trans ?_
    | with_reducible refine (State.flush_area _ _ (notMem_of_sub h (by decide))).trans ?_
    | with_reducible refine (State.legsFrom_area _ _ _ (notMem_of_sub h (by decide))).trans ?_
    | with_reducible refine (State.sendPattern_area _ _ _ (notMem_of_sub h (by decide))).trans ?_
    | with_reducible refine (State.modGroup_area _ _ _ (notMem_of_sub h (by decide))).trans ?_
    | with_reducible refine (area_each _ _ _ fun _ _ => ?_).trans ?_
    | with_reducible refine (area_foldl _ (fun _ _ => ?_) _ _).trans ?_
    | dsimp only
    | split
    | with_reducible refine (area_rng h (by decide)).trans ?_

theorem State.liftGroup_area (s : State) (g : Fin 4) {p : Area} (h : p ∉ [Area.lrg, .trc, .tal, .gsc, .glk, .rng, .red]) :
    area (State.liftGroup s g) p = area s p := by
  unfold State.liftGroup
  try dsimp only
  repeat' first
    | with_reducible rfl
    | with_reducible refine area_ite ?_ ?_
    | with_reducible refine area_dite (fun _ => ?_) (fun _ => ?_)
    | with_reducible refine (State.refreshTok_area _ _ (notMem_of_sub h (by decide))).trans ?_
    | with_reducible refine (State.modGroup_area _ _ _ (notMem_of_sub h (by decide))).trans ?_
    | with_reducible refine (area_each _ _ _ fun _ _ => ?_).trans ?_
    | with_reducible refine (area_foldl _ (fun _ _ => ?_) _ _).trans ?_
    | dsimp only
    | split
    | with_reducible refine (area_rng h (by decide)).trans ?_

end Sys2Proof.Machine
end

