-- ==== Sys2Proof/Laws/AreaMemOps.lean ====
section
/-!
SUPPORT. Which areas of the state each operation of MemOps.lean may change.
-/

namespace Sys2Proof.Machine

open Sys2Proof

theorem State.modSys_area (s : State) (f : Sys → Sys) {p : Area} (h : p ∉ [Area.sys]) :
    area (State.modSys s f) p = area s p := by
  unfold State.modSys
  try dsimp only
  repeat' first
    | with_reducible rfl
    | with_reducible refine area_ite ?_ ?_
    | with_reducible refine area_dite (fun _ => ?_) (fun _ => ?_)
    | with_reducible refine (area_each _ _ _ fun _ _ => ?_).trans ?_
    | with_reducible refine (area_foldl _ (fun _ _ => ?_) _ _).trans ?_
    | dsimp only
    | split
    | with_reducible refine (area_sys h (by decide)).trans ?_

theorem State.upset_area (s : State) (a : Nat) (new : List (Fin 266)) {p : Area} (h : p ∉ [Area.sys]) :
    area (State.upset s a new) p = area s p := by
  unfold State.upset
  try dsimp only
  repeat' first
    | with_reducible rfl
    | with_reducible refine area_ite ?_ ?_
    | with_reducible refine area_dite (fun _ => ?_) (fun _ => ?_)
    | with_reducible refine (State.setFlips_area _ _ _ (notMem_of_sub h (by decide))).trans ?_

theorem State.eccNote_area (s : State) (id : Option (Fin 64)) (a : Nat) (flips : List (Fin 266)) {p : Area} (h : p ∉ [Area.sys, .lrg, .trc, .tal, .rng]) :
    area (State.eccNote s id a flips).1 p = area s p := by
  unfold State.eccNote
  try dsimp only
  repeat' first
    | with_reducible rfl
    | with_reducible refine area_ite ?_ ?_
    | with_reducible refine area_dite (fun _ => ?_) (fun _ => ?_)
    | with_reducible refine (State.modSys_area _ _ (notMem_of_sub h (by decide))).trans ?_
    | with_reducible refine (State.recordReport_area _ _ _ _ _ _ _ (notMem_of_sub h (by decide))).trans ?_
    | with_reducible refine (State.record_area _ _ _ _ _ _ (notMem_of_sub h (by decide))).trans ?_
    | with_reducible refine (State.tally_area _ _ (notMem_of_sub h (by decide))).trans ?_
    | with_reducible refine (area_each _ _ _ fun _ _ => ?_).trans ?_
    | with_reducible refine (area_foldl _ (fun _ _ => ?_) _ _).trans ?_
    | with_reducible refine area_ite_fst ?_ ?_
    | dsimp only
    | split

theorem State.eccCheck_area (s : State) (id : Option (Fin 64)) (a : Nat) {p : Area} (h : p ∉ [Area.sys, .lrg, .trc, .tal, .rng]) :
    area (State.eccCheck s id a).1 p = area s p := by
  unfold State.eccCheck
  try dsimp only
  repeat' first
    | with_reducible rfl
    | with_reducible refine area_ite ?_ ?_
    | with_reducible refine area_dite (fun _ => ?_) (fun _ => ?_)
    | with_reducible refine (State.eccNote_area _ _ _ _ (notMem_of_sub h (by decide))).trans ?_

theorem State.queueWriteback_area (s : State) (a : Nat) {p : Area} (h : p ∉ [Area.sys]) :
    area (State.queueWriteback s a) p = area s p := by
  unfold State.queueWriteback
  try dsimp only
  repeat' first
    | with_reducible rfl
    | with_reducible refine area_ite ?_ ?_
    | with_reducible refine area_dite (fun _ => ?_) (fun _ => ?_)
    | with_reducible refine (State.modSys_area _ _ (notMem_of_sub h (by decide))).trans ?_

theorem State.repaired_area (s : State) (a : Nat) {p : Area} (h : p ∉ [Area.sys]) :
    area (State.repaired s a) p = area s p := by
  unfold State.repaired
  try dsimp only
  repeat' first
    | with_reducible rfl
    | with_reducible refine area_ite ?_ ?_
    | with_reducible refine area_dite (fun _ => ?_) (fun _ => ?_)
    | with_reducible refine (State.modSys_area _ _ (notMem_of_sub h (by decide))).trans ?_
    | with_reducible refine (State.setFlips_area _ _ _ (notMem_of_sub h (by decide))).trans ?_

theorem State.readCheck_area (s : State) (id : Option (Fin 64)) (a : Nat) {p : Area} (h : p ∉ [Area.sys, .lrg, .trc, .tal, .rng]) :
    area (State.readCheck s id a).1 p = area s p := by
  unfold State.readCheck
  try dsimp only
  repeat' first
    | with_reducible rfl
    | with_reducible refine area_ite ?_ ?_
    | with_reducible refine area_dite (fun _ => ?_) (fun _ => ?_)
    | with_reducible refine (State.queueWriteback_area _ _ (notMem_of_sub h (by decide))).trans ?_
    | with_reducible refine (State.eccCheck_area _ _ _ (notMem_of_sub h (by decide))).trans ?_

theorem State.readRows_area (s : State) (id : Fin 64) (a : Nat) (x3 : Nat) {p : Area} (h : p ∉ [Area.sys, .lrg, .trc, .tal, .rng]) :
    area (State.readRows s id a x3).1 p = area s p := by
  induction x3 generalizing s a with
  | zero => rfl
  | succ n ih =>
    unfold State.readRows
    exact area_ite_fst (State.readCheck_area _ _ _ h)
      ((ih _ _).trans (State.readCheck_area _ _ _ h))

theorem State.storeCopies_area (s : State) (a : Nat) (bs : List Byte) {p : Area} (h : p ∉ [Area.mem]) :
    area (State.storeCopies s a bs) p = area s p := by
  unfold State.storeCopies
  try dsimp only
  repeat' first
    | with_reducible rfl
    | with_reducible refine area_ite ?_ ?_
    | with_reducible refine area_dite (fun _ => ?_) (fun _ => ?_)
    | with_reducible refine (State.store_area _ _ _ (notMem_of_sub h (by decide))).trans ?_
    | with_reducible refine (area_each _ _ _ fun _ _ => ?_).trans ?_
    | with_reducible refine (area_foldl _ (fun _ _ => ?_) _ _).trans ?_
    | dsimp only
    | split

theorem State.repairCopies_area (s : State) (a : Nat) {p : Area} (h : p ∉ [Area.sys]) :
    area (State.repairCopies s a) p = area s p := by
  unfold State.repairCopies
  try dsimp only
  repeat' first
    | with_reducible rfl
    | with_reducible refine area_ite ?_ ?_
    | with_reducible refine area_dite (fun _ => ?_) (fun _ => ?_)
    | with_reducible refine (State.repaired_area _ _ (notMem_of_sub h (by decide))).trans ?_
    | with_reducible refine (area_each _ _ _ fun _ _ => ?_).trans ?_
    | with_reducible refine (area_foldl _ (fun _ _ => ?_) _ _).trans ?_
    | dsimp only
    | split

theorem State.checkCopies_area (s : State) (id : Fin 64) (a : Nat) {p : Area} (h : p ∉ [Area.sys, .lrg, .trc, .tal, .rng]) :
    area (State.checkCopies s id a).1 p = area s p := by
  unfold State.checkCopies
  try dsimp only
  repeat' first
    | with_reducible rfl
    | with_reducible refine area_ite ?_ ?_
    | with_reducible refine area_dite (fun _ => ?_) (fun _ => ?_)
    | with_reducible refine (State.eccCheck_area _ _ _ (notMem_of_sub h (by decide))).trans ?_
    | with_reducible refine (area_each _ _ _ fun _ _ => ?_).trans ?_
    | with_reducible refine (area_foldl _ (fun _ _ => ?_) _ _).trans ?_
    | with_reducible refine area_ite_fst ?_ ?_
    | dsimp only
    | split

theorem State.memWrite_area (s : State) (id : Fin 64) (addr : Nat) (a : Nat) (bs : List Byte) {p : Area} (h : p ∉ [Area.bus, .sys, .lrg, .trc, .tal, .rng, .mem]) :
    area (State.memWrite s id addr a bs) p = area s p := by
  unfold State.memWrite
  try dsimp only
  repeat' first
    | with_reducible rfl
    | with_reducible refine area_ite ?_ ?_
    | with_reducible refine area_dite (fun _ => ?_) (fun _ => ?_)
    | with_reducible refine (State.checkCopies_area _ _ _ (notMem_of_sub h (by decide))).trans ?_
    | with_reducible refine (State.repairCopies_area _ _ (notMem_of_sub h (by decide))).trans ?_
    | with_reducible refine (State.storeCopies_area _ _ _ (notMem_of_sub h (by decide))).trans ?_
    | with_reducible refine (State.busDone_area _ _ (notMem_of_sub h (by decide))).trans ?_
    | with_reducible refine (State.busError_area _ _ _ _ (notMem_of_sub h (by decide))).trans ?_

theorem State.memRead_area (s : State) (id : Fin 64) (addr : Nat) (a : Nat) (n : Nat) (wire : List (Fin 266)) {p : Area} (h : p ∉ [Area.bus, .sys, .lrg, .trc, .tal, .rng]) :
    area (State.memRead s id addr a n wire) p = area s p := by
  unfold State.memRead
  try dsimp only
  repeat' first
    | with_reducible rfl
    | with_reducible refine area_ite ?_ ?_
    | with_reducible refine area_dite (fun _ => ?_) (fun _ => ?_)
    | with_reducible refine (State.queueWriteback_area _ _ (notMem_of_sub h (by decide))).trans ?_
    | with_reducible refine (State.eccNote_area _ _ _ _ (notMem_of_sub h (by decide))).trans ?_
    | with_reducible refine (State.busDone_area _ _ (notMem_of_sub h (by decide))).trans ?_
    | with_reducible refine (State.busError_area _ _ _ _ (notMem_of_sub h (by decide))).trans ?_

theorem State.clearPair_area (s : State) (k : Fin 6) {p : Area} (h : p ∉ [Area.sys, .mem]) :
    area (State.clearPair s k) p = area s p := by
  unfold State.clearPair
  try dsimp only
  repeat' first
    | with_reducible rfl
    | with_reducible refine area_ite ?_ ?_
    | with_reducible refine area_dite (fun _ => ?_) (fun _ => ?_)
    | with_reducible refine (area_each _ _ _ fun _ _ => ?_).trans ?_
    | with_reducible refine (area_foldl _ (fun _ _ => ?_) _ _).trans ?_
    | dsimp only
    | split
    | with_reducible refine (area_sys h (by decide)).trans ?_
    | with_reducible refine (area_mem h (by decide)).trans ?_
    | (cases p <;> first | exact absurd (by decide) h | rfl)

theorem State.modMbx_area (s : State) (m : Fin 64) (f : Mailbox → Mailbox) {p : Area} (h : p ∉ [Area.mbx]) :
    area (State.modMbx s m f) p = area s p := by
  unfold State.modMbx
  try dsimp only
  repeat' first
    | with_reducible rfl
    | with_reducible refine area_ite ?_ ?_
    | with_reducible refine area_dite (fun _ => ?_) (fun _ => ?_)
    | with_reducible refine (area_each _ _ _ fun _ _ => ?_).trans ?_
    | with_reducible refine (area_foldl _ (fun _ _ => ?_) _ _).trans ?_
    | dsimp only
    | split
    | with_reducible refine (area_mbx h (by decide)).trans ?_

theorem State.mbxStore_area (s : State) (id : Fin 64) (m : Fin 64) (w : Word256) (collision : Bool) {p : Area} (h : p ∉ [Area.mbx]) :
    area (State.mbxStore s id m w collision) p = area s p := by
  unfold State.mbxStore
  try dsimp only
  repeat' first
    | with_reducible rfl
    | with_reducible refine area_ite ?_ ?_
    | with_reducible refine area_dite (fun _ => ?_) (fun _ => ?_)
    | with_reducible refine (State.modMbx_area _ _ _ (notMem_of_sub h (by decide))).trans ?_

end Sys2Proof.Machine
end

