-- ==== Sys2Proof/Laws/AreaPass.lean ====
section
/-!
SUPPORT. Which areas of the state each operation of Pass.lean may change.
-/

namespace Sys2Proof.Machine

open Sys2Proof

theorem State.rowCheck_area (s : State) (id : Fin 64) (e : Fin 8) (j : Nat) {p : Area} (h : p ∉ [Area.sys, .lrg, .trc, .tal, .ce, .rng]) :
    area (State.rowCheck s id e j).1 p = area s p := by
  unfold State.rowCheck
  try dsimp only
  repeat' first
    | with_reducible rfl
    | with_reducible refine area_ite ?_ ?_
    | with_reducible refine area_dite (fun _ => ?_) (fun _ => ?_)
    | with_reducible refine (State.eccNote_area _ _ _ _ (notMem_of_sub h (by decide))).trans ?_
    | with_reducible refine (State.modCe_area _ _ _ (notMem_of_sub h (by decide))).trans ?_
    | with_reducible refine (area_each _ _ _ fun _ _ => ?_).trans ?_
    | with_reducible refine (area_foldl _ (fun _ _ => ?_) _ _).trans ?_
    | with_reducible refine area_ite_fst ?_ ?_

theorem State.pokeRow_area (s : State) (e : Fin 8) (j : Nat) (v : Word24) {p : Area} (h : p ∉ [Area.sys, .lrg, .trc, .tal, .ce, .rng]) :
    area (State.pokeRow s e j v) p = area s p := by
  unfold State.pokeRow
  try dsimp only
  repeat' first
    | with_reducible rfl
    | with_reducible refine area_ite ?_ ?_
    | with_reducible refine area_dite (fun _ => ?_) (fun _ => ?_)
    | with_reducible refine (State.rowCheck_area _ _ _ _ (notMem_of_sub h (by decide))).trans ?_
    | with_reducible refine (State.modCe_area _ _ _ (notMem_of_sub h (by decide))).trans ?_

theorem State.applyHeld_area (s : State) (e : Fin 8) {p : Area} (h : p ∉ [Area.sys, .lrg, .trc, .tal, .ce, .rng]) :
    area (State.applyHeld s e) p = area s p := by
  unfold State.applyHeld
  try dsimp only
  repeat' first
    | with_reducible rfl
    | with_reducible refine area_ite ?_ ?_
    | with_reducible refine area_dite (fun _ => ?_) (fun _ => ?_)
    | with_reducible refine (State.pokeRow_area _ _ _ _ (notMem_of_sub h (by decide))).trans ?_
    | with_reducible refine (State.modCe_area _ _ _ (notMem_of_sub h (by decide))).trans ?_
    | with_reducible refine (area_each _ _ _ fun _ _ => ?_).trans ?_
    | with_reducible refine (area_foldl _ (fun _ _ => ?_) _ _).trans ?_

theorem State.ceWriteOne_area (s : State) (e : Fin 8) (j : Nat) (v : Word24) {p : Area} (h : p ∉ [Area.sys, .lrg, .trc, .tal, .ce, .rng]) :
    area (State.ceWriteOne s e j v) p = area s p := by
  unfold State.ceWriteOne
  try dsimp only
  repeat' first
    | with_reducible rfl
    | with_reducible refine area_ite ?_ ?_
    | with_reducible refine area_dite (fun _ => ?_) (fun _ => ?_)
    | with_reducible refine (State.pokeRow_area _ _ _ _ (notMem_of_sub h (by decide))).trans ?_
    | with_reducible refine (State.modCe_area _ _ _ (notMem_of_sub h (by decide))).trans ?_
    | with_reducible refine (State.record_area _ _ _ _ _ _ (notMem_of_sub h (by decide))).trans ?_
    | with_reducible refine (State.tally_area _ _ (notMem_of_sub h (by decide))).trans ?_

theorem State.ceWrite_area (s : State) (e : Fin 8) (j : Nat) (v : Word24) {p : Area} (h : p ∉ [Area.sys, .lrg, .trc, .tal, .ce, .rng]) :
    area (State.ceWrite s e j v) p = area s p := by
  unfold State.ceWrite
  try dsimp only
  repeat' first
    | with_reducible rfl
    | with_reducible refine area_ite ?_ ?_
    | with_reducible refine area_dite (fun _ => ?_) (fun _ => ?_)
    | with_reducible refine (State.ceWriteOne_area _ _ _ _ (notMem_of_sub h (by decide))).trans ?_

theorem State.ceWrites_area (s : State) (e : Fin 8) (a : Nat) (x3 : List Word24) {p : Area} (h : p ∉ [Area.sys, .lrg, .trc, .tal, .ce, .rng]) :
    area (State.ceWrites s e a x3) p = area s p := by
  induction x3 generalizing s a with
  | nil => rfl
  | cons v vs ih => exact (ih _ _).trans (State.ceWrite_area _ _ _ _ h)

theorem State.triggerOne_area (s : State) (e : Fin 8) (q : Trig) {p : Area} (h : p ∉ [Area.lrg, .trc, .tal, .ce]) :
    area (State.triggerOne s e q) p = area s p := by
  unfold State.triggerOne
  try dsimp only
  repeat' first
    | with_reducible rfl
    | with_reducible refine area_ite ?_ ?_
    | with_reducible refine area_dite (fun _ => ?_) (fun _ => ?_)
    | with_reducible refine (State.modCe_area _ _ _ (notMem_of_sub h (by decide))).trans ?_
    | with_reducible refine (State.record_area _ _ _ _ _ _ (notMem_of_sub h (by decide))).trans ?_
    | with_reducible refine (State.tally_area _ _ (notMem_of_sub h (by decide))).trans ?_

theorem State.trigger_area (s : State) (e : Fin 8) (q : Trig) {p : Area} (h : p ∉ [Area.lrg, .trc, .tal, .ce]) :
    area (State.trigger s e q) p = area s p := by
  unfold State.trigger
  try dsimp only
  repeat' first
    | with_reducible rfl
    | with_reducible refine area_ite ?_ ?_
    | with_reducible refine area_dite (fun _ => ?_) (fun _ => ?_)
    | with_reducible refine (State.triggerOne_area _ _ _ (notMem_of_sub h (by decide))).trans ?_

theorem State.flagCheck_area (s : State) (e : Fin 8) {p : Area} (h : p ∉ [Area.lrg, .trc, .tal, .ce]) :
    area (State.flagCheck s e) p = area s p := by
  unfold State.flagCheck
  try dsimp only
  repeat' first
    | with_reducible rfl
    | with_reducible refine area_ite ?_ ?_
    | with_reducible refine area_dite (fun _ => ?_) (fun _ => ?_)
    | with_reducible refine (State.modCe_area _ _ _ (notMem_of_sub h (by decide))).trans ?_
    | with_reducible refine (State.record_area _ _ _ _ _ _ (notMem_of_sub h (by decide))).trans ?_
    | with_reducible refine (State.tally_area _ _ (notMem_of_sub h (by decide))).trans ?_

theorem State.passEnd_area (s : State) (e : Fin 8) (tick : Nat) {p : Area} (h : p ∉ [Area.sys, .lrg, .trc, .tal, .ce, .glk, .rng, .red]) :
    area (State.passEnd s e tick) p = area s p := by
  unfold State.passEnd
  try dsimp only
  repeat' first
    | with_reducible rfl
    | with_reducible refine area_ite ?_ ?_
    | with_reducible refine area_dite (fun _ => ?_) (fun _ => ?_)
    | with_reducible refine (State.flagCheck_area _ _ (notMem_of_sub h (by decide))).trans ?_
    | with_reducible refine (State.applyHeld_area _ _ (notMem_of_sub h (by decide))).trans ?_
    | with_reducible refine (State.engineGone_area _ _ (notMem_of_sub h (by decide))).trans ?_
    | with_reducible refine (State.modCe_area _ _ _ (notMem_of_sub h (by decide))).trans ?_

theorem State.engineFault_area (s : State) (e : Fin 8) (cause : Nat) {p : Area} (h : p ∉ [Area.sys, .lrg, .trc, .tal, .ce, .glk, .rng, .red]) :
    area (State.engineFault s e cause) p = area s p := by
  unfold State.engineFault
  try dsimp only
  repeat' first
    | with_reducible rfl
    | with_reducible refine area_ite ?_ ?_
    | with_reducible refine area_dite (fun _ => ?_) (fun _ => ?_)
    | with_reducible refine (State.flagCheck_area _ _ (notMem_of_sub h (by decide))).trans ?_
    | with_reducible refine (State.applyHeld_area _ _ (notMem_of_sub h (by decide))).trans ?_
    | with_reducible refine (State.engineGone_area _ _ (notMem_of_sub h (by decide))).trans ?_
    | with_reducible refine (State.modCe_area _ _ _ (notMem_of_sub h (by decide))).trans ?_
    | with_reducible refine (State.recordReport_area _ _ _ _ _ _ _ (notMem_of_sub h (by decide))).trans ?_
    | with_reducible refine (State.tally_area _ _ (notMem_of_sub h (by decide))).trans ?_

end Sys2Proof.Machine
end

