-- ==== Sys2Proof/Laws/AreaBridgeOps.lean ====
section
/-!
SUPPORT. Which areas of the state each operation of BridgeOps.lean may change.
-/

namespace Sys2Proof.Machine

open Sys2Proof

theorem State.modAxb_area (s : State) (b : Fin 3) (f : Bridge → Bridge) {p : Area} (h : p ∉ [Area.axb]) :
    area (State.modAxb s b f) p = area s p := by
  unfold State.modAxb
  try dsimp only
  repeat' first
    | with_reducible rfl
    | with_reducible refine area_ite ?_ ?_
    | with_reducible refine area_dite (fun _ => ?_) (fun _ => ?_)
    | with_reducible refine (area_each _ _ _ fun _ _ => ?_).trans ?_
    | with_reducible refine (area_foldl _ (fun _ _ => ?_) _ _).trans ?_
    | dsimp only
    | split
    | with_reducible refine (area_axb h (by decide)).trans ?_

theorem State.gateEdge_area (s : State) (b : Fin 3) (p0 : Fin 3) (high : Bool) (on : Bool) (t : Nat) {p : Area} (h : p ∉ [Area.cap, .axb]) :
    area (State.gateEdge s b p0 high on t) p = area s p := by
  unfold State.gateEdge
  try dsimp only
  repeat' first
    | with_reducible rfl
    | with_reducible refine area_ite ?_ ?_
    | with_reducible refine area_dite (fun _ => ?_) (fun _ => ?_)
    | with_reducible refine (State.modAxb_area _ _ _ (notMem_of_sub h (by decide))).trans ?_
    | with_reducible refine (area_each _ _ _ fun _ _ => ?_).trans ?_
    | with_reducible refine (area_foldl _ (fun _ _ => ?_) _ _).trans ?_
    | dsimp only
    | split
    | with_reducible refine (area_cap h (by decide)).trans ?_

theorem State.doEdge_area (s : State) (b : Fin 3) (e : PEdge) {p : Area} (h : p ∉ [Area.lrg, .trc, .tal, .cap, .rng, .axb]) :
    area (State.doEdge s b e) p = area s p := by
  unfold State.doEdge
  try dsimp only
  repeat' first
    | with_reducible rfl
    | with_reducible refine area_ite ?_ ?_
    | with_reducible refine area_dite (fun _ => ?_) (fun _ => ?_)
    | with_reducible refine (State.gateEdge_area _ _ _ _ _ _ (notMem_of_sub h (by decide))).trans ?_
    | with_reducible refine (State.recordReport_area _ _ _ _ _ _ _ (notMem_of_sub h (by decide))).trans ?_
    | with_reducible refine (State.tally_area _ _ (notMem_of_sub h (by decide))).trans ?_

theorem State.edgesUpTo_area (s : State) (b : Fin 3) (t : Nat) (a : List PEdge) {p : Area} (h : p ∉ [Area.lrg, .trc, .tal, .cap, .rng, .axb]) :
    area (State.edgesUpTo s b t a) p = area s p := by
  induction a generalizing s with
  | nil => exact State.modAxb_area _ _ _ (notMem_of_sub h (by decide))
  | cons q qs ih =>
    unfold State.edgesUpTo
    refine area_ite ?_ (State.modAxb_area _ _ _ (notMem_of_sub h (by decide)))
    exact (ih _).trans (State.doEdge_area _ _ _ (notMem_of_sub h (by decide)))

theorem State.gatesNow_area (s : State) (b : Fin 3) {p : Area} (h : p ∉ [Area.lrg, .trc, .tal, .cap, .rng, .axb]) :
    area (State.gatesNow s b) p = area s p := by
  unfold State.gatesNow
  try dsimp only
  repeat' first
    | with_reducible rfl
    | with_reducible refine area_ite ?_ ?_
    | with_reducible refine area_dite (fun _ => ?_) (fun _ => ?_)
    | with_reducible refine (State.edgesUpTo_area _ _ _ _ (notMem_of_sub h (by decide))).trans ?_

theorem State.stepNow_area (s : State) (b : Fin 3) {p : Area} (h : p ∉ [Area.lrg, .trc, .tal, .cap, .rng, .axb]) :
    area (State.stepNow s b) p = area s p := by
  unfold State.stepNow
  try dsimp only
  repeat' first
    | with_reducible rfl
    | with_reducible refine area_ite ?_ ?_
    | with_reducible refine area_dite (fun _ => ?_) (fun _ => ?_)
    | with_reducible refine (State.edgesUpTo_area _ _ _ _ (notMem_of_sub h (by decide))).trans ?_

theorem State.place_area (s : State) (b : Fin 3) {p : Area} (h : p ∉ [Area.axb]) :
    area (State.place s b) p = area s p := by
  unfold State.place
  try dsimp only
  repeat' first
    | with_reducible rfl
    | with_reducible refine area_ite ?_ ?_
    | with_reducible refine area_dite (fun _ => ?_) (fun _ => ?_)
    | with_reducible refine (State.modAxb_area _ _ _ (notMem_of_sub h (by decide))).trans ?_

theorem State.toB_area (s : State) (b : Fin 3) (st : BState) {p : Area} (h : p ∉ [Area.lrg, .trc, .tal, .cap, .rng, .axb]) :
    area (State.toB s b st) p = area s p := by
  unfold State.toB
  try dsimp only
  repeat' first
    | with_reducible rfl
    | with_reducible refine area_ite ?_ ?_
    | with_reducible refine area_dite (fun _ => ?_) (fun _ => ?_)
    | with_reducible refine (State.gatesNow_area _ _ (notMem_of_sub h (by decide))).trans ?_
    | with_reducible refine (State.modAxb_area _ _ _ (notMem_of_sub h (by decide))).trans ?_

theorem State.coast_area (s : State) (b : Fin 3) (cause : Nat) {p : Area} (h : p ∉ [Area.lrg, .trc, .tal, .cap, .rng, .axb]) :
    area (State.coast s b cause) p = area s p := by
  unfold State.coast
  try dsimp only
  repeat' first
    | with_reducible rfl
    | with_reducible refine area_ite ?_ ?_
    | with_reducible refine area_dite (fun _ => ?_) (fun _ => ?_)
    | with_reducible refine (State.toB_area _ _ _ (notMem_of_sub h (by decide))).trans ?_
    | with_reducible refine (State.record_area _ _ _ _ _ _ (notMem_of_sub h (by decide))).trans ?_
    | with_reducible refine (State.tally_area _ _ (notMem_of_sub h (by decide))).trans ?_

theorem State.startStep_area (s : State) (b : Fin 3) (t : Nat) (len : Nat) {p : Area} (h : p ∉ [Area.lrg, .trc, .tal, .cap, .rng, .axb]) :
    area (State.startStep s b t len) p = area s p := by
  unfold State.startStep
  try dsimp only
  repeat' first
    | with_reducible rfl
    | with_reducible refine area_ite ?_ ?_
    | with_reducible refine area_dite (fun _ => ?_) (fun _ => ?_)
    | with_reducible refine (State.place_area _ _ (notMem_of_sub h (by decide))).trans ?_
    | with_reducible refine (State.stepNow_area _ _ (notMem_of_sub h (by decide))).trans ?_
    | with_reducible refine (State.modAxb_area _ _ _ (notMem_of_sub h (by decide))).trans ?_

theorem State.driveRequest_area (s : State) (b : Fin 3) (v : Nat) {p : Area} (h : p ∉ [Area.lrg, .trc, .tal, .cap, .rng, .axb]) :
    area (State.driveRequest s b v) p = area s p := by
  unfold State.driveRequest
  try dsimp only
  repeat' first
    | with_reducible rfl
    | with_reducible refine area_ite ?_ ?_
    | with_reducible refine area_dite (fun _ => ?_) (fun _ => ?_)
    | with_reducible refine (State.toB_area _ _ _ (notMem_of_sub h (by decide))).trans ?_
    | with_reducible refine (State.modAxb_area _ _ _ (notMem_of_sub h (by decide))).trans ?_
    | with_reducible refine (area_each _ _ _ fun _ _ => ?_).trans ?_
    | with_reducible refine (area_foldl _ (fun _ _ => ?_) _ _).trans ?_
    | dsimp only
    | split

theorem State.axbPattern_area (s : State) (b : Fin 3) (p0 : Nat) {p : Area} (h : p ∉ [Area.lrg, .trc, .tal, .cap, .rng, .axb]) :
    area (State.axbPattern s b p0) p = area s p := by
  unfold State.axbPattern
  try dsimp only
  repeat' first
    | with_reducible rfl
    | with_reducible refine area_ite ?_ ?_
    | with_reducible refine area_dite (fun _ => ?_) (fun _ => ?_)
    | with_reducible refine (State.gatesNow_area _ _ (notMem_of_sub h (by decide))).trans ?_
    | with_reducible refine (State.modAxb_area _ _ _ (notMem_of_sub h (by decide))).trans ?_

theorem State.axbRelease_area (s : State) (b : Fin 3) {p : Area} (h : p ∉ [Area.lrg, .trc, .tal, .cap, .rng, .axb]) :
    area (State.axbRelease s b) p = area s p := by
  unfold State.axbRelease
  try dsimp only
  repeat' first
    | with_reducible rfl
    | with_reducible refine area_ite ?_ ?_
    | with_reducible refine area_dite (fun _ => ?_) (fun _ => ?_)
    | with_reducible refine (State.gatesNow_area _ _ (notMem_of_sub h (by decide))).trans ?_
    | with_reducible refine (State.modAxb_area _ _ _ (notMem_of_sub h (by decide))).trans ?_

theorem State.axbLapse_area (s : State) (b : Fin 3) {p : Area} (h : p ∉ [Area.lrg, .trc, .tal, .cap, .rng, .axb]) :
    area (State.axbLapse s b) p = area s p := by
  unfold State.axbLapse
  try dsimp only
  repeat' first
    | with_reducible rfl
    | with_reducible refine area_ite ?_ ?_
    | with_reducible refine area_dite (fun _ => ?_) (fun _ => ?_)
    | with_reducible refine (State.toB_area _ _ _ (notMem_of_sub h (by decide))).trans ?_
    | with_reducible refine (State.record_area _ _ _ _ _ _ (notMem_of_sub h (by decide))).trans ?_
    | with_reducible refine (State.tally_area _ _ (notMem_of_sub h (by decide))).trans ?_

theorem State.commitAxb_area (s : State) (b : Fin 3) (slots : List (Nat × Word24)) {p : Area} (h : p ∉ [Area.lrg, .trc, .tal, .cap, .rng, .axb]) :
    area (State.commitAxb s b slots) p = area s p := by
  unfold State.commitAxb
  try dsimp only
  repeat' first
    | with_reducible rfl
    | with_reducible refine area_ite ?_ ?_
    | with_reducible refine area_dite (fun _ => ?_) (fun _ => ?_)
    | with_reducible refine (State.axbLapse_area _ _ (notMem_of_sub h (by decide))).trans ?_
    | with_reducible refine (State.modAxb_area _ _ _ (notMem_of_sub h (by decide))).trans ?_

theorem State.takeCommit_area (s : State) (b : Fin 3) (c : BCommit) {p : Area} (h : p ∉ [Area.lrg, .trc, .tal, .cap, .rng, .axb]) :
    area (State.takeCommit s b c) p = area s p := by
  unfold State.takeCommit
  try dsimp only
  repeat' first
    | with_reducible rfl
    | with_reducible refine area_ite ?_ ?_
    | with_reducible refine area_dite (fun _ => ?_) (fun _ => ?_)
    | with_reducible refine (State.driveRequest_area _ _ _ (notMem_of_sub h (by decide))).trans ?_
    | with_reducible refine (State.modAxb_area _ _ _ (notMem_of_sub h (by decide))).trans ?_
    | with_reducible refine (area_each _ _ _ fun _ _ => ?_).trans ?_
    | with_reducible refine (area_foldl _ (fun _ _ => ?_) _ _).trans ?_
    | dsimp only
    | split

theorem State.axbCmd_area (s : State) (b : Fin 3) (arg : Int) {p : Area} (h : p ∉ [Area.axb]) :
    area (State.axbCmd s b arg) p = area s p := by
  unfold State.axbCmd
  try dsimp only
  repeat' first
    | with_reducible rfl
    | with_reducible refine area_ite ?_ ?_
    | with_reducible refine area_dite (fun _ => ?_) (fun _ => ?_)
    | with_reducible refine (State.modAxb_area _ _ _ (notMem_of_sub h (by decide))).trans ?_

end Sys2Proof.Machine
end

