-- ==== Sys2Proof/Laws/AreaAngle.lean ====
section
/-!
SUPPORT. Which areas of the state each operation of Angle.lean may change.
-/

namespace Sys2Proof.Machine

open Sys2Proof

theorem State.modEnc_area (s : State) (e : Fin 2) (f : Encoder → Encoder) {p : Area} (h : p ∉ [Area.pos]) :
    area (State.modEnc s e f) p = area s p := by
  unfold State.modEnc
  try dsimp only
  repeat' first
    | with_reducible rfl
    | with_reducible refine area_ite ?_ ?_
    | with_reducible refine area_dite (fun _ => ?_) (fun _ => ?_)
    | with_reducible refine (area_each _ _ _ fun _ _ => ?_).trans ?_
    | with_reducible refine (area_foldl _ (fun _ _ => ?_) _ _).trans ?_
    | dsimp only
    | split
    | with_reducible refine (area_pos h (by decide)).trans ?_

theorem State.latchEnc_area (s : State) (e : Fin 2) (t : Tick) {p : Area} (h : p ∉ [Area.pos]) :
    area (State.latchEnc s e t) p = area s p := by
  unfold State.latchEnc
  try dsimp only
  repeat' first
    | with_reducible rfl
    | with_reducible refine area_ite ?_ ?_
    | with_reducible refine area_dite (fun _ => ?_) (fun _ => ?_)
    | with_reducible refine (State.modEnc_area _ _ _ (notMem_of_sub h (by decide))).trans ?_

end Sys2Proof.Machine
end

