-- ==== Sys2Proof/Laws/AreaTraction.lean ====
section
/-!
SUPPORT. Which areas of the state each operation of Traction.lean may change.
-/

namespace Sys2Proof.Machine

open Sys2Proof

theorem State.speedChanged_area (s : State) (m : Fin 2) {p : Area} (h : p ∉ [Area.trx]) :
    area (State.speedChanged s m) p = area s p := by
  unfold State.speedChanged
  try dsimp only
  repeat' first
    | with_reducible rfl
    | with_reducible refine area_ite ?_ ?_
    | with_reducible refine area_dite (fun _ => ?_) (fun _ => ?_)
    | with_reducible refine (State.modTrx_area _ _ _ (notMem_of_sub h (by decide))).trans ?_

theorem State.writeInput_area (s : State) (m : Fin 2) {p : Area} (h : p ∉ [Area.sys, .lrg, .trc, .tal, .ce, .trx, .rng]) :
    area (State.writeInput s m) p = area s p := by
  unfold State.writeInput
  try dsimp only
  repeat' first
    | with_reducible rfl
    | with_reducible refine area_ite ?_ ?_
    | with_reducible refine area_dite (fun _ => ?_) (fun _ => ?_)
    | with_reducible refine (State.ceWrites_area _ _ _ _ (notMem_of_sub h (by decide))).trans ?_
    | with_reducible refine (State.modTrx_area _ _ _ (notMem_of_sub h (by decide))).trans ?_
    | with_reducible refine (area_each _ _ _ fun _ _ => ?_).trans ?_

theorem State.positionLost_area (s : State) (m : Fin 2) (cause : Nat) (speed : Int) {p : Area} (h : p ∉ [Area.lrg, .trc, .tal, .rng]) :
    area (State.positionLost s m cause speed) p = area s p := by
  unfold State.positionLost
  try dsimp only
  repeat' first
    | with_reducible rfl
    | with_reducible refine area_ite ?_ ?_
    | with_reducible refine area_dite (fun _ => ?_) (fun _ => ?_)
    | with_reducible refine (State.recordReport_area _ _ _ _ _ _ _ (notMem_of_sub h (by decide))).trans ?_
    | with_reducible refine (State.tally_area _ _ (notMem_of_sub h (by decide))).trans ?_

theorem State.encFaultTo_area (s : State) (m : Fin 2) {p : Area} (h : p ∉ [Area.lrg, .trc, .tal, .trx, .rng]) :
    area (State.encFaultTo s m) p = area s p := by
  unfold State.encFaultTo
  try dsimp only
  repeat' first
    | with_reducible rfl
    | with_reducible refine area_ite ?_ ?_
    | with_reducible refine area_dite (fun _ => ?_) (fun _ => ?_)
    | with_reducible refine (State.positionLost_area _ _ _ _ (notMem_of_sub h (by decide))).trans ?_
    | with_reducible refine (State.modTrx_area _ _ _ (notMem_of_sub h (by decide))).trans ?_
    | with_reducible refine (State.record_area _ _ _ _ _ _ (notMem_of_sub h (by decide))).trans ?_
    | with_reducible refine (State.tally_area _ _ (notMem_of_sub h (by decide))).trans ?_
    | with_reducible refine (area_each _ _ _ fun _ _ => ?_).trans ?_
    | with_reducible refine (area_foldl _ (fun _ _ => ?_) _ _).trans ?_
    | dsimp only
    | split

theorem State.toIdle_area (s : State) (m : Fin 2) {p : Area} (h : p ∉ [Area.lrg, .trc, .tal, .trx, .glk, .red]) :
    area (State.toIdle s m) p = area s p := by
  unfold State.toIdle
  try dsimp only
  repeat' first
    | with_reducible rfl
    | with_reducible refine area_ite ?_ ?_
    | with_reducible refine area_dite (fun _ => ?_) (fun _ => ?_)
    | with_reducible refine (State.refreshTok_area _ _ (notMem_of_sub h (by decide))).trans ?_
    | with_reducible refine (State.modTrx_area _ _ _ (notMem_of_sub h (by decide))).trans ?_

theorem State.observeStore_area (s : State) (e : Fin 8) (j : Nat) (v : Word24) {p : Area} (h : p ∉ [Area.trx]) :
    area (State.observeStore s e j v) p = area s p := by
  unfold State.observeStore
  try dsimp only
  repeat' first
    | with_reducible rfl
    | with_reducible refine area_ite ?_ ?_
    | with_reducible refine area_dite (fun _ => ?_) (fun _ => ?_)
    | with_reducible refine (State.modTrx_area _ _ _ (notMem_of_sub h (by decide))).trans ?_
    | with_reducible refine (area_each _ _ _ fun _ _ => ?_).trans ?_

theorem State.convertOut_area (s : State) (m : Fin 2) {p : Area} (h : p ∉ [Area.trx]) :
    area (State.convertOut s m) p = area s p := by
  unfold State.convertOut
  try dsimp only
  repeat' first
    | with_reducible rfl
    | with_reducible refine area_ite ?_ ?_
    | with_reducible refine area_dite (fun _ => ?_) (fun _ => ?_)
    | with_reducible refine (State.modTrx_area _ _ _ (notMem_of_sub h (by decide))).trans ?_

theorem State.verify_area (s : State) (m : Fin 2) (pstart : Tick) {p : Area} (h : p ∉ [Area.lrg, .trc, .tal, .trx]) :
    area (State.verify s m pstart) p = area s p := by
  unfold State.verify
  try dsimp only
  repeat' first
    | with_reducible rfl
    | with_reducible refine area_ite ?_ ?_
    | with_reducible refine area_dite (fun _ => ?_) (fun _ => ?_)
    | with_reducible refine (State.modTrx_area _ _ _ (notMem_of_sub h (by decide))).trans ?_
    | with_reducible refine (State.record_area _ _ _ _ _ _ (notMem_of_sub h (by decide))).trans ?_
    | with_reducible refine (State.tally_area _ _ (notMem_of_sub h (by decide))).trans ?_

theorem State.relockEval_area (s : State) (m : Fin 2) {p : Area} (h : p ∉ [Area.lrg, .trc, .tal, .trx]) :
    area (State.relockEval s m) p = area s p := by
  unfold State.relockEval
  try dsimp only
  repeat' first
    | with_reducible rfl
    | with_reducible refine area_ite ?_ ?_
    | with_reducible refine area_dite (fun _ => ?_) (fun _ => ?_)
    | with_reducible refine (State.modTrx_area _ _ _ (notMem_of_sub h (by decide))).trans ?_
    | with_reducible refine (State.record_area _ _ _ _ _ _ (notMem_of_sub h (by decide))).trans ?_
    | with_reducible refine (State.tally_area _ _ (notMem_of_sub h (by decide))).trans ?_
    | with_reducible refine (area_each _ _ _ fun _ _ => ?_).trans ?_
    | with_reducible refine (area_foldl _ (fun _ _ => ?_) _ _).trans ?_
    | dsimp only
    | split

theorem State.sourceEval_area (s : State) (m : Fin 2) {p : Area} (h : p ∉ [Area.lrg, .trc, .tal, .rng]) :
    area (State.sourceEval s m) p = area s p := by
  unfold State.sourceEval
  try dsimp only
  repeat' first
    | with_reducible rfl
    | with_reducible refine area_ite ?_ ?_
    | with_reducible refine area_dite (fun _ => ?_) (fun _ => ?_)
    | with_reducible refine (State.positionLost_area _ _ _ _ (notMem_of_sub h (by decide))).trans ?_
    | with_reducible refine (area_each _ _ _ fun _ _ => ?_).trans ?_
    | with_reducible refine (area_foldl _ (fun _ _ => ?_) _ _).trans ?_
    | dsimp only
    | split

theorem State.torqueSeen_area (s : State) (m : Fin 2) {p : Area} (h : p ∉ [Area.rng]) :
    area (State.torqueSeen s m) p = area s p := by
  unfold State.torqueSeen
  try dsimp only
  repeat' first
    | with_reducible rfl
    | with_reducible refine area_ite ?_ ?_
    | with_reducible refine area_dite (fun _ => ?_) (fun _ => ?_)
    | with_reducible refine (area_each _ _ _ fun _ _ => ?_).trans ?_
    | with_reducible refine (area_foldl _ (fun _ _ => ?_) _ _).trans ?_
    | dsimp only
    | split
    | with_reducible refine (area_rng h (by decide)).trans ?_

theorem State.evaluate_area (s : State) (m : Fin 2) (pstart : Tick) {p : Area} (h : p ∉ [Area.lrg, .trc, .tal, .trx, .rng]) :
    area (State.evaluate s m pstart) p = area s p := by
  unfold State.evaluate
  try dsimp only
  repeat' first
    | with_reducible rfl
    | with_reducible refine area_ite ?_ ?_
    | with_reducible refine area_dite (fun _ => ?_) (fun _ => ?_)
    | with_reducible refine (State.torqueSeen_area _ _ (notMem_of_sub h (by decide))).trans ?_
    | with_reducible refine (State.sourceEval_area _ _ (notMem_of_sub h (by decide))).trans ?_
    | with_reducible refine (State.relockEval_area _ _ (notMem_of_sub h (by decide))).trans ?_
    | with_reducible refine (State.verify_area _ _ _ (notMem_of_sub h (by decide))).trans ?_
    | with_reducible refine (State.convertOut_area _ _ (notMem_of_sub h (by decide))).trans ?_
    | with_reducible refine (State.speedChanged_area _ _ (notMem_of_sub h (by decide))).trans ?_
    | with_reducible refine (State.modTrx_area _ _ _ (notMem_of_sub h (by decide))).trans ?_

end Sys2Proof.Machine
end

