-- ==== Sys2Proof/Laws/AreaChargerOps.lean ====
section
/-!
SUPPORT. Which areas of the state each operation of ChargerOps.lean may change.
-/

namespace Sys2Proof.Machine

open Sys2Proof

theorem State.modChg_area (s : State) (f : Chg → Chg) {p : Area} (h : p ∉ [Area.chg]) :
    area (State.modChg s f) p = area s p := by
  unfold State.modChg
  try dsimp only
  repeat' first
    | with_reducible rfl
    | with_reducible refine area_ite ?_ ?_
    | with_reducible refine area_dite (fun _ => ?_) (fun _ => ?_)
    | with_reducible refine (area_each _ _ _ fun _ _ => ?_).trans ?_
    | with_reducible refine (area_foldl _ (fun _ _ => ?_) _ _).trans ?_
    | dsimp only
    | split
    | with_reducible refine (area_chg h (by decide)).trans ?_

theorem State.modObc_area (s : State) (f : Obc → Obc) {p : Area} (h : p ∉ [Area.obc]) :
    area (State.modObc s f) p = area s p := by
  unfold State.modObc
  try dsimp only
  repeat' first
    | with_reducible rfl
    | with_reducible refine area_ite ?_ ?_
    | with_reducible refine area_dite (fun _ => ?_) (fun _ => ?_)
    | with_reducible refine (area_each _ _ _ fun _ _ => ?_).trans ?_
    | with_reducible refine (area_foldl _ (fun _ _ => ?_) _ _).trans ?_
    | dsimp only
    | split
    | with_reducible refine (area_obc h (by decide)).trans ?_

theorem State.setSetpoints_area (s : State) {p : Area} (h : p ∉ [Area.obc]) :
    area (State.setSetpoints s) p = area s p := by
  unfold State.setSetpoints
  try dsimp only
  repeat' first
    | with_reducible rfl
    | with_reducible refine area_ite ?_ ?_
    | with_reducible refine area_dite (fun _ => ?_) (fun _ => ?_)
    | with_reducible refine (State.modObc_area _ _ (notMem_of_sub h (by decide))).trans ?_

theorem State.writeObc_area (s : State) {p : Area} (h : p ∉ [Area.sys, .lrg, .trc, .tal, .ce, .rng, .obc]) :
    area (State.writeObc s) p = area s p := by
  unfold State.writeObc
  try dsimp only
  repeat' first
    | with_reducible rfl
    | with_reducible refine area_ite ?_ ?_
    | with_reducible refine area_dite (fun _ => ?_) (fun _ => ?_)
    | with_reducible refine (State.modObc_area _ _ (notMem_of_sub h (by decide))).trans ?_
    | with_reducible refine (State.ceWrites_area _ _ _ _ (notMem_of_sub h (by decide))).trans ?_

theorem State.chgTo_area (s : State) (st : SState) {p : Area} (h : p ∉ [Area.lrg, .trc, .tal, .glk, .red, .obc, .chg]) :
    area (State.chgTo s st) p = area s p := by
  unfold State.chgTo
  try dsimp only
  repeat' first
    | with_reducible rfl
    | with_reducible refine area_ite ?_ ?_
    | with_reducible refine area_dite (fun _ => ?_) (fun _ => ?_)
    | with_reducible refine (State.modObc_area _ _ (notMem_of_sub h (by decide))).trans ?_
    | with_reducible refine (State.modChg_area _ _ (notMem_of_sub h (by decide))).trans ?_
    | with_reducible refine (State.refreshTok_area _ _ (notMem_of_sub h (by decide))).trans ?_
    | with_reducible refine (State.record_area _ _ _ _ _ _ (notMem_of_sub h (by decide))).trans ?_

theorem State.terminate_area (s : State) (term : Nat) {p : Area} (h : p ∉ [Area.lrg, .trc, .tal, .chg]) :
    area (State.terminate s term) p = area s p := by
  unfold State.terminate
  try dsimp only
  repeat' first
    | with_reducible rfl
    | with_reducible refine area_ite ?_ ?_
    | with_reducible refine area_dite (fun _ => ?_) (fun _ => ?_)
    | with_reducible refine (State.modChg_area _ _ (notMem_of_sub h (by decide))).trans ?_
    | with_reducible refine (State.record_area _ _ _ _ _ _ (notMem_of_sub h (by decide))).trans ?_
    | with_reducible refine (State.tally_area _ _ (notMem_of_sub h (by decide))).trans ?_

theorem State.handRelease_area (s : State) {p : Area} (h : p ∉ [Area.lrg, .trc, .tal, .gsc, .glk, .red, .obc, .chg, .emitted]) :
    area (State.handRelease s) p = area s p := by
  unfold State.handRelease
  try dsimp only
  repeat' first
    | with_reducible rfl
    | with_reducible refine area_ite ?_ ?_
    | with_reducible refine area_dite (fun _ => ?_) (fun _ => ?_)
    | with_reducible refine (State.modObc_area _ _ (notMem_of_sub h (by decide))).trans ?_
    | with_reducible refine (State.modChg_area _ _ (notMem_of_sub h (by decide))).trans ?_
    | with_reducible refine (State.releaseGroup_area _ _ (notMem_of_sub h (by decide))).trans ?_

theorem State.handOver_area (s : State) (term : Nat) {p : Area} (h : p ∉ [Area.lrg, .trc, .tal, .gsc, .glk, .red, .obc, .chg, .emitted]) :
    area (State.handOver s term) p = area s p := by
  unfold State.handOver
  try dsimp only
  repeat' first
    | with_reducible rfl
    | with_reducible refine area_ite ?_ ?_
    | with_reducible refine area_dite (fun _ => ?_) (fun _ => ?_)
    | with_reducible refine (State.handRelease_area _ (notMem_of_sub h (by decide))).trans ?_
    | with_reducible refine (State.terminate_area _ _ (notMem_of_sub h (by decide))).trans ?_
    | with_reducible refine (State.chgTo_area _ _ (notMem_of_sub h (by decide))).trans ?_
    | with_reducible refine (State.modObc_area _ _ (notMem_of_sub h (by decide))).trans ?_
    | with_reducible refine (State.modChg_area _ _ (notMem_of_sub h (by decide))).trans ?_
    | with_reducible refine (State.tally_area _ _ (notMem_of_sub h (by decide))).trans ?_

theorem State.chgOff_area (s : State) {p : Area} (h : p ∉ [Area.lrg, .trc, .tal, .gsc, .glk, .red, .obc, .chg, .emitted]) :
    area (State.chgOff s) p = area s p := by
  unfold State.chgOff
  try dsimp only
  repeat' first
    | with_reducible rfl
    | with_reducible refine area_ite ?_ ?_
    | with_reducible refine area_dite (fun _ => ?_) (fun _ => ?_)
    | with_reducible refine (State.handOver_area _ _ (notMem_of_sub h (by decide))).trans ?_
    | with_reducible refine (State.handRelease_area _ (notMem_of_sub h (by decide))).trans ?_

theorem State.chgExit_area (s : State) {p : Area} (h : p ∉ [Area.lrg, .trc, .tal, .gsc, .glk, .red, .obc, .chg, .emitted]) :
    area (State.chgExit s) p = area s p := by
  unfold State.chgExit
  try dsimp only
  repeat' first
    | with_reducible rfl
    | with_reducible refine area_ite ?_ ?_
    | with_reducible refine area_dite (fun _ => ?_) (fun _ => ?_)
    | with_reducible refine (State.handOver_area _ _ (notMem_of_sub h (by decide))).trans ?_
    | with_reducible refine (State.modChg_area _ _ (notMem_of_sub h (by decide))).trans ?_

theorem State.chgStop_area (s : State) {p : Area} (h : p ∉ [Area.lrg, .trc, .tal, .gsc, .glk, .red, .obc, .chg, .emitted]) :
    area (State.chgStop s) p = area s p := by
  unfold State.chgStop
  try dsimp only
  repeat' first
    | with_reducible rfl
    | with_reducible refine area_ite ?_ ?_
    | with_reducible refine area_dite (fun _ => ?_) (fun _ => ?_)
    | with_reducible refine (State.handOver_area _ _ (notMem_of_sub h (by decide))).trans ?_

theorem State.inletFault_area (s : State) {p : Area} (h : p ∉ [Area.lrg, .trc, .tal, .gsc, .glk, .red, .obc, .chg, .emitted]) :
    area (State.inletFault s) p = area s p := by
  unfold State.inletFault
  try dsimp only
  repeat' first
    | with_reducible rfl
    | with_reducible refine area_ite ?_ ?_
    | with_reducible refine area_dite (fun _ => ?_) (fun _ => ?_)
    | with_reducible refine (State.handOver_area _ _ (notMem_of_sub h (by decide))).trans ?_
    | with_reducible refine (State.tally_area _ _ (notMem_of_sub h (by decide))).trans ?_

theorem State.inletChanged_area (s : State) {p : Area} (h : p ∉ [Area.lrg, .trc, .tal, .gsc, .glk, .red, .obc, .chg, .emitted]) :
    area (State.inletChanged s) p = area s p := by
  unfold State.inletChanged
  try dsimp only
  repeat' first
    | with_reducible rfl
    | with_reducible refine area_ite ?_ ?_
    | with_reducible refine area_dite (fun _ => ?_) (fun _ => ?_)
    | with_reducible refine (State.inletFault_area _ (notMem_of_sub h (by decide))).trans ?_
    | with_reducible refine (State.chgExit_area _ (notMem_of_sub h (by decide))).trans ?_
    | with_reducible refine (State.modChg_area _ _ (notMem_of_sub h (by decide))).trans ?_
    | with_reducible refine (State.tally_area _ _ (notMem_of_sub h (by decide))).trans ?_

theorem State.acceptPilot_area (s : State) (new : Nat) {p : Area} (h : p ∉ [Area.lrg, .trc, .tal, .gsc, .glk, .red, .obc, .chg, .emitted]) :
    area (State.acceptPilot s new) p = area s p := by
  unfold State.acceptPilot
  try dsimp only
  repeat' first
    | with_reducible rfl
    | with_reducible refine area_ite ?_ ?_
    | with_reducible refine area_dite (fun _ => ?_) (fun _ => ?_)
    | with_reducible refine (State.inletChanged_area _ (notMem_of_sub h (by decide))).trans ?_
    | with_reducible refine (State.modChg_area _ _ (notMem_of_sub h (by decide))).trans ?_
    | with_reducible refine (State.record_area _ _ _ _ _ _ (notMem_of_sub h (by decide))).trans ?_
    | with_reducible refine (State.tally_area _ _ (notMem_of_sub h (by decide))).trans ?_

theorem State.acceptCable_area (s : State) (new : Nat) {p : Area} (h : p ∉ [Area.lrg, .trc, .tal, .gsc, .glk, .red, .obc, .chg, .emitted]) :
    area (State.acceptCable s new) p = area s p := by
  unfold State.acceptCable
  try dsimp only
  repeat' first
    | with_reducible rfl
    | with_reducible refine area_ite ?_ ?_
    | with_reducible refine area_dite (fun _ => ?_) (fun _ => ?_)
    | with_reducible refine (State.acceptPilot_area _ _ (notMem_of_sub h (by decide))).trans ?_
    | with_reducible refine (State.inletChanged_area _ (notMem_of_sub h (by decide))).trans ?_
    | with_reducible refine (State.modChg_area _ _ (notMem_of_sub h (by decide))).trans ?_
    | with_reducible refine (State.record_area _ _ _ _ _ _ (notMem_of_sub h (by decide))).trans ?_
    | with_reducible refine (State.tally_area _ _ (notMem_of_sub h (by decide))).trans ?_
    | with_reducible refine (area_each _ _ _ fun _ _ => ?_).trans ?_
    | with_reducible refine (area_foldl _ (fun _ _ => ?_) _ _).trans ?_
    | dsimp only
    | split

theorem State.obcStore_area (s : State) (e : Fin 8) (j : Nat) (v : Word24) {p : Area} (h : p ∉ [Area.obc]) :
    area (State.obcStore s e j v) p = area s p := by
  unfold State.obcStore
  try dsimp only
  repeat' first
    | with_reducible rfl
    | with_reducible refine area_ite ?_ ?_
    | with_reducible refine area_dite (fun _ => ?_) (fun _ => ?_)
    | with_reducible refine (State.modObc_area _ _ (notMem_of_sub h (by decide))).trans ?_

theorem State.obcEvaluate_area (s : State) {p : Area} (h : p ∉ [Area.obc, .chg]) :
    area (State.obcEvaluate s) p = area s p := by
  unfold State.obcEvaluate
  try dsimp only
  repeat' first
    | with_reducible rfl
    | with_reducible refine area_ite ?_ ?_
    | with_reducible refine area_dite (fun _ => ?_) (fun _ => ?_)
    | with_reducible refine (State.modObc_area _ _ (notMem_of_sub h (by decide))).trans ?_
    | with_reducible refine (State.modChg_area _ _ (notMem_of_sub h (by decide))).trans ?_

theorem State.obcLimiter_area (s : State) (i : Nat) {p : Area} (h : p ∉ [Area.obc, .chg]) :
    area (State.obcLimiter s i) p = area s p := by
  unfold State.obcLimiter
  try dsimp only
  repeat' first
    | with_reducible rfl
    | with_reducible refine area_ite ?_ ?_
    | with_reducible refine area_dite (fun _ => ?_) (fun _ => ?_)
    | with_reducible refine (State.modObc_area _ _ (notMem_of_sub h (by decide))).trans ?_
    | with_reducible refine (State.modChg_area _ _ (notMem_of_sub h (by decide))).trans ?_

theorem State.chgVoltage_area (s : State) (mean : Word24) {p : Area} (h : p ∉ [Area.chg]) :
    area (State.chgVoltage s mean) p = area s p := by
  unfold State.chgVoltage
  try dsimp only
  repeat' first
    | with_reducible rfl
    | with_reducible refine area_ite ?_ ?_
    | with_reducible refine area_dite (fun _ => ?_) (fun _ => ?_)
    | with_reducible refine (State.modChg_area _ _ (notMem_of_sub h (by decide))).trans ?_

theorem State.chgCurrent_area (s : State) (mean : Word24) {p : Area} (h : p ∉ [Area.chg]) :
    area (State.chgCurrent s mean) p = area s p := by
  unfold State.chgCurrent
  try dsimp only
  repeat' first
    | with_reducible rfl
    | with_reducible refine area_ite ?_ ?_
    | with_reducible refine area_dite (fun _ => ?_) (fun _ => ?_)
    | with_reducible refine (State.modChg_area _ _ (notMem_of_sub h (by decide))).trans ?_

theorem State.chgGrid_area (s : State) (mean : Word24) {p : Area} (h : p ∉ [Area.chg]) :
    area (State.chgGrid s mean) p = area s p := by
  unfold State.chgGrid
  try dsimp only
  repeat' first
    | with_reducible rfl
    | with_reducible refine area_ite ?_ ?_
    | with_reducible refine area_dite (fun _ => ?_) (fun _ => ?_)
    | with_reducible refine (State.modChg_area _ _ (notMem_of_sub h (by decide))).trans ?_

theorem State.setBand_area (s : State) (b : Nat) {p : Area} (h : p ∉ [Area.lrg, .trc, .tal, .chg]) :
    area (State.setBand s b) p = area s p := by
  unfold State.setBand
  try dsimp only
  repeat' first
    | with_reducible rfl
    | with_reducible refine area_ite ?_ ?_
    | with_reducible refine area_dite (fun _ => ?_) (fun _ => ?_)
    | with_reducible refine (State.modChg_area _ _ (notMem_of_sub h (by decide))).trans ?_
    | with_reducible refine (State.record_area _ _ _ _ _ _ (notMem_of_sub h (by decide))).trans ?_

end Sys2Proof.Machine
end

