-- ==== Sys2Proof/Laws/AreaGateOps.lean ====
section
/-!
SUPPORT. Which areas of the state each operation of GateOps.lean may change.
-/

namespace Sys2Proof.Machine

open Sys2Proof

theorem State.notice_area (s : State) (g : Nat) (stamp : Nat) {p : Area} (h : p ∉ [Area.cap]) :
    area (State.notice s g stamp) p = area s p := by
  unfold State.notice
  try dsimp only
  repeat' first
    | with_reducible rfl
    | with_reducible refine area_ite ?_ ?_
    | with_reducible refine area_dite (fun _ => ?_) (fun _ => ?_)
    | with_reducible refine (area_each _ _ _ fun _ _ => ?_).trans ?_
    | with_reducible refine (area_foldl _ (fun _ _ => ?_) _ _).trans ?_
    | dsimp only
    | split
    | with_reducible refine (area_cap h (by decide)).trans ?_

theorem State.enqueue_area (s : State) (g : Fin 4) (epoch : Word32) (interval : Nat) (legs : List Nat) (cs : List ChanEdge) {p : Area} (h : p ∉ [Area.cap, .glk]) :
    area (State.enqueue s g epoch interval legs cs) p = area s p := by
  unfold State.enqueue
  try dsimp only
  repeat' first
    | with_reducible rfl
    | with_reducible refine area_ite ?_ ?_
    | with_reducible refine area_dite (fun _ => ?_) (fun _ => ?_)
    | with_reducible refine (State.notice_area _ _ _ (notMem_of_sub h (by decide))).trans ?_
    | with_reducible refine (State.modLink_area _ _ _ (notMem_of_sub h (by decide))).trans ?_
    | with_reducible refine (area_each _ _ _ fun _ _ => ?_).trans ?_
    | with_reducible refine (area_foldl _ (fun _ _ => ?_) _ _).trans ?_

theorem State.refuseCommit_area (s : State) (g : Fin 4) (e : Fin 8) (cause : Nat) {p : Area} (h : p ∉ [Area.lrg, .trc, .tal, .ce]) :
    area (State.refuseCommit s g e cause) p = area s p := by
  unfold State.refuseCommit
  try dsimp only
  repeat' first
    | with_reducible rfl
    | with_reducible refine area_ite ?_ ?_
    | with_reducible refine area_dite (fun _ => ?_) (fun _ => ?_)
    | with_reducible refine (State.modCe_area _ _ _ (notMem_of_sub h (by decide))).trans ?_
    | with_reducible refine (State.record_area _ _ _ _ _ _ (notMem_of_sub h (by decide))).trans ?_
    | with_reducible refine (State.tally_area _ _ (notMem_of_sub h (by decide))).trans ?_

theorem State.drive_area (s : State) (g : Fin 4) {p : Area} (h : p ∉ [Area.gsc, .glk, .emitted]) :
    area (State.drive s g) p = area s p := by
  unfold State.drive
  try dsimp only
  repeat' first
    | with_reducible rfl
    | with_reducible refine area_ite ?_ ?_
    | with_reducible refine area_dite (fun _ => ?_) (fun _ => ?_)
    | with_reducible refine (State.serveArm_area _ _ (notMem_of_sub h (by decide))).trans ?_
    | with_reducible refine (State.modLink_area _ _ _ (notMem_of_sub h (by decide))).trans ?_
    | with_reducible refine (State.modGroup_area _ _ _ (notMem_of_sub h (by decide))).trans ?_
    | with_reducible refine (area_each _ _ _ fun _ _ => ?_).trans ?_

theorem State.applyPlan_area (s : State) (p0 : LegPlan) {p : Area} (h : p ∉ [Area.gsc]) :
    area (State.applyPlan s p0) p = area s p := by
  unfold State.applyPlan
  try dsimp only
  repeat' first
    | with_reducible rfl
    | with_reducible refine area_ite ?_ ?_
    | with_reducible refine area_dite (fun _ => ?_) (fun _ => ?_)
    | with_reducible refine (State.modLeg_area _ _ _ (notMem_of_sub h (by decide))).trans ?_

theorem State.reportLate_area (s : State) (g : Fin 4) (late : Nat) {p : Area} (h : p ∉ [Area.sys, .lrg, .trc, .tal, .ce, .gsc, .rng]) :
    area (State.reportLate s g late) p = area s p := by
  unfold State.reportLate
  try dsimp only
  repeat' first
    | with_reducible rfl
    | with_reducible refine area_ite ?_ ?_
    | with_reducible refine area_dite (fun _ => ?_) (fun _ => ?_)
    | with_reducible refine (State.ceWrite_area _ _ _ _ (notMem_of_sub h (by decide))).trans ?_
    | with_reducible refine (State.modGroup_area _ _ _ (notMem_of_sub h (by decide))).trans ?_
    | with_reducible refine (State.tally_area _ _ (notMem_of_sub h (by decide))).trans ?_
    | with_reducible refine (area_each _ _ _ fun _ _ => ?_).trans ?_

theorem State.convert_area (s : State) (g : Fin 4) (c : Commit) {p : Area} (h : p ∉ [Area.sys, .lrg, .trc, .tal, .cap, .ce, .gsc, .glk, .rng, .emitted]) :
    area (State.convert s g c) p = area s p := by
  unfold State.convert
  try dsimp only
  repeat' first
    | with_reducible rfl
    | with_reducible refine area_ite ?_ ?_
    | with_reducible refine area_dite (fun _ => ?_) (fun _ => ?_)
    | with_reducible refine (State.reportLate_area _ _ _ (notMem_of_sub h (by decide))).trans ?_
    | with_reducible refine (State.applyPlan_area _ _ (notMem_of_sub h (by decide))).trans ?_
    | with_reducible refine (State.drive_area _ _ (notMem_of_sub h (by decide))).trans ?_
    | with_reducible refine (State.refuseCommit_area _ _ _ _ (notMem_of_sub h (by decide))).trans ?_
    | with_reducible refine (State.enqueue_area _ _ _ _ _ _ (notMem_of_sub h (by decide))).trans ?_
    | with_reducible refine (State.modLeg_area _ _ _ (notMem_of_sub h (by decide))).trans ?_
    | with_reducible refine (State.modGroup_area _ _ _ (notMem_of_sub h (by decide))).trans ?_
    | with_reducible refine (State.tallyBy_area _ _ _ (notMem_of_sub h (by decide))).trans ?_
    | with_reducible refine (area_each _ _ _ fun _ _ => ?_).trans ?_
    | with_reducible refine (area_foldl _ (fun _ _ => ?_) _ _).trans ?_
    | dsimp only
    | split
    | with_reducible refine (area_rng h (by decide)).trans ?_

end Sys2Proof.Machine
end

