-- ==== Sys2Proof/Laws/AreaConverterOps.lean ====
section
/-!
SUPPORT. Which areas of the state each operation of ConverterOps.lean may change.
-/

namespace Sys2Proof.Machine

open Sys2Proof

theorem State.modDcc_area (s : State) (f : Dcc → Dcc) {p : Area} (h : p ∉ [Area.dcc]) :
    area (State.modDcc s f) p = area s p := by
  unfold State.modDcc
  try dsimp only
  repeat' first
    | with_reducible rfl
    | with_reducible refine area_ite ?_ ?_
    | with_reducible refine area_dite (fun _ => ?_) (fun _ => ?_)
    | with_reducible refine (area_each _ _ _ fun _ _ => ?_).trans ?_
    | with_reducible refine (area_foldl _ (fun _ _ => ?_) _ _).trans ?_
    | dsimp only
    | split
    | with_reducible refine (area_dcc h (by decide)).trans ?_

theorem State.modPhase_area (s : State) (p0 : Fin 2) (f : DPhase → DPhase) {p : Area} (h : p ∉ [Area.dcc]) :
    area (State.modPhase s p0 f) p = area s p := by
  unfold State.modPhase
  try dsimp only
  repeat' first
    | with_reducible rfl
    | with_reducible refine area_ite ?_ ?_
    | with_reducible refine area_dite (fun _ => ?_) (fun _ => ?_)
    | with_reducible refine (State.modDcc_area _ _ (notMem_of_sub h (by decide))).trans ?_

theorem State.dccRefused_area (s : State) (l : Fin 12) {p : Area} (h : p ∉ [Area.lrg, .trc, .tal, .ce]) :
    area (State.dccRefused s l) p = area s p := by
  unfold State.dccRefused
  try dsimp only
  repeat' first
    | with_reducible rfl
    | with_reducible refine area_ite ?_ ?_
    | with_reducible refine area_dite (fun _ => ?_) (fun _ => ?_)
    | with_reducible refine (State.refuseCommit_area _ _ _ _ (notMem_of_sub h (by decide))).trans ?_
    | with_reducible refine (State.record_area _ _ _ _ _ _ (notMem_of_sub h (by decide))).trans ?_
    | with_reducible refine (State.tally_area _ _ (notMem_of_sub h (by decide))).trans ?_
    | with_reducible refine (area_each _ _ _ fun _ _ => ?_).trans ?_
    | with_reducible refine (area_foldl _ (fun _ _ => ?_) _ _).trans ?_
    | dsimp only
    | split

theorem State.dccEdges_area (s : State) (l : Fin 24) (cs : List ChanEdge) (stamp : Nat) (next : Nat) {p : Area} (h : p ∉ [Area.lrg, .trc, .tal, .cap, .ce, .gsc, .glk]) :
    area (State.dccEdges s l cs stamp next) p = area s p := by
  unfold State.dccEdges
  try dsimp only
  repeat' first
    | with_reducible rfl
    | with_reducible refine area_ite ?_ ?_
    | with_reducible refine area_dite (fun _ => ?_) (fun _ => ?_)
    | with_reducible refine (State.dccRefused_area _ _ (notMem_of_sub h (by decide))).trans ?_
    | with_reducible refine (State.enqueue_area _ _ _ _ _ _ (notMem_of_sub h (by decide))).trans ?_
    | with_reducible refine (State.modLeg_area _ _ _ (notMem_of_sub h (by decide))).trans ?_
    | with_reducible refine (area_each _ _ _ fun _ _ => ?_).trans ?_
    | with_reducible refine (area_foldl _ (fun _ _ => ?_) _ _).trans ?_
    | dsimp only
    | split

theorem State.dccTurn_area (s : State) (p0 : Fin 2) (stamp : Nat) (next : Nat) {p : Area} (h : p ∉ [Area.lrg, .trc, .tal, .cap, .ce, .gsc, .glk]) :
    area (State.dccTurn s p0 stamp next) p = area s p := by
  unfold State.dccTurn
  try dsimp only
  repeat' first
    | with_reducible rfl
    | with_reducible refine area_ite ?_ ?_
    | with_reducible refine area_dite (fun _ => ?_) (fun _ => ?_)
    | with_reducible refine (State.dccEdges_area _ _ _ _ _ (notMem_of_sub h (by decide))).trans ?_

theorem State.dccOffBoth_area (s : State) (p0 : Fin 2) (stamp : Nat) {p : Area} (h : p ∉ [Area.lrg, .trc, .tal, .cap, .ce, .gsc, .glk]) :
    area (State.dccOffBoth s p0 stamp) p = area s p := by
  unfold State.dccOffBoth
  try dsimp only
  repeat' first
    | with_reducible rfl
    | with_reducible refine area_ite ?_ ?_
    | with_reducible refine area_dite (fun _ => ?_) (fun _ => ?_)
    | with_reducible refine (State.dccEdges_area _ _ _ _ _ (notMem_of_sub h (by decide))).trans ?_

theorem State.dccStop_area (s : State) (tick : Nat) (next : DState) {p : Area} (h : p ∉ [Area.lrg, .trc, .tal, .cap, .ce, .gsc, .glk, .dcc]) :
    area (State.dccStop s tick next) p = area s p := by
  unfold State.dccStop
  try dsimp only
  repeat' first
    | with_reducible rfl
    | with_reducible refine area_ite ?_ ?_
    | with_reducible refine area_dite (fun _ => ?_) (fun _ => ?_)
    | with_reducible refine (State.dccOffBoth_area _ _ _ (notMem_of_sub h (by decide))).trans ?_
    | with_reducible refine (State.modPhase_area _ _ _ (notMem_of_sub h (by decide))).trans ?_
    | with_reducible refine (State.modDcc_area _ _ (notMem_of_sub h (by decide))).trans ?_
    | with_reducible refine (area_each _ _ _ fun _ _ => ?_).trans ?_

theorem State.softStart_area (s : State) (target : Nat) (attempt : Nat) {p : Area} (h : p ∉ [Area.dcc]) :
    area (State.softStart s target attempt) p = area s p := by
  unfold State.softStart
  try dsimp only
  repeat' first
    | with_reducible rfl
    | with_reducible refine area_ite ?_ ?_
    | with_reducible refine area_dite (fun _ => ?_) (fun _ => ?_)
    | with_reducible refine (State.modDcc_area _ _ (notMem_of_sub h (by decide))).trans ?_

theorem State.dccSetpoint_area (s : State) (mv : Nat) (rate : Nat) {p : Area} (h : p ∉ [Area.lrg, .trc, .tal, .cap, .ce, .gsc, .glk, .dcc]) :
    area (State.dccSetpoint s mv rate) p = area s p := by
  unfold State.dccSetpoint
  try dsimp only
  repeat' first
    | with_reducible rfl
    | with_reducible refine area_ite ?_ ?_
    | with_reducible refine area_dite (fun _ => ?_) (fun _ => ?_)
    | with_reducible refine (State.softStart_area _ _ _ (notMem_of_sub h (by decide))).trans ?_
    | with_reducible refine (State.dccStop_area _ _ _ (notMem_of_sub h (by decide))).trans ?_
    | with_reducible refine (State.modDcc_area _ _ (notMem_of_sub h (by decide))).trans ?_
    | with_reducible refine (area_each _ _ _ fun _ _ => ?_).trans ?_
    | with_reducible refine (area_foldl _ (fun _ _ => ?_) _ _).trans ?_
    | dsimp only
    | split

theorem State.dccStandby_area (s : State) {p : Area} (h : p ∉ [Area.dcc]) :
    area (State.dccStandby s) p = area s p := by
  unfold State.dccStandby
  try dsimp only
  repeat' first
    | with_reducible rfl
    | with_reducible refine area_ite ?_ ?_
    | with_reducible refine area_dite (fun _ => ?_) (fun _ => ?_)
    | with_reducible refine (State.softStart_area _ _ _ (notMem_of_sub h (by decide))).trans ?_

theorem State.dccOff_area (s : State) {p : Area} (h : p ∉ [Area.lrg, .trc, .tal, .cap, .ce, .gsc, .glk, .dcc]) :
    area (State.dccOff s) p = area s p := by
  unfold State.dccOff
  try dsimp only
  repeat' first
    | with_reducible rfl
    | with_reducible refine area_ite ?_ ?_
    | with_reducible refine area_dite (fun _ => ?_) (fun _ => ?_)
    | with_reducible refine (State.dccStop_area _ _ _ (notMem_of_sub h (by decide))).trans ?_
    | with_reducible refine (area_each _ _ _ fun _ _ => ?_).trans ?_
    | with_reducible refine (area_foldl _ (fun _ _ => ?_) _ _).trans ?_
    | dsimp only
    | split

theorem State.dccHold_area (s : State) {p : Area} (h : p ∉ [Area.lrg, .trc, .tal, .cap, .ce, .gsc, .glk, .dcc]) :
    area (State.dccHold s) p = area s p := by
  unfold State.dccHold
  try dsimp only
  repeat' first
    | with_reducible rfl
    | with_reducible refine area_ite ?_ ?_
    | with_reducible refine area_dite (fun _ => ?_) (fun _ => ?_)
    | with_reducible refine (State.dccStop_area _ _ _ (notMem_of_sub h (by decide))).trans ?_

theorem State.dccUnhold_area (s : State) {p : Area} (h : p ∉ [Area.dcc]) :
    area (State.dccUnhold s) p = area s p := by
  unfold State.dccUnhold
  try dsimp only
  repeat' first
    | with_reducible rfl
    | with_reducible refine area_ite ?_ ?_
    | with_reducible refine area_dite (fun _ => ?_) (fun _ => ?_)
    | with_reducible refine (State.softStart_area _ _ _ (notMem_of_sub h (by decide))).trans ?_
    | with_reducible refine (State.modDcc_area _ _ (notMem_of_sub h (by decide))).trans ?_

theorem State.dccCommit_area (s : State) (slots : List (Nat × Word24)) {p : Area} (h : p ∉ [Area.gsc, .glk, .dcc, .emitted]) :
    area (State.dccCommit s slots) p = area s p := by
  unfold State.dccCommit
  try dsimp only
  repeat' first
    | with_reducible rfl
    | with_reducible refine area_ite ?_ ?_
    | with_reducible refine area_dite (fun _ => ?_) (fun _ => ?_)
    | with_reducible refine (State.modDcc_area _ _ (notMem_of_sub h (by decide))).trans ?_
    | with_reducible refine (State.drive_area _ _ (notMem_of_sub h (by decide))).trans ?_

theorem State.dccPeriod_area (s : State) (prev : Nat) {p : Area} (h : p ∉ [Area.sys, .lrg, .trc, .tal, .ce, .rng, .dcc]) :
    area (State.dccPeriod s prev) p = area s p := by
  unfold State.dccPeriod
  try dsimp only
  repeat' first
    | with_reducible rfl
    | with_reducible refine area_ite ?_ ?_
    | with_reducible refine area_dite (fun _ => ?_) (fun _ => ?_)
    | with_reducible refine (State.modDcc_area _ _ (notMem_of_sub h (by decide))).trans ?_
    | with_reducible refine (State.ceWrites_area _ _ _ _ (notMem_of_sub h (by decide))).trans ?_

theorem State.slewStep_area (s : State) {p : Area} (h : p ∉ [Area.dcc]) :
    area (State.slewStep s) p = area s p := by
  unfold State.slewStep
  try dsimp only
  repeat' first
    | with_reducible rfl
    | with_reducible refine area_ite ?_ ?_
    | with_reducible refine area_dite (fun _ => ?_) (fun _ => ?_)
    | with_reducible refine (State.modDcc_area _ _ (notMem_of_sub h (by decide))).trans ?_

theorem State.startFails_area (s : State) (close : Nat) (run : Nat) {p : Area} (h : p ∉ [Area.lrg, .trc, .tal, .cap, .ce, .gsc, .glk, .rng, .flog, .dcc]) :
    area (State.startFails s close run) p = area s p := by
  unfold State.startFails
  try dsimp only
  repeat' first
    | with_reducible rfl
    | with_reducible refine area_ite ?_ ?_
    | with_reducible refine area_dite (fun _ => ?_) (fun _ => ?_)
    | with_reducible refine (State.dccStop_area _ _ _ (notMem_of_sub h (by decide))).trans ?_
    | with_reducible refine (State.recordReport_area _ _ _ _ _ _ _ (notMem_of_sub h (by decide))).trans ?_
    | with_reducible refine (State.logRecord_area _ _ (notMem_of_sub h (by decide))).trans ?_
    | with_reducible refine (State.recordAt_area _ _ _ _ _ _ _ (notMem_of_sub h (by decide))).trans ?_
    | with_reducible refine (State.tally_area _ _ (notMem_of_sub h (by decide))).trans ?_

theorem State.dccVout_area (s : State) (mean : Word24) (close : Nat) (usable : Bool) {p : Area} (h : p ∉ [Area.lrg, .trc, .tal, .cap, .ce, .gsc, .glk, .rng, .flog, .dcc]) :
    area (State.dccVout s mean close usable) p = area s p := by
  unfold State.dccVout
  try dsimp only
  repeat' first
    | with_reducible rfl
    | with_reducible refine area_ite ?_ ?_
    | with_reducible refine area_dite (fun _ => ?_) (fun _ => ?_)
    | with_reducible refine (State.startFails_area _ _ _ (notMem_of_sub h (by decide))).trans ?_
    | with_reducible refine (State.slewStep_area _ (notMem_of_sub h (by decide))).trans ?_
    | with_reducible refine (State.modDcc_area _ _ (notMem_of_sub h (by decide))).trans ?_
    | with_reducible refine (State.recordReport_area _ _ _ _ _ _ _ (notMem_of_sub h (by decide))).trans ?_
    | with_reducible refine (State.tally_area _ _ (notMem_of_sub h (by decide))).trans ?_
    | with_reducible refine (area_each _ _ _ fun _ _ => ?_).trans ?_
    | with_reducible refine (area_foldl _ (fun _ _ => ?_) _ _).trans ?_
    | dsimp only
    | split

theorem State.dccVin_area (s : State) (mean : Word24) {p : Area} (h : p ∉ [Area.dcc]) :
    area (State.dccVin s mean) p = area s p := by
  unfold State.dccVin
  try dsimp only
  repeat' first
    | with_reducible rfl
    | with_reducible refine area_ite ?_ ?_
    | with_reducible refine area_dite (fun _ => ?_) (fun _ => ?_)
    | with_reducible refine (State.modDcc_area _ _ (notMem_of_sub h (by decide))).trans ?_

end Sys2Proof.Machine
end

