-- ==== Sys2Proof/Laws/AreaIslandOps.lean ====
section
/-!
SUPPORT. Which areas of the state each operation of IslandOps.lean may change.
-/

namespace Sys2Proof.Machine

open Sys2Proof

theorem State.modRng_area (s : State) (f : Rng → Rng) {p : Area} (h : p ∉ [Area.rng]) :
    area (State.modRng s f) p = area s p := by
  unfold State.modRng
  try dsimp only
  repeat' first
    | with_reducible rfl
    | with_reducible refine area_ite ?_ ?_
    | with_reducible refine area_dite (fun _ => ?_) (fun _ => ?_)
    | with_reducible refine (area_each _ _ _ fun _ _ => ?_).trans ?_
    | with_reducible refine (area_foldl _ (fun _ _ => ?_) _ _).trans ?_
    | dsimp only
    | split
    | with_reducible refine (area_rng h (by decide)).trans ?_

theorem State.modSbc_area (s : State) (n : Fin 2) (f : Brake → Brake) {p : Area} (h : p ∉ [Area.sbc]) :
    area (State.modSbc s n f) p = area s p := by
  unfold State.modSbc
  try dsimp only
  repeat' first
    | with_reducible rfl
    | with_reducible refine area_ite ?_ ?_
    | with_reducible refine area_dite (fun _ => ?_) (fun _ => ?_)
    | with_reducible refine (area_each _ _ _ fun _ _ => ?_).trans ?_
    | with_reducible refine (area_foldl _ (fun _ _ => ?_) _ _).trans ?_
    | dsimp only
    | split
    | with_reducible refine (area_sbc h (by decide)).trans ?_

theorem State.modSet_area (s : State) (g : Fin 4) (f : RSet → RSet) {p : Area} (h : p ∉ [Area.psp]) :
    area (State.modSet s g f) p = area s p := by
  unfold State.modSet
  try dsimp only
  repeat' first
    | with_reducible rfl
    | with_reducible refine area_ite ?_ ?_
    | with_reducible refine area_dite (fun _ => ?_) (fun _ => ?_)
    | with_reducible refine (area_each _ _ _ fun _ _ => ?_).trans ?_
    | with_reducible refine (area_foldl _ (fun _ _ => ?_) _ _).trans ?_
    | dsimp only
    | split
    | with_reducible refine (area_psp h (by decide)).trans ?_

theorem State.decided_area (s : State) (g : Fin 4) (p0 : Pattern) (ev : Nat) {p : Area} (h : p ∉ [Area.lrg, .trc, .tal, .psp]) :
    area (State.decided s g p0 ev) p = area s p := by
  unfold State.decided
  try dsimp only
  repeat' first
    | with_reducible rfl
    | with_reducible refine area_ite ?_ ?_
    | with_reducible refine area_dite (fun _ => ?_) (fun _ => ?_)
    | with_reducible refine (State.modSet_area _ _ _ (notMem_of_sub h (by decide))).trans ?_
    | with_reducible refine (State.record_area _ _ _ _ _ _ (notMem_of_sub h (by decide))).trans ?_
    | with_reducible refine (State.tally_area _ _ (notMem_of_sub h (by decide))).trans ?_

theorem State.applyTraction_area (s : State) (g : Fin 4) (p0 : Pattern) (trac : Nat) {p : Area} (h : p ∉ [Area.lrg, .trc, .tal, .trx, .gsc, .glk, .rng, .red, .emitted]) :
    area (State.applyTraction s g p0 trac) p = area s p := by
  unfold State.applyTraction
  try dsimp only
  repeat' first
    | with_reducible rfl
    | with_reducible refine area_ite ?_ ?_
    | with_reducible refine area_dite (fun _ => ?_) (fun _ => ?_)
    | with_reducible refine (State.modRng_area _ _ (notMem_of_sub h (by decide))).trans ?_
    | with_reducible refine (State.dispatch_area _ _ _ _ (notMem_of_sub h (by decide))).trans ?_
    | with_reducible refine (State.supplyLoss_area _ _ _ (notMem_of_sub h (by decide))).trans ?_

theorem State.applyBrake_area (s : State) (n : Fin 2) {p : Area} (h : p ∉ [Area.sbc]) :
    area (State.applyBrake s n) p = area s p := by
  unfold State.applyBrake
  try dsimp only
  repeat' first
    | with_reducible rfl
    | with_reducible refine area_ite ?_ ?_
    | with_reducible refine area_dite (fun _ => ?_) (fun _ => ?_)
    | with_reducible refine (State.modSbc_area _ _ _ (notMem_of_sub h (by decide))).trans ?_

theorem State.applyBrakes_area (s : State) {p : Area} (h : p ∉ [Area.sbc]) :
    area (State.applyBrakes s) p = area s p := by
  unfold State.applyBrakes
  try dsimp only
  repeat' first
    | with_reducible rfl
    | with_reducible refine area_ite ?_ ?_
    | with_reducible refine area_dite (fun _ => ?_) (fun _ => ?_)
    | with_reducible refine (State.applyBrake_area _ _ (notMem_of_sub h (by decide))).trans ?_

theorem State.clearSet_area (s : State) (g : Fin 4) {p : Area} (h : p ∉ [Area.psp]) :
    area (State.clearSet s g) p = area s p := by
  unfold State.clearSet
  try dsimp only
  repeat' first
    | with_reducible rfl
    | with_reducible refine area_ite ?_ ?_
    | with_reducible refine area_dite (fun _ => ?_) (fun _ => ?_)
    | with_reducible refine (State.modSet_area _ _ _ (notMem_of_sub h (by decide))).trans ?_

theorem State.freeGroup_area (s : State) (g : Fin 4) {p : Area} (h : p ∉ [Area.lrg, .trc, .tal, .gsc, .glk, .rng, .red]) :
    area (State.freeGroup s g) p = area s p := by
  unfold State.freeGroup
  try dsimp only
  repeat' first
    | with_reducible rfl
    | with_reducible refine area_ite ?_ ?_
    | with_reducible refine area_dite (fun _ => ?_) (fun _ => ?_)
    | with_reducible refine (State.liftGroup_area _ _ (notMem_of_sub h (by decide))).trans ?_

theorem State.releaseRow_area (s : State) (a : ActiveRow) {p : Area} (h : p ∉ [Area.lrg, .trc, .tal, .cap, .gsc, .glk, .psp, .rng, .red, .dcc, .axb]) :
    area (State.releaseRow s a) p = area s p := by
  unfold State.releaseRow
  try dsimp only
  repeat' first
    | with_reducible rfl
    | with_reducible refine area_ite ?_ ?_
    | with_reducible refine area_dite (fun _ => ?_) (fun _ => ?_)
    | with_reducible refine (State.freeGroup_area _ _ (notMem_of_sub h (by decide))).trans ?_
    | with_reducible refine (State.clearSet_area _ _ (notMem_of_sub h (by decide))).trans ?_
    | with_reducible refine (State.modRng_area _ _ (notMem_of_sub h (by decide))).trans ?_
    | with_reducible refine (State.dccUnhold_area _ (notMem_of_sub h (by decide))).trans ?_
    | with_reducible refine (State.axbRelease_area _ _ (notMem_of_sub h (by decide))).trans ?_
    | with_reducible refine (State.record_area _ _ _ _ _ _ (notMem_of_sub h (by decide))).trans ?_
    | with_reducible refine (State.tally_area _ _ (notMem_of_sub h (by decide))).trans ?_
    | with_reducible refine (area_each _ _ _ fun _ _ => ?_).trans ?_

theorem State.releaseRows_area (s : State) (p0 : ActiveRow → Bool) {p : Area} (h : p ∉ [Area.lrg, .trc, .tal, .cap, .gsc, .glk, .psp, .rng, .red, .dcc, .axb]) :
    area (State.releaseRows s p0) p = area s p := by
  unfold State.releaseRows
  try dsimp only
  repeat' first
    | with_reducible rfl
    | with_reducible refine area_ite ?_ ?_
    | with_reducible refine area_dite (fun _ => ?_) (fun _ => ?_)
    | with_reducible refine (State.releaseRow_area _ _ (notMem_of_sub h (by decide))).trans ?_
    | with_reducible refine (area_each _ _ _ fun _ _ => ?_).trans ?_

end Sys2Proof.Machine
end

