-- ==== Sys2Proof/Laws/AreaSkdOps.lean ====
section
/-!
SUPPORT. Which areas of the state each operation of SkdOps.lean may change.
-/

namespace Sys2Proof.Machine

open Sys2Proof

theorem State.modSkd_area (s : State) (f : Skd → Skd) {p : Area} (h : p ∉ [Area.skd]) :
    area (State.modSkd s f) p = area s p := by
  unfold State.modSkd
  try dsimp only
  repeat' first
    | with_reducible rfl
    | with_reducible refine area_ite ?_ ?_
    | with_reducible refine area_dite (fun _ => ?_) (fun _ => ?_)
    | with_reducible refine (area_each _ _ _ fun _ _ => ?_).trans ?_
    | with_reducible refine (area_foldl _ (fun _ _ => ?_) _ _).trans ?_
    | dsimp only
    | split
    | with_reducible refine (area_skd h (by decide)).trans ?_

theorem State.modPort_area (s : State) (p0 : Fin 8) (f : SkdPort → SkdPort) {p : Area} (h : p ∉ [Area.skd]) :
    area (State.modPort s p0 f) p = area s p := by
  unfold State.modPort
  try dsimp only
  repeat' first
    | with_reducible rfl
    | with_reducible refine area_ite ?_ ?_
    | with_reducible refine area_dite (fun _ => ?_) (fun _ => ?_)
    | with_reducible refine (State.modSkd_area _ _ (notMem_of_sub h (by decide))).trans ?_

theorem State.skdEvent_area (s : State) (unit : Nat) (ev : Nat) (detail : optParam Nat 0) (payload : optParam Nat 0) {p : Area} (h : p ∉ [Area.lrg, .trc, .tal]) :
    area (State.skdEvent s unit ev detail payload) p = area s p := by
  unfold State.skdEvent
  try dsimp only
  repeat' first
    | with_reducible rfl
    | with_reducible refine area_ite ?_ ?_
    | with_reducible refine area_dite (fun _ => ?_) (fun _ => ?_)
    | with_reducible refine (State.record_area _ _ _ _ _ _ (notMem_of_sub h (by decide))).trans ?_

theorem State.freeUnits_area (s : State) (p0 : Fin 8) (cls : Nat) (n : Nat) {p : Area} (h : p ∉ [Area.skd]) :
    area (State.freeUnits s p0 cls n) p = area s p := by
  unfold State.freeUnits
  try dsimp only
  repeat' first
    | with_reducible rfl
    | with_reducible refine area_ite ?_ ?_
    | with_reducible refine area_dite (fun _ => ?_) (fun _ => ?_)
    | with_reducible refine (State.modPort_area _ _ _ (notMem_of_sub h (by decide))).trans ?_

theorem State.frameGone_area (s : State) (f : SkdFrame) {p : Area} (h : p ∉ [Area.skd]) :
    area (State.frameGone s f) p = area s p := by
  unfold State.frameGone
  try dsimp only
  repeat' first
    | with_reducible rfl
    | with_reducible refine area_ite ?_ ?_
    | with_reducible refine area_dite (fun _ => ?_) (fun _ => ?_)
    | with_reducible refine (State.freeUnits_area _ _ _ _ (notMem_of_sub h (by decide))).trans ?_
    | with_reducible refine (area_each _ _ _ fun _ _ => ?_).trans ?_
    | with_reducible refine (area_foldl _ (fun _ _ => ?_) _ _).trans ?_
    | dsimp only
    | split

theorem State.dropData_area (s : State) (b : List Byte) {p : Area} (h : p ∉ [Area.skd]) :
    area (State.dropData s b) p = area s p := by
  unfold State.dropData
  try dsimp only
  repeat' first
    | with_reducible rfl
    | with_reducible refine area_ite ?_ ?_
    | with_reducible refine area_dite (fun _ => ?_) (fun _ => ?_)
    | with_reducible refine (State.modSkd_area _ _ (notMem_of_sub h (by decide))).trans ?_

theorem State.enqueueOut_area (s : State) (ps : List (Fin 8)) (b : List Byte) (src : Option (Fin 8)) {p : Area} (h : p ∉ [Area.tal, .skd]) :
    area (State.enqueueOut s ps b src) p = area s p := by
  unfold State.enqueueOut
  try dsimp only
  repeat' first
    | with_reducible rfl
    | with_reducible refine area_ite ?_ ?_
    | with_reducible refine area_dite (fun _ => ?_) (fun _ => ?_)
    | with_reducible refine (State.dropData_area _ _ (notMem_of_sub h (by decide))).trans ?_
    | with_reducible refine (State.modPort_area _ _ _ (notMem_of_sub h (by decide))).trans ?_
    | with_reducible refine (State.modSkd_area _ _ (notMem_of_sub h (by decide))).trans ?_
    | with_reducible refine (State.tally_area _ _ (notMem_of_sub h (by decide))).trans ?_
    | with_reducible refine (area_each _ _ _ fun _ _ => ?_).trans ?_

theorem State.enqueueLink_area (s : State) (p0 : Fin 8) (kind : Nat) (payload : List Byte) {p : Area} (h : p ∉ [Area.skd]) :
    area (State.enqueueLink s p0 kind payload) p = area s p := by
  unfold State.enqueueLink
  try dsimp only
  repeat' first
    | with_reducible rfl
    | with_reducible refine area_ite ?_ ?_
    | with_reducible refine area_dite (fun _ => ?_) (fun _ => ?_)
    | with_reducible refine (State.modPort_area _ _ _ (notMem_of_sub h (by decide))).trans ?_

theorem State.setAligned_area (s : State) (v : Bool) {p : Area} (h : p ∉ [Area.lrg, .trc, .tal, .skd]) :
    area (State.setAligned s v) p = area s p := by
  unfold State.setAligned
  try dsimp only
  repeat' first
    | with_reducible rfl
    | with_reducible refine area_ite ?_ ?_
    | with_reducible refine area_dite (fun _ => ?_) (fun _ => ?_)
    | with_reducible refine (State.skdEvent_area _ _ _ _ _ (notMem_of_sub h (by decide))).trans ?_
    | with_reducible refine (State.modSkd_area _ _ (notMem_of_sub h (by decide))).trans ?_

theorem State.setCoord_area (s : State) (v : Bool) {p : Area} (h : p ∉ [Area.lrg, .trc, .tal, .skd]) :
    area (State.setCoord s v) p = area s p := by
  unfold State.setCoord
  try dsimp only
  repeat' first
    | with_reducible rfl
    | with_reducible refine area_ite ?_ ?_
    | with_reducible refine area_dite (fun _ => ?_) (fun _ => ?_)
    | with_reducible refine (State.setAligned_area _ _ (notMem_of_sub h (by decide))).trans ?_
    | with_reducible refine (State.modSkd_area _ _ (notMem_of_sub h (by decide))).trans ?_

theorem State.formView_area (s : State) {p : Area} (h : p ∉ [Area.lrg, .trc, .tal, .skd]) :
    area (State.formView s) p = area s p := by
  unfold State.formView
  try dsimp only
  repeat' first
    | with_reducible rfl
    | with_reducible refine area_ite ?_ ?_
    | with_reducible refine area_dite (fun _ => ?_) (fun _ => ?_)
    | with_reducible refine (State.setCoord_area _ _ (notMem_of_sub h (by decide))).trans ?_
    | with_reducible refine (State.skdEvent_area _ _ _ _ _ (notMem_of_sub h (by decide))).trans ?_
    | with_reducible refine (State.modSkd_area _ _ (notMem_of_sub h (by decide))).trans ?_
    | with_reducible refine (area_each _ _ _ fun _ _ => ?_).trans ?_
    | with_reducible refine (area_foldl _ (fun _ _ => ?_) _ _).trans ?_
    | dsimp only
    | split

theorem State.watchHolders_area (s : State) {p : Area} (h : p ∉ [Area.skd]) :
    area (State.watchHolders s) p = area s p := by
  unfold State.watchHolders
  try dsimp only
  repeat' first
    | with_reducible rfl
    | with_reducible refine area_ite ?_ ?_
    | with_reducible refine area_dite (fun _ => ?_) (fun _ => ?_)
    | with_reducible refine (State.modSkd_area _ _ (notMem_of_sub h (by decide))).trans ?_

theorem State.reroute_area (s : State) (n : Nat) {p : Area} (h : p ∉ [Area.lrg, .trc, .tal, .skd]) :
    area (State.reroute s n) p = area s p := by
  unfold State.reroute
  try dsimp only
  repeat' first
    | with_reducible rfl
    | with_reducible refine area_ite ?_ ?_
    | with_reducible refine area_dite (fun _ => ?_) (fun _ => ?_)
    | with_reducible refine (State.watchHolders_area _ (notMem_of_sub h (by decide))).trans ?_
    | with_reducible refine (State.skdEvent_area _ _ _ _ _ (notMem_of_sub h (by decide))).trans ?_
    | with_reducible refine (State.modSkd_area _ _ (notMem_of_sub h (by decide))).trans ?_

theorem State.sendRoutes_area (s : State) (p0 : Fin 8) (a : Nat) (x3 : List Nat) {p : Area} (h : p ∉ [Area.skd]) :
    area (State.sendRoutes s p0 a x3) p = area s p := by
  induction a generalizing s x3 with
  | zero => rfl
  | succ n ih =>
    unfold State.sendRoutes
    exact area_ite rfl ((ih _ _).trans (State.enqueueLink_area _ _ _ _ (notMem_of_sub h (by decide))))

theorem State.discard_area (s : State) (b : List Byte) {p : Area} (h : p ∉ [Area.tal, .skd]) :
    area (State.discard s b) p = area s p := by
  unfold State.discard
  try dsimp only
  repeat' first
    | with_reducible rfl
    | with_reducible refine area_ite ?_ ?_
    | with_reducible refine area_dite (fun _ => ?_) (fun _ => ?_)
    | with_reducible refine (State.dropData_area _ _ (notMem_of_sub h (by decide))).trans ?_
    | with_reducible refine (State.tally_area _ _ (notMem_of_sub h (by decide))).trans ?_

theorem State.fillTokens_area (s : State) {p : Area} (h : p ∉ [Area.skd]) :
    area (State.fillTokens s) p = area s p := by
  unfold State.fillTokens
  try dsimp only
  repeat' first
    | with_reducible rfl
    | with_reducible refine area_ite ?_ ?_
    | with_reducible refine area_dite (fun _ => ?_) (fun _ => ?_)
    | with_reducible refine (State.modSkd_area _ _ (notMem_of_sub h (by decide))).trans ?_

theorem State.sendOut_area (s : State) (b : List Byte) {p : Area} (h : p ∉ [Area.tal, .skd]) :
    area (State.sendOut s b) p = area s p := by
  unfold State.sendOut
  try dsimp only
  repeat' first
    | with_reducible rfl
    | with_reducible refine area_ite ?_ ?_
    | with_reducible refine area_dite (fun _ => ?_) (fun _ => ?_)
    | with_reducible refine (State.discard_area _ _ (notMem_of_sub h (by decide))).trans ?_
    | with_reducible refine (State.enqueueOut_area _ _ _ _ (notMem_of_sub h (by decide))).trans ?_
    | with_reducible refine (area_each _ _ _ fun _ _ => ?_).trans ?_
    | with_reducible refine (area_foldl _ (fun _ _ => ?_) _ _).trans ?_
    | dsimp only
    | split

theorem State.releaseShaped_area (a : Nat) (x1 : State) {p : Area} (h : p ∉ [Area.tal, .skd]) :
    area (State.releaseShaped a x1) p = area x1 p := by
  induction a generalizing x1 with
  | zero => rfl
  | succ n ih =>
    unfold State.releaseShaped
    split
    · rfl
    · exact area_ite rfl (((ih _).trans (State.sendOut_area _ _ (notMem_of_sub h (by decide)))).trans
        (State.modSkd_area _ _ (notMem_of_sub h (by decide))))

theorem State.shape_area (s : State) {p : Area} (h : p ∉ [Area.tal, .skd]) :
    area (State.shape s) p = area s p := by
  unfold State.shape
  try dsimp only
  repeat' first
    | with_reducible rfl
    | with_reducible refine area_ite ?_ ?_
    | with_reducible refine area_dite (fun _ => ?_) (fun _ => ?_)
    | with_reducible refine (State.releaseShaped_area _ _ (notMem_of_sub h (by decide))).trans ?_
    | with_reducible refine (State.fillTokens_area _ (notMem_of_sub h (by decide))).trans ?_

theorem State.sendData_area (s : State) (st : Nat) (cls : Nat) (payload : List Byte) {p : Area} (h : p ∉ [Area.tal, .skd]) :
    area (State.sendData s st cls payload) p = area s p := by
  unfold State.sendData
  try dsimp only
  repeat' first
    | with_reducible rfl
    | with_reducible refine area_ite ?_ ?_
    | with_reducible refine area_dite (fun _ => ?_) (fun _ => ?_)
    | with_reducible refine (State.shape_area _ (notMem_of_sub h (by decide))).trans ?_
    | with_reducible refine (State.sendOut_area _ _ (notMem_of_sub h (by decide))).trans ?_
    | with_reducible refine (State.modSkd_area _ _ (notMem_of_sub h (by decide))).trans ?_

theorem State.txRefused_area (s : State) (st : Nat) {p : Area} (h : p ∉ [Area.lrg, .trc, .tal]) :
    area (State.txRefused s st) p = area s p := by
  unfold State.txRefused
  try dsimp only
  repeat' first
    | with_reducible rfl
    | with_reducible refine area_ite ?_ ?_
    | with_reducible refine area_dite (fun _ => ?_) (fun _ => ?_)
    | with_reducible refine (State.skdEvent_area _ _ _ _ _ (notMem_of_sub h (by decide))).trans ?_
    | with_reducible refine (State.tally_area _ _ (notMem_of_sub h (by decide))).trans ?_

theorem State.skdSend_area (s : State) (st : Nat) (cls : Nat) (payload : List Byte) {p : Area} (h : p ∉ [Area.lrg, .trc, .tal, .skd]) :
    area (State.skdSend s st cls payload) p = area s p := by
  unfold State.skdSend
  try dsimp only
  repeat' first
    | with_reducible rfl
    | with_reducible refine area_ite ?_ ?_
    | with_reducible refine area_dite (fun _ => ?_) (fun _ => ?_)
    | with_reducible refine (State.txRefused_area _ _ (notMem_of_sub h (by decide))).trans ?_
    | with_reducible refine (State.sendData_area _ _ _ _ (notMem_of_sub h (by decide))).trans ?_

end Sys2Proof.Machine
end

