-- ==== Sys2Proof/Laws/AreaCommandOps.lean ====
section
/-!
SUPPORT. Which areas of the state each operation of CommandOps.lean may change.
-/

namespace Sys2Proof.Machine

open Sys2Proof

theorem State.modPba_area (s : State) (f : Pba → Pba) {p : Area} (h : p ∉ [Area.pba]) :
    area (State.modPba s f) p = area s p := by
  unfold State.modPba
  try dsimp only
  repeat' first
    | with_reducible rfl
    | with_reducible refine area_ite ?_ ?_
    | with_reducible refine area_dite (fun _ => ?_) (fun _ => ?_)
    | with_reducible refine (area_each _ _ _ fun _ _ => ?_).trans ?_
    | with_reducible refine (area_foldl _ (fun _ _ => ?_) _ _).trans ?_
    | dsimp only
    | split
    | with_reducible refine (area_pba h (by decide)).trans ?_

theorem State.blzReply_area (s : State) (i : Fin 64) (bs : List Byte) {p : Area} (h : p ∉ [Area.tal, .blz]) :
    area (State.blzReply s i bs) p = area s p := by
  unfold State.blzReply
  try dsimp only
  repeat' first
    | with_reducible rfl
    | with_reducible refine area_ite ?_ ?_
    | with_reducible refine area_dite (fun _ => ?_) (fun _ => ?_)
    | with_reducible refine (State.tally_area _ _ (notMem_of_sub h (by decide))).trans ?_
    | with_reducible refine (area_each _ _ _ fun _ _ => ?_).trans ?_
    | with_reducible refine (area_foldl _ (fun _ _ => ?_) _ _).trans ?_
    | dsimp only
    | split
    | with_reducible refine (area_blz h (by decide)).trans ?_

theorem State.reply_area (s : State) (p0 : Path) (bs : List Byte) {p : Area} (h : p ∉ [Area.lrg, .trc, .tal, .skd, .blz, .can]) :
    area (State.reply s p0 bs) p = area s p := by
  unfold State.reply
  try dsimp only
  repeat' first
    | with_reducible rfl
    | with_reducible refine area_ite ?_ ?_
    | with_reducible refine area_dite (fun _ => ?_) (fun _ => ?_)
    | with_reducible refine (State.blzReply_area _ _ _ (notMem_of_sub h (by decide))).trans ?_
    | with_reducible refine (State.skdSend_area _ _ _ _ (notMem_of_sub h (by decide))).trans ?_
    | with_reducible refine (State.canQueue_area _ _ _ (notMem_of_sub h (by decide))).trans ?_
    | with_reducible refine (State.tally_area _ _ (notMem_of_sub h (by decide))).trans ?_
    | with_reducible refine (area_each _ _ _ fun _ _ => ?_).trans ?_
    | with_reducible refine (area_foldl _ (fun _ _ => ?_) _ _).trans ?_
    | dsimp only
    | split

theorem State.refuse_area (s : State) (c : Cmd) (result : Nat) {p : Area} (h : p ∉ [Area.lrg, .trc, .tal, .skd, .blz, .can]) :
    area (State.refuse s c result) p = area s p := by
  unfold State.refuse
  try dsimp only
  repeat' first
    | with_reducible rfl
    | with_reducible refine area_ite ?_ ?_
    | with_reducible refine area_dite (fun _ => ?_) (fun _ => ?_)
    | with_reducible refine (State.reply_area _ _ _ (notMem_of_sub h (by decide))).trans ?_
    | with_reducible refine (State.record_area _ _ _ _ _ _ (notMem_of_sub h (by decide))).trans ?_
    | with_reducible refine (State.tally_area _ _ (notMem_of_sub h (by decide))).trans ?_

theorem State.accepted_area (s : State) (c : Cmd) (mode : Mode) {p : Area} (h : p ∉ [Area.lrg, .trc, .tal, .skd, .blz, .can]) :
    area (State.accepted s c mode) p = area s p := by
  unfold State.accepted
  try dsimp only
  repeat' first
    | with_reducible rfl
    | with_reducible refine area_ite ?_ ?_
    | with_reducible refine area_dite (fun _ => ?_) (fun _ => ?_)
    | with_reducible refine (State.reply_area _ _ _ (notMem_of_sub h (by decide))).trans ?_

theorem State.awaits_area (s : State) (c : Cmd) (mode : Mode) (consumer : Fin 7) (machine : Option (Fin 2)) {p : Area} (h : p ∉ [Area.pba]) :
    area (State.awaits s c mode consumer machine) p = area s p := by
  unfold State.awaits
  try dsimp only
  repeat' first
    | with_reducible rfl
    | with_reducible refine area_ite ?_ ?_
    | with_reducible refine area_dite (fun _ => ?_) (fun _ => ?_)
    | with_reducible refine (State.modPba_area _ _ (notMem_of_sub h (by decide))).trans ?_

theorem State.dropUnknown_area (a : List Cmd) (x1 : State) {p : Area} (h : p ∉ [Area.lrg, .trc, .tal, .pba, .skd, .blz, .can]) :
    area (State.dropUnknown a x1) p = area x1 p := by
  induction a generalizing x1 with
  | nil => exact State.modPba_area _ _ (notMem_of_sub h (by decide))
  | cons c cs ih =>
    unfold State.dropUnknown
    exact area_ite (State.modPba_area _ _ (notMem_of_sub h (by decide)))
      ((ih _).trans (State.refuse_area _ _ _ (notMem_of_sub h (by decide))))

theorem State.commandFrame_area (s : State) (p0 : Path) (stamp : Nat) (bs : List Byte) {p : Area} (h : p ∉ [Area.lrg, .trc, .tal, .pba, .skd, .blz, .can]) :
    area (State.commandFrame s p0 stamp bs) p = area s p := by
  unfold State.commandFrame
  try dsimp only
  repeat' first
    | with_reducible rfl
    | with_reducible refine area_ite ?_ ?_
    | with_reducible refine area_dite (fun _ => ?_) (fun _ => ?_)
    | with_reducible refine (State.dropUnknown_area _ _ (notMem_of_sub h (by decide))).trans ?_
    | with_reducible refine (State.refuse_area _ _ _ (notMem_of_sub h (by decide))).trans ?_
    | with_reducible refine (State.tally_area _ _ (notMem_of_sub h (by decide))).trans ?_

theorem State.check_area (s : State) (c : Cmd) (blaze : Bool) (range : Bool) (state : Bool) (cond : Bool) (effect : State → State) {p : Area} (h : p ∉ [Area.lrg, .trc, .tal, .skd, .blz, .can]) (hf : ∀ x, area (effect x) p = area x p) :
    area (State.check s c blaze range state cond effect) p = area s p := by
  unfold State.check
  try dsimp only
  repeat' first
    | with_reducible rfl
    | with_reducible refine area_ite ?_ ?_
    | with_reducible refine area_dite (fun _ => ?_) (fun _ => ?_)
    | with_reducible refine (State.refuse_area _ _ _ (notMem_of_sub h (by decide))).trans ?_
    | with_reducible refine (State.tally_area _ _ (notMem_of_sub h (by decide))).trans ?_
    | with_reducible refine (hf _).trans ?_

theorem State.take_area (s : State) (code : Nat) (f : Cmd → State → State) {p : Area} (h : p ∉ [Area.lrg, .trc, .tal, .pba, .skd, .blz, .can]) (hf : ∀ c x, area (f c x) p = area x p) :
    area (State.take s code f) p = area s p := by
  unfold State.take
  try dsimp only
  repeat' first
    | with_reducible rfl
    | with_reducible refine area_ite ?_ ?_
    | with_reducible refine area_dite (fun _ => ?_) (fun _ => ?_)
    | with_reducible refine (State.dropUnknown_area _ _ (notMem_of_sub h (by decide))).trans ?_
    | with_reducible refine (State.modPba_area _ _ (notMem_of_sub h (by decide))).trans ?_
    | with_reducible refine (hf _ _).trans ?_
    | with_reducible refine (area_each _ _ _ fun _ _ => ?_).trans ?_
    | with_reducible refine (area_foldl _ (fun _ _ => ?_) _ _).trans ?_
    | dsimp only
    | split

theorem State.limits_area (s : State) (stamp : Nat) (dis : Word32) (chg : Word32) {p : Area} (h : p ∉ [Area.lrg, .trc, .tal, .pba]) :
    area (State.limits s stamp dis chg) p = area s p := by
  unfold State.limits
  try dsimp only
  repeat' first
    | with_reducible rfl
    | with_reducible refine area_ite ?_ ?_
    | with_reducible refine area_dite (fun _ => ?_) (fun _ => ?_)
    | with_reducible refine (State.modPba_area _ _ (notMem_of_sub h (by decide))).trans ?_
    | with_reducible refine (State.record_area _ _ _ _ _ _ (notMem_of_sub h (by decide))).trans ?_

theorem State.limitFrame_area (s : State) (stamp : Nat) (bs : List Byte) {p : Area} (h : p ∉ [Area.lrg, .trc, .tal, .pba]) :
    area (State.limitFrame s stamp bs) p = area s p := by
  unfold State.limitFrame
  try dsimp only
  repeat' first
    | with_reducible rfl
    | with_reducible refine area_ite ?_ ?_
    | with_reducible refine area_dite (fun _ => ?_) (fun _ => ?_)
    | with_reducible refine (State.limits_area _ _ _ _ (notMem_of_sub h (by decide))).trans ?_
    | with_reducible refine (State.tally_area _ _ (notMem_of_sub h (by decide))).trans ?_

theorem State.vdcResult_area (s : State) (mean : Word24) {p : Area} (h : p ∉ [Area.pba]) :
    area (State.vdcResult s mean) p = area s p := by
  unfold State.vdcResult
  try dsimp only
  repeat' first
    | with_reducible rfl
    | with_reducible refine area_ite ?_ ?_
    | with_reducible refine area_dite (fun _ => ?_) (fun _ => ?_)
    | with_reducible refine (State.modPba_area _ _ (notMem_of_sub h (by decide))).trans ?_

end Sys2Proof.Machine
end

