-- ==== Sys2Proof/Laws/AreaCaptureOps.lean ====
section
/-!
SUPPORT. Which areas of the state each operation of CaptureOps.lean may change.
-/

namespace Sys2Proof.Machine

open Sys2Proof

theorem State.modCap_area (s : State) (f : Cap → Cap) {p : Area} (h : p ∉ [Area.cap]) :
    area (State.modCap s f) p = area s p := by
  unfold State.modCap
  try dsimp only
  repeat' first
    | with_reducible rfl
    | with_reducible refine area_ite ?_ ?_
    | with_reducible refine area_dite (fun _ => ?_) (fun _ => ?_)
    | with_reducible refine (area_each _ _ _ fun _ _ => ?_).trans ?_
    | with_reducible refine (area_foldl _ (fun _ _ => ?_) _ _).trans ?_
    | dsimp only
    | split
    | with_reducible refine (area_cap h (by decide)).trans ?_

theorem State.modRes_area (s : State) (k : Fin 24) (w : Fin 8) (f : WinRes → WinRes) {p : Area} (h : p ∉ [Area.cap]) :
    area (State.modRes s k w f) p = area s p := by
  unfold State.modRes
  try dsimp only
  repeat' first
    | with_reducible rfl
    | with_reducible refine area_ite ?_ ?_
    | with_reducible refine area_dite (fun _ => ?_) (fun _ => ?_)
    | with_reducible refine (State.modCap_area _ _ (notMem_of_sub h (by decide))).trans ?_

theorem State.capPeriod_area (s : State) (g : Fin 7) (start : Nat) (len : Nat) {p : Area} (h : p ∉ [Area.cap]) :
    area (State.capPeriod s g start len) p = area s p := by
  unfold State.capPeriod
  try dsimp only
  repeat' first
    | with_reducible rfl
    | with_reducible refine area_ite ?_ ?_
    | with_reducible refine area_dite (fun _ => ?_) (fun _ => ?_)
    | with_reducible refine (State.modCap_area _ _ (notMem_of_sub h (by decide))).trans ?_

theorem State.posPeriod_area (s : State) (g : Fin 7) (start : Nat) (len : Nat) {p : Area} (h : p ∉ [Area.pos]) :
    area (State.posPeriod s g start len) p = area s p := by
  unfold State.posPeriod
  try dsimp only
  repeat' first
    | with_reducible rfl
    | with_reducible refine area_ite ?_ ?_
    | with_reducible refine area_dite (fun _ => ?_) (fun _ => ?_)
    | with_reducible refine (State.modEnc_area _ _ _ (notMem_of_sub h (by decide))).trans ?_
    | with_reducible refine (area_each _ _ _ fun _ _ => ?_).trans ?_

theorem State.periodStarts_area (s : State) (g : Fin 7) (start : Nat) (len : Nat) {p : Area} (h : p ∉ [Area.cap, .pos]) :
    area (State.periodStarts s g start len) p = area s p := by
  unfold State.periodStarts
  try dsimp only
  repeat' first
    | with_reducible rfl
    | with_reducible refine area_ite ?_ ?_
    | with_reducible refine area_dite (fun _ => ?_) (fun _ => ?_)
    | with_reducible refine (State.posPeriod_area _ _ _ _ (notMem_of_sub h (by decide))).trans ?_
    | with_reducible refine (State.capPeriod_area _ _ _ _ (notMem_of_sub h (by decide))).trans ?_

theorem State.monitor_area (s : State) (x : Member) (i : Fin 8) {p : Area} (h : p ∉ [Area.lrg, .trc, .tal, .psp, .rng]) :
    area (State.monitor s x i) p = area s p := by
  unfold State.monitor
  try dsimp only
  repeat' first
    | with_reducible rfl
    | with_reducible refine area_ite ?_ ?_
    | with_reducible refine area_dite (fun _ => ?_) (fun _ => ?_)
    | with_reducible refine (State.recordReport_area _ _ _ _ _ _ _ (notMem_of_sub h (by decide))).trans ?_
    | with_reducible refine (State.record_area _ _ _ _ _ _ (notMem_of_sub h (by decide))).trans ?_
    | with_reducible refine (State.tally_area _ _ (notMem_of_sub h (by decide))).trans ?_
    | with_reducible refine (area_each _ _ _ fun _ _ => ?_).trans ?_
    | with_reducible refine (area_foldl _ (fun _ _ => ?_) _ _).trans ?_
    | dsimp only
    | split
    | with_reducible refine (area_psp h (by decide)).trans ?_

theorem State.gateResult_area (s : State) (x : Member) {p : Area} (h : p ∉ [Area.pba]) :
    area (State.gateResult s x) p = area s p := by
  unfold State.gateResult
  try dsimp only
  repeat' first
    | with_reducible rfl
    | with_reducible refine area_ite ?_ ?_
    | with_reducible refine area_dite (fun _ => ?_) (fun _ => ?_)
    | with_reducible refine (State.vdcResult_area _ _ (notMem_of_sub h (by decide))).trans ?_

theorem State.thermal_area (s : State) (y : Fin 24 × Fin 8) (x : WinRes) (m : Fin 3) {p : Area} (h : p ∉ [Area.thm]) :
    area (State.thermal s y x m) p = area s p := by
  unfold State.thermal
  try dsimp only
  repeat' first
    | with_reducible rfl
    | with_reducible refine area_ite ?_ ?_
    | with_reducible refine area_dite (fun _ => ?_) (fun _ => ?_)
    | with_reducible refine (area_each _ _ _ fun _ _ => ?_).trans ?_
    | with_reducible refine (area_foldl _ (fun _ _ => ?_) _ _).trans ?_
    | dsimp only
    | split
    | with_reducible refine (area_thm h (by decide)).trans ?_

theorem State.sealedResult_area (s : State) (y : Fin 24 × Fin 8) {p : Area} (h : p ∉ [Area.lrg, .trc, .tal, .cap, .ce, .gsc, .glk, .rng, .flog, .dcc, .chg, .thm]) :
    area (State.sealedResult s y) p = area s p := by
  unfold State.sealedResult
  try dsimp only
  repeat' first
    | with_reducible rfl
    | with_reducible refine area_ite ?_ ?_
    | with_reducible refine area_dite (fun _ => ?_) (fun _ => ?_)
    | with_reducible refine (State.thermal_area _ _ _ _ (notMem_of_sub h (by decide))).trans ?_
    | with_reducible refine (State.dccVin_area _ _ (notMem_of_sub h (by decide))).trans ?_
    | with_reducible refine (State.dccVout_area _ _ _ _ (notMem_of_sub h (by decide))).trans ?_
    | with_reducible refine (State.chgGrid_area _ _ (notMem_of_sub h (by decide))).trans ?_
    | with_reducible refine (State.chgCurrent_area _ _ (notMem_of_sub h (by decide))).trans ?_
    | with_reducible refine (State.chgVoltage_area _ _ (notMem_of_sub h (by decide))).trans ?_
    | with_reducible refine (area_each _ _ _ fun _ _ => ?_).trans ?_

theorem State.deliver_area (s : State) (d : Delivery) {p : Area} (h : p ∉ [Area.sys, .lrg, .trc, .tal, .pba, .ce, .rng]) :
    area (State.deliver s d) p = area s p := by
  unfold State.deliver
  try dsimp only
  repeat' first
    | with_reducible rfl
    | with_reducible refine area_ite ?_ ?_
    | with_reducible refine area_dite (fun _ => ?_) (fun _ => ?_)
    | with_reducible refine (State.gateResult_area _ _ (notMem_of_sub h (by decide))).trans ?_
    | with_reducible refine (State.trigger_area _ _ _ (notMem_of_sub h (by decide))).trans ?_
    | with_reducible refine (State.ceWrite_area _ _ _ _ (notMem_of_sub h (by decide))).trans ?_
    | with_reducible refine (area_each _ _ _ fun _ _ => ?_).trans ?_
    | with_reducible refine (area_foldl _ (fun _ _ => ?_) _ _).trans ?_

theorem State.compared_area (s : State) (d : Delivery) {p : Area} (h : p ∉ [Area.lrg, .trc, .tal, .psp, .rng]) :
    area (State.compared s d) p = area s p := by
  unfold State.compared
  try dsimp only
  repeat' first
    | with_reducible rfl
    | with_reducible refine area_ite ?_ ?_
    | with_reducible refine area_dite (fun _ => ?_) (fun _ => ?_)
    | with_reducible refine (State.monitor_area _ _ _ (notMem_of_sub h (by decide))).trans ?_
    | with_reducible refine (area_each _ _ _ fun _ _ => ?_).trans ?_

theorem State.sendSet_area (s : State) (d : Delivery) {p : Area} (h : p ∉ [Area.flights]) :
    area (State.sendSet s d) p = area s p := by
  unfold State.sendSet
  try dsimp only
  repeat' first
    | with_reducible rfl
    | with_reducible refine area_ite ?_ ?_
    | with_reducible refine area_dite (fun _ => ?_) (fun _ => ?_)
    | with_reducible refine (State.launch_area _ _ _ (notMem_of_sub h (by decide))).trans ?_

theorem State.joinDelivery_area (s : State) (i : Fin 16) (x : Member) {p : Area} (h : p ∉ [Area.flights]) :
    area (State.joinDelivery s i x) p = area s p := by
  unfold State.joinDelivery
  try dsimp only
  repeat' first
    | with_reducible rfl
    | with_reducible refine area_ite ?_ ?_
    | with_reducible refine area_dite (fun _ => ?_) (fun _ => ?_)
    | with_reducible refine (area_each _ _ _ fun _ _ => ?_).trans ?_
    | with_reducible refine (area_foldl _ (fun _ _ => ?_) _ _).trans ?_
    | dsimp only
    | split
    | with_reducible refine (area_flights h (by decide)).trans ?_

end Sys2Proof.Machine
end

