-- ==== Sys2Proof/Laws/AreaModeOps.lean ====
section
/-!
SUPPORT. Which areas of the state each operation of ModeOps.lean may change.
-/

namespace Sys2Proof.Machine

open Sys2Proof

theorem State.lockTo_area (s : State) (st : LockStep) {p : Area} (h : p ∉ [Area.lrg, .trc, .tal, .rng]) :
    area (State.lockTo s st) p = area s p := by
  unfold State.lockTo
  try dsimp only
  repeat' first
    | with_reducible rfl
    | with_reducible refine area_ite ?_ ?_
    | with_reducible refine area_dite (fun _ => ?_) (fun _ => ?_)
    | with_reducible refine (State.modRng_area _ _ (notMem_of_sub h (by decide))).trans ?_
    | with_reducible refine (State.record_area _ _ _ _ _ _ (notMem_of_sub h (by decide))).trans ?_

theorem State.abandonReset_area (s : State) {p : Area} (h : p ∉ [Area.lrg, .trc, .tal, .rng]) :
    area (State.abandonReset s) p = area s p := by
  unfold State.abandonReset
  try dsimp only
  repeat' first
    | with_reducible rfl
    | with_reducible refine area_ite ?_ ?_
    | with_reducible refine area_dite (fun _ => ?_) (fun _ => ?_)
    | with_reducible refine (State.lockTo_area _ _ (notMem_of_sub h (by decide))).trans ?_
    | with_reducible refine (State.record_area _ _ _ _ _ _ (notMem_of_sub h (by decide))).trans ?_
    | with_reducible refine (State.tally_area _ _ (notMem_of_sub h (by decide))).trans ?_

theorem State.trxMode_area (s : State) (new : Mode) (m : Fin 2) {p : Area} (h : p ∉ [Area.lrg, .trc, .tal, .trx, .glk, .red]) :
    area (State.trxMode s new m) p = area s p := by
  unfold State.trxMode
  try dsimp only
  repeat' first
    | with_reducible rfl
    | with_reducible refine area_ite ?_ ?_
    | with_reducible refine area_dite (fun _ => ?_) (fun _ => ?_)
    | with_reducible refine (State.toIdle_area _ _ (notMem_of_sub h (by decide))).trans ?_
    | with_reducible refine (State.refreshTok_area _ _ (notMem_of_sub h (by decide))).trans ?_
    | with_reducible refine (State.modTrx_area _ _ _ (notMem_of_sub h (by decide))).trans ?_
    | with_reducible refine (area_each _ _ _ fun _ _ => ?_).trans ?_
    | with_reducible refine (area_foldl _ (fun _ _ => ?_) _ _).trans ?_
    | dsimp only
    | split

theorem State.modeLock_area (s : State) (old : Mode) (new : Mode) {p : Area} (h : p ∉ [Area.lrg, .trc, .tal, .rng]) :
    area (State.modeLock s old new) p = area s p := by
  unfold State.modeLock
  try dsimp only
  repeat' first
    | with_reducible rfl
    | with_reducible refine area_ite ?_ ?_
    | with_reducible refine area_dite (fun _ => ?_) (fun _ => ?_)
    | with_reducible refine (State.lockTo_area _ _ (notMem_of_sub h (by decide))).trans ?_

theorem State.modeSupply_area (s : State) (old : Mode) (new : Mode) {p : Area} (h : p ∉ [Area.lrg, .trc, .tal, .cap, .ce, .gsc, .glk, .red, .dcc, .obc, .chg, .emitted]) :
    area (State.modeSupply s old new) p = area s p := by
  unfold State.modeSupply
  try dsimp only
  repeat' first
    | with_reducible rfl
    | with_reducible refine area_ite ?_ ?_
    | with_reducible refine area_dite (fun _ => ?_) (fun _ => ?_)
    | with_reducible refine (State.dccOff_area _ (notMem_of_sub h (by decide))).trans ?_
    | with_reducible refine (State.dccStandby_area _ (notMem_of_sub h (by decide))).trans ?_
    | with_reducible refine (State.chgStop_area _ (notMem_of_sub h (by decide))).trans ?_

theorem State.setMode_area (s : State) (new : Mode) (cause : Nat) {p : Area} (h : p ∉ [Area.lrg, .trc, .tal, .pba, .cap, .ce, .trx, .gsc, .glk, .psp, .rng, .sbc, .red, .dcc, .obc, .chg, .axb, .emitted]) :
    area (State.setMode s new cause) p = area s p := by
  unfold State.setMode
  try dsimp only
  repeat' first
    | with_reducible rfl
    | with_reducible refine area_ite ?_ ?_
    | with_reducible refine area_dite (fun _ => ?_) (fun _ => ?_)
    | with_reducible refine (State.modeSupply_area _ _ _ (notMem_of_sub h (by decide))).trans ?_
    | with_reducible refine (State.modeLock_area _ _ _ (notMem_of_sub h (by decide))).trans ?_
    | with_reducible refine (State.trxMode_area _ _ _ (notMem_of_sub h (by decide))).trans ?_
    | with_reducible refine (State.modPba_area _ _ (notMem_of_sub h (by decide))).trans ?_
    | with_reducible refine (State.releaseRows_area _ _ (notMem_of_sub h (by decide))).trans ?_
    | with_reducible refine (State.applyBrakes_area _ (notMem_of_sub h (by decide))).trans ?_
    | with_reducible refine (State.chgTo_area _ _ (notMem_of_sub h (by decide))).trans ?_
    | with_reducible refine (State.record_area _ _ _ _ _ _ (notMem_of_sub h (by decide))).trans ?_
    | with_reducible refine (area_each _ _ _ fun _ _ => ?_).trans ?_

theorem State.turnOn_area (s : State) (d : Fin 10) {p : Area} (h : p ∉ [Area.sys]) :
    area (State.turnOn s d) p = area s p := by
  unfold State.turnOn
  try dsimp only
  repeat' first
    | with_reducible rfl
    | with_reducible refine area_ite ?_ ?_
    | with_reducible refine area_dite (fun _ => ?_) (fun _ => ?_)
    | with_reducible refine (area_each _ _ _ fun _ _ => ?_).trans ?_
    | with_reducible refine (area_foldl _ (fun _ _ => ?_) _ _).trans ?_
    | dsimp only
    | split
    | with_reducible refine (area_sys h (by decide)).trans ?_

theorem State.enterMode_area (s : State) (new : Mode) {p : Area} (h : p ∉ [Area.sys, .lrg, .trc, .tal, .pba, .cap, .ce, .trx, .gsc, .glk, .psp, .rng, .sbc, .red, .dcc, .obc, .chg, .axb, .emitted]) :
    area (State.enterMode s new) p = area s p := by
  unfold State.enterMode
  try dsimp only
  repeat' first
    | with_reducible rfl
    | with_reducible refine area_ite ?_ ?_
    | with_reducible refine area_dite (fun _ => ?_) (fun _ => ?_)
    | with_reducible refine (State.turnOn_area _ _ (notMem_of_sub h (by decide))).trans ?_
    | with_reducible refine (State.setMode_area _ _ _ (notMem_of_sub h (by decide))).trans ?_
    | with_reducible refine (State.modPba_area _ _ (notMem_of_sub h (by decide))).trans ?_
    | with_reducible refine (area_each _ _ _ fun _ _ => ?_).trans ?_

theorem State.finishExit_area (s : State) {p : Area} (h : p ∉ [Area.lrg, .trc, .tal, .pba, .cap, .ce, .trx, .gsc, .glk, .psp, .rng, .sbc, .red, .dcc, .obc, .chg, .axb, .emitted]) :
    area (State.finishExit s) p = area s p := by
  unfold State.finishExit
  try dsimp only
  repeat' first
    | with_reducible rfl
    | with_reducible refine area_ite ?_ ?_
    | with_reducible refine area_dite (fun _ => ?_) (fun _ => ?_)
    | with_reducible refine (State.setMode_area _ _ _ (notMem_of_sub h (by decide))).trans ?_
    | with_reducible refine (State.toIdle_area _ _ (notMem_of_sub h (by decide))).trans ?_
    | with_reducible refine (State.releaseGroup_area _ _ (notMem_of_sub h (by decide))).trans ?_
    | with_reducible refine (area_each _ _ _ fun _ _ => ?_).trans ?_

theorem State.startExit_area (s : State) {p : Area} (h : p ∉ [Area.lrg, .trc, .tal, .pba, .cap, .ce, .trx, .gsc, .glk, .psp, .rng, .sbc, .red, .dcc, .obc, .chg, .axb, .emitted]) :
    area (State.startExit s) p = area s p := by
  unfold State.startExit
  try dsimp only
  repeat' first
    | with_reducible rfl
    | with_reducible refine area_ite ?_ ?_
    | with_reducible refine area_dite (fun _ => ?_) (fun _ => ?_)
    | with_reducible refine (State.setMode_area _ _ _ (notMem_of_sub h (by decide))).trans ?_
    | with_reducible refine (State.modTrx_area _ _ _ (notMem_of_sub h (by decide))).trans ?_
    | with_reducible refine (area_each _ _ _ fun _ _ => ?_).trans ?_

theorem State.modTest_area (s : State) (f : BrakeTest → BrakeTest) {p : Area} (h : p ∉ [Area.rng]) :
    area (State.modTest s f) p = area s p := by
  unfold State.modTest
  try dsimp only
  repeat' first
    | with_reducible rfl
    | with_reducible refine area_ite ?_ ?_
    | with_reducible refine area_dite (fun _ => ?_) (fun _ => ?_)
    | with_reducible refine (State.modRng_area _ _ (notMem_of_sub h (by decide))).trans ?_

theorem State.blzRestart_area (s : State) (i : Fin 64) {p : Area} (h : p ∉ [Area.lrg, .trc, .tal, .blz]) :
    area (State.blzRestart s i) p = area s p := by
  unfold State.blzRestart
  try dsimp only
  repeat' first
    | with_reducible rfl
    | with_reducible refine area_ite ?_ ?_
    | with_reducible refine area_dite (fun _ => ?_) (fun _ => ?_)
    | with_reducible refine (State.record_area _ _ _ _ _ _ (notMem_of_sub h (by decide))).trans ?_
    | with_reducible refine (area_each _ _ _ fun _ _ => ?_).trans ?_
    | with_reducible refine (area_foldl _ (fun _ _ => ?_) _ _).trans ?_
    | dsimp only
    | split
    | with_reducible refine (area_blz h (by decide)).trans ?_

theorem State.completeReset_area (s : State) {p : Area} (h : p ∉ [Area.lrg, .trc, .tal, .pba, .cap, .ce, .trx, .gsc, .glk, .psp, .rng, .sbc, .red, .dcc, .obc, .chg, .axb, .blz, .emitted]) :
    area (State.completeReset s) p = area s p := by
  unfold State.completeReset
  try dsimp only
  repeat' first
    | with_reducible rfl
    | with_reducible refine area_ite ?_ ?_
    | with_reducible refine area_dite (fun _ => ?_) (fun _ => ?_)
    | with_reducible refine (State.blzRestart_area _ _ (notMem_of_sub h (by decide))).trans ?_
    | with_reducible refine (State.setMode_area _ _ _ (notMem_of_sub h (by decide))).trans ?_
    | with_reducible refine (State.lockTo_area _ _ (notMem_of_sub h (by decide))).trans ?_
    | with_reducible refine (State.releaseRows_area _ _ (notMem_of_sub h (by decide))).trans ?_
    | with_reducible refine (State.freeGroup_area _ _ (notMem_of_sub h (by decide))).trans ?_
    | with_reducible refine (State.clearSet_area _ _ (notMem_of_sub h (by decide))).trans ?_
    | with_reducible refine (State.modRng_area _ _ (notMem_of_sub h (by decide))).trans ?_
    | with_reducible refine (area_each _ _ _ fun _ _ => ?_).trans ?_

theorem State.testB4_area (s : State) {p : Area} (h : p ∉ [Area.lrg, .trc, .tal, .trx, .gsc, .glk, .rng, .red, .emitted]) :
    area (State.testB4 s) p = area s p := by
  unfold State.testB4
  try dsimp only
  repeat' first
    | with_reducible rfl
    | with_reducible refine area_ite ?_ ?_
    | with_reducible refine area_dite (fun _ => ?_) (fun _ => ?_)
    | with_reducible refine (State.modRng_area _ _ (notMem_of_sub h (by decide))).trans ?_
    | with_reducible refine (State.dispatch_area _ _ _ _ (notMem_of_sub h (by decide))).trans ?_
    | with_reducible refine (State.releaseGroup_area _ _ (notMem_of_sub h (by decide))).trans ?_
    | with_reducible refine (State.modTrx_area _ _ _ (notMem_of_sub h (by decide))).trans ?_
    | with_reducible refine (area_each _ _ _ fun _ _ => ?_).trans ?_

theorem State.endTest_area (s : State) (result : Nat) {p : Area} (h : p ∉ [Area.lrg, .trc, .tal, .pba, .cap, .ce, .trx, .gsc, .glk, .psp, .rng, .sbc, .red, .dcc, .obc, .chg, .axb, .blz, .emitted]) :
    area (State.endTest s result) p = area s p := by
  unfold State.endTest
  try dsimp only
  repeat' first
    | with_reducible rfl
    | with_reducible refine area_ite ?_ ?_
    | with_reducible refine area_dite (fun _ => ?_) (fun _ => ?_)
    | with_reducible refine (State.testB4_area _ (notMem_of_sub h (by decide))).trans ?_
    | with_reducible refine (State.completeReset_area _ (notMem_of_sub h (by decide))).trans ?_
    | with_reducible refine (State.modTest_area _ _ (notMem_of_sub h (by decide))).trans ?_
    | with_reducible refine (State.lockTo_area _ _ (notMem_of_sub h (by decide))).trans ?_
    | with_reducible refine (State.recordReport_area _ _ _ _ _ _ _ (notMem_of_sub h (by decide))).trans ?_
    | with_reducible refine (State.record_area _ _ _ _ _ _ (notMem_of_sub h (by decide))).trans ?_
    | with_reducible refine (State.tally_area _ _ (notMem_of_sub h (by decide))).trans ?_

theorem State.startTest_area (s : State) (torque : Int) (reset : Bool) {p : Area} (h : p ∉ [Area.lrg, .trc, .tal, .pba, .cap, .ce, .trx, .pos, .gsc, .glk, .psp, .rng, .sbc, .red, .dcc, .obc, .chg, .axb, .blz, .emitted]) :
    area (State.startTest s torque reset) p = area s p := by
  unfold State.startTest
  try dsimp only
  repeat' first
    | with_reducible rfl
    | with_reducible refine area_ite ?_ ?_
    | with_reducible refine area_dite (fun _ => ?_) (fun _ => ?_)
    | with_reducible refine (State.endTest_area _ _ (notMem_of_sub h (by decide))).trans ?_
    | with_reducible refine (State.modTest_area _ _ (notMem_of_sub h (by decide))).trans ?_
    | with_reducible refine (State.modRng_area _ _ (notMem_of_sub h (by decide))).trans ?_
    | with_reducible refine (State.latchEnc_area _ _ _ (notMem_of_sub h (by decide))).trans ?_
    | with_reducible refine (State.liftGroup_area _ _ (notMem_of_sub h (by decide))).trans ?_
    | with_reducible refine (State.modTrx_area _ _ _ (notMem_of_sub h (by decide))).trans ?_
    | with_reducible refine (area_each _ _ _ fun _ _ => ?_).trans ?_

theorem State.haltTest_area (s : State) {p : Area} (h : p ∉ [Area.lrg, .trc, .tal, .pba, .cap, .ce, .trx, .gsc, .glk, .psp, .rng, .sbc, .red, .dcc, .obc, .chg, .axb, .blz, .emitted]) :
    area (State.haltTest s) p = area s p := by
  unfold State.haltTest
  try dsimp only
  repeat' first
    | with_reducible rfl
    | with_reducible refine area_ite ?_ ?_
    | with_reducible refine area_dite (fun _ => ?_) (fun _ => ?_)
    | with_reducible refine (State.endTest_area _ _ (notMem_of_sub h (by decide))).trans ?_
    | with_reducible refine (State.abandonReset_area _ (notMem_of_sub h (by decide))).trans ?_
    | with_reducible refine (area_each _ _ _ fun _ _ => ?_).trans ?_
    | with_reducible refine (area_foldl _ (fun _ _ => ?_) _ _).trans ?_
    | dsimp only
    | split

theorem State.watchStill_area (s : State) {p : Area} (h : p ∉ [Area.lrg, .trc, .tal, .pba, .cap, .ce, .trx, .gsc, .glk, .psp, .rng, .sbc, .red, .dcc, .obc, .chg, .axb, .blz, .emitted]) :
    area (State.watchStill s) p = area s p := by
  unfold State.watchStill
  try dsimp only
  repeat' first
    | with_reducible rfl
    | with_reducible refine area_ite ?_ ?_
    | with_reducible refine area_dite (fun _ => ?_) (fun _ => ?_)
    | with_reducible refine (State.haltTest_area _ (notMem_of_sub h (by decide))).trans ?_

end Sys2Proof.Machine
end

