-- ==== Sys2Proof/Laws/AreaReactionOps.lean ====
section
/-!
SUPPORT. Which areas of the state each operation of ReactionOps.lean may change.
-/

namespace Sys2Proof.Machine

open Sys2Proof

theorem State.watchRows_area (s : State) {p : Area} (h : p ∉ [Area.rng]) :
    area (State.watchRows s) p = area s p := by
  unfold State.watchRows
  try dsimp only
  repeat' first
    | with_reducible rfl
    | with_reducible refine area_ite ?_ ?_
    | with_reducible refine area_dite (fun _ => ?_) (fun _ => ?_)
    | with_reducible refine (State.modRng_area _ _ (notMem_of_sub h (by decide))).trans ?_

theorem State.recordFiring_area (s : State) (q : Report) (lowest : Nat) (mode : Mode) (r : Nat) {p : Area} (h : p ∉ [Area.lrg, .trc, .tal, .flog]) :
    area (State.recordFiring s q lowest mode r) p = area s p := by
  unfold State.recordFiring
  try dsimp only
  repeat' first
    | with_reducible rfl
    | with_reducible refine area_ite ?_ ?_
    | with_reducible refine area_dite (fun _ => ?_) (fun _ => ?_)
    | with_reducible refine (State.logRecord_area _ _ (notMem_of_sub h (by decide))).trans ?_
    | with_reducible refine (State.record_area _ _ _ _ _ _ (notMem_of_sub h (by decide))).trans ?_
    | with_reducible refine (State.tally_area _ _ (notMem_of_sub h (by decide))).trans ?_

theorem State.fireReport_area (s : State) (mode : Mode) (q : Report) (rows : List Nat) {p : Area} (h : p ∉ [Area.lrg, .trc, .tal, .rng, .flog]) :
    area (State.fireReport s mode q rows) p = area s p := by
  unfold State.fireReport
  try dsimp only
  repeat' first
    | with_reducible rfl
    | with_reducible refine area_ite ?_ ?_
    | with_reducible refine area_dite (fun _ => ?_) (fun _ => ?_)
    | with_reducible refine (State.recordFiring_area _ _ _ _ _ (notMem_of_sub h (by decide))).trans ?_
    | with_reducible refine (State.modRng_area _ _ (notMem_of_sub h (by decide))).trans ?_
    | with_reducible refine (area_each _ _ _ fun _ _ => ?_).trans ?_
    | with_reducible refine (area_foldl _ (fun _ _ => ?_) _ _).trans ?_

theorem State.joinLate_area (s : State) (q : Report) {p : Area} (h : p ∉ [Area.psp]) :
    area (State.joinLate s q) p = area s p := by
  unfold State.joinLate
  try dsimp only
  repeat' first
    | with_reducible rfl
    | with_reducible refine area_ite ?_ ?_
    | with_reducible refine area_dite (fun _ => ?_) (fun _ => ?_)
    | with_reducible refine (State.modSet_area _ _ _ (notMem_of_sub h (by decide))).trans ?_
    | with_reducible refine (area_each _ _ _ fun _ _ => ?_).trans ?_
    | with_reducible refine (area_foldl _ (fun _ _ => ?_) _ _).trans ?_
    | dsimp only
    | split

theorem State.reactGroup_area (s : State) (rows : List Nat) (grown : Bool) (g : Fin 4) {p : Area} (h : p ∉ [Area.lrg, .trc, .tal, .trx, .gsc, .glk, .psp, .rng, .red, .emitted]) :
    area (State.reactGroup s rows grown g) p = area s p := by
  unfold State.reactGroup
  try dsimp only
  repeat' first
    | with_reducible rfl
    | with_reducible refine area_ite ?_ ?_
    | with_reducible refine area_dite (fun _ => ?_) (fun _ => ?_)
    | with_reducible refine (State.applyTraction_area _ _ _ _ (notMem_of_sub h (by decide))).trans ?_
    | with_reducible refine (State.decided_area _ _ _ _ (notMem_of_sub h (by decide))).trans ?_
    | with_reducible refine (State.modRng_area _ _ (notMem_of_sub h (by decide))).trans ?_
    | with_reducible refine (State.supplyLoss_area _ _ _ (notMem_of_sub h (by decide))).trans ?_

theorem State.reactBridge_area (s : State) (rows : List Nat) (b : Fin 3) {p : Area} (h : p ∉ [Area.lrg, .trc, .tal, .cap, .rng, .axb]) :
    area (State.reactBridge s rows b) p = area s p := by
  unfold State.reactBridge
  try dsimp only
  repeat' first
    | with_reducible rfl
    | with_reducible refine area_ite ?_ ?_
    | with_reducible refine area_dite (fun _ => ?_) (fun _ => ?_)
    | with_reducible refine (State.axbPattern_area _ _ _ (notMem_of_sub h (by decide))).trans ?_

theorem State.reactBrake_area (s : State) (rows : List Nat) (n : Fin 2) {p : Area} (h : p ∉ [Area.sbc]) :
    area (State.reactBrake s rows n) p = area s p := by
  unfold State.reactBrake
  try dsimp only
  repeat' first
    | with_reducible rfl
    | with_reducible refine area_ite ?_ ?_
    | with_reducible refine area_dite (fun _ => ?_) (fun _ => ?_)
    | with_reducible refine (State.applyBrake_area _ _ (notMem_of_sub h (by decide))).trans ?_

theorem State.react_area (s : State) (rows : List Nat) (grown : List (Fin 4)) {p : Area} (h : p ∉ [Area.lrg, .trc, .tal, .pba, .cap, .ce, .trx, .gsc, .glk, .psp, .rng, .sbc, .red, .dcc, .obc, .chg, .axb, .emitted]) :
    area (State.react s rows grown) p = area s p := by
  unfold State.react
  try dsimp only
  repeat' first
    | with_reducible rfl
    | with_reducible refine area_ite ?_ ?_
    | with_reducible refine area_dite (fun _ => ?_) (fun _ => ?_)
    | with_reducible refine (State.reactBrake_area _ _ _ (notMem_of_sub h (by decide))).trans ?_
    | with_reducible refine (State.reactBridge_area _ _ _ (notMem_of_sub h (by decide))).trans ?_
    | with_reducible refine (State.reactGroup_area _ _ _ _ (notMem_of_sub h (by decide))).trans ?_
    | with_reducible refine (State.setMode_area _ _ _ (notMem_of_sub h (by decide))).trans ?_
    | with_reducible refine (State.dccHold_area _ (notMem_of_sub h (by decide))).trans ?_
    | with_reducible refine (State.chgOff_area _ (notMem_of_sub h (by decide))).trans ?_
    | with_reducible refine (area_each _ _ _ fun _ _ => ?_).trans ?_

theorem State.evaluateReports_area (s : State) (batch : List Report) {p : Area} (h : p ∉ [Area.lrg, .trc, .tal, .pba, .cap, .ce, .trx, .gsc, .glk, .psp, .rng, .sbc, .flog, .red, .dcc, .obc, .chg, .axb, .blz, .emitted]) :
    area (State.evaluateReports s batch) p = area s p := by
  unfold State.evaluateReports
  try dsimp only
  repeat' first
    | with_reducible rfl
    | with_reducible refine area_ite ?_ ?_
    | with_reducible refine area_dite (fun _ => ?_) (fun _ => ?_)
    | with_reducible refine (State.react_area _ _ _ (notMem_of_sub h (by decide))).trans ?_
    | with_reducible refine (State.joinLate_area _ _ (notMem_of_sub h (by decide))).trans ?_
    | with_reducible refine (State.fireReport_area _ _ _ _ (notMem_of_sub h (by decide))).trans ?_
    | with_reducible refine (State.haltTest_area _ (notMem_of_sub h (by decide))).trans ?_
    | with_reducible refine (area_each _ _ _ fun _ _ => ?_).trans ?_
    | with_reducible refine (area_foldl _ (fun _ _ => ?_) _ _).trans ?_

theorem State.decideSet_area (s : State) (g : Fin 4) {p : Area} (h : p ∉ [Area.lrg, .trc, .tal, .trx, .gsc, .glk, .psp, .rng, .red, .emitted]) :
    area (State.decideSet s g) p = area s p := by
  unfold State.decideSet
  try dsimp only
  repeat' first
    | with_reducible rfl
    | with_reducible refine area_ite ?_ ?_
    | with_reducible refine area_dite (fun _ => ?_) (fun _ => ?_)
    | with_reducible refine (State.applyTraction_area _ _ _ _ (notMem_of_sub h (by decide))).trans ?_
    | with_reducible refine (State.decided_area _ _ _ _ (notMem_of_sub h (by decide))).trans ?_
    | with_reducible refine (State.supplyLoss_area _ _ _ (notMem_of_sub h (by decide))).trans ?_

theorem State.rechoose_area (s : State) (g : Fin 4) {p : Area} (h : p ∉ [Area.lrg, .trc, .tal, .trx, .gsc, .glk, .rng, .red, .emitted]) :
    area (State.rechoose s g) p = area s p := by
  unfold State.rechoose
  try dsimp only
  repeat' first
    | with_reducible rfl
    | with_reducible refine area_ite ?_ ?_
    | with_reducible refine area_dite (fun _ => ?_) (fun _ => ?_)
    | with_reducible refine (State.dispatch_area _ _ _ _ (notMem_of_sub h (by decide))).trans ?_
    | with_reducible refine (area_each _ _ _ fun _ _ => ?_).trans ?_
    | with_reducible refine (area_foldl _ (fun _ _ => ?_) _ _).trans ?_
    | dsimp only
    | split

theorem State.fixedTraction_area (s : State) {p : Area} (h : p ∉ [Area.lrg, .trc, .tal, .trx, .gsc, .glk, .rng, .red, .emitted]) :
    area (State.fixedTraction s) p = area s p := by
  unfold State.fixedTraction
  try dsimp only
  repeat' first
    | with_reducible rfl
    | with_reducible refine area_ite ?_ ?_
    | with_reducible refine area_dite (fun _ => ?_) (fun _ => ?_)
    | with_reducible refine (State.applyTraction_area _ _ _ _ (notMem_of_sub h (by decide))).trans ?_
    | with_reducible refine (area_each _ _ _ fun _ _ => ?_).trans ?_

theorem State.failIsland_area (s : State) {p : Area} (h : p ∉ [Area.lrg, .trc, .tal, .cap, .trx, .gsc, .glk, .rng, .sbc, .flog, .red, .axb, .emitted, .draws]) :
    area (State.failIsland s) p = area s p := by
  unfold State.failIsland
  try dsimp only
  repeat' first
    | with_reducible rfl
    | with_reducible refine area_ite ?_ ?_
    | with_reducible refine area_dite (fun _ => ?_) (fun _ => ?_)
    | with_reducible refine (State.fixedTraction_area _ (notMem_of_sub h (by decide))).trans ?_
    | with_reducible refine (State.applyBrakes_area _ (notMem_of_sub h (by decide))).trans ?_
    | with_reducible refine (State.applyTraction_area _ _ _ _ (notMem_of_sub h (by decide))).trans ?_
    | with_reducible refine (State.modRng_area _ _ (notMem_of_sub h (by decide))).trans ?_
    | with_reducible refine (State.axbPattern_area _ _ _ (notMem_of_sub h (by decide))).trans ?_
    | with_reducible refine (State.logRecord_area _ _ (notMem_of_sub h (by decide))).trans ?_
    | with_reducible refine (State.draw_area _ (notMem_of_sub h (by decide))).trans ?_
    | with_reducible refine (area_each _ _ _ fun _ _ => ?_).trans ?_

end Sys2Proof.Machine
end

