-- ==== Sys2Proof/Laws/AreaElapse.lean ====
section
/-!
SUPPORT. Which areas of the state each operation of Elapse.lean may change.
-/

namespace Sys2Proof.Machine

open Sys2Proof

theorem State.receiveComma_area (s : State) (l : Fin 12) (f : Byte) (rx : Nat) {p : Area} (h : p ∉ [Area.psp, .rng]) :
    area (State.receiveComma s l f rx) p = area s p := by
  unfold State.receiveComma
  try dsimp only
  repeat' first
    | with_reducible rfl
    | with_reducible refine area_ite ?_ ?_
    | with_reducible refine area_dite (fun _ => ?_) (fun _ => ?_)
    | with_reducible refine (State.modSet_area _ _ _ (notMem_of_sub h (by decide))).trans ?_
    | with_reducible refine (State.modRng_area _ _ (notMem_of_sub h (by decide))).trans ?_
    | with_reducible refine (area_each _ _ _ fun _ _ => ?_).trans ?_
    | with_reducible refine (area_foldl _ (fun _ _ => ?_) _ _).trans ?_
    | dsimp only
    | split

theorem State.land_area (s : State) (t : Nat) (a : Flight) {p : Area} (h : p ∉ [Area.sys, .lrg, .trc, .tal, .pba, .ce, .psp, .rng]) :
    area (State.land s t a) p = area s p := by
  unfold State.land
  try dsimp only
  repeat' first
    | with_reducible rfl
    | with_reducible refine area_ite ?_ ?_
    | with_reducible refine area_dite (fun _ => ?_) (fun _ => ?_)
    | with_reducible refine (State.receiveComma_area _ _ _ _ (notMem_of_sub h (by decide))).trans ?_
    | with_reducible refine (State.watchRows_area _ (notMem_of_sub h (by decide))).trans ?_
    | with_reducible refine (State.compared_area _ _ (notMem_of_sub h (by decide))).trans ?_
    | with_reducible refine (State.deliver_area _ _ (notMem_of_sub h (by decide))).trans ?_
    | with_reducible refine (area_each _ _ _ fun _ _ => ?_).trans ?_
    | with_reducible refine (area_foldl _ (fun _ _ => ?_) _ _).trans ?_
    | dsimp only
    | split

theorem State.slewed_area (s : State) (n : Nat) (d : Int) {p : Area} (h : p ∉ [Area.clk, .skd]) :
    area (State.slewed s n d) p = area s p := by
  unfold State.slewed
  try dsimp only
  repeat' first
    | with_reducible rfl
    | with_reducible refine area_ite ?_ ?_
    | with_reducible refine area_dite (fun _ => ?_) (fun _ => ?_)
    | with_reducible refine (area_each _ _ _ fun _ _ => ?_).trans ?_
    | with_reducible refine (area_foldl _ (fun _ _ => ?_) _ _).trans ?_
    | dsimp only
    | split
    | with_reducible refine (area_clk h (by decide)).trans ?_
    | with_reducible refine (area_skd h (by decide)).trans ?_
    | (cases p <;> first | exact absurd (by decide) h | rfl)

theorem State.at_area (s : State) (t : Tick) {p : Area} (h : p ∉ [Area.clk, .sys, .lrg, .trc, .tal, .pba, .ce, .psp, .rng, .skd, .flights]) :
    area (State.at s t) p = area s p := by
  unfold State.at
  try dsimp only
  repeat' first
    | with_reducible rfl
    | with_reducible refine area_ite ?_ ?_
    | with_reducible refine area_dite (fun _ => ?_) (fun _ => ?_)
    | with_reducible refine (State.slewed_area _ _ _ (notMem_of_sub h (by decide))).trans ?_
    | with_reducible refine (State.land_area _ _ _ (notMem_of_sub h (by decide))).trans ?_
    | with_reducible refine (State.clockTo_area _ _ (notMem_of_sub h (by decide))).trans ?_
    | with_reducible refine (area_each _ _ _ fun _ _ => ?_).trans ?_
    | with_reducible refine (area_foldl _ (fun _ _ => ?_) _ _).trans ?_
    | dsimp only
    | split
    | with_reducible refine (area_flights h (by decide)).trans ?_

end Sys2Proof.Machine
end

