-- ==== Sys2Proof/Laws/AreaStepOps.lean ====
section
/-!
SUPPORT. Which areas of the state each operation of StepOps.lean may change.
-/

namespace Sys2Proof.Machine

open Sys2Proof

theorem State.modStep_area (s : State) (c : Fin 7) (f : Step → Step) {p : Area} (h : p ∉ [Area.red]) :
    area (State.modStep s c f) p = area s p := by
  unfold State.modStep
  try dsimp only
  repeat' first
    | with_reducible rfl
    | with_reducible refine area_ite ?_ ?_
    | with_reducible refine area_dite (fun _ => ?_) (fun _ => ?_)
    | with_reducible refine (area_each _ _ _ fun _ _ => ?_).trans ?_
    | with_reducible refine (area_foldl _ (fun _ _ => ?_) _ _).trans ?_
    | dsimp only
    | split
    | with_reducible refine (area_red h (by decide)).trans ?_

theorem State.stepResult_area (s : State) (c : Fin 7) (ok : Bool) {p : Area} (h : p ∉ [Area.lrg, .trc, .tal, .red]) :
    area (State.stepResult s c ok) p = area s p := by
  unfold State.stepResult
  try dsimp only
  repeat' first
    | with_reducible rfl
    | with_reducible refine area_ite ?_ ?_
    | with_reducible refine area_dite (fun _ => ?_) (fun _ => ?_)
    | with_reducible refine (State.modStep_area _ _ _ (notMem_of_sub h (by decide))).trans ?_
    | with_reducible refine (State.record_area _ _ _ _ _ _ (notMem_of_sub h (by decide))).trans ?_
    | with_reducible refine (State.tally_area _ _ (notMem_of_sub h (by decide))).trans ?_

theorem State.stepOverdue_area (s : State) (c : Fin 7) (pstart : Nat) {p : Area} (h : p ∉ [Area.lrg, .trc, .tal, .red]) :
    area (State.stepOverdue s c pstart) p = area s p := by
  unfold State.stepOverdue
  try dsimp only
  repeat' first
    | with_reducible rfl
    | with_reducible refine area_ite ?_ ?_
    | with_reducible refine area_dite (fun _ => ?_) (fun _ => ?_)
    | with_reducible refine (State.stepResult_area _ _ _ (notMem_of_sub h (by decide))).trans ?_
    | with_reducible refine (State.modStep_area _ _ _ (notMem_of_sub h (by decide))).trans ?_
    | with_reducible refine (area_each _ _ _ fun _ _ => ?_).trans ?_
    | with_reducible refine (area_foldl _ (fun _ _ => ?_) _ _).trans ?_
    | dsimp only
    | split

theorem State.compareCommit_area (s : State) (c : Fin 7) (e : Fin 8) (slots : List (Nat × Word24)) {p : Area} (h : p ∉ [Area.lrg, .trc, .tal, .red]) :
    area (State.compareCommit s c e slots) p = area s p := by
  unfold State.compareCommit
  try dsimp only
  repeat' first
    | with_reducible rfl
    | with_reducible refine area_ite ?_ ?_
    | with_reducible refine area_dite (fun _ => ?_) (fun _ => ?_)
    | with_reducible refine (State.stepOverdue_area _ _ _ (notMem_of_sub h (by decide))).trans ?_
    | with_reducible refine (State.stepResult_area _ _ _ (notMem_of_sub h (by decide))).trans ?_
    | with_reducible refine (State.modStep_area _ _ _ (notMem_of_sub h (by decide))).trans ?_
    | with_reducible refine (area_each _ _ _ fun _ _ => ?_).trans ?_
    | with_reducible refine (area_foldl _ (fun _ _ => ?_) _ _).trans ?_
    | dsimp only
    | split

theorem State.handRefused_area (s : State) (g : Fin 4) (target : Nat) (res : Nat) {p : Area} (h : p ∉ [Area.lrg, .trc, .tal, .red]) :
    area (State.handRefused s g target res) p = area s p := by
  unfold State.handRefused
  try dsimp only
  repeat' first
    | with_reducible rfl
    | with_reducible refine area_ite ?_ ?_
    | with_reducible refine area_dite (fun _ => ?_) (fun _ => ?_)
    | with_reducible refine (State.modTok_area _ _ _ (notMem_of_sub h (by decide))).trans ?_
    | with_reducible refine (State.record_area _ _ _ _ _ _ (notMem_of_sub h (by decide))).trans ?_

theorem State.handRequest_area (s : State) (g : Fin 4) (target : Nat) (force : Bool) {p : Area} (h : p ∉ [Area.lrg, .trc, .tal, .red]) :
    area (State.handRequest s g target force) p = area s p := by
  unfold State.handRequest
  try dsimp only
  repeat' first
    | with_reducible rfl
    | with_reducible refine area_ite ?_ ?_
    | with_reducible refine area_dite (fun _ => ?_) (fun _ => ?_)
    | with_reducible refine (State.handRefused_area _ _ _ _ (notMem_of_sub h (by decide))).trans ?_
    | with_reducible refine (State.modTok_area _ _ _ (notMem_of_sub h (by decide))).trans ?_

theorem State.writeRun_area (s : State) (e : Fin 8) (v : Bool) {p : Area} (h : p ∉ [Area.lrg, .trc, .tal, .ce, .glk, .red]) :
    area (State.writeRun s e v) p = area s p := by
  unfold State.writeRun
  try dsimp only
  repeat' first
    | with_reducible rfl
    | with_reducible refine area_ite ?_ ?_
    | with_reducible refine area_dite (fun _ => ?_) (fun _ => ?_)
    | with_reducible refine (State.engineGone_area _ _ (notMem_of_sub h (by decide))).trans ?_
    | with_reducible refine (State.modCe_area _ _ _ (notMem_of_sub h (by decide))).trans ?_
    | with_reducible refine (area_each _ _ _ fun _ _ => ?_).trans ?_
    | with_reducible refine (area_foldl _ (fun _ _ => ?_) _ _).trans ?_
    | dsimp only
    | split

theorem State.loadProgram_area (s : State) (e : Fin 8) (dest : Nat) (ws : List Word32) {p : Area} (h : p ∉ [Area.lrg, .trc, .tal, .ce]) :
    area (State.loadProgram s e dest ws) p = area s p := by
  unfold State.loadProgram
  try dsimp only
  repeat' first
    | with_reducible rfl
    | with_reducible refine area_ite ?_ ?_
    | with_reducible refine area_dite (fun _ => ?_) (fun _ => ?_)
    | with_reducible refine (State.modCe_area _ _ _ (notMem_of_sub h (by decide))).trans ?_
    | with_reducible refine (State.record_area _ _ _ _ _ _ (notMem_of_sub h (by decide))).trans ?_

end Sys2Proof.Machine
end

