-- ==== Sys2Proof/Laws/AreaBootOps.lean ====
section
/-!
SUPPORT. Which areas of the state each operation of BootOps.lean may change.
-/

namespace Sys2Proof.Machine

open Sys2Proof

theorem State.modBoot_area (s : State) (f : Boot → Boot) {p : Area} (h : p ∉ [Area.boot]) :
    area (State.modBoot s f) p = area s p := by
  unfold State.modBoot
  try dsimp only
  repeat' first
    | with_reducible rfl
    | with_reducible refine area_ite ?_ ?_
    | with_reducible refine area_dite (fun _ => ?_) (fun _ => ?_)
    | with_reducible refine (area_each _ _ _ fun _ _ => ?_).trans ?_
    | with_reducible refine (area_foldl _ (fun _ _ => ?_) _ _).trans ?_
    | dsimp only
    | split
    | with_reducible refine (area_boot h (by decide)).trans ?_

theorem State.modAct_area (s : State) (f : Activation → Activation) {p : Area} (h : p ∉ [Area.boot]) :
    area (State.modAct s f) p = area s p := by
  unfold State.modAct
  try dsimp only
  repeat' first
    | with_reducible rfl
    | with_reducible refine area_ite ?_ ?_
    | with_reducible refine area_dite (fun _ => ?_) (fun _ => ?_)
    | with_reducible refine (State.modBoot_area _ _ (notMem_of_sub h (by decide))).trans ?_

theorem State.beginTask_area (s : State) (a : BootTask) {p : Area} (h : p ∉ [Area.lrg, .trc, .tal, .ce, .glk, .red]) :
    area (State.beginTask s a) p = area s p := by
  unfold State.beginTask
  try dsimp only
  repeat' first
    | with_reducible rfl
    | with_reducible refine area_ite ?_ ?_
    | with_reducible refine area_dite (fun _ => ?_) (fun _ => ?_)
    | with_reducible refine (State.writeRun_area _ _ _ (notMem_of_sub h (by decide))).trans ?_
    | with_reducible refine (State.handRequest_area _ _ _ _ (notMem_of_sub h (by decide))).trans ?_
    | with_reducible refine (State.modCe_area _ _ _ (notMem_of_sub h (by decide))).trans ?_
    | with_reducible refine (area_each _ _ _ fun _ _ => ?_).trans ?_
    | with_reducible refine (area_foldl _ (fun _ _ => ?_) _ _).trans ?_
    | dsimp only
    | split

theorem State.endAct_area (s : State) (res : Nat) {p : Area} (h : p ∉ [Area.lrg, .trc, .tal, .boot]) :
    area (State.endAct s res) p = area s p := by
  unfold State.endAct
  try dsimp only
  repeat' first
    | with_reducible rfl
    | with_reducible refine area_ite ?_ ?_
    | with_reducible refine area_dite (fun _ => ?_) (fun _ => ?_)
    | with_reducible refine (State.modAct_area _ _ (notMem_of_sub h (by decide))).trans ?_
    | with_reducible refine (State.modBoot_area _ _ (notMem_of_sub h (by decide))).trans ?_
    | with_reducible refine (State.record_area _ _ _ _ _ _ (notMem_of_sub h (by decide))).trans ?_
    | with_reducible refine (State.tally_area _ _ (notMem_of_sub h (by decide))).trans ?_

theorem State.failAct_area (s : State) (res : Nat) {p : Area} (h : p ∉ [Area.lrg, .trc, .tal, .boot]) :
    area (State.failAct s res) p = area s p := by
  unfold State.failAct
  try dsimp only
  repeat' first
    | with_reducible rfl
    | with_reducible refine area_ite ?_ ?_
    | with_reducible refine area_dite (fun _ => ?_) (fun _ => ?_)
    | with_reducible refine (State.endAct_area _ _ (notMem_of_sub h (by decide))).trans ?_
    | with_reducible refine (State.modAct_area _ _ (notMem_of_sub h (by decide))).trans ?_
    | with_reducible refine (area_each _ _ _ fun _ _ => ?_).trans ?_
    | with_reducible refine (area_foldl _ (fun _ _ => ?_) _ _).trans ?_
    | dsimp only
    | split

theorem State.runTasks_area (a : Nat) (x1 : State) {p : Area} (h : p ∉ [Area.lrg, .trc, .tal, .ce, .glk, .red, .boot]) :
    area (State.runTasks a x1) p = area x1 p := by
  induction a generalizing x1 with
  | zero => rfl
  | succ n ih =>
    have hb : ∀ t (s : State), area ((s.beginTask t).modAct fun k =>
        { k with begun := true, since := s.clk.now }) p = area s p := fun t s =>
      (State.modAct_area _ _ (notMem_of_sub h (by decide))).trans
        (State.beginTask_area _ _ (notMem_of_sub h (by decide)))
    unfold State.runTasks
    dsimp only
    split
    · exact State.endAct_area _ _ (notMem_of_sub h (by decide))
    · have hs : ∀ t, area (if x1.boot.act.begun = true then x1
          else (x1.beginTask t).modAct fun k => { k with begun := true, since := x1.clk.now }) p
            = area x1 p := fun t => area_ite rfl (hb t x1)
      exact area_ite (((ih _).trans (State.modAct_area _ _ (notMem_of_sub h (by decide)))).trans (hs _))
        (area_ite (((ih _).trans (State.failAct_area _ _ (notMem_of_sub h (by decide)))).trans (hs _))
          (hs _))

theorem State.bootPoll_area (s : State) {p : Area} (h : p ∉ [Area.lrg, .trc, .tal, .ce, .glk, .red, .boot]) :
    area (State.bootPoll s) p = area s p := by
  unfold State.bootPoll
  try dsimp only
  repeat' first
    | with_reducible rfl
    | with_reducible refine area_ite ?_ ?_
    | with_reducible refine area_dite (fun _ => ?_) (fun _ => ?_)
    | with_reducible refine (State.runTasks_area _ _ (notMem_of_sub h (by decide))).trans ?_

theorem State.bootFault_area (s : State) (e : Fin 8) {p : Area} (h : p ∉ [Area.lrg, .trc, .tal, .boot]) :
    area (State.bootFault s e) p = area s p := by
  unfold State.bootFault
  try dsimp only
  repeat' first
    | with_reducible rfl
    | with_reducible refine area_ite ?_ ?_
    | with_reducible refine area_dite (fun _ => ?_) (fun _ => ?_)
    | with_reducible refine (State.failAct_area _ _ (notMem_of_sub h (by decide))).trans ?_

theorem State.bootReact_area (s : State) {p : Area} (h : p ∉ [Area.lrg, .trc, .tal, .ce, .glk, .red, .boot]) :
    area (State.bootReact s) p = area s p := by
  unfold State.bootReact
  try dsimp only
  repeat' first
    | with_reducible rfl
    | with_reducible refine area_ite ?_ ?_
    | with_reducible refine area_dite (fun _ => ?_) (fun _ => ?_)
    | with_reducible refine (State.bootPoll_area _ (notMem_of_sub h (by decide))).trans ?_
    | with_reducible refine (State.failAct_area _ _ (notMem_of_sub h (by decide))).trans ?_
    | with_reducible refine (area_each _ _ _ fun _ _ => ?_).trans ?_
    | with_reducible refine (area_foldl _ (fun _ _ => ?_) _ _).trans ?_
    | dsimp only
    | split

theorem State.bootLoad_area (s : State) (slot : Bool) (part : Nat) (e : Fin 8) {p : Area} (h : p ∉ [Area.sys, .lrg, .trc, .tal, .ce, .rng]) :
    area (State.bootLoad s slot part e) p = area s p := by
  unfold State.bootLoad
  try dsimp only
  repeat' first
    | with_reducible rfl
    | with_reducible refine area_ite ?_ ?_
    | with_reducible refine area_dite (fun _ => ?_) (fun _ => ?_)
    | with_reducible refine (State.loadProgram_area _ _ _ _ (notMem_of_sub h (by decide))).trans ?_
    | with_reducible refine (State.pokeRow_area _ _ _ _ (notMem_of_sub h (by decide))).trans ?_
    | with_reducible refine (area_each _ _ _ fun _ _ => ?_).trans ?_
    | with_reducible refine (area_foldl _ (fun _ _ => ?_) _ _).trans ?_

end Sys2Proof.Machine
end

