-- ==== Sys2Proof/Laws/AreaEngineOps.lean ====
section
/-!
SUPPORT. Which areas of the state each operation of EngineOps.lean may change.
-/

namespace Sys2Proof.Machine

open Sys2Proof

theorem State.goOn_area (s : State) (e : Fin 8) (n : Nat) (pc : Nat) {p : Area} (h : p ∉ [Area.clk, .sys, .lrg, .trc, .tal, .pba, .ce, .glk, .psp, .rng, .red, .skd, .flights]) :
    area (State.goOn s e n pc) p = area s p := by
  unfold State.goOn
  try dsimp only
  repeat' first
    | with_reducible rfl
    | with_reducible refine area_ite ?_ ?_
    | with_reducible refine area_dite (fun _ => ?_) (fun _ => ?_)
    | with_reducible refine (State.at_area _ _ (notMem_of_sub h (by decide))).trans ?_
    | with_reducible refine (State.engineFault_area _ _ _ (notMem_of_sub h (by decide))).trans ?_
    | with_reducible refine (State.modCe_area _ _ _ (notMem_of_sub h (by decide))).trans ?_

theorem State.fetchFix_area (s : State) (e : Fin 8) {p : Area} (h : p ∉ [Area.sys, .lrg, .trc, .tal, .ce, .rng, .draws]) :
    area (State.fetchFix s e) p = area s p := by
  unfold State.fetchFix
  try dsimp only
  repeat' first
    | with_reducible rfl
    | with_reducible refine area_ite ?_ ?_
    | with_reducible refine area_dite (fun _ => ?_) (fun _ => ?_)
    | with_reducible refine (State.eccNote_area _ _ _ _ (notMem_of_sub h (by decide))).trans ?_
    | with_reducible refine (State.modCe_area _ _ _ (notMem_of_sub h (by decide))).trans ?_
    | with_reducible refine (State.draw_area _ (notMem_of_sub h (by decide))).trans ?_
    | with_reducible refine (area_each _ _ _ fun _ _ => ?_).trans ?_
    | with_reducible refine (area_foldl _ (fun _ _ => ?_) _ _).trans ?_
    | with_reducible refine area_ite_fst ?_ ?_
    | dsimp only
    | split

theorem State.readFix_area (s : State) (e : Fin 8) (js : List Nat) {p : Area} (h : p ∉ [Area.sys, .lrg, .trc, .tal, .ce, .rng]) :
    area (State.readFix s e js) p = area s p := by
  unfold State.readFix
  try dsimp only
  repeat' first
    | with_reducible rfl
    | with_reducible refine area_ite ?_ ?_
    | with_reducible refine area_dite (fun _ => ?_) (fun _ => ?_)
    | with_reducible refine (State.rowCheck_area _ _ _ _ (notMem_of_sub h (by decide))).trans ?_
    | with_reducible refine (area_each _ _ _ fun _ _ => ?_).trans ?_

theorem State.engineRow_area (s : State) (e : Fin 8) (op : Nat) (f : State → Word32 → State) {p : Area} (h : p ∉ [Area.clk, .sys, .lrg, .trc, .tal, .pba, .ce, .glk, .psp, .rng, .red, .skd, .boot, .flights, .draws]) (hf : ∀ x w, area (f x w) p = area x p) :
    area (State.engineRow s e op f) p = area s p := by
  unfold State.engineRow
  try dsimp only
  repeat' first
    | with_reducible rfl
    | with_reducible refine area_ite ?_ ?_
    | with_reducible refine area_dite (fun _ => ?_) (fun _ => ?_)
    | with_reducible refine (State.readFix_area _ _ _ (notMem_of_sub h (by decide))).trans ?_
    | with_reducible refine (State.fetchFix_area _ _ (notMem_of_sub h (by decide))).trans ?_
    | with_reducible refine (State.bootFault_area _ _ (notMem_of_sub h (by decide))).trans ?_
    | with_reducible refine (State.bootPoll_area _ (notMem_of_sub h (by decide))).trans ?_
    | with_reducible refine (State.at_area _ _ (notMem_of_sub h (by decide))).trans ?_
    | with_reducible refine (State.engineFault_area _ _ _ (notMem_of_sub h (by decide))).trans ?_
    | with_reducible refine (hf _ _).trans ?_

theorem State.plain_area (s : State) (e : Fin 8) (f : Engine → Word32 → Engine) (w : Word32) {p : Area} (h : p ∉ [Area.clk, .sys, .lrg, .trc, .tal, .pba, .ce, .glk, .psp, .rng, .red, .skd, .flights]) :
    area (State.plain s e f w) p = area s p := by
  unfold State.plain
  try dsimp only
  repeat' first
    | with_reducible rfl
    | with_reducible refine area_ite ?_ ?_
    | with_reducible refine area_dite (fun _ => ?_) (fun _ => ?_)
    | with_reducible refine (State.goOn_area _ _ _ _ (notMem_of_sub h (by decide))).trans ?_
    | with_reducible refine (State.modCe_area _ _ _ (notMem_of_sub h (by decide))).trans ?_

theorem State.lapse_area (s : State) (g : Fin 4) (t : Nat) {p : Area} (h : p ∉ [Area.lrg, .trc, .tal, .glk, .red]) :
    area (State.lapse s g t) p = area s p := by
  unfold State.lapse
  try dsimp only
  repeat' first
    | with_reducible rfl
    | with_reducible refine area_ite ?_ ?_
    | with_reducible refine area_dite (fun _ => ?_) (fun _ => ?_)
    | with_reducible refine (State.expireTok_area _ _ (notMem_of_sub h (by decide))).trans ?_
    | with_reducible refine (State.modTok_area _ _ _ (notMem_of_sub h (by decide))).trans ?_

theorem State.claim_area (s : State) (g : Fin 4) (e : Fin 8) (r : Nat) {p : Area} (h : p ∉ [Area.lrg, .trc, .tal, .glk, .red]) :
    area (State.claim s g e r) p = area s p := by
  unfold State.claim
  try dsimp only
  repeat' first
    | with_reducible rfl
    | with_reducible refine area_ite ?_ ?_
    | with_reducible refine area_dite (fun _ => ?_) (fun _ => ?_)
    | with_reducible refine (State.dropStale_area _ _ (notMem_of_sub h (by decide))).trans ?_
    | with_reducible refine (State.modTok_area _ _ _ (notMem_of_sub h (by decide))).trans ?_
    | with_reducible refine (State.record_area _ _ _ _ _ _ (notMem_of_sub h (by decide))).trans ?_
    | with_reducible refine (State.tally_area _ _ (notMem_of_sub h (by decide))).trans ?_

theorem State.renew_area (s : State) (g : Fin 4) (e : Fin 8) (r : Nat) {p : Area} (h : p ∉ [Area.lrg, .trc, .tal, .glk, .red]) :
    area (State.renew s g e r).1 p = area s p := by
  unfold State.renew
  try dsimp only
  repeat' first
    | with_reducible rfl
    | with_reducible refine area_ite ?_ ?_
    | with_reducible refine area_dite (fun _ => ?_) (fun _ => ?_)
    | with_reducible refine (State.claim_area _ _ _ _ (notMem_of_sub h (by decide))).trans ?_
    | with_reducible refine (State.lapse_area _ _ _ (notMem_of_sub h (by decide))).trans ?_
    | with_reducible refine (State.modTok_area _ _ _ (notMem_of_sub h (by decide))).trans ?_
    | with_reducible refine (area_each _ _ _ fun _ _ => ?_).trans ?_
    | with_reducible refine (area_foldl _ (fun _ _ => ?_) _ _).trans ?_
    | with_reducible refine area_ite_fst ?_ ?_
    | dsimp only
    | split

theorem doRenew_area (e : Fin 8) (s : State) (w : Word32) {p : Area} (h : p ∉ [Area.clk, .sys, .lrg, .trc, .tal, .pba, .ce, .glk, .psp, .rng, .red, .skd, .flights]) :
    area (doRenew e s w) p = area s p := by
  unfold doRenew
  try dsimp only
  repeat' first
    | with_reducible rfl
    | with_reducible refine area_ite ?_ ?_
    | with_reducible refine area_dite (fun _ => ?_) (fun _ => ?_)
    | with_reducible refine (State.renew_area _ _ _ _ (notMem_of_sub h (by decide))).trans ?_
    | with_reducible refine (State.goOn_area _ _ _ _ (notMem_of_sub h (by decide))).trans ?_
    | with_reducible refine (State.modCe_area _ _ _ (notMem_of_sub h (by decide))).trans ?_

theorem doDuty_area (e : Fin 8) (s : State) (w : Word32) {p : Area} (h : p ∉ [Area.clk, .sys, .lrg, .trc, .tal, .pba, .ce, .glk, .psp, .rng, .red, .skd, .flights]) :
    area (doDuty e s w) p = area s p := by
  unfold doDuty
  try dsimp only
  repeat' first
    | with_reducible rfl
    | with_reducible refine area_ite ?_ ?_
    | with_reducible refine area_dite (fun _ => ?_) (fun _ => ?_)
    | with_reducible refine (State.goOn_area _ _ _ _ (notMem_of_sub h (by decide))).trans ?_
    | with_reducible refine (State.modCe_area _ _ _ (notMem_of_sub h (by decide))).trans ?_

theorem State.commitSeen_area (s : State) (g : Fin 4) (e : Fin 8) (pstart : Nat) {p : Area} (h : p ∉ [Area.lrg, .trc, .tal, .trx, .rng, .obc, .chg]) :
    area (State.commitSeen s g e pstart) p = area s p := by
  unfold State.commitSeen
  try dsimp only
  repeat' first
    | with_reducible rfl
    | with_reducible refine area_ite ?_ ?_
    | with_reducible refine area_dite (fun _ => ?_) (fun _ => ?_)
    | with_reducible refine (State.obcEvaluate_area _ (notMem_of_sub h (by decide))).trans ?_
    | with_reducible refine (State.evaluate_area _ _ _ (notMem_of_sub h (by decide))).trans ?_
    | with_reducible refine (area_each _ _ _ fun _ _ => ?_).trans ?_
    | with_reducible refine (area_foldl _ (fun _ _ => ?_) _ _).trans ?_
    | dsimp only
    | split

theorem State.commitTok_area (s : State) (g : Fin 4) (e : Fin 8) (tick : Nat) (slots : List (Nat × Word24)) {p : Area} (h : p ∉ [Area.lrg, .trc, .tal, .ce, .trx, .gsc, .glk, .rng, .red, .dcc, .obc, .chg, .emitted]) :
    area (State.commitTok s g e tick slots) p = area s p := by
  unfold State.commitTok
  try dsimp only
  repeat' first
    | with_reducible rfl
    | with_reducible refine area_ite ?_ ?_
    | with_reducible refine area_dite (fun _ => ?_) (fun _ => ?_)
    | with_reducible refine (State.commitSeen_area _ _ _ _ (notMem_of_sub h (by decide))).trans ?_
    | with_reducible refine (State.lapse_area _ _ _ (notMem_of_sub h (by decide))).trans ?_
    | with_reducible refine (State.compareCommit_area _ _ _ _ (notMem_of_sub h (by decide))).trans ?_
    | with_reducible refine (State.dccCommit_area _ _ (notMem_of_sub h (by decide))).trans ?_
    | with_reducible refine (State.refuseCommit_area _ _ _ _ (notMem_of_sub h (by decide))).trans ?_
    | with_reducible refine (State.modGroup_area _ _ _ (notMem_of_sub h (by decide))).trans ?_

theorem State.commitBridge_area (s : State) (b : Fin 3) (e : Fin 8) (slots : List (Nat × Word24)) {p : Area} (h : p ∉ [Area.lrg, .trc, .tal, .cap, .ce, .rng, .red, .axb]) :
    area (State.commitBridge s b e slots) p = area s p := by
  unfold State.commitBridge
  try dsimp only
  repeat' first
    | with_reducible rfl
    | with_reducible refine area_ite ?_ ?_
    | with_reducible refine area_dite (fun _ => ?_) (fun _ => ?_)
    | with_reducible refine (State.compareCommit_area _ _ _ _ (notMem_of_sub h (by decide))).trans ?_
    | with_reducible refine (State.commitAxb_area _ _ _ (notMem_of_sub h (by decide))).trans ?_
    | with_reducible refine (State.modCe_area _ _ _ (notMem_of_sub h (by decide))).trans ?_

theorem State.commitGroup_area (s : State) (e : Fin 8) (g : Nat) (tick : Nat) {p : Area} (h : p ∉ [Area.lrg, .trc, .tal, .cap, .ce, .trx, .gsc, .glk, .rng, .red, .dcc, .obc, .chg, .axb, .emitted]) :
    area (State.commitGroup s e g tick) p = area s p := by
  unfold State.commitGroup
  try dsimp only
  repeat' first
    | with_reducible rfl
    | with_reducible refine area_ite ?_ ?_
    | with_reducible refine area_dite (fun _ => ?_) (fun _ => ?_)
    | with_reducible refine (State.commitBridge_area _ _ _ _ (notMem_of_sub h (by decide))).trans ?_
    | with_reducible refine (State.commitTok_area _ _ _ _ _ (notMem_of_sub h (by decide))).trans ?_
    | with_reducible refine (State.modCe_area _ _ _ (notMem_of_sub h (by decide))).trans ?_

theorem doCommit_area (e : Fin 8) (s : State) (w : Word32) {p : Area} (h : p ∉ [Area.clk, .sys, .lrg, .trc, .tal, .pba, .cap, .ce, .trx, .gsc, .glk, .psp, .rng, .red, .dcc, .obc, .chg, .axb, .skd, .emitted, .flights]) :
    area (doCommit e s w) p = area s p := by
  unfold doCommit
  try dsimp only
  repeat' first
    | with_reducible rfl
    | with_reducible refine area_ite ?_ ?_
    | with_reducible refine area_dite (fun _ => ?_) (fun _ => ?_)
    | with_reducible refine (State.commitGroup_area _ _ _ _ (notMem_of_sub h (by decide))).trans ?_
    | with_reducible refine (State.goOn_area _ _ _ _ (notMem_of_sub h (by decide))).trans ?_
    | with_reducible refine (State.writeRun_area _ _ _ (notMem_of_sub h (by decide))).trans ?_
    | with_reducible refine (State.at_area _ _ (notMem_of_sub h (by decide))).trans ?_
    | with_reducible refine (State.passEnd_area _ _ _ (notMem_of_sub h (by decide))).trans ?_
    | with_reducible refine (State.modCe_area _ _ _ (notMem_of_sub h (by decide))).trans ?_
    | with_reducible refine (area_each _ _ _ fun _ _ => ?_).trans ?_
    | with_reducible refine (area_foldl _ (fun _ _ => ?_) _ _).trans ?_
    | dsimp only
    | split

theorem doEnd_area (e : Fin 8) (s : State) (x : Word32) {p : Area} (h : p ∉ [Area.clk, .sys, .lrg, .trc, .tal, .pba, .ce, .glk, .psp, .rng, .red, .skd, .flights]) :
    area (doEnd e s x) p = area s p := by
  unfold doEnd
  try dsimp only
  repeat' first
    | with_reducible rfl
    | with_reducible refine area_ite ?_ ?_
    | with_reducible refine area_dite (fun _ => ?_) (fun _ => ?_)
    | with_reducible refine (State.at_area _ _ (notMem_of_sub h (by decide))).trans ?_
    | with_reducible refine (State.passEnd_area _ _ _ (notMem_of_sub h (by decide))).trans ?_
    | with_reducible refine (State.modCe_area _ _ _ (notMem_of_sub h (by decide))).trans ?_

theorem doSt_area (e : Fin 8) (s : State) (w : Word32) {p : Area} (h : p ∉ [Area.clk, .sys, .lrg, .trc, .tal, .pba, .ce, .trx, .glk, .psp, .rng, .red, .obc, .skd, .flights]) :
    area (doSt e s w) p = area s p := by
  unfold doSt
  try dsimp only
  repeat' first
    | with_reducible rfl
    | with_reducible refine area_ite ?_ ?_
    | with_reducible refine area_dite (fun _ => ?_) (fun _ => ?_)
    | with_reducible refine (State.goOn_area _ _ _ _ (notMem_of_sub h (by decide))).trans ?_
    | with_reducible refine (State.obcStore_area _ _ _ _ (notMem_of_sub h (by decide))).trans ?_
    | with_reducible refine (State.observeStore_area _ _ _ _ (notMem_of_sub h (by decide))).trans ?_
    | with_reducible refine (State.pokeRow_area _ _ _ _ (notMem_of_sub h (by decide))).trans ?_

theorem State.publish_area (s : State) (e : Fin 8) (i : Nat) {p : Area} (h : p ∉ [Area.trx, .obc, .chg]) :
    area (State.publish s e i) p = area s p := by
  unfold State.publish
  try dsimp only
  repeat' first
    | with_reducible rfl
    | with_reducible refine area_ite ?_ ?_
    | with_reducible refine area_dite (fun _ => ?_) (fun _ => ?_)
    | with_reducible refine (State.obcLimiter_area _ _ (notMem_of_sub h (by decide))).trans ?_
    | with_reducible refine (State.modTrx_area _ _ _ (notMem_of_sub h (by decide))).trans ?_
    | with_reducible refine (area_each _ _ _ fun _ _ => ?_).trans ?_
    | with_reducible refine (area_foldl _ (fun _ _ => ?_) _ _).trans ?_
    | dsimp only
    | split

theorem doBest_area (e : Fin 8) (f : Engine → Word32 → Engine) (s : State) (w : Word32) {p : Area} (h : p ∉ [Area.clk, .sys, .lrg, .trc, .tal, .pba, .ce, .trx, .glk, .psp, .rng, .red, .obc, .chg, .skd, .flights]) :
    area (doBest e f s w) p = area s p := by
  unfold doBest
  try dsimp only
  repeat' first
    | with_reducible rfl
    | with_reducible refine area_ite ?_ ?_
    | with_reducible refine area_dite (fun _ => ?_) (fun _ => ?_)
    | with_reducible refine (State.publish_area _ _ _ (notMem_of_sub h (by decide))).trans ?_
    | with_reducible refine (State.goOn_area _ _ _ _ (notMem_of_sub h (by decide))).trans ?_
    | with_reducible refine (State.modCe_area _ _ _ (notMem_of_sub h (by decide))).trans ?_

theorem doBr_area (e : Fin 8) (s : State) (w : Word32) {p : Area} (h : p ∉ [Area.clk, .sys, .lrg, .trc, .tal, .pba, .ce, .glk, .psp, .rng, .red, .skd, .flights]) :
    area (doBr e s w) p = area s p := by
  unfold doBr
  try dsimp only
  repeat' first
    | with_reducible rfl
    | with_reducible refine area_ite ?_ ?_
    | with_reducible refine area_dite (fun _ => ?_) (fun _ => ?_)
    | with_reducible refine (State.goOn_area _ _ _ _ (notMem_of_sub h (by decide))).trans ?_

theorem doCall_area (e : Fin 8) (s : State) (w : Word32) {p : Area} (h : p ∉ [Area.clk, .sys, .lrg, .trc, .tal, .pba, .ce, .glk, .psp, .rng, .red, .skd, .flights]) :
    area (doCall e s w) p = area s p := by
  unfold doCall
  try dsimp only
  repeat' first
    | with_reducible rfl
    | with_reducible refine area_ite ?_ ?_
    | with_reducible refine area_dite (fun _ => ?_) (fun _ => ?_)
    | with_reducible refine (State.goOn_area _ _ _ _ (notMem_of_sub h (by decide))).trans ?_
    | with_reducible refine (State.engineFault_area _ _ _ (notMem_of_sub h (by decide))).trans ?_
    | with_reducible refine (State.modCe_area _ _ _ (notMem_of_sub h (by decide))).trans ?_

theorem doRet_area (e : Fin 8) (s : State) (x : Word32) {p : Area} (h : p ∉ [Area.clk, .sys, .lrg, .trc, .tal, .pba, .ce, .glk, .psp, .rng, .red, .skd, .flights]) :
    area (doRet e s x) p = area s p := by
  unfold doRet
  try dsimp only
  repeat' first
    | with_reducible rfl
    | with_reducible refine area_ite ?_ ?_
    | with_reducible refine area_dite (fun _ => ?_) (fun _ => ?_)
    | with_reducible refine (State.goOn_area _ _ _ _ (notMem_of_sub h (by decide))).trans ?_
    | with_reducible refine (State.engineFault_area _ _ _ (notMem_of_sub h (by decide))).trans ?_
    | with_reducible refine (State.modCe_area _ _ _ (notMem_of_sub h (by decide))).trans ?_
    | with_reducible refine (area_each _ _ _ fun _ _ => ?_).trans ?_
    | with_reducible refine (area_foldl _ (fun _ _ => ?_) _ _).trans ?_
    | dsimp only
    | split

theorem doPost_area (e : Fin 8) (s : State) (w : Word32) {p : Area} (h : p ∉ [Area.clk, .sys, .lrg, .trc, .tal, .pba, .ce, .glk, .psp, .rng, .red, .skd, .flights]) :
    area (doPost e s w) p = area s p := by
  unfold doPost
  try dsimp only
  repeat' first
    | with_reducible rfl
    | with_reducible refine area_ite ?_ ?_
    | with_reducible refine area_dite (fun _ => ?_) (fun _ => ?_)
    | with_reducible refine (State.goOn_area _ _ _ _ (notMem_of_sub h (by decide))).trans ?_
    | with_reducible refine (State.modCe_area _ _ _ (notMem_of_sub h (by decide))).trans ?_
    | with_reducible refine (State.offer_area _ _ _ (notMem_of_sub h (by decide))).trans ?_
    | with_reducible refine (State.tally_area _ _ (notMem_of_sub h (by decide))).trans ?_

theorem doFclr_area (e : Fin 8) (s : State) (w : Word32) {p : Area} (h : p ∉ [Area.clk, .sys, .lrg, .trc, .tal, .pba, .ce, .glk, .psp, .rng, .red, .skd, .flights]) :
    area (doFclr e s w) p = area s p := by
  unfold doFclr
  try dsimp only
  repeat' first
    | with_reducible rfl
    | with_reducible refine area_ite ?_ ?_
    | with_reducible refine area_dite (fun _ => ?_) (fun _ => ?_)
    | with_reducible refine (State.goOn_area _ _ _ _ (notMem_of_sub h (by decide))).trans ?_
    | with_reducible refine (State.modCe_area _ _ _ (notMem_of_sub h (by decide))).trans ?_

end Sys2Proof.Machine
end

