-- ==== Sys2Proof/Laws/AreaLinkOps.lean ====
section
/-!
SUPPORT. Which areas of the state each operation of LinkOps.lean may change.
-/

namespace Sys2Proof.Machine

open Sys2Proof

theorem State.entrySent_area (s : State) (e : Entry) {p : Area} (h : p ∉ [Area.gsc]) :
    area (State.entrySent s e) p = area s p := by
  unfold State.entrySent
  try dsimp only
  repeat' first
    | with_reducible rfl
    | with_reducible refine area_ite ?_ ?_
    | with_reducible refine area_dite (fun _ => ?_) (fun _ => ?_)
    | with_reducible refine (State.modLeg_area _ _ _ (notMem_of_sub h (by decide))).trans ?_
    | with_reducible refine (area_each _ _ _ fun _ _ => ?_).trans ?_
    | with_reducible refine (area_foldl _ (fun _ _ => ?_) _ _).trans ?_

theorem State.sendEdges_area (s : State) (l : Fin 12) (cut : List Byte) {p : Area} (h : p ∉ [Area.tal, .gsc, .glk, .emitted]) :
    area (State.sendEdges s l cut) p = area s p := by
  unfold State.sendEdges
  try dsimp only
  repeat' first
    | with_reducible rfl
    | with_reducible refine area_ite ?_ ?_
    | with_reducible refine area_dite (fun _ => ?_) (fun _ => ?_)
    | with_reducible refine (State.entrySent_area _ _ (notMem_of_sub h (by decide))).trans ?_
    | with_reducible refine (State.sendFrom_area _ _ _ _ (notMem_of_sub h (by decide))).trans ?_
    | with_reducible refine (State.modLink_area _ _ _ (notMem_of_sub h (by decide))).trans ?_
    | with_reducible refine (State.tallyBy_area _ _ _ (notMem_of_sub h (by decide))).trans ?_
    | with_reducible refine (area_each _ _ _ fun _ _ => ?_).trans ?_
    | with_reducible refine (area_foldl _ (fun _ _ => ?_) _ _).trans ?_
    | dsimp only
    | split

theorem State.edgeFrame_area (s : State) (l : Fin 12) {p : Area} (h : p ∉ [Area.tal, .gsc, .glk, .emitted]) :
    area (State.edgeFrame s l) p = area s p := by
  unfold State.edgeFrame
  try dsimp only
  repeat' first
    | with_reducible rfl
    | with_reducible refine area_ite ?_ ?_
    | with_reducible refine area_dite (fun _ => ?_) (fun _ => ?_)
    | with_reducible refine (State.sendEdges_area _ _ _ (notMem_of_sub h (by decide))).trans ?_
    | with_reducible refine (State.serveArm_area _ _ (notMem_of_sub h (by decide))).trans ?_
    | with_reducible refine (State.sendFrom_area _ _ _ _ (notMem_of_sub h (by decide))).trans ?_
    | with_reducible refine (State.modLink_area _ _ _ (notMem_of_sub h (by decide))).trans ?_

theorem State.sendConfig_area (s : State) (l : Fin 12) (read : Bool) (addr : Nat) (data : Word32) {p : Area} (h : p ∉ [Area.glk, .emitted]) :
    area (State.sendConfig s l read addr data) p = area s p := by
  unfold State.sendConfig
  try dsimp only
  repeat' first
    | with_reducible rfl
    | with_reducible refine area_ite ?_ ?_
    | with_reducible refine area_dite (fun _ => ?_) (fun _ => ?_)
    | with_reducible refine (State.sendNext_area _ _ _ (notMem_of_sub h (by decide))).trans ?_
    | with_reducible refine (State.modLink_area _ _ _ (notMem_of_sub h (by decide))).trans ?_

theorem State.serveConfig_area (s : State) (l : Fin 12) {p : Area} (h : p ∉ [Area.glk, .emitted]) :
    area (State.serveConfig s l) p = area s p := by
  unfold State.serveConfig
  try dsimp only
  repeat' first
    | with_reducible rfl
    | with_reducible refine area_ite ?_ ?_
    | with_reducible refine area_dite (fun _ => ?_) (fun _ => ?_)
    | with_reducible refine (State.sendConfig_area _ _ _ _ _ (notMem_of_sub h (by decide))).trans ?_
    | with_reducible refine (State.modLink_area _ _ _ (notMem_of_sub h (by decide))).trans ?_
    | with_reducible refine (area_each _ _ _ fun _ _ => ?_).trans ?_
    | with_reducible refine (area_foldl _ (fun _ _ => ?_) _ _).trans ?_
    | dsimp only
    | split

theorem State.beaconFrame_area (s : State) (l : Fin 12) {p : Area} (h : p ∉ [Area.glk, .emitted]) :
    area (State.beaconFrame s l) p = area s p := by
  unfold State.beaconFrame
  try dsimp only
  repeat' first
    | with_reducible rfl
    | with_reducible refine area_ite ?_ ?_
    | with_reducible refine area_dite (fun _ => ?_) (fun _ => ?_)
    | with_reducible refine (State.serveConfig_area _ _ (notMem_of_sub h (by decide))).trans ?_
    | with_reducible refine (State.serveArm_area _ _ (notMem_of_sub h (by decide))).trans ?_
    | with_reducible refine (State.sendNext_area _ _ _ (notMem_of_sub h (by decide))).trans ?_
    | with_reducible refine (State.modLink_area _ _ _ (notMem_of_sub h (by decide))).trans ?_

theorem State.lossFrame_area (s : State) (l : Fin 12) {p : Area} (h : p ∉ [Area.glk, .emitted]) :
    area (State.lossFrame s l) p = area s p := by
  unfold State.lossFrame
  try dsimp only
  repeat' first
    | with_reducible rfl
    | with_reducible refine area_ite ?_ ?_
    | with_reducible refine area_dite (fun _ => ?_) (fun _ => ?_)
    | with_reducible refine (State.serveConfig_area _ _ (notMem_of_sub h (by decide))).trans ?_
    | with_reducible refine (State.serveArm_area _ _ (notMem_of_sub h (by decide))).trans ?_
    | with_reducible refine (State.sendNext_area _ _ _ (notMem_of_sub h (by decide))).trans ?_
    | with_reducible refine (State.modLink_area _ _ _ (notMem_of_sub h (by decide))).trans ?_

theorem State.linkTo_area (s : State) (l : Fin 12) (st : LState) {p : Area} (h : p ∉ [Area.glk]) :
    area (State.linkTo s l st) p = area s p := by
  unfold State.linkTo
  try dsimp only
  repeat' first
    | with_reducible rfl
    | with_reducible refine area_ite ?_ ?_
    | with_reducible refine area_dite (fun _ => ?_) (fun _ => ?_)
    | with_reducible refine (State.modLink_area _ _ _ (notMem_of_sub h (by decide))).trans ?_

theorem State.linkFails_area (s : State) (l : Fin 12) (cause : Nat) {p : Area} (h : p ∉ [Area.lrg, .trc, .tal, .glk, .rng]) :
    area (State.linkFails s l cause) p = area s p := by
  unfold State.linkFails
  try dsimp only
  repeat' first
    | with_reducible rfl
    | with_reducible refine area_ite ?_ ?_
    | with_reducible refine area_dite (fun _ => ?_) (fun _ => ?_)
    | with_reducible refine (State.linkTo_area _ _ _ (notMem_of_sub h (by decide))).trans ?_
    | with_reducible refine (State.recordReport_area _ _ _ _ _ _ _ (notMem_of_sub h (by decide))).trans ?_

theorem State.linkStart_area (s : State) (l : Fin 12) {p : Area} (h : p ∉ [Area.lrg, .trc, .tal, .glk, .rng]) :
    area (State.linkStart s l) p = area s p := by
  unfold State.linkStart
  try dsimp only
  repeat' first
    | with_reducible rfl
    | with_reducible refine area_ite ?_ ?_
    | with_reducible refine area_dite (fun _ => ?_) (fun _ => ?_)
    | with_reducible refine (State.linkFails_area _ _ _ (notMem_of_sub h (by decide))).trans ?_
    | with_reducible refine (State.linkTo_area _ _ _ (notMem_of_sub h (by decide))).trans ?_

theorem State.bringExchange_area (s : State) (l : Fin 12) {p : Area} (h : p ∉ [Area.glk, .emitted]) :
    area (State.bringExchange s l) p = area s p := by
  unfold State.bringExchange
  try dsimp only
  repeat' first
    | with_reducible rfl
    | with_reducible refine area_ite ?_ ?_
    | with_reducible refine area_dite (fun _ => ?_) (fun _ => ?_)
    | with_reducible refine (State.sendConfig_area _ _ _ _ _ (notMem_of_sub h (by decide))).trans ?_
    | with_reducible refine (State.sendNext_area _ _ _ (notMem_of_sub h (by decide))).trans ?_
    | with_reducible refine (State.modLink_area _ _ _ (notMem_of_sub h (by decide))).trans ?_
    | with_reducible refine (area_each _ _ _ fun _ _ => ?_).trans ?_
    | with_reducible refine (area_foldl _ (fun _ _ => ?_) _ _).trans ?_
    | dsimp only
    | split

theorem State.bringNext_area (s : State) (l : Fin 12) {p : Area} (h : p ∉ [Area.glk, .emitted]) :
    area (State.bringNext s l) p = area s p := by
  unfold State.bringNext
  try dsimp only
  repeat' first
    | with_reducible rfl
    | with_reducible refine area_ite ?_ ?_
    | with_reducible refine area_dite (fun _ => ?_) (fun _ => ?_)
    | with_reducible refine (State.bringExchange_area _ _ (notMem_of_sub h (by decide))).trans ?_
    | with_reducible refine (State.modLink_area _ _ _ (notMem_of_sub h (by decide))).trans ?_

theorem State.bringTo_area (s : State) (l : Fin 12) (st : LState) {p : Area} (h : p ∉ [Area.glk, .emitted]) :
    area (State.bringTo s l st) p = area s p := by
  unfold State.bringTo
  try dsimp only
  repeat' first
    | with_reducible rfl
    | with_reducible refine area_ite ?_ ?_
    | with_reducible refine area_dite (fun _ => ?_) (fun _ => ?_)
    | with_reducible refine (State.bringExchange_area _ _ (notMem_of_sub h (by decide))).trans ?_
    | with_reducible refine (State.linkTo_area _ _ _ (notMem_of_sub h (by decide))).trans ?_

theorem State.toSync_area (s : State) (l : Fin 12) {p : Area} (h : p ∉ [Area.glk]) :
    area (State.toSync s l) p = area s p := by
  unfold State.toSync
  try dsimp only
  repeat' first
    | with_reducible rfl
    | with_reducible refine area_ite ?_ ?_
    | with_reducible refine area_dite (fun _ => ?_) (fun _ => ?_)
    | with_reducible refine (State.linkTo_area _ _ _ (notMem_of_sub h (by decide))).trans ?_
    | with_reducible refine (State.modLink_area _ _ _ (notMem_of_sub h (by decide))).trans ?_

theorem State.bringReply_area (s : State) (l : Fin 12) (data : Word32) (refused : Bool) {p : Area} (h : p ∉ [Area.lrg, .trc, .tal, .glk, .rng, .emitted]) :
    area (State.bringReply s l data refused) p = area s p := by
  unfold State.bringReply
  try dsimp only
  repeat' first
    | with_reducible rfl
    | with_reducible refine area_ite ?_ ?_
    | with_reducible refine area_dite (fun _ => ?_) (fun _ => ?_)
    | with_reducible refine (State.toSync_area _ _ (notMem_of_sub h (by decide))).trans ?_
    | with_reducible refine (State.bringTo_area _ _ _ (notMem_of_sub h (by decide))).trans ?_
    | with_reducible refine (State.bringNext_area _ _ (notMem_of_sub h (by decide))).trans ?_
    | with_reducible refine (State.linkFails_area _ _ _ (notMem_of_sub h (by decide))).trans ?_
    | with_reducible refine (State.modLink_area _ _ _ (notMem_of_sub h (by decide))).trans ?_
    | with_reducible refine (area_each _ _ _ fun _ _ => ?_).trans ?_
    | with_reducible refine (area_foldl _ (fun _ _ => ?_) _ _).trans ?_
    | dsimp only
    | split

theorem State.bringEcho_area (s : State) (l : Fin 12) (token : Byte) {p : Area} (h : p ∉ [Area.lrg, .trc, .tal, .glk, .rng, .emitted]) :
    area (State.bringEcho s l token) p = area s p := by
  unfold State.bringEcho
  try dsimp only
  repeat' first
    | with_reducible rfl
    | with_reducible refine area_ite ?_ ?_
    | with_reducible refine area_dite (fun _ => ?_) (fun _ => ?_)
    | with_reducible refine (State.bringNext_area _ _ (notMem_of_sub h (by decide))).trans ?_
    | with_reducible refine (State.linkFails_area _ _ _ (notMem_of_sub h (by decide))).trans ?_
    | with_reducible refine (State.modLink_area _ _ _ (notMem_of_sub h (by decide))).trans ?_

theorem State.replyMissing_area (s : State) (l : Fin 12) {p : Area} (h : p ∉ [Area.lrg, .trc, .tal, .glk, .rng]) :
    area (State.replyMissing s l) p = area s p := by
  unfold State.replyMissing
  try dsimp only
  repeat' first
    | with_reducible rfl
    | with_reducible refine area_ite ?_ ?_
    | with_reducible refine area_dite (fun _ => ?_) (fun _ => ?_)
    | with_reducible refine (State.linkFails_area _ _ _ (notMem_of_sub h (by decide))).trans ?_
    | with_reducible refine (State.modLink_area _ _ _ (notMem_of_sub h (by decide))).trans ?_

theorem State.cmdReply_area (s : State) (l : Fin 12) (data : Word32) (refused : Bool) {p : Area} (h : p ∉ [Area.glk]) :
    area (State.cmdReply s l data refused) p = area s p := by
  unfold State.cmdReply
  try dsimp only
  repeat' first
    | with_reducible rfl
    | with_reducible refine area_ite ?_ ?_
    | with_reducible refine area_dite (fun _ => ?_) (fun _ => ?_)
    | with_reducible refine (State.modLink_area _ _ _ (notMem_of_sub h (by decide))).trans ?_

theorem State.cmdWrite_area (s : State) (id : Fin 64) (l : Fin 12) (v : Word32) {p : Area} (h : p ∉ [Area.bus, .lrg, .trc, .tal, .glk, .emitted]) :
    area (State.cmdWrite s id l v) p = area s p := by
  unfold State.cmdWrite
  try dsimp only
  repeat' first
    | with_reducible rfl
    | with_reducible refine area_ite ?_ ?_
    | with_reducible refine area_dite (fun _ => ?_) (fun _ => ?_)
    | with_reducible refine (State.serveConfig_area _ _ (notMem_of_sub h (by decide))).trans ?_
    | with_reducible refine (State.modLink_area _ _ _ (notMem_of_sub h (by decide))).trans ?_
    | with_reducible refine (State.busDone_area _ _ (notMem_of_sub h (by decide))).trans ?_
    | with_reducible refine (State.busError_area _ _ _ _ (notMem_of_sub h (by decide))).trans ?_

theorem State.statusFrame_area (s : State) (l : Fin 12) (st : Byte) (gates : Byte) (supply : Byte) (late : Byte) (err : Byte) (drop : Byte) {p : Area} (h : p ∉ [Area.lrg, .trc, .tal, .glk]) :
    area (State.statusFrame s l st gates supply late err drop) p = area s p := by
  unfold State.statusFrame
  try dsimp only
  repeat' first
    | with_reducible rfl
    | with_reducible refine area_ite ?_ ?_
    | with_reducible refine area_dite (fun _ => ?_) (fun _ => ?_)
    | with_reducible refine (State.linkTo_area _ _ _ (notMem_of_sub h (by decide))).trans ?_
    | with_reducible refine (State.modLink_area _ _ _ (notMem_of_sub h (by decide))).trans ?_
    | with_reducible refine (State.record_area _ _ _ _ _ _ (notMem_of_sub h (by decide))).trans ?_
    | with_reducible refine (State.tallyBy_area _ _ _ (notMem_of_sub h (by decide))).trans ?_

theorem State.faultComma_area (s : State) (l : Fin 12) (b1 : Byte) (b2 : Byte) {p : Area} (h : p ∉ [Area.lrg, .trc, .tal, .rng, .flights]) :
    area (State.faultComma s l b1 b2) p = area s p := by
  unfold State.faultComma
  try dsimp only
  repeat' first
    | with_reducible rfl
    | with_reducible refine area_ite ?_ ?_
    | with_reducible refine area_dite (fun _ => ?_) (fun _ => ?_)
    | with_reducible refine (State.report_area _ _ _ _ _ _ (notMem_of_sub h (by decide))).trans ?_
    | with_reducible refine (State.record_area _ _ _ _ _ _ (notMem_of_sub h (by decide))).trans ?_
    | with_reducible refine (State.tally_area _ _ (notMem_of_sub h (by decide))).trans ?_
    | with_reducible refine (State.launch_area _ _ _ (notMem_of_sub h (by decide))).trans ?_

theorem State.lostEvent_area (s : State) (l : Fin 12) (cause : Nat) {p : Area} (h : p ∉ [Area.lrg, .trc, .tal, .rng]) :
    area (State.lostEvent s l cause) p = area s p := by
  unfold State.lostEvent
  try dsimp only
  repeat' first
    | with_reducible rfl
    | with_reducible refine area_ite ?_ ?_
    | with_reducible refine area_dite (fun _ => ?_) (fun _ => ?_)
    | with_reducible refine (State.recordReport_area _ _ _ _ _ _ _ (notMem_of_sub h (by decide))).trans ?_
    | with_reducible refine (State.tally_area _ _ (notMem_of_sub h (by decide))).trans ?_

theorem State.linkLost_area (s : State) (l : Fin 12) (cause : Nat) {p : Area} (h : p ∉ [Area.lrg, .trc, .tal, .glk, .rng]) :
    area (State.linkLost s l cause) p = area s p := by
  unfold State.linkLost
  try dsimp only
  repeat' first
    | with_reducible rfl
    | with_reducible refine area_ite ?_ ?_
    | with_reducible refine area_dite (fun _ => ?_) (fun _ => ?_)
    | with_reducible refine (State.lostEvent_area _ _ _ (notMem_of_sub h (by decide))).trans ?_
    | with_reducible refine (State.linkTo_area _ _ _ (notMem_of_sub h (by decide))).trans ?_

theorem State.retrain_area (s : State) (l : Fin 12) {p : Area} (h : p ∉ [Area.lrg, .trc, .tal, .glk, .rng]) :
    area (State.retrain s l) p = area s p := by
  unfold State.retrain
  try dsimp only
  repeat' first
    | with_reducible rfl
    | with_reducible refine area_ite ?_ ?_
    | with_reducible refine area_dite (fun _ => ?_) (fun _ => ?_)
    | with_reducible refine (State.lostEvent_area _ _ _ (notMem_of_sub h (by decide))).trans ?_
    | with_reducible refine (State.linkStart_area _ _ (notMem_of_sub h (by decide))).trans ?_

end Sys2Proof.Machine
end

