-- ==== Sys2Proof/Laws/AreaRedundancy.lean ====
section
/-!
SUPPORT. Which areas of the state each operation of Redundancy.lean may change.
-/

namespace Sys2Proof.Machine

open Sys2Proof

theorem State.modRed_area (s : State) (f : Red → Red) {p : Area} (h : p ∉ [Area.red]) :
    area (State.modRed s f) p = area s p := by
  unfold State.modRed
  try dsimp only
  repeat' first
    | with_reducible rfl
    | with_reducible refine area_ite ?_ ?_
    | with_reducible refine area_dite (fun _ => ?_) (fun _ => ?_)
    | with_reducible refine (area_each _ _ _ fun _ _ => ?_).trans ?_
    | with_reducible refine (area_foldl _ (fun _ _ => ?_) _ _).trans ?_
    | dsimp only
    | split
    | with_reducible refine (area_red h (by decide)).trans ?_

theorem State.modAx_area (s : State) (g : Fin 4) (f : AxTok → AxTok) {p : Area} (h : p ∉ [Area.red]) :
    area (State.modAx s g f) p = area s p := by
  unfold State.modAx
  try dsimp only
  repeat' first
    | with_reducible rfl
    | with_reducible refine area_ite ?_ ?_
    | with_reducible refine area_dite (fun _ => ?_) (fun _ => ?_)
    | with_reducible refine (State.modRed_area _ _ (notMem_of_sub h (by decide))).trans ?_

theorem State.modPeer_area (s : State) (p0 : Fin 4) (f : Peer → Peer) {p : Area} (h : p ∉ [Area.red]) :
    area (State.modPeer s p0 f) p = area s p := by
  unfold State.modPeer
  try dsimp only
  repeat' first
    | with_reducible rfl
    | with_reducible refine area_ite ?_ ?_
    | with_reducible refine area_dite (fun _ => ?_) (fun _ => ?_)
    | with_reducible refine (State.modRed_area _ _ (notMem_of_sub h (by decide))).trans ?_

theorem State.modPair_area (s : State) (k : Fin 6) (f : Pair → Pair) {p : Area} (h : p ∉ [Area.red]) :
    area (State.modPair s k f) p = area s p := by
  unfold State.modPair
  try dsimp only
  repeat' first
    | with_reducible rfl
    | with_reducible refine area_ite ?_ ?_
    | with_reducible refine area_dite (fun _ => ?_) (fun _ => ?_)
    | with_reducible refine (State.modRed_area _ _ (notMem_of_sub h (by decide))).trans ?_

theorem doMismatch_area (s : State) (k : Fin 6) (pc : Word32) {p : Area} (h : p ∉ [Area.lrg, .trc, .tal, .rng, .red]) :
    area (doMismatch s k pc) p = area s p := by
  unfold doMismatch
  try dsimp only
  repeat' first
    | with_reducible rfl
    | with_reducible refine area_ite ?_ ?_
    | with_reducible refine area_dite (fun _ => ?_) (fun _ => ?_)
    | with_reducible refine (State.modPair_area _ _ _ (notMem_of_sub h (by decide))).trans ?_
    | with_reducible refine (State.recordReport_area _ _ _ _ _ _ _ (notMem_of_sub h (by decide))).trans ?_
    | with_reducible refine (State.tally_area _ _ (notMem_of_sub h (by decide))).trans ?_

theorem doSelfTest_area (s : State) (detected : BitVec 6) {p : Area} (h : p ∉ [Area.lrg, .trc, .tal, .rng, .red]) :
    area (doSelfTest s detected) p = area s p := by
  unfold doSelfTest
  try dsimp only
  repeat' first
    | with_reducible rfl
    | with_reducible refine area_ite ?_ ?_
    | with_reducible refine area_dite (fun _ => ?_) (fun _ => ?_)
    | with_reducible refine (State.modRed_area _ _ (notMem_of_sub h (by decide))).trans ?_
    | with_reducible refine (State.recordReport_area _ _ _ _ _ _ _ (notMem_of_sub h (by decide))).trans ?_
    | with_reducible refine (State.tally_area _ _ (notMem_of_sub h (by decide))).trans ?_
    | with_reducible refine (area_each _ _ _ fun _ _ => ?_).trans ?_

theorem doHandOver_area (s : State) (g : Fin 4) (v : Word32) {p : Area} (h : p ∉ [Area.lrg, .trc, .tal, .glk, .red]) :
    area (doHandOver s g v) p = area s p := by
  unfold doHandOver
  try dsimp only
  repeat' first
    | with_reducible rfl
    | with_reducible refine area_ite ?_ ?_
    | with_reducible refine area_dite (fun _ => ?_) (fun _ => ?_)
    | with_reducible refine (State.lapse_area _ _ _ (notMem_of_sub h (by decide))).trans ?_
    | with_reducible refine (State.handRequest_area _ _ _ _ (notMem_of_sub h (by decide))).trans ?_
    | with_reducible refine (State.modTok_area _ _ _ (notMem_of_sub h (by decide))).trans ?_

theorem doHanded_area (s : State) (g : Fin 4) {p : Area} (h : p ∉ [Area.lrg, .trc, .tal, .glk, .red]) :
    area (doHanded s g) p = area s p := by
  unfold doHanded
  try dsimp only
  repeat' first
    | with_reducible rfl
    | with_reducible refine area_ite ?_ ?_
    | with_reducible refine area_dite (fun _ => ?_) (fun _ => ?_)
    | with_reducible refine (State.lapse_area _ _ _ (notMem_of_sub h (by decide))).trans ?_
    | with_reducible refine (State.dropStale_area _ _ (notMem_of_sub h (by decide))).trans ?_
    | with_reducible refine (State.modTok_area _ _ _ (notMem_of_sub h (by decide))).trans ?_
    | with_reducible refine (State.record_area _ _ _ _ _ _ (notMem_of_sub h (by decide))).trans ?_
    | with_reducible refine (State.tally_area _ _ (notMem_of_sub h (by decide))).trans ?_
    | with_reducible refine (area_each _ _ _ fun _ _ => ?_).trans ?_
    | with_reducible refine (area_foldl _ (fun _ _ => ?_) _ _).trans ?_
    | dsimp only
    | split

theorem State.blzPush_area (s : State) (j : Fin 64) (bs : List Byte) {p : Area} (h : p ∉ [Area.blz]) :
    area (State.blzPush s j bs) p = area s p := by
  unfold State.blzPush
  try dsimp only
  repeat' first
    | with_reducible rfl
    | with_reducible refine area_ite ?_ ?_
    | with_reducible refine area_dite (fun _ => ?_) (fun _ => ?_)
    | with_reducible refine (area_each _ _ _ fun _ _ => ?_).trans ?_
    | with_reducible refine (area_foldl _ (fun _ _ => ?_) _ _).trans ?_
    | dsimp only
    | split
    | with_reducible refine (area_blz h (by decide)).trans ?_

theorem State.axState_area (s : State) {p : Area} (h : p ∉ [Area.blz]) :
    area (State.axState s) p = area s p := by
  unfold State.axState
  try dsimp only
  repeat' first
    | with_reducible rfl
    | with_reducible refine area_ite ?_ ?_
    | with_reducible refine area_dite (fun _ => ?_) (fun _ => ?_)
    | with_reducible refine (State.blzPush_area _ _ _ (notMem_of_sub h (by decide))).trans ?_
    | with_reducible refine (area_each _ _ _ fun _ _ => ?_).trans ?_

theorem State.axClaim_area (s : State) (g : Fin 4) {p : Area} (h : p ∉ [Area.lrg, .trc, .tal, .red, .blz]) :
    area (State.axClaim s g) p = area s p := by
  unfold State.axClaim
  try dsimp only
  repeat' first
    | with_reducible rfl
    | with_reducible refine area_ite ?_ ?_
    | with_reducible refine area_dite (fun _ => ?_) (fun _ => ?_)
    | with_reducible refine (State.axState_area _ (notMem_of_sub h (by decide))).trans ?_
    | with_reducible refine (State.modAx_area _ _ _ (notMem_of_sub h (by decide))).trans ?_
    | with_reducible refine (State.record_area _ _ _ _ _ _ (notMem_of_sub h (by decide))).trans ?_
    | with_reducible refine (State.tally_area _ _ (notMem_of_sub h (by decide))).trans ?_

theorem doClaim_area (s : State) (g : Fin 4) {p : Area} (h : p ∉ [Area.lrg, .trc, .tal, .red, .blz]) :
    area (doClaim s g) p = area s p := by
  unfold doClaim
  try dsimp only
  repeat' first
    | with_reducible rfl
    | with_reducible refine area_ite ?_ ?_
    | with_reducible refine area_dite (fun _ => ?_) (fun _ => ?_)
    | with_reducible refine (State.axClaim_area _ _ (notMem_of_sub h (by decide))).trans ?_

theorem State.axRenew_area (s : State) (g : Fin 4) {p : Area} (h : p ∉ [Area.lrg, .trc, .tal, .rng, .red]) :
    area (State.axRenew s g) p = area s p := by
  unfold State.axRenew
  try dsimp only
  repeat' first
    | with_reducible rfl
    | with_reducible refine area_ite ?_ ?_
    | with_reducible refine area_dite (fun _ => ?_) (fun _ => ?_)
    | with_reducible refine (State.modAx_area _ _ _ (notMem_of_sub h (by decide))).trans ?_
    | with_reducible refine (State.recordReport_area _ _ _ _ _ _ _ (notMem_of_sub h (by decide))).trans ?_

theorem doAxTick_area (s : State) {p : Area} (h : p ∉ [Area.lrg, .trc, .tal, .rng, .red, .blz]) :
    area (doAxTick s) p = area s p := by
  unfold doAxTick
  try dsimp only
  repeat' first
    | with_reducible rfl
    | with_reducible refine area_ite ?_ ?_
    | with_reducible refine area_dite (fun _ => ?_) (fun _ => ?_)
    | with_reducible refine (State.axRenew_area _ _ (notMem_of_sub h (by decide))).trans ?_
    | with_reducible refine (State.axState_area _ (notMem_of_sub h (by decide))).trans ?_
    | with_reducible refine (area_each _ _ _ fun _ _ => ?_).trans ?_

theorem State.peerCheck_area (s : State) (p0 : Fin 4) {p : Area} (h : p ∉ [Area.lrg, .trc, .tal, .red]) :
    area (State.peerCheck s p0) p = area s p := by
  unfold State.peerCheck
  try dsimp only
  repeat' first
    | with_reducible rfl
    | with_reducible refine area_ite ?_ ?_
    | with_reducible refine area_dite (fun _ => ?_) (fun _ => ?_)
    | with_reducible refine (State.modPeer_area _ _ _ (notMem_of_sub h (by decide))).trans ?_
    | with_reducible refine (State.record_area _ _ _ _ _ _ (notMem_of_sub h (by decide))).trans ?_

theorem State.axSeen_area (s : State) (state : Bool) (yielded : Bool) (node : Nat) (body : List Byte) (g : Fin 4) {p : Area} (h : p ∉ [Area.lrg, .trc, .tal, .red, .blz]) :
    area (State.axSeen s state yielded node body g) p = area s p := by
  unfold State.axSeen
  try dsimp only
  repeat' first
    | with_reducible rfl
    | with_reducible refine area_ite ?_ ?_
    | with_reducible refine area_dite (fun _ => ?_) (fun _ => ?_)
    | with_reducible refine (State.axClaim_area _ _ (notMem_of_sub h (by decide))).trans ?_
    | with_reducible refine (State.modAx_area _ _ _ (notMem_of_sub h (by decide))).trans ?_
    | with_reducible refine (State.record_area _ _ _ _ _ _ (notMem_of_sub h (by decide))).trans ?_

theorem State.axFreeMark_area (s : State) (g : Fin 4) {p : Area} (h : p ∉ [Area.red]) :
    area (State.axFreeMark s g) p = area s p := by
  unfold State.axFreeMark
  try dsimp only
  repeat' first
    | with_reducible rfl
    | with_reducible refine area_ite ?_ ?_
    | with_reducible refine area_dite (fun _ => ?_) (fun _ => ?_)
    | with_reducible refine (State.modAx_area _ _ _ (notMem_of_sub h (by decide))).trans ?_

theorem State.axFrameIn_area (s : State) (p0 : Fin 4) (stamp : Nat) (body : List Byte) {p : Area} (h : p ∉ [Area.lrg, .trc, .tal, .red, .blz]) :
    area (State.axFrameIn s p0 stamp body) p = area s p := by
  unfold State.axFrameIn
  try dsimp only
  repeat' first
    | with_reducible rfl
    | with_reducible refine area_ite ?_ ?_
    | with_reducible refine area_dite (fun _ => ?_) (fun _ => ?_)
    | with_reducible refine (State.axFreeMark_area _ _ (notMem_of_sub h (by decide))).trans ?_
    | with_reducible refine (State.axSeen_area _ _ _ _ _ _ (notMem_of_sub h (by decide))).trans ?_
    | with_reducible refine (State.peerCheck_area _ _ (notMem_of_sub h (by decide))).trans ?_
    | with_reducible refine (State.modPeer_area _ _ _ (notMem_of_sub h (by decide))).trans ?_
    | with_reducible refine (area_each _ _ _ fun _ _ => ?_).trans ?_

theorem doAxFrame_area (s : State) {p : Area} (h : p ∉ [Area.lrg, .trc, .tal, .red, .blz]) :
    area (doAxFrame s) p = area s p := by
  unfold doAxFrame
  try dsimp only
  repeat' first
    | with_reducible rfl
    | with_reducible refine area_ite ?_ ?_
    | with_reducible refine area_dite (fun _ => ?_) (fun _ => ?_)
    | with_reducible refine (State.axFrameIn_area _ _ _ _ (notMem_of_sub h (by decide))).trans ?_
    | with_reducible refine (State.modRed_area _ _ (notMem_of_sub h (by decide))).trans ?_
    | with_reducible refine (area_each _ _ _ fun _ _ => ?_).trans ?_
    | with_reducible refine (area_foldl _ (fun _ _ => ?_) _ _).trans ?_
    | dsimp only
    | split

theorem doYieldTimeout_area (s : State) (g : Fin 4) {p : Area} (h : p ∉ [Area.lrg, .trc, .tal, .red]) :
    area (doYieldTimeout s g) p = area s p := by
  unfold doYieldTimeout
  try dsimp only
  repeat' first
    | with_reducible rfl
    | with_reducible refine area_ite ?_ ?_
    | with_reducible refine area_dite (fun _ => ?_) (fun _ => ?_)
    | with_reducible refine (State.modAx_area _ _ _ (notMem_of_sub h (by decide))).trans ?_
    | with_reducible refine (State.record_area _ _ _ _ _ _ (notMem_of_sub h (by decide))).trans ?_
    | with_reducible refine (State.tally_area _ _ (notMem_of_sub h (by decide))).trans ?_

theorem State.swapGroup_area (s : State) (g : Fin 4) {p : Area} (h : p ∉ [Area.lrg, .trc, .tal, .glk, .red]) :
    area (State.swapGroup s g) p = area s p := by
  unfold State.swapGroup
  try dsimp only
  repeat' first
    | with_reducible rfl
    | with_reducible refine area_ite ?_ ?_
    | with_reducible refine area_dite (fun _ => ?_) (fun _ => ?_)
    | with_reducible refine (State.lapse_area _ _ _ (notMem_of_sub h (by decide))).trans ?_
    | with_reducible refine (State.handRequest_area _ _ _ _ (notMem_of_sub h (by decide))).trans ?_
    | with_reducible refine (State.record_area _ _ _ _ _ _ (notMem_of_sub h (by decide))).trans ?_
    | with_reducible refine (State.tally_area _ _ (notMem_of_sub h (by decide))).trans ?_
    | with_reducible refine (area_each _ _ _ fun _ _ => ?_).trans ?_
    | with_reducible refine (area_foldl _ (fun _ _ => ?_) _ _).trans ?_
    | dsimp only
    | split

theorem State.swapAxle_area (s : State) {p : Area} (h : p ∉ [Area.red, .blz]) :
    area (State.swapAxle s) p = area s p := by
  unfold State.swapAxle
  try dsimp only
  repeat' first
    | with_reducible rfl
    | with_reducible refine area_ite ?_ ?_
    | with_reducible refine area_dite (fun _ => ?_) (fun _ => ?_)
    | with_reducible refine (State.blzPush_area _ _ _ (notMem_of_sub h (by decide))).trans ?_
    | with_reducible refine (State.modAx_area _ _ _ (notMem_of_sub h (by decide))).trans ?_
    | with_reducible refine (area_each _ _ _ fun _ _ => ?_).trans ?_
    | with_reducible refine (area_foldl _ (fun _ _ => ?_) _ _).trans ?_
    | dsimp only
    | split

theorem doRoleSwap_area (s : State) {p : Area} (h : p ∉ [Area.lrg, .trc, .tal, .glk, .red, .blz]) :
    area (doRoleSwap s) p = area s p := by
  unfold doRoleSwap
  try dsimp only
  repeat' first
    | with_reducible rfl
    | with_reducible refine area_ite ?_ ?_
    | with_reducible refine area_dite (fun _ => ?_) (fun _ => ?_)
    | with_reducible refine (State.swapAxle_area _ (notMem_of_sub h (by decide))).trans ?_
    | with_reducible refine (State.swapGroup_area _ _ (notMem_of_sub h (by decide))).trans ?_
    | with_reducible refine (area_each _ _ _ fun _ _ => ?_).trans ?_

end Sys2Proof.Machine
end

