-- ==== Sys2Proof/Laws/AreaBlaze.lean ====
section
/-!
SUPPORT. Which areas of the state each operation of Blaze.lean may change.
-/

namespace Sys2Proof.Machine

open Sys2Proof

theorem State.modConn_area (s : State) (i : Fin 64) (f : Conn → Conn) {p : Area} (h : p ∉ [Area.blz]) :
    area (State.modConn s i f) p = area s p := by
  unfold State.modConn
  try dsimp only
  repeat' first
    | with_reducible rfl
    | with_reducible refine area_ite ?_ ?_
    | with_reducible refine area_dite (fun _ => ?_) (fun _ => ?_)
    | with_reducible refine (area_each _ _ _ fun _ _ => ?_).trans ?_
    | with_reducible refine (area_foldl _ (fun _ _ => ?_) _ _).trans ?_
    | dsimp only
    | split
    | with_reducible refine (area_blz h (by decide)).trans ?_

theorem State.blazeData_area (s : State) (i : Fin 64) (f : BlzFrame) {p : Area} (h : p ∉ [Area.lrg, .trc, .tal]) :
    area (State.blazeData s i f) p = area s p := by
  unfold State.blazeData
  try dsimp only
  repeat' first
    | with_reducible rfl
    | with_reducible refine area_ite ?_ ?_
    | with_reducible refine area_dite (fun _ => ?_) (fun _ => ?_)
    | with_reducible refine (State.offer_area _ _ _ (notMem_of_sub h (by decide))).trans ?_
    | with_reducible refine (State.tally_area _ _ (notMem_of_sub h (by decide))).trans ?_

theorem State.blazeDeliver_area (s : State) (i : Fin 64) (f : BlzFrame) {p : Area} (h : p ∉ [Area.lrg, .trc, .tal, .pba, .red, .skd, .blz, .can]) :
    area (State.blazeDeliver s i f) p = area s p := by
  unfold State.blazeDeliver
  try dsimp only
  repeat' first
    | with_reducible rfl
    | with_reducible refine area_ite ?_ ?_
    | with_reducible refine area_dite (fun _ => ?_) (fun _ => ?_)
    | with_reducible refine (State.blazeData_area _ _ _ (notMem_of_sub h (by decide))).trans ?_
    | with_reducible refine (State.modRed_area _ _ (notMem_of_sub h (by decide))).trans ?_
    | with_reducible refine (State.commandFrame_area _ _ _ _ (notMem_of_sub h (by decide))).trans ?_
    | with_reducible refine (area_each _ _ _ fun _ _ => ?_).trans ?_
    | with_reducible refine (area_foldl _ (fun _ _ => ?_) _ _).trans ?_
    | dsimp only
    | split

theorem State.blazeGood_area (s : State) (i : Fin 64) (f : BlzFrame) {p : Area} (h : p ∉ [Area.lrg, .trc, .tal, .pba, .red, .skd, .blz, .can]) :
    area (State.blazeGood s i f) p = area s p := by
  unfold State.blazeGood
  try dsimp only
  repeat' first
    | with_reducible rfl
    | with_reducible refine area_ite ?_ ?_
    | with_reducible refine area_dite (fun _ => ?_) (fun _ => ?_)
    | with_reducible refine (State.blazeDeliver_area _ _ _ (notMem_of_sub h (by decide))).trans ?_
    | with_reducible refine (State.modConn_area _ _ _ (notMem_of_sub h (by decide))).trans ?_
    | with_reducible refine (State.record_area _ _ _ _ _ _ (notMem_of_sub h (by decide))).trans ?_
    | with_reducible refine (State.tally_area _ _ (notMem_of_sub h (by decide))).trans ?_
    | with_reducible refine (State.tallyBy_area _ _ _ (notMem_of_sub h (by decide))).trans ?_

theorem State.blazeFault_area (s : State) (i : Fin 64) (ev : Nat) (seq : Nat) {p : Area} (h : p ∉ [Area.lrg, .trc, .tal, .rng, .blz]) :
    area (State.blazeFault s i ev seq) p = area s p := by
  unfold State.blazeFault
  try dsimp only
  repeat' first
    | with_reducible rfl
    | with_reducible refine area_ite ?_ ?_
    | with_reducible refine area_dite (fun _ => ?_) (fun _ => ?_)
    | with_reducible refine (State.modConn_area _ _ _ (notMem_of_sub h (by decide))).trans ?_
    | with_reducible refine (State.recordReport_area _ _ _ _ _ _ _ (notMem_of_sub h (by decide))).trans ?_
    | with_reducible refine (State.tally_area _ _ (notMem_of_sub h (by decide))).trans ?_

theorem State.blazeFrame_area (s : State) (f : BlzFrame) {p : Area} (h : p ∉ [Area.lrg, .trc, .tal, .pba, .rng, .red, .skd, .blz, .can]) :
    area (State.blazeFrame s f) p = area s p := by
  unfold State.blazeFrame
  try dsimp only
  repeat' first
    | with_reducible rfl
    | with_reducible refine area_ite ?_ ?_
    | with_reducible refine area_dite (fun _ => ?_) (fun _ => ?_)
    | with_reducible refine (State.blazeFault_area _ _ _ _ (notMem_of_sub h (by decide))).trans ?_
    | with_reducible refine (State.blazeGood_area _ _ _ (notMem_of_sub h (by decide))).trans ?_
    | with_reducible refine (State.tally_area _ _ (notMem_of_sub h (by decide))).trans ?_
    | with_reducible refine (area_each _ _ _ fun _ _ => ?_).trans ?_
    | with_reducible refine (area_foldl _ (fun _ _ => ?_) _ _).trans ?_
    | dsimp only
    | split

theorem doBlazeFrame_area (s : State) {p : Area} (h : p ∉ [Area.lrg, .trc, .tal, .pba, .rng, .red, .skd, .blz, .can]) :
    area (doBlazeFrame s) p = area s p := by
  unfold doBlazeFrame
  try dsimp only
  repeat' first
    | with_reducible rfl
    | with_reducible refine area_ite ?_ ?_
    | with_reducible refine area_dite (fun _ => ?_) (fun _ => ?_)
    | with_reducible refine (State.blazeFrame_area _ _ (notMem_of_sub h (by decide))).trans ?_
    | with_reducible refine (area_each _ _ _ fun _ _ => ?_).trans ?_
    | with_reducible refine (area_foldl _ (fun _ _ => ?_) _ _).trans ?_
    | dsimp only
    | split
    | with_reducible refine (area_blz h (by decide)).trans ?_

theorem State.silence_area (s : State) (i : Fin 64) {p : Area} (h : p ∉ [Area.lrg, .trc, .tal, .rng, .blz]) :
    area (State.silence s i) p = area s p := by
  unfold State.silence
  try dsimp only
  repeat' first
    | with_reducible rfl
    | with_reducible refine area_ite ?_ ?_
    | with_reducible refine area_dite (fun _ => ?_) (fun _ => ?_)
    | with_reducible refine (State.blazeFault_area _ _ _ _ (notMem_of_sub h (by decide))).trans ?_
    | with_reducible refine (area_each _ _ _ fun _ _ => ?_).trans ?_
    | with_reducible refine (area_foldl _ (fun _ _ => ?_) _ _).trans ?_
    | dsimp only
    | split

theorem State.finishFrames_area (a : Nat) (x1 : State) {p : Area} (h : p ∉ [Area.lrg, .trc, .tal, .pba, .rng, .red, .skd, .blz, .can]) :
    area (State.finishFrames a x1) p = area x1 p := by
  induction a generalizing x1 with
  | zero => rfl
  | succ n ih =>
    unfold State.finishFrames
    split
    · rfl
    · exact area_ite ((ih _).trans (doBlazeFrame_area _ (notMem_of_sub h (by decide)))) rfl

theorem doSilenceTest_area (s : State) {p : Area} (h : p ∉ [Area.lrg, .trc, .tal, .pba, .rng, .red, .skd, .blz, .can]) :
    area (doSilenceTest s) p = area s p := by
  unfold doSilenceTest
  try dsimp only
  repeat' first
    | with_reducible rfl
    | with_reducible refine area_ite ?_ ?_
    | with_reducible refine area_dite (fun _ => ?_) (fun _ => ?_)
    | with_reducible refine (State.finishFrames_area _ _ (notMem_of_sub h (by decide))).trans ?_
    | with_reducible refine (State.silence_area _ _ (notMem_of_sub h (by decide))).trans ?_
    | with_reducible refine (area_each _ _ _ fun _ _ => ?_).trans ?_

theorem State.blazeSend_area (s : State) (i : Fin 64) (payload : List Byte) {p : Area} (h : p ∉ [Area.lrg, .trc, .tal, .skd, .blz, .can]) :
    area (State.blazeSend s i payload) p = area s p := by
  unfold State.blazeSend
  try dsimp only
  repeat' first
    | with_reducible rfl
    | with_reducible refine area_ite ?_ ?_
    | with_reducible refine area_dite (fun _ => ?_) (fun _ => ?_)
    | with_reducible refine (State.modConn_area _ _ _ (notMem_of_sub h (by decide))).trans ?_
    | with_reducible refine (State.skdSend_area _ _ _ _ (notMem_of_sub h (by decide))).trans ?_
    | with_reducible refine (State.canQueue_area _ _ _ (notMem_of_sub h (by decide))).trans ?_
    | with_reducible refine (State.tally_area _ _ (notMem_of_sub h (by decide))).trans ?_

theorem doBlazeTransmit_area (s : State) (i : Fin 64) {p : Area} (h : p ∉ [Area.lrg, .trc, .tal, .skd, .blz, .can]) :
    area (doBlazeTransmit s i) p = area s p := by
  unfold doBlazeTransmit
  try dsimp only
  repeat' first
    | with_reducible rfl
    | with_reducible refine area_ite ?_ ?_
    | with_reducible refine area_dite (fun _ => ?_) (fun _ => ?_)
    | with_reducible refine (State.blazeSend_area _ _ _ (notMem_of_sub h (by decide))).trans ?_
    | with_reducible refine (State.modConn_area _ _ _ (notMem_of_sub h (by decide))).trans ?_
    | with_reducible refine (area_each _ _ _ fun _ _ => ?_).trans ?_
    | with_reducible refine (area_foldl _ (fun _ _ => ?_) _ _).trans ?_
    | dsimp only
    | split

theorem doHeartbeat_area (s : State) (i : Fin 64) {p : Area} (h : p ∉ [Area.lrg, .trc, .tal, .skd, .blz, .can]) :
    area (doHeartbeat s i) p = area s p := by
  unfold doHeartbeat
  try dsimp only
  repeat' first
    | with_reducible rfl
    | with_reducible refine area_ite ?_ ?_
    | with_reducible refine area_dite (fun _ => ?_) (fun _ => ?_)
    | with_reducible refine (State.blazeSend_area _ _ _ (notMem_of_sub h (by decide))).trans ?_

end Sys2Proof.Machine
end

