-- ==== Sys2Proof/Laws/AreaBudget.lean ====
section
/-!
SUPPORT. Which areas of the state each operation of Budget.lean may change.
-/

namespace Sys2Proof.Machine

open Sys2Proof

theorem State.watchLimits_area (s : State) {p : Area} (h : p ∉ [Area.lrg, .trc, .tal, .pba]) :
    area (State.watchLimits s) p = area s p := by
  unfold State.watchLimits
  try dsimp only
  repeat' first
    | with_reducible rfl
    | with_reducible refine area_ite ?_ ?_
    | with_reducible refine area_dite (fun _ => ?_) (fun _ => ?_)
    | with_reducible refine (State.modPba_area _ _ (notMem_of_sub h (by decide))).trans ?_
    | with_reducible refine (State.record_area _ _ _ _ _ _ (notMem_of_sub h (by decide))).trans ?_

theorem State.giveGrant_area (s : State) (n : Fin 7) (g : Int) {p : Area} (h : p ∉ [Area.sys, .lrg, .trc, .tal, .ce, .rng]) :
    area (State.giveGrant s n g) p = area s p := by
  unfold State.giveGrant
  try dsimp only
  repeat' first
    | with_reducible rfl
    | with_reducible refine area_ite ?_ ?_
    | with_reducible refine area_dite (fun _ => ?_) (fun _ => ?_)
    | with_reducible refine (State.ceWrites_area _ _ _ _ (notMem_of_sub h (by decide))).trans ?_
    | with_reducible refine (State.ceWrite_area _ _ _ _ (notMem_of_sub h (by decide))).trans ?_
    | with_reducible refine (area_each _ _ _ fun _ _ => ?_).trans ?_
    | with_reducible refine (area_foldl _ (fun _ _ => ?_) _ _).trans ?_
    | dsimp only
    | split

theorem State.sendNotice_area (s : State) (m : Fin 2) (outcome : Nat) (g : Int) (deficit : Int) {p : Area} (h : p ∉ [Area.lrg, .trc, .tal, .pba, .skd, .blz, .can]) :
    area (State.sendNotice s m outcome g deficit) p = area s p := by
  unfold State.sendNotice
  try dsimp only
  repeat' first
    | with_reducible rfl
    | with_reducible refine area_ite ?_ ?_
    | with_reducible refine area_dite (fun _ => ?_) (fun _ => ?_)
    | with_reducible refine (State.reply_area _ _ _ (notMem_of_sub h (by decide))).trans ?_
    | with_reducible refine (State.modPba_area _ _ (notMem_of_sub h (by decide))).trans ?_
    | with_reducible refine (area_each _ _ _ fun _ _ => ?_).trans ?_
    | with_reducible refine (area_foldl _ (fun _ _ => ?_) _ _).trans ?_
    | dsimp only
    | split

theorem State.regenCheck_area (s : State) (m : Fin 2) {p : Area} (h : p ∉ [Area.lrg, .trc, .tal, .pba, .skd, .blz, .can]) :
    area (State.regenCheck s m) p = area s p := by
  unfold State.regenCheck
  try dsimp only
  repeat' first
    | with_reducible rfl
    | with_reducible refine area_ite ?_ ?_
    | with_reducible refine area_dite (fun _ => ?_) (fun _ => ?_)
    | with_reducible refine (State.sendNotice_area _ _ _ _ _ (notMem_of_sub h (by decide))).trans ?_
    | with_reducible refine (State.modPba_area _ _ (notMem_of_sub h (by decide))).trans ?_
    | with_reducible refine (State.record_area _ _ _ _ _ _ (notMem_of_sub h (by decide))).trans ?_
    | with_reducible refine (State.tally_area _ _ (notMem_of_sub h (by decide))).trans ?_

theorem State.setOutcome_area (s : State) (n : Fin 7) (o : Nat × Nat) {p : Area} (h : p ∉ [Area.lrg, .trc, .tal, .pba]) :
    area (State.setOutcome s n o) p = area s p := by
  unfold State.setOutcome
  try dsimp only
  repeat' first
    | with_reducible rfl
    | with_reducible refine area_ite ?_ ?_
    | with_reducible refine area_dite (fun _ => ?_) (fun _ => ?_)
    | with_reducible refine (State.modPba_area _ _ (notMem_of_sub h (by decide))).trans ?_
    | with_reducible refine (State.record_area _ _ _ _ _ _ (notMem_of_sub h (by decide))).trans ?_

theorem State.answer_area (s : State) (w : Waiting) {p : Area} (h : p ∉ [Area.lrg, .trc, .tal, .skd, .blz, .can]) :
    area (State.answer s w) p = area s p := by
  unfold State.answer
  try dsimp only
  repeat' first
    | with_reducible rfl
    | with_reducible refine area_ite ?_ ?_
    | with_reducible refine area_dite (fun _ => ?_) (fun _ => ?_)
    | with_reducible refine (State.reply_area _ _ _ (notMem_of_sub h (by decide))).trans ?_

theorem doArbiter_area (s : State) {p : Area} (h : p ∉ [Area.sys, .lrg, .trc, .tal, .pba, .ce, .rng, .skd, .blz, .can, .draws]) :
    area (doArbiter s) p = area s p := by
  unfold doArbiter
  try dsimp only
  repeat' first
    | with_reducible rfl
    | with_reducible refine area_ite ?_ ?_
    | with_reducible refine area_dite (fun _ => ?_) (fun _ => ?_)
    | with_reducible refine (State.answer_area _ _ (notMem_of_sub h (by decide))).trans ?_
    | with_reducible refine (State.setOutcome_area _ _ _ (notMem_of_sub h (by decide))).trans ?_
    | with_reducible refine (State.regenCheck_area _ _ (notMem_of_sub h (by decide))).trans ?_
    | with_reducible refine (State.giveGrant_area _ _ _ (notMem_of_sub h (by decide))).trans ?_
    | with_reducible refine (State.watchLimits_area _ (notMem_of_sub h (by decide))).trans ?_
    | with_reducible refine (State.modPba_area _ _ (notMem_of_sub h (by decide))).trans ?_
    | with_reducible refine (State.tally_area _ _ (notMem_of_sub h (by decide))).trans ?_
    | with_reducible refine (State.draw_area _ (notMem_of_sub h (by decide))).trans ?_
    | with_reducible refine (area_each _ _ _ fun _ _ => ?_).trans ?_

theorem doLinkLow_area (s : State) {p : Area} (h : p ∉ [Area.lrg, .trc, .tal, .pba, .cap, .ce, .trx, .gsc, .glk, .psp, .rng, .sbc, .red, .dcc, .obc, .chg, .axb, .emitted]) :
    area (doLinkLow s) p = area s p := by
  unfold doLinkLow
  try dsimp only
  repeat' first
    | with_reducible rfl
    | with_reducible refine area_ite ?_ ?_
    | with_reducible refine area_dite (fun _ => ?_) (fun _ => ?_)
    | with_reducible refine (State.setMode_area _ _ _ (notMem_of_sub h (by decide))).trans ?_
    | with_reducible refine (area_each _ _ _ fun _ _ => ?_).trans ?_
    | with_reducible refine (area_foldl _ (fun _ _ => ?_) _ _).trans ?_
    | dsimp only
    | split

theorem doLimitWrite_area (s : State) (chg : Bool) (v : Word32) {p : Area} (h : p ∉ [Area.lrg, .trc, .tal, .pba]) :
    area (doLimitWrite s chg v) p = area s p := by
  unfold doLimitWrite
  try dsimp only
  repeat' first
    | with_reducible rfl
    | with_reducible refine area_ite ?_ ?_
    | with_reducible refine area_dite (fun _ => ?_) (fun _ => ?_)
    | with_reducible refine (State.limits_area _ _ _ _ (notMem_of_sub h (by decide))).trans ?_

end Sys2Proof.Machine
end

