-- ==== Sys2Proof/Laws/AreaSkidOps.lean ====
section
/-!
SUPPORT. Which areas of the state each operation of SkidOps.lean may change.
-/

namespace Sys2Proof.Machine

open Sys2Proof

theorem State.heard_area (s : State) (p0 : Fin 8) (kind : Nat) (bs : List Byte) (f : State → State) {p : Area} (h : p ∉ [Area.tal, .skd]) (hf : ∀ x, area (f x) p = area x p) :
    area (State.heard s p0 kind bs f) p = area s p := by
  unfold State.heard
  try dsimp only
  repeat' first
    | with_reducible rfl
    | with_reducible refine area_ite ?_ ?_
    | with_reducible refine area_dite (fun _ => ?_) (fun _ => ?_)
    | with_reducible refine (State.dropData_area _ _ (notMem_of_sub h (by decide))).trans ?_
    | with_reducible refine (State.tally_area _ _ (notMem_of_sub h (by decide))).trans ?_
    | with_reducible refine (hf _).trans ?_

theorem State.forward_area (s : State) (p0 : Fin 8) (ps : List (Fin 8)) (b : List Byte) {p : Area} (h : p ∉ [Area.tal, .skd]) :
    area (State.forward s p0 ps b) p = area s p := by
  unfold State.forward
  try dsimp only
  repeat' first
    | with_reducible rfl
    | with_reducible refine area_ite ?_ ?_
    | with_reducible refine area_dite (fun _ => ?_) (fun _ => ?_)
    | with_reducible refine (State.enqueueOut_area _ _ _ _ (notMem_of_sub h (by decide))).trans ?_
    | with_reducible refine (State.freeUnits_area _ _ _ _ (notMem_of_sub h (by decide))).trans ?_
    | with_reducible refine (State.tally_area _ _ (notMem_of_sub h (by decide))).trans ?_

theorem State.routed_area (s : State) (p0 : Fin 8) (bs : List Byte) (deliver : List Byte → State → State) {p : Area} (h : p ∉ [Area.tal, .skd]) (hf : ∀ b x, area (deliver b x) p = area x p) :
    area (State.routed s p0 bs deliver) p = area s p := by
  unfold State.routed
  try dsimp only
  repeat' first
    | with_reducible rfl
    | with_reducible refine area_ite ?_ ?_
    | with_reducible refine area_dite (fun _ => ?_) (fun _ => ?_)
    | with_reducible refine (State.forward_area _ _ _ _ (notMem_of_sub h (by decide))).trans ?_
    | with_reducible refine (State.discard_area _ _ (notMem_of_sub h (by decide))).trans ?_
    | with_reducible refine (State.freeUnits_area _ _ _ _ (notMem_of_sub h (by decide))).trans ?_
    | with_reducible refine (hf _ _).trans ?_
    | with_reducible refine (area_each _ _ _ fun _ _ => ?_).trans ?_
    | with_reducible refine (area_foldl _ (fun _ _ => ?_) _ _).trans ?_
    | dsimp only
    | split

theorem State.flushPort_area (s : State) (p0 : Fin 8) {p : Area} (h : p ∉ [Area.tal, .skd]) :
    area (State.flushPort s p0) p = area s p := by
  unfold State.flushPort
  try dsimp only
  repeat' first
    | with_reducible rfl
    | with_reducible refine area_ite ?_ ?_
    | with_reducible refine area_dite (fun _ => ?_) (fun _ => ?_)
    | with_reducible refine (State.dropData_area _ _ (notMem_of_sub h (by decide))).trans ?_
    | with_reducible refine (State.frameGone_area _ _ (notMem_of_sub h (by decide))).trans ?_
    | with_reducible refine (State.modPort_area _ _ _ (notMem_of_sub h (by decide))).trans ?_
    | with_reducible refine (State.tallyBy_area _ _ _ (notMem_of_sub h (by decide))).trans ?_
    | with_reducible refine (area_each _ _ _ fun _ _ => ?_).trans ?_
    | with_reducible refine (area_foldl _ (fun _ _ => ?_) _ _).trans ?_

theorem State.toAlign_area (s : State) (p0 : Fin 8) (cause : Nat) {p : Area} (h : p ∉ [Area.lrg, .trc, .tal, .skd]) :
    area (State.toAlign s p0 cause) p = area s p := by
  unfold State.toAlign
  try dsimp only
  repeat' first
    | with_reducible rfl
    | with_reducible refine area_ite ?_ ?_
    | with_reducible refine area_dite (fun _ => ?_) (fun _ => ?_)
    | with_reducible refine (State.flushPort_area _ _ (notMem_of_sub h (by decide))).trans ?_
    | with_reducible refine (State.reroute_area _ _ (notMem_of_sub h (by decide))).trans ?_
    | with_reducible refine (State.skdEvent_area _ _ _ _ _ (notMem_of_sub h (by decide))).trans ?_
    | with_reducible refine (State.modPort_area _ _ _ (notMem_of_sub h (by decide))).trans ?_
    | with_reducible refine (State.modSkd_area _ _ (notMem_of_sub h (by decide))).trans ?_
    | with_reducible refine (State.tally_area _ _ (notMem_of_sub h (by decide))).trans ?_
    | with_reducible refine (area_each _ _ _ fun _ _ => ?_).trans ?_
    | with_reducible refine (area_foldl _ (fun _ _ => ?_) _ _).trans ?_

theorem doAligned_area (s : State) (p0 : Fin 8) {p : Area} (h : p ∉ [Area.skd]) :
    area (doAligned s p0) p = area s p := by
  unfold doAligned
  try dsimp only
  repeat' first
    | with_reducible rfl
    | with_reducible refine area_ite ?_ ?_
    | with_reducible refine area_dite (fun _ => ?_) (fun _ => ?_)
    | with_reducible refine (State.enqueueLink_area _ _ _ _ (notMem_of_sub h (by decide))).trans ?_
    | with_reducible refine (State.modPort_area _ _ _ (notMem_of_sub h (by decide))).trans ?_

theorem doSilence_area (s : State) (p0 : Fin 8) (cause : Nat) {p : Area} (h : p ∉ [Area.lrg, .trc, .tal, .skd]) :
    area (doSilence s p0 cause) p = area s p := by
  unfold doSilence
  try dsimp only
  repeat' first
    | with_reducible rfl
    | with_reducible refine area_ite ?_ ?_
    | with_reducible refine area_dite (fun _ => ?_) (fun _ => ?_)
    | with_reducible refine (State.toAlign_area _ _ _ (notMem_of_sub h (by decide))).trans ?_

theorem doCruiseTimeout_area (s : State) (p0 : Fin 8) {p : Area} (h : p ∉ [Area.lrg, .trc, .tal, .skd]) :
    area (doCruiseTimeout s p0) p = area s p := by
  unfold doCruiseTimeout
  try dsimp only
  repeat' first
    | with_reducible rfl
    | with_reducible refine area_ite ?_ ?_
    | with_reducible refine area_dite (fun _ => ?_) (fun _ => ?_)
    | with_reducible refine (State.toAlign_area _ _ _ (notMem_of_sub h (by decide))).trans ?_

theorem State.creditIn_area (s : State) (p0 : Fin 8) (b : List Byte) {p : Area} (h : p ∉ [Area.lrg, .trc, .tal, .skd]) :
    area (State.creditIn s p0 b) p = area s p := by
  unfold State.creditIn
  try dsimp only
  repeat' first
    | with_reducible rfl
    | with_reducible refine area_ite ?_ ?_
    | with_reducible refine area_dite (fun _ => ?_) (fun _ => ?_)
    | with_reducible refine (State.enqueueLink_area _ _ _ _ (notMem_of_sub h (by decide))).trans ?_
    | with_reducible refine (State.skdEvent_area _ _ _ _ _ (notMem_of_sub h (by decide))).trans ?_
    | with_reducible refine (State.modPort_area _ _ _ (notMem_of_sub h (by decide))).trans ?_

theorem doCreditUpdate_area (s : State) (p0 : Fin 8) {p : Area} (h : p ∉ [Area.skd]) :
    area (doCreditUpdate s p0) p = area s p := by
  unfold doCreditUpdate
  try dsimp only
  repeat' first
    | with_reducible rfl
    | with_reducible refine area_ite ?_ ?_
    | with_reducible refine area_dite (fun _ => ?_) (fun _ => ?_)
    | with_reducible refine (State.enqueueLink_area _ _ _ _ (notMem_of_sub h (by decide))).trans ?_
    | with_reducible refine (State.modPort_area _ _ _ (notMem_of_sub h (by decide))).trans ?_

theorem State.setNode_area (s : State) (n : Nat) {p : Area} (h : p ∉ [Area.skd]) :
    area (State.setNode s n) p = area s p := by
  unfold State.setNode
  try dsimp only
  repeat' first
    | with_reducible rfl
    | with_reducible refine area_ite ?_ ?_
    | with_reducible refine area_dite (fun _ => ?_) (fun _ => ?_)
    | with_reducible refine (State.watchHolders_area _ (notMem_of_sub h (by decide))).trans ?_
    | with_reducible refine (State.modSkd_area _ _ (notMem_of_sub h (by decide))).trans ?_

theorem State.askNumber_area (s : State) (present : Nat) {p : Area} (h : p ∉ [Area.tal, .skd]) :
    area (State.askNumber s present) p = area s p := by
  unfold State.askNumber
  try dsimp only
  repeat' first
    | with_reducible rfl
    | with_reducible refine area_ite ?_ ?_
    | with_reducible refine area_dite (fun _ => ?_) (fun _ => ?_)
    | with_reducible refine (State.sendOut_area _ _ (notMem_of_sub h (by decide))).trans ?_
    | with_reducible refine (State.modSkd_area _ _ (notMem_of_sub h (by decide))).trans ?_

theorem State.regAnswer_area (s : State) (st : Nat) (node : Nat) {p : Area} (h : p ∉ [Area.skd]) :
    area (State.regAnswer s st node).1 p = area s p := by
  unfold State.regAnswer
  try dsimp only
  repeat' first
    | with_reducible rfl
    | with_reducible refine area_ite ?_ ?_
    | with_reducible refine area_dite (fun _ => ?_) (fun _ => ?_)
    | with_reducible refine (State.modSkd_area _ _ (notMem_of_sub h (by decide))).trans ?_
    | with_reducible refine (area_each _ _ _ fun _ _ => ?_).trans ?_
    | with_reducible refine (area_foldl _ (fun _ _ => ?_) _ _).trans ?_
    | with_reducible refine area_ite_fst ?_ ?_

theorem State.sendRegister_area (s : State) (st : Nat) {p : Area} (h : p ∉ [Area.tal, .skd]) :
    area (State.sendRegister s st) p = area s p := by
  unfold State.sendRegister
  try dsimp only
  repeat' first
    | with_reducible rfl
    | with_reducible refine area_ite ?_ ?_
    | with_reducible refine area_dite (fun _ => ?_) (fun _ => ?_)
    | with_reducible refine (State.sendOut_area _ _ (notMem_of_sub h (by decide))).trans ?_

theorem State.regResult_area (s : State) (st : Nat) (res : Nat) {p : Area} (h : p ∉ [Area.lrg, .trc, .tal, .skd]) :
    area (State.regResult s st res) p = area s p := by
  unfold State.regResult
  try dsimp only
  repeat' first
    | with_reducible rfl
    | with_reducible refine area_ite ?_ ?_
    | with_reducible refine area_dite (fun _ => ?_) (fun _ => ?_)
    | with_reducible refine (State.skdEvent_area _ _ _ _ _ (notMem_of_sub h (by decide))).trans ?_
    | with_reducible refine (State.modSkd_area _ _ (notMem_of_sub h (by decide))).trans ?_
    | with_reducible refine (State.tally_area _ _ (notMem_of_sub h (by decide))).trans ?_

theorem State.refuseOwn_area (s : State) {p : Area} (h : p ∉ [Area.lrg, .trc, .tal, .skd]) :
    area (State.refuseOwn s) p = area s p := by
  unfold State.refuseOwn
  try dsimp only
  repeat' first
    | with_reducible rfl
    | with_reducible refine area_ite ?_ ?_
    | with_reducible refine area_dite (fun _ => ?_) (fun _ => ?_)
    | with_reducible refine (State.regResult_area _ _ _ (notMem_of_sub h (by decide))).trans ?_
    | with_reducible refine (State.modSkd_area _ _ (notMem_of_sub h (by decide))).trans ?_
    | with_reducible refine (area_each _ _ _ fun _ _ => ?_).trans ?_
    | with_reducible refine (area_foldl _ (fun _ _ => ?_) _ _).trans ?_

theorem State.pumpRegs_area (a : Nat) (x1 : State) {p : Area} (h : p ∉ [Area.lrg, .trc, .tal, .skd]) :
    area (State.pumpRegs a x1) p = area x1 p := by
  induction a generalizing x1 with
  | zero => rfl
  | succ n ih =>
    unfold State.pumpRegs
    split
    · rfl
    · dsimp only
      refine area_ite rfl (area_ite ?_ ?_)
      · exact (((ih _).trans (State.regResult_area _ _ _ (notMem_of_sub h (by decide)))).trans
          (State.regAnswer_area _ _ _ (notMem_of_sub h (by decide)))).trans
            (State.modSkd_area _ _ (notMem_of_sub h (by decide)))
      · exact (((ih _).trans (State.sendRegister_area _ _ (notMem_of_sub h (by decide)))).trans
          (State.modSkd_area _ _ (notMem_of_sub h (by decide)))).trans
            (State.modSkd_area _ _ (notMem_of_sub h (by decide)))

theorem State.pump_area (s : State) {p : Area} (h : p ∉ [Area.lrg, .trc, .tal, .skd]) :
    area (State.pump s) p = area s p := by
  unfold State.pump
  try dsimp only
  repeat' first
    | with_reducible rfl
    | with_reducible refine area_ite ?_ ?_
    | with_reducible refine area_dite (fun _ => ?_) (fun _ => ?_)
    | with_reducible refine (State.pumpRegs_area _ _ (notMem_of_sub h (by decide))).trans ?_

theorem State.enterNumbered_area (s : State) {p : Area} (h : p ∉ [Area.lrg, .trc, .tal, .skd]) :
    area (State.enterNumbered s) p = area s p := by
  unfold State.enterNumbered
  try dsimp only
  repeat' first
    | with_reducible rfl
    | with_reducible refine area_ite ?_ ?_
    | with_reducible refine area_dite (fun _ => ?_) (fun _ => ?_)
    | with_reducible refine (State.pump_area _ (notMem_of_sub h (by decide))).trans ?_
    | with_reducible refine (State.refuseOwn_area _ (notMem_of_sub h (by decide))).trans ?_
    | with_reducible refine (State.modSkd_area _ _ (notMem_of_sub h (by decide))).trans ?_

theorem State.assignOut_area (s : State) (die : Nat) (num : Nat) (res : Nat) {p : Area} (h : p ∉ [Area.tal, .skd]) :
    area (State.assignOut s die num res) p = area s p := by
  unfold State.assignOut
  try dsimp only
  repeat' first
    | with_reducible rfl
    | with_reducible refine area_ite ?_ ?_
    | with_reducible refine area_dite (fun _ => ?_) (fun _ => ?_)
    | with_reducible refine (State.sendOut_area _ _ (notMem_of_sub h (by decide))).trans ?_

theorem State.grantNumber_area (s : State) (die : Nat) (n : Nat) {p : Area} (h : p ∉ [Area.skd]) :
    area (State.grantNumber s die n) p = area s p := by
  unfold State.grantNumber
  try dsimp only
  repeat' first
    | with_reducible rfl
    | with_reducible refine area_ite ?_ ?_
    | with_reducible refine area_dite (fun _ => ?_) (fun _ => ?_)
    | with_reducible refine (State.watchHolders_area _ (notMem_of_sub h (by decide))).trans ?_
    | with_reducible refine (State.modSkd_area _ _ (notMem_of_sub h (by decide))).trans ?_

theorem State.ownNumber_area (s : State) {p : Area} (h : p ∉ [Area.skd]) :
    area (State.ownNumber s) p = area s p := by
  unfold State.ownNumber
  try dsimp only
  repeat' first
    | with_reducible rfl
    | with_reducible refine area_ite ?_ ?_
    | with_reducible refine area_dite (fun _ => ?_) (fun _ => ?_)
    | with_reducible refine (State.grantNumber_area _ _ _ (notMem_of_sub h (by decide))).trans ?_
    | with_reducible refine (State.setNode_area _ _ (notMem_of_sub h (by decide))).trans ?_
    | with_reducible refine (State.modSkd_area _ _ (notMem_of_sub h (by decide))).trans ?_
    | with_reducible refine (area_each _ _ _ fun _ _ => ?_).trans ?_
    | with_reducible refine (area_foldl _ (fun _ _ => ?_) _ _).trans ?_
    | dsimp only
    | split

theorem State.ownLoss_area (s : State) (die : Nat) (n : Nat) {p : Area} (h : p ∉ [Area.lrg, .trc, .tal, .skd]) :
    area (State.ownLoss s die n) p = area s p := by
  unfold State.ownLoss
  try dsimp only
  repeat' first
    | with_reducible rfl
    | with_reducible refine area_ite ?_ ?_
    | with_reducible refine area_dite (fun _ => ?_) (fun _ => ?_)
    | with_reducible refine (State.ownNumber_area _ (notMem_of_sub h (by decide))).trans ?_
    | with_reducible refine (State.grantNumber_area _ _ _ (notMem_of_sub h (by decide))).trans ?_
    | with_reducible refine (State.enterNumbered_area _ (notMem_of_sub h (by decide))).trans ?_
    | with_reducible refine (State.setNode_area _ _ (notMem_of_sub h (by decide))).trans ?_
    | with_reducible refine (State.skdEvent_area _ _ _ _ _ (notMem_of_sub h (by decide))).trans ?_
    | with_reducible refine (State.modSkd_area _ _ (notMem_of_sub h (by decide))).trans ?_

theorem State.assignReq_area (s : State) (die : Nat) (req : Nat) (present : Nat) {p : Area} (h : p ∉ [Area.lrg, .trc, .tal, .skd]) :
    area (State.assignReq s die req present) p = area s p := by
  unfold State.assignReq
  try dsimp only
  repeat' first
    | with_reducible rfl
    | with_reducible refine area_ite ?_ ?_
    | with_reducible refine area_dite (fun _ => ?_) (fun _ => ?_)
    | with_reducible refine (State.ownLoss_area _ _ _ (notMem_of_sub h (by decide))).trans ?_
    | with_reducible refine (State.grantNumber_area _ _ _ (notMem_of_sub h (by decide))).trans ?_
    | with_reducible refine (State.assignOut_area _ _ _ _ (notMem_of_sub h (by decide))).trans ?_
    | with_reducible refine (State.skdEvent_area _ _ _ _ _ (notMem_of_sub h (by decide))).trans ?_
    | with_reducible refine (State.modSkd_area _ _ (notMem_of_sub h (by decide))).trans ?_
    | with_reducible refine (area_each _ _ _ fun _ _ => ?_).trans ?_
    | with_reducible refine (area_foldl _ (fun _ _ => ?_) _ _).trans ?_
    | dsimp only
    | split

theorem doHoldExpiry_area (s : State) {p : Area} (h : p ∉ [Area.lrg, .trc, .tal, .skd]) :
    area (doHoldExpiry s) p = area s p := by
  unfold doHoldExpiry
  try dsimp only
  repeat' first
    | with_reducible rfl
    | with_reducible refine area_ite ?_ ?_
    | with_reducible refine area_dite (fun _ => ?_) (fun _ => ?_)
    | with_reducible refine (State.assignReq_area _ _ _ _ (notMem_of_sub h (by decide))).trans ?_
    | with_reducible refine (State.modSkd_area _ _ (notMem_of_sub h (by decide))).trans ?_
    | with_reducible refine (area_each _ _ _ fun _ _ => ?_).trans ?_
    | with_reducible refine (area_foldl _ (fun _ _ => ?_) _ _).trans ?_

theorem State.c1Refused_area (s : State) (st : Nat) (dropper : Nat) (count : Nat) {p : Area} (h : p ∉ [Area.lrg, .trc, .tal]) :
    area (State.c1Refused s st dropper count) p = area s p := by
  unfold State.c1Refused
  try dsimp only
  repeat' first
    | with_reducible rfl
    | with_reducible refine area_ite ?_ ?_
    | with_reducible refine area_dite (fun _ => ?_) (fun _ => ?_)
    | with_reducible refine (State.skdEvent_area _ _ _ _ _ (notMem_of_sub h (by decide))).trans ?_

theorem State.noticeC1_area (s : State) (b : List Byte) {p : Area} (h : p ∉ [Area.lrg, .trc, .tal, .skd]) :
    area (State.noticeC1 s b) p = area s p := by
  unfold State.noticeC1
  try dsimp only
  repeat' first
    | with_reducible rfl
    | with_reducible refine area_ite ?_ ?_
    | with_reducible refine area_dite (fun _ => ?_) (fun _ => ?_)
    | with_reducible refine (State.c1Refused_area _ _ _ _ (notMem_of_sub h (by decide))).trans ?_
    | with_reducible refine (State.sendOut_area _ _ (notMem_of_sub h (by decide))).trans ?_
    | with_reducible refine (State.modSkd_area _ _ (notMem_of_sub h (by decide))).trans ?_
    | with_reducible refine (State.tally_area _ _ (notMem_of_sub h (by decide))).trans ?_

theorem State.dropOld_area (s : State) (p0 : Fin 8) {p : Area} (h : p ∉ [Area.lrg, .trc, .tal, .skd]) :
    area (State.dropOld s p0) p = area s p := by
  unfold State.dropOld
  try dsimp only
  repeat' first
    | with_reducible rfl
    | with_reducible refine area_ite ?_ ?_
    | with_reducible refine area_dite (fun _ => ?_) (fun _ => ?_)
    | with_reducible refine (State.noticeC1_area _ _ (notMem_of_sub h (by decide))).trans ?_
    | with_reducible refine (State.dropData_area _ _ (notMem_of_sub h (by decide))).trans ?_
    | with_reducible refine (State.frameGone_area _ _ (notMem_of_sub h (by decide))).trans ?_
    | with_reducible refine (State.modPort_area _ _ _ (notMem_of_sub h (by decide))).trans ?_
    | with_reducible refine (State.tally_area _ _ (notMem_of_sub h (by decide))).trans ?_
    | with_reducible refine (area_each _ _ _ fun _ _ => ?_).trans ?_
    | with_reducible refine (area_foldl _ (fun _ _ => ?_) _ _).trans ?_

theorem State.dataIn_area (s : State) (port : Nat) (stamp : Nat) (b : List Byte) {p : Area} (h : p ∉ [Area.lrg, .trc, .tal, .pba, .skd, .blz, .can]) :
    area (State.dataIn s port stamp b) p = area s p := by
  unfold State.dataIn
  try dsimp only
  repeat' first
    | with_reducible rfl
    | with_reducible refine area_ite ?_ ?_
    | with_reducible refine area_dite (fun _ => ?_) (fun _ => ?_)
    | with_reducible refine (State.limitFrame_area _ _ _ (notMem_of_sub h (by decide))).trans ?_
    | with_reducible refine (State.commandFrame_area _ _ _ _ (notMem_of_sub h (by decide))).trans ?_
    | with_reducible refine (State.dropData_area _ _ (notMem_of_sub h (by decide))).trans ?_
    | with_reducible refine (State.offer_area _ _ _ (notMem_of_sub h (by decide))).trans ?_
    | with_reducible refine (State.tally_area _ _ (notMem_of_sub h (by decide))).trans ?_
    | with_reducible refine (area_each _ _ _ fun _ _ => ?_).trans ?_
    | with_reducible refine (area_foldl _ (fun _ _ => ?_) _ _).trans ?_
    | with_reducible refine area_ite_fst ?_ ?_
    | dsimp only
    | split
    | with_reducible refine (area_blz h (by decide)).trans ?_

end Sys2Proof.Machine
end

