-- ==== Sys2Proof/Laws/AreaDomain.lean ====
section
/-!
SUPPORT. Which areas of the state each operation of Domain.lean may change.
-/

namespace Sys2Proof.Machine

open Sys2Proof

theorem State.emptyBoxes_area (s : State) (d : Fin 10) {p : Area} (h : p ∉ [Area.mbx]) :
    area (State.emptyBoxes s d) p = area s p := by
  unfold State.emptyBoxes
  try dsimp only
  repeat' first
    | with_reducible rfl
    | with_reducible refine area_ite ?_ ?_
    | with_reducible refine area_dite (fun _ => ?_) (fun _ => ?_)
    | with_reducible refine (State.modMbx_area _ _ _ (notMem_of_sub h (by decide))).trans ?_
    | with_reducible refine (area_each _ _ _ fun _ _ => ?_).trans ?_

theorem State.turnOff_area (s : State) (d : Fin 10) {p : Area} (h : p ∉ [Area.sys, .mbx]) :
    area (State.turnOff s d) p = area s p := by
  unfold State.turnOff
  try dsimp only
  repeat' first
    | with_reducible rfl
    | with_reducible refine area_ite ?_ ?_
    | with_reducible refine area_dite (fun _ => ?_) (fun _ => ?_)
    | with_reducible refine (State.emptyBoxes_area _ _ (notMem_of_sub h (by decide))).trans ?_
    | with_reducible refine (State.modSys_area _ _ (notMem_of_sub h (by decide))).trans ?_

theorem State.requestDomain_area (s : State) (v : BitVec 10) (d : Fin 10) {p : Area} (h : p ∉ [Area.sys, .mbx, .tal]) :
    area (State.requestDomain s v d) p = area s p := by
  unfold State.requestDomain
  try dsimp only
  repeat' first
    | with_reducible rfl
    | with_reducible refine area_ite ?_ ?_
    | with_reducible refine area_dite (fun _ => ?_) (fun _ => ?_)
    | with_reducible refine (State.turnOff_area _ _ (notMem_of_sub h (by decide))).trans ?_
    | with_reducible refine (State.turnOn_area _ _ (notMem_of_sub h (by decide))).trans ?_
    | with_reducible refine (State.tally_area _ _ (notMem_of_sub h (by decide))).trans ?_

theorem State.canStart_area (s : State) (ch : Fin 6) {p : Area} (h : p ∉ [Area.can]) :
    area (State.canStart s ch) p = area s p := by
  unfold State.canStart
  try dsimp only
  repeat' first
    | with_reducible rfl
    | with_reducible refine area_ite ?_ ?_
    | with_reducible refine area_dite (fun _ => ?_) (fun _ => ?_)
    | with_reducible refine (State.offerIdle_area _ _ (notMem_of_sub h (by decide))).trans ?_
    | with_reducible refine (State.modCan_area _ _ _ (notMem_of_sub h (by decide))).trans ?_

theorem State.skdStart_area (s : State) {p : Area} (h : p ∉ [Area.lrg, .trc, .tal, .skd]) :
    area (State.skdStart s) p = area s p := by
  unfold State.skdStart
  try dsimp only
  repeat' first
    | with_reducible rfl
    | with_reducible refine area_ite ?_ ?_
    | with_reducible refine area_dite (fun _ => ?_) (fun _ => ?_)
    | with_reducible refine (State.refuseOwn_area _ (notMem_of_sub h (by decide))).trans ?_
    | with_reducible refine (State.modPort_area _ _ _ (notMem_of_sub h (by decide))).trans ?_
    | with_reducible refine (area_each _ _ _ fun _ _ => ?_).trans ?_

theorem State.domainUp_area (s : State) (d : Fin 10) {p : Area} (h : p ∉ [Area.sys, .lrg, .trc, .tal, .red, .skd, .can, .mem]) :
    area (State.domainUp s d) p = area s p := by
  unfold State.domainUp
  try dsimp only
  repeat' first
    | with_reducible rfl
    | with_reducible refine area_ite ?_ ?_
    | with_reducible refine area_dite (fun _ => ?_) (fun _ => ?_)
    | with_reducible refine (State.skdStart_area _ (notMem_of_sub h (by decide))).trans ?_
    | with_reducible refine (State.canStart_area _ _ (notMem_of_sub h (by decide))).trans ?_
    | with_reducible refine (State.clearPair_area _ _ (notMem_of_sub h (by decide))).trans ?_
    | with_reducible refine (area_each _ _ _ fun _ _ => ?_).trans ?_
    | with_reducible refine (area_foldl _ (fun _ _ => ?_) _ _).trans ?_
    | dsimp only
    | split
    | with_reducible refine (area_red h (by decide)).trans ?_

theorem State.domainDown_area (s : State) (d : Fin 10) {p : Area} (h : p ∉ [Area.red, .skd, .can]) :
    area (State.domainDown s d) p = area s p := by
  unfold State.domainDown
  try dsimp only
  repeat' first
    | with_reducible rfl
    | with_reducible refine area_ite ?_ ?_
    | with_reducible refine area_dite (fun _ => ?_) (fun _ => ?_)
    | with_reducible refine (area_each _ _ _ fun _ _ => ?_).trans ?_
    | with_reducible refine (area_foldl _ (fun _ _ => ?_) _ _).trans ?_
    | dsimp only
    | split
    | with_reducible refine (area_red h (by decide)).trans ?_
    | with_reducible refine (area_skd h (by decide)).trans ?_
    | with_reducible refine (area_can h (by decide)).trans ?_

theorem State.pollMode_area (s : State) {p : Area} (h : p ∉ [Area.lrg, .trc, .tal, .pba, .cap, .ce, .trx, .gsc, .glk, .psp, .rng, .sbc, .red, .dcc, .obc, .chg, .axb, .emitted]) :
    area (State.pollMode s) p = area s p := by
  unfold State.pollMode
  try dsimp only
  repeat' first
    | with_reducible rfl
    | with_reducible refine area_ite ?_ ?_
    | with_reducible refine area_dite (fun _ => ?_) (fun _ => ?_)
    | with_reducible refine (State.setMode_area _ _ _ (notMem_of_sub h (by decide))).trans ?_
    | with_reducible refine (area_each _ _ _ fun _ _ => ?_).trans ?_
    | with_reducible refine (area_foldl _ (fun _ _ => ?_) _ _).trans ?_
    | dsimp only
    | split

theorem doDomainEnd_area (s : State) (d : Fin 10) {p : Area} (h : p ∉ [Area.sys, .lrg, .trc, .tal, .pba, .cap, .ce, .trx, .gsc, .glk, .psp, .rng, .sbc, .red, .dcc, .obc, .chg, .axb, .skd, .can, .mem, .emitted]) :
    area (doDomainEnd s d) p = area s p := by
  unfold doDomainEnd
  try dsimp only
  repeat' first
    | with_reducible rfl
    | with_reducible refine area_ite ?_ ?_
    | with_reducible refine area_dite (fun _ => ?_) (fun _ => ?_)
    | with_reducible refine (State.pollMode_area _ (notMem_of_sub h (by decide))).trans ?_
    | with_reducible refine (State.domainDown_area _ _ (notMem_of_sub h (by decide))).trans ?_
    | with_reducible refine (State.domainUp_area _ _ (notMem_of_sub h (by decide))).trans ?_
    | with_reducible refine (State.modSys_area _ _ (notMem_of_sub h (by decide))).trans ?_
    | with_reducible refine (State.record_area _ _ _ _ _ _ (notMem_of_sub h (by decide))).trans ?_
    | with_reducible refine (area_each _ _ _ fun _ _ => ?_).trans ?_
    | with_reducible refine (area_foldl _ (fun _ _ => ?_) _ _).trans ?_
    | dsimp only
    | split

end Sys2Proof.Machine
end

