-- ==== Sys2Proof/Laws/AreaEngine.lean ====
section
/-!
SUPPORT. Which areas of the state each operation of Engine.lean may change.
-/

namespace Sys2Proof.Machine

open Sys2Proof

theorem doTimer_area (s : State) (e : Fin 8) {p : Area} (h : p ∉ [Area.lrg, .trc, .tal, .ce]) :
    area (doTimer s e) p = area s p := by
  unfold doTimer
  try dsimp only
  repeat' first
    | with_reducible rfl
    | with_reducible refine area_ite ?_ ?_
    | with_reducible refine area_dite (fun _ => ?_) (fun _ => ?_)
    | with_reducible refine (State.trigger_area _ _ _ (notMem_of_sub h (by decide))).trans ?_

theorem doPassStart_area (s : State) (e : Fin 8) (pup : List (Fin 512 × Fin 266)) (dup : List (Fin 128 × Fin 266)) {p : Area} (h : p ∉ [Area.ce]) :
    area (doPassStart s e pup dup) p = area s p := by
  unfold doPassStart
  try dsimp only
  repeat' first
    | with_reducible rfl
    | with_reducible refine area_ite ?_ ?_
    | with_reducible refine area_dite (fun _ => ?_) (fun _ => ?_)
    | with_reducible refine (State.modCe_area _ _ _ (notMem_of_sub h (by decide))).trans ?_

theorem doLoad_area (s : State) (e : Fin 8) (v : Word32) {p : Area} (h : p ∉ [Area.ce]) :
    area (doLoad s e v) p = area s p := by
  unfold doLoad
  try dsimp only
  repeat' first
    | with_reducible rfl
    | with_reducible refine area_ite ?_ ?_
    | with_reducible refine area_dite (fun _ => ?_) (fun _ => ?_)
    | with_reducible refine (State.modCe_area _ _ _ (notMem_of_sub h (by decide))).trans ?_

theorem doLoaded_area (s : State) (e : Fin 8) {p : Area} (h : p ∉ [Area.sys, .lrg, .trc, .tal, .ce, .glk, .rng, .red, .boot]) :
    area (doLoaded s e) p = area s p := by
  unfold doLoaded
  try dsimp only
  repeat' first
    | with_reducible rfl
    | with_reducible refine area_ite ?_ ?_
    | with_reducible refine area_dite (fun _ => ?_) (fun _ => ?_)
    | with_reducible refine (State.bootLoad_area _ _ _ _ (notMem_of_sub h (by decide))).trans ?_
    | with_reducible refine (State.bootPoll_area _ (notMem_of_sub h (by decide))).trans ?_
    | with_reducible refine (State.loadProgram_area _ _ _ _ (notMem_of_sub h (by decide))).trans ?_
    | with_reducible refine (State.readRows_area _ _ _ _ (notMem_of_sub h (by decide))).trans ?_
    | with_reducible refine (State.modCe_area _ _ _ (notMem_of_sub h (by decide))).trans ?_
    | with_reducible refine (area_each _ _ _ fun _ _ => ?_).trans ?_
    | with_reducible refine (area_foldl _ (fun _ _ => ?_) _ _).trans ?_
    | with_reducible refine area_ite_fst ?_ ?_
    | dsimp only
    | split

theorem onlyFault_area (s : State) (e : Fin 8) (c : Nat) {p : Area} (h : p ∉ [Area.clk, .sys, .lrg, .trc, .tal, .pba, .ce, .glk, .psp, .rng, .red, .skd, .boot, .flights, .draws]) :
    area (onlyFault s e c) p = area s p := by
  unfold onlyFault
  try dsimp only
  repeat' first
    | with_reducible rfl
    | with_reducible refine area_ite ?_ ?_
    | with_reducible refine area_dite (fun _ => ?_) (fun _ => ?_)
    | with_reducible refine (State.engineRow_area _ _ _ _ (notMem_of_sub h (by decide)) (fun _ _ => ?_)).trans ?_

end Sys2Proof.Machine
end

