-- ==== Sys2Proof/Laws/AreaLinks.lean ====
section
/-!
SUPPORT. Which areas of the state each operation of Links.lean may change.
-/

namespace Sys2Proof.Machine

open Sys2Proof

theorem doCarrier_area (s : State) (g : Fin 4) {p : Area} (h : p ∉ [Area.sys, .lrg, .trc, .tal, .cap, .ce, .pos, .gsc, .rng, .dcc]) :
    area (doCarrier s g) p = area s p := by
  unfold doCarrier
  try dsimp only
  repeat' first
    | with_reducible rfl
    | with_reducible refine area_ite ?_ ?_
    | with_reducible refine area_dite (fun _ => ?_) (fun _ => ?_)
    | with_reducible refine (State.periodStarts_area _ _ _ _ (notMem_of_sub h (by decide))).trans ?_
    | with_reducible refine (State.dccPeriod_area _ _ (notMem_of_sub h (by decide))).trans ?_
    | with_reducible refine (State.modGroup_area _ _ _ (notMem_of_sub h (by decide))).trans ?_

theorem doConversion_area (s : State) (g : Fin 4) {p : Area} (h : p ∉ [Area.sys, .lrg, .trc, .tal, .cap, .ce, .gsc, .glk, .rng, .emitted]) :
    area (doConversion s g) p = area s p := by
  unfold doConversion
  try dsimp only
  repeat' first
    | with_reducible rfl
    | with_reducible refine area_ite ?_ ?_
    | with_reducible refine area_dite (fun _ => ?_) (fun _ => ?_)
    | with_reducible refine (State.convert_area _ _ _ (notMem_of_sub h (by decide))).trans ?_
    | with_reducible refine (State.modGroup_area _ _ _ (notMem_of_sub h (by decide))).trans ?_
    | with_reducible refine (area_each _ _ _ fun _ _ => ?_).trans ?_
    | with_reducible refine (area_foldl _ (fun _ _ => ?_) _ _).trans ?_
    | dsimp only
    | split

theorem State.configReply_area (s : State) (l : Fin 12) (seq : Nat) (data : Word32) (result : Byte) {p : Area} (h : p ∉ [Area.lrg, .trc, .tal, .glk, .rng, .emitted]) :
    area (State.configReply s l seq data result) p = area s p := by
  unfold State.configReply
  try dsimp only
  repeat' first
    | with_reducible rfl
    | with_reducible refine area_ite ?_ ?_
    | with_reducible refine area_dite (fun _ => ?_) (fun _ => ?_)
    | with_reducible refine (State.cmdReply_area _ _ _ _ (notMem_of_sub h (by decide))).trans ?_
    | with_reducible refine (State.replyMissing_area _ _ (notMem_of_sub h (by decide))).trans ?_
    | with_reducible refine (State.bringReply_area _ _ _ _ (notMem_of_sub h (by decide))).trans ?_
    | with_reducible refine (State.watchRows_area _ (notMem_of_sub h (by decide))).trans ?_
    | with_reducible refine (area_each _ _ _ fun _ _ => ?_).trans ?_
    | with_reducible refine (area_foldl _ (fun _ _ => ?_) _ _).trans ?_
    | dsimp only
    | split

theorem State.echoed_area (s : State) (l : Fin 12) (token : Byte) {p : Area} (h : p ∉ [Area.lrg, .trc, .tal, .glk, .rng, .emitted]) :
    area (State.echoed s l token) p = area s p := by
  unfold State.echoed
  try dsimp only
  repeat' first
    | with_reducible rfl
    | with_reducible refine area_ite ?_ ?_
    | with_reducible refine area_dite (fun _ => ?_) (fun _ => ?_)
    | with_reducible refine (State.replyMissing_area _ _ (notMem_of_sub h (by decide))).trans ?_
    | with_reducible refine (State.bringEcho_area _ _ _ (notMem_of_sub h (by decide))).trans ?_

theorem State.heardFrom_area (s : State) (l : Fin 12) (cs : List LinkChar) {p : Area} (h : p ∉ [Area.lrg, .trc, .tal, .glk, .rng, .emitted]) :
    area (State.heardFrom s l cs) p = area s p := by
  unfold State.heardFrom
  try dsimp only
  repeat' first
    | with_reducible rfl
    | with_reducible refine area_ite ?_ ?_
    | with_reducible refine area_dite (fun _ => ?_) (fun _ => ?_)
    | with_reducible refine (State.echoed_area _ _ _ (notMem_of_sub h (by decide))).trans ?_
    | with_reducible refine (State.configReply_area _ _ _ _ _ (notMem_of_sub h (by decide))).trans ?_
    | with_reducible refine (State.statusFrame_area _ _ _ _ _ _ _ _ (notMem_of_sub h (by decide))).trans ?_
    | with_reducible refine (State.watchRows_area _ (notMem_of_sub h (by decide))).trans ?_
    | with_reducible refine (State.tally_area _ _ (notMem_of_sub h (by decide))).trans ?_
    | with_reducible refine (area_each _ _ _ fun _ _ => ?_).trans ?_
    | with_reducible refine (area_foldl _ (fun _ _ => ?_) _ _).trans ?_
    | dsimp only
    | split

theorem doUnclaimed_area (s : State) (g : Fin 4) {p : Area} (h : p ∉ [Area.lrg, .trc, .tal, .glk, .rng, .red]) :
    area (doUnclaimed s g) p = area s p := by
  unfold doUnclaimed
  try dsimp only
  repeat' first
    | with_reducible rfl
    | with_reducible refine area_ite ?_ ?_
    | with_reducible refine area_dite (fun _ => ?_) (fun _ => ?_)
    | with_reducible refine (State.lapse_area _ _ _ (notMem_of_sub h (by decide))).trans ?_
    | with_reducible refine (State.modTok_area _ _ _ (notMem_of_sub h (by decide))).trans ?_
    | with_reducible refine (State.recordReport_area _ _ _ _ _ _ _ (notMem_of_sub h (by decide))).trans ?_

end Sys2Proof.Machine
end

