-- ==== Sys2Proof/Laws/AreaMemory.lean ====
section
/-!
SUPPORT. Which areas of the state each operation of Memory.lean may change.
-/

namespace Sys2Proof.Machine

open Sys2Proof

theorem doWriteback_area (s : State) {p : Area} (h : p ∉ [Area.sys]) :
    area (doWriteback s) p = area s p := by
  unfold doWriteback
  try dsimp only
  repeat' first
    | with_reducible rfl
    | with_reducible refine area_ite ?_ ?_
    | with_reducible refine area_dite (fun _ => ?_) (fun _ => ?_)
    | with_reducible refine (State.repaired_area _ _ (notMem_of_sub h (by decide))).trans ?_
    | with_reducible refine (State.modSys_area _ _ (notMem_of_sub h (by decide))).trans ?_
    | with_reducible refine (area_each _ _ _ fun _ _ => ?_).trans ?_
    | with_reducible refine (area_foldl _ (fun _ _ => ?_) _ _).trans ?_
    | dsimp only
    | split

theorem doScrub_area (s : State) (up : List (Fin 266)) {p : Area} (h : p ∉ [Area.sys, .lrg, .trc, .tal, .rng]) :
    area (doScrub s up) p = area s p := by
  unfold doScrub
  try dsimp only
  repeat' first
    | with_reducible rfl
    | with_reducible refine area_ite ?_ ?_
    | with_reducible refine area_dite (fun _ => ?_) (fun _ => ?_)
    | with_reducible refine (State.readCheck_area _ _ _ (notMem_of_sub h (by decide))).trans ?_
    | with_reducible refine (State.upset_area _ _ _ (notMem_of_sub h (by decide))).trans ?_
    | with_reducible refine (State.modSys_area _ _ (notMem_of_sub h (by decide))).trans ?_

theorem doMbxWrite_area (s : State) (id : Fin 64) (m : Fin 64) (size : Nat) (w : Word256) {p : Area} (h : p ∉ [Area.bus, .mbx, .lrg, .trc, .tal]) :
    area (doMbxWrite s id m size w) p = area s p := by
  unfold doMbxWrite
  try dsimp only
  repeat' first
    | with_reducible rfl
    | with_reducible refine area_ite ?_ ?_
    | with_reducible refine area_dite (fun _ => ?_) (fun _ => ?_)
    | with_reducible refine (State.mbxStore_area _ _ _ _ _ (notMem_of_sub h (by decide))).trans ?_
    | with_reducible refine (State.busDone_area _ _ (notMem_of_sub h (by decide))).trans ?_
    | with_reducible refine (State.busError_area _ _ _ _ (notMem_of_sub h (by decide))).trans ?_
    | with_reducible refine (State.record_area _ _ _ _ _ _ (notMem_of_sub h (by decide))).trans ?_
    | with_reducible refine (State.tally_area _ _ (notMem_of_sub h (by decide))).trans ?_
    | with_reducible refine (area_each _ _ _ fun _ _ => ?_).trans ?_
    | with_reducible refine (area_foldl _ (fun _ _ => ?_) _ _).trans ?_
    | dsimp only
    | split

theorem doMbxRead_area (s : State) (id : Fin 64) (m : Fin 64) (size : Nat) (j : Fin 8) {p : Area} (h : p ∉ [Area.bus, .mbx, .lrg, .trc, .tal]) :
    area (doMbxRead s id m size j) p = area s p := by
  unfold doMbxRead
  try dsimp only
  repeat' first
    | with_reducible rfl
    | with_reducible refine area_ite ?_ ?_
    | with_reducible refine area_dite (fun _ => ?_) (fun _ => ?_)
    | with_reducible refine (State.modMbx_area _ _ _ (notMem_of_sub h (by decide))).trans ?_
    | with_reducible refine (State.busDone_area _ _ (notMem_of_sub h (by decide))).trans ?_
    | with_reducible refine (State.busError_area _ _ _ _ (notMem_of_sub h (by decide))).trans ?_
    | with_reducible refine (area_each _ _ _ fun _ _ => ?_).trans ?_
    | with_reducible refine (area_foldl _ (fun _ _ => ?_) _ _).trans ?_
    | dsimp only
    | split

theorem doRingWrite_area (s : State) {p : Area} (h : p ∉ [Area.sys, .lrg, .mem]) :
    area (doRingWrite s) p = area s p := by
  unfold doRingWrite
  try dsimp only
  repeat' first
    | with_reducible rfl
    | with_reducible refine area_ite ?_ ?_
    | with_reducible refine area_dite (fun _ => ?_) (fun _ => ?_)
    | with_reducible refine (State.repaired_area _ _ (notMem_of_sub h (by decide))).trans ?_
    | with_reducible refine (State.modRing_area _ _ _ (notMem_of_sub h (by decide))).trans ?_
    | with_reducible refine (State.store_area _ _ _ (notMem_of_sub h (by decide))).trans ?_
    | with_reducible refine (area_each _ _ _ fun _ _ => ?_).trans ?_
    | with_reducible refine (area_foldl _ (fun _ _ => ?_) _ _).trans ?_
    | dsimp only
    | split
    | with_reducible refine (area_lrg h (by decide)).trans ?_

theorem doRelease_area (s : State) (r : Fin 32) (v : Word32) {p : Area} (h : p ∉ [Area.lrg]) :
    area (doRelease s r v) p = area s p := by
  unfold doRelease
  try dsimp only
  repeat' first
    | with_reducible rfl
    | with_reducible refine area_ite ?_ ?_
    | with_reducible refine area_dite (fun _ => ?_) (fun _ => ?_)
    | with_reducible refine (State.modRing_area _ _ _ (notMem_of_sub h (by decide))).trans ?_

end Sys2Proof.Machine
end

