-- ==== Sys2Proof/Laws/AreaBrake.lean ====
section
/-!
SUPPORT. Which areas of the state each operation of Brake.lean may change.
-/

namespace Sys2Proof.Machine

open Sys2Proof

theorem State.brakeFault_area (s : State) (n : Fin 2) (cause : Nat) {p : Area} (h : p ∉ [Area.lrg, .trc, .tal, .pba, .cap, .ce, .trx, .gsc, .glk, .psp, .rng, .sbc, .flog, .red, .dcc, .obc, .chg, .axb, .boot, .emitted]) :
    area (State.brakeFault s n cause) p = area s p := by
  unfold State.brakeFault
  try dsimp only
  repeat' first
    | with_reducible rfl
    | with_reducible refine area_ite ?_ ?_
    | with_reducible refine area_dite (fun _ => ?_) (fun _ => ?_)
    | with_reducible refine (State.bootReact_area _ (notMem_of_sub h (by decide))).trans ?_
    | with_reducible refine (State.fixedTraction_area _ (notMem_of_sub h (by decide))).trans ?_
    | with_reducible refine (State.watchRows_area _ (notMem_of_sub h (by decide))).trans ?_
    | with_reducible refine (State.setMode_area _ _ _ (notMem_of_sub h (by decide))).trans ?_
    | with_reducible refine (State.applyBrakes_area _ (notMem_of_sub h (by decide))).trans ?_
    | with_reducible refine (State.modSbc_area _ _ _ (notMem_of_sub h (by decide))).trans ?_
    | with_reducible refine (State.modRng_area _ _ (notMem_of_sub h (by decide))).trans ?_
    | with_reducible refine (State.recordReport_area _ _ _ _ _ _ _ (notMem_of_sub h (by decide))).trans ?_
    | with_reducible refine (State.logRecord_area _ _ (notMem_of_sub h (by decide))).trans ?_
    | with_reducible refine (State.tally_area _ _ (notMem_of_sub h (by decide))).trans ?_

theorem State.confirmBrake_area (s : State) (n : Fin 2) (runs : Vector Nat 7) {p : Area} (h : p ∉ [Area.lrg, .trc, .tal, .pba, .cap, .ce, .trx, .gsc, .glk, .psp, .rng, .sbc, .flog, .red, .dcc, .obc, .chg, .axb, .boot, .emitted]) :
    area (State.confirmBrake s n runs) p = area s p := by
  unfold State.confirmBrake
  try dsimp only
  repeat' first
    | with_reducible rfl
    | with_reducible refine area_ite ?_ ?_
    | with_reducible refine area_dite (fun _ => ?_) (fun _ => ?_)
    | with_reducible refine (State.brakeFault_area _ _ _ (notMem_of_sub h (by decide))).trans ?_
    | with_reducible refine (area_each _ _ _ fun _ _ => ?_).trans ?_
    | with_reducible refine (area_foldl _ (fun _ _ => ?_) _ _).trans ?_

theorem doBrakeCheck_area (s : State) (n : Fin 2) (vhs : Int) (vls : Int) (vfb : Int) (icoil : Nat) (vbrk : Nat) {p : Area} (h : p ∉ [Area.lrg, .trc, .tal, .pba, .cap, .ce, .trx, .gsc, .glk, .psp, .rng, .sbc, .flog, .red, .dcc, .obc, .chg, .axb, .boot, .emitted]) :
    area (doBrakeCheck s n vhs vls vfb icoil vbrk) p = area s p := by
  unfold doBrakeCheck
  try dsimp only
  repeat' first
    | with_reducible rfl
    | with_reducible refine area_ite ?_ ?_
    | with_reducible refine area_dite (fun _ => ?_) (fun _ => ?_)
    | with_reducible refine (State.confirmBrake_area _ _ _ (notMem_of_sub h (by decide))).trans ?_
    | with_reducible refine (State.watchRows_area _ (notMem_of_sub h (by decide))).trans ?_
    | with_reducible refine (State.modSbc_area _ _ _ (notMem_of_sub h (by decide))).trans ?_
    | with_reducible refine (area_each _ _ _ fun _ _ => ?_).trans ?_
    | with_reducible refine (area_foldl _ (fun _ _ => ?_) _ _).trans ?_
    | dsimp only
    | split
    | with_reducible refine (area_sbc h (by decide)).trans ?_

theorem doTestPulse_area (s : State) (n : Fin 2) {p : Area} (h : p ∉ [Area.sbc]) :
    area (doTestPulse s n) p = area s p := by
  unfold doTestPulse
  try dsimp only
  repeat' first
    | with_reducible rfl
    | with_reducible refine area_ite ?_ ?_
    | with_reducible refine area_dite (fun _ => ?_) (fun _ => ?_)
    | with_reducible refine (State.modSbc_area _ _ _ (notMem_of_sub h (by decide))).trans ?_

theorem doPulseCheck_area (s : State) (n : Fin 2) (v : Int) {p : Area} (h : p ∉ [Area.lrg, .trc, .tal, .pba, .cap, .ce, .trx, .gsc, .glk, .psp, .rng, .sbc, .flog, .red, .dcc, .obc, .chg, .axb, .boot, .emitted]) :
    area (doPulseCheck s n v) p = area s p := by
  unfold doPulseCheck
  try dsimp only
  repeat' first
    | with_reducible rfl
    | with_reducible refine area_ite ?_ ?_
    | with_reducible refine area_dite (fun _ => ?_) (fun _ => ?_)
    | with_reducible refine (State.brakeFault_area _ _ _ (notMem_of_sub h (by decide))).trans ?_
    | with_reducible refine (State.modSbc_area _ _ _ (notMem_of_sub h (by decide))).trans ?_

theorem doMoveCheck_area (s : State) {p : Area} (h : p ∉ [Area.lrg, .trc, .tal, .pba, .cap, .ce, .trx, .gsc, .glk, .psp, .rng, .sbc, .red, .dcc, .obc, .chg, .axb, .blz, .emitted]) :
    area (doMoveCheck s) p = area s p := by
  unfold doMoveCheck
  try dsimp only
  repeat' first
    | with_reducible rfl
    | with_reducible refine area_ite ?_ ?_
    | with_reducible refine area_dite (fun _ => ?_) (fun _ => ?_)
    | with_reducible refine (State.endTest_area _ _ (notMem_of_sub h (by decide))).trans ?_
    | with_reducible refine (State.modTest_area _ _ (notMem_of_sub h (by decide))).trans ?_
    | with_reducible refine (area_each _ _ _ fun _ _ => ?_).trans ?_

theorem doTorqueCheck_area (s : State) {p : Area} (h : p ∉ [Area.lrg, .trc, .tal, .pba, .cap, .ce, .trx, .gsc, .glk, .psp, .rng, .sbc, .red, .dcc, .obc, .chg, .axb, .blz, .emitted]) :
    area (doTorqueCheck s) p = area s p := by
  unfold doTorqueCheck
  try dsimp only
  repeat' first
    | with_reducible rfl
    | with_reducible refine area_ite ?_ ?_
    | with_reducible refine area_dite (fun _ => ?_) (fun _ => ?_)
    | with_reducible refine (State.endTest_area _ _ (notMem_of_sub h (by decide))).trans ?_
    | with_reducible refine (area_each _ _ _ fun _ _ => ?_).trans ?_
    | with_reducible refine (area_foldl _ (fun _ _ => ?_) _ _).trans ?_
    | dsimp only
    | split

theorem doTorqueEnd_area (s : State) {p : Area} (h : p ∉ [Area.lrg, .trc, .tal, .pba, .cap, .ce, .trx, .gsc, .glk, .psp, .rng, .sbc, .red, .dcc, .obc, .chg, .axb, .blz, .emitted]) :
    area (doTorqueEnd s) p = area s p := by
  unfold doTorqueEnd
  try dsimp only
  repeat' first
    | with_reducible rfl
    | with_reducible refine area_ite ?_ ?_
    | with_reducible refine area_dite (fun _ => ?_) (fun _ => ?_)
    | with_reducible refine (State.endTest_area _ _ (notMem_of_sub h (by decide))).trans ?_
    | with_reducible refine (area_each _ _ _ fun _ _ => ?_).trans ?_
    | with_reducible refine (area_foldl _ (fun _ _ => ?_) _ _).trans ?_
    | dsimp only
    | split

theorem doSafeRise_area (s : State) {p : Area} (h : p ∉ [Area.lrg, .trc, .tal, .rng]) :
    area (doSafeRise s) p = area s p := by
  unfold doSafeRise
  try dsimp only
  repeat' first
    | with_reducible rfl
    | with_reducible refine area_ite ?_ ?_
    | with_reducible refine area_dite (fun _ => ?_) (fun _ => ?_)
    | with_reducible refine (State.abandonReset_area _ (notMem_of_sub h (by decide))).trans ?_
    | with_reducible refine (State.lockTo_area _ _ (notMem_of_sub h (by decide))).trans ?_
    | with_reducible refine (State.modRng_area _ _ (notMem_of_sub h (by decide))).trans ?_

theorem doSafeFall_area (s : State) {p : Area} (h : p ∉ [Area.lrg, .trc, .tal, .pba, .cap, .ce, .trx, .pos, .gsc, .glk, .psp, .rng, .sbc, .red, .dcc, .obc, .chg, .axb, .blz, .emitted]) :
    area (doSafeFall s) p = area s p := by
  unfold doSafeFall
  try dsimp only
  repeat' first
    | with_reducible rfl
    | with_reducible refine area_ite ?_ ?_
    | with_reducible refine area_dite (fun _ => ?_) (fun _ => ?_)
    | with_reducible refine (State.startTest_area _ _ _ (notMem_of_sub h (by decide))).trans ?_
    | with_reducible refine (State.abandonReset_area _ (notMem_of_sub h (by decide))).trans ?_
    | with_reducible refine (State.lockTo_area _ _ (notMem_of_sub h (by decide))).trans ?_
    | with_reducible refine (State.modRng_area _ _ (notMem_of_sub h (by decide))).trans ?_

theorem doPressTimeout_area (s : State) {p : Area} (h : p ∉ [Area.lrg, .trc, .tal, .rng]) :
    area (doPressTimeout s) p = area s p := by
  unfold doPressTimeout
  try dsimp only
  repeat' first
    | with_reducible rfl
    | with_reducible refine area_ite ?_ ?_
    | with_reducible refine area_dite (fun _ => ?_) (fun _ => ?_)
    | with_reducible refine (State.abandonReset_area _ (notMem_of_sub h (by decide))).trans ?_

theorem doArmTimeout_area (s : State) {p : Area} (h : p ∉ [Area.lrg, .trc, .tal, .rng]) :
    area (doArmTimeout s) p = area s p := by
  unfold doArmTimeout
  try dsimp only
  repeat' first
    | with_reducible rfl
    | with_reducible refine area_ite ?_ ?_
    | with_reducible refine area_dite (fun _ => ?_) (fun _ => ?_)
    | with_reducible refine (State.abandonReset_area _ (notMem_of_sub h (by decide))).trans ?_

end Sys2Proof.Machine
end

