-- ==== Sys2Proof/Laws/AreaCan.lean ====
section
/-!
SUPPORT. Which areas of the state each operation of Can.lean may change.
-/

namespace Sys2Proof.Machine

open Sys2Proof

theorem State.canRoute_area (s : State) (ch : Fin 6) (stamp : Nat) (f : CanFrame) {p : Area} (h : p ∉ [Area.lrg, .trc, .tal, .pba, .skd, .blz, .can]) :
    area (State.canRoute s ch stamp f) p = area s p := by
  unfold State.canRoute
  try dsimp only
  repeat' first
    | with_reducible rfl
    | with_reducible refine area_ite ?_ ?_
    | with_reducible refine area_dite (fun _ => ?_) (fun _ => ?_)
    | with_reducible refine (State.limitFrame_area _ _ _ (notMem_of_sub h (by decide))).trans ?_
    | with_reducible refine (State.commandFrame_area _ _ _ _ (notMem_of_sub h (by decide))).trans ?_
    | with_reducible refine (State.canFilter_area _ _ _ _ (notMem_of_sub h (by decide))).trans ?_
    | with_reducible refine (area_each _ _ _ fun _ _ => ?_).trans ?_
    | with_reducible refine (area_foldl _ (fun _ _ => ?_) _ _).trans ?_
    | dsimp only
    | split
    | with_reducible refine (area_blz h (by decide)).trans ?_

theorem doReceived_area (s : State) (ch : Fin 6) (stamp : Nat) (f : CanFrame) {p : Area} (h : p ∉ [Area.lrg, .trc, .tal, .pba, .rng, .skd, .blz, .can, .draws]) :
    area (doReceived s ch stamp f) p = area s p := by
  unfold doReceived
  try dsimp only
  repeat' first
    | with_reducible rfl
    | with_reducible refine area_ite ?_ ?_
    | with_reducible refine area_dite (fun _ => ?_) (fun _ => ?_)
    | with_reducible refine (State.canRoute_area _ _ _ _ (notMem_of_sub h (by decide))).trans ?_
    | with_reducible refine (State.goodReceive_area _ _ (notMem_of_sub h (by decide))).trans ?_
    | with_reducible refine (State.frameEnd_area _ _ (notMem_of_sub h (by decide))).trans ?_
    | with_reducible refine (State.reoffer_area _ _ _ (notMem_of_sub h (by decide))).trans ?_
    | with_reducible refine (State.modCan_area _ _ _ (notMem_of_sub h (by decide))).trans ?_
    | with_reducible refine (State.tally_area _ _ (notMem_of_sub h (by decide))).trans ?_

theorem doShsel_area (s : State) (ch : Fin 6) (b : Fin 64) {p : Area} (h : p ∉ [Area.can]) :
    area (doShsel s ch b) p = area s p := by
  unfold doShsel
  try dsimp only
  repeat' first
    | with_reducible rfl
    | with_reducible refine area_ite ?_ ?_
    | with_reducible refine area_dite (fun _ => ?_) (fun _ => ?_)
    | with_reducible refine (State.modBuf_area _ _ _ _ (notMem_of_sub h (by decide))).trans ?_
    | with_reducible refine (State.modCan_area _ _ _ (notMem_of_sub h (by decide))).trans ?_

theorem State.setTxcmd_area (s : State) (ch : Fin 6) (b : Fin 64) {p : Area} (h : p ∉ [Area.regs]) :
    area (State.setTxcmd s ch b) p = area s p := by
  unfold State.setTxcmd
  try dsimp only
  repeat' first
    | with_reducible rfl
    | with_reducible refine area_ite ?_ ?_
    | with_reducible refine area_dite (fun _ => ?_) (fun _ => ?_)
    | with_reducible refine (area_each _ _ _ fun _ _ => ?_).trans ?_
    | with_reducible refine (area_foldl _ (fun _ _ => ?_) _ _).trans ?_
    | dsimp only
    | split
    | with_reducible refine (area_regs h (by decide)).trans ?_

theorem doGo_area (s : State) (id : Fin 64) (ch : Fin 6) (b : Fin 64) {p : Area} (h : p ∉ [Area.bus, .lrg, .trc, .tal, .can, .regs]) :
    area (doGo s id ch b) p = area s p := by
  unfold doGo
  try dsimp only
  repeat' first
    | with_reducible rfl
    | with_reducible refine area_ite ?_ ?_
    | with_reducible refine area_dite (fun _ => ?_) (fun _ => ?_)
    | with_reducible refine (State.setTxcmd_area _ _ _ (notMem_of_sub h (by decide))).trans ?_
    | with_reducible refine (State.offerIdle_area _ _ (notMem_of_sub h (by decide))).trans ?_
    | with_reducible refine (State.modBuf_area _ _ _ _ (notMem_of_sub h (by decide))).trans ?_
    | with_reducible refine (State.busDone_area _ _ (notMem_of_sub h (by decide))).trans ?_
    | with_reducible refine (State.busError_area _ _ _ _ (notMem_of_sub h (by decide))).trans ?_

theorem doAbort_area (s : State) (ch : Fin 6) (b : Fin 64) {p : Area} (h : p ∉ [Area.lrg, .trc, .tal, .can, .regs]) :
    area (doAbort s ch b) p = area s p := by
  unfold doAbort
  try dsimp only
  repeat' first
    | with_reducible rfl
    | with_reducible refine area_ite ?_ ?_
    | with_reducible refine area_dite (fun _ => ?_) (fun _ => ?_)
    | with_reducible refine (State.setTxcmd_area _ _ _ (notMem_of_sub h (by decide))).trans ?_
    | with_reducible refine (State.bufFailed_area _ _ _ _ (notMem_of_sub h (by decide))).trans ?_
    | with_reducible refine (State.offerIdle_area _ _ (notMem_of_sub h (by decide))).trans ?_
    | with_reducible refine (State.modBuf_area _ _ _ _ (notMem_of_sub h (by decide))).trans ?_

theorem State.canAccess_area (s : State) (id : Fin 64) (a : Nat) (f : State → State) {p : Area} (h : p ∉ [Area.bus, .lrg, .trc, .tal]) (hf : ∀ x, area (f x) p = area x p) :
    area (State.canAccess s id a f) p = area s p := by
  unfold State.canAccess
  try dsimp only
  repeat' first
    | with_reducible rfl
    | with_reducible refine area_ite ?_ ?_
    | with_reducible refine area_dite (fun _ => ?_) (fun _ => ?_)
    | with_reducible refine (State.busDone_area _ _ (notMem_of_sub h (by decide))).trans ?_
    | with_reducible refine (State.busError_area _ _ _ _ (notMem_of_sub h (by decide))).trans ?_
    | with_reducible refine (hf _).trans ?_

theorem State.loopDelay_area (s : State) (ch : Fin 6) (f : CanFrame) (delay : Option Nat) {p : Area} (h : p ∉ [Area.lrg, .trc, .tal, .can]) :
    area (State.loopDelay s ch f delay) p = area s p := by
  unfold State.loopDelay
  try dsimp only
  repeat' first
    | with_reducible rfl
    | with_reducible refine area_ite ?_ ?_
    | with_reducible refine area_dite (fun _ => ?_) (fun _ => ?_)
    | with_reducible refine (State.modCan_area _ _ _ (notMem_of_sub h (by decide))).trans ?_
    | with_reducible refine (State.record_area _ _ _ _ _ _ (notMem_of_sub h (by decide))).trans ?_
    | with_reducible refine (area_each _ _ _ fun _ _ => ?_).trans ?_
    | with_reducible refine (area_foldl _ (fun _ _ => ?_) _ _).trans ?_
    | dsimp only
    | split

theorem State.attemptFailed_area (s : State) (ch : Fin 6) (b : Fin 64) (res : Nat) {p : Area} (h : p ∉ [Area.lrg, .trc, .tal, .can]) :
    area (State.attemptFailed s ch b res) p = area s p := by
  unfold State.attemptFailed
  try dsimp only
  repeat' first
    | with_reducible rfl
    | with_reducible refine area_ite ?_ ?_
    | with_reducible refine area_dite (fun _ => ?_) (fun _ => ?_)
    | with_reducible refine (State.bufFailed_area _ _ _ _ (notMem_of_sub h (by decide))).trans ?_

theorem State.attemptEnds_area (s : State) (ch : Fin 6) (res : CanResult) {p : Area} (h : p ∉ [Area.lrg, .trc, .tal, .can]) :
    area (State.attemptEnds s ch res) p = area s p := by
  unfold State.attemptEnds
  try dsimp only
  repeat' first
    | with_reducible rfl
    | with_reducible refine area_ite ?_ ?_
    | with_reducible refine area_dite (fun _ => ?_) (fun _ => ?_)
    | with_reducible refine (State.attemptFailed_area _ _ _ _ (notMem_of_sub h (by decide))).trans ?_
    | with_reducible refine (State.modBuf_area _ _ _ _ (notMem_of_sub h (by decide))).trans ?_
    | with_reducible refine (State.modCan_area _ _ _ (notMem_of_sub h (by decide))).trans ?_
    | with_reducible refine (State.tally_area _ _ (notMem_of_sub h (by decide))).trans ?_
    | with_reducible refine (area_each _ _ _ fun _ _ => ?_).trans ?_
    | with_reducible refine (area_foldl _ (fun _ _ => ?_) _ _).trans ?_
    | dsimp only
    | split

theorem doSendEnd_area (s : State) (ch : Fin 6) (res : CanResult) (delay : Option Nat) {p : Area} (h : p ∉ [Area.lrg, .trc, .tal, .rng, .can]) :
    area (doSendEnd s ch res delay) p = area s p := by
  unfold doSendEnd
  try dsimp only
  repeat' first
    | with_reducible rfl
    | with_reducible refine area_ite ?_ ?_
    | with_reducible refine area_dite (fun _ => ?_) (fun _ => ?_)
    | with_reducible refine (State.attemptEnds_area _ _ _ (notMem_of_sub h (by decide))).trans ?_
    | with_reducible refine (State.loopDelay_area _ _ _ _ (notMem_of_sub h (by decide))).trans ?_
    | with_reducible refine (State.setCounters_area _ _ _ _ (notMem_of_sub h (by decide))).trans ?_
    | with_reducible refine (State.frameEnd_area _ _ (notMem_of_sub h (by decide))).trans ?_
    | with_reducible refine (State.reoffer_area _ _ _ (notMem_of_sub h (by decide))).trans ?_
    | with_reducible refine (State.modCan_area _ _ _ (notMem_of_sub h (by decide))).trans ?_
    | with_reducible refine (area_each _ _ _ fun _ _ => ?_).trans ?_
    | with_reducible refine (area_foldl _ (fun _ _ => ?_) _ _).trans ?_
    | dsimp only
    | split

theorem doCanError_area (s : State) (ch : Fin 6) (k : CanFault) (flag : Bool) {p : Area} (h : p ∉ [Area.lrg, .trc, .tal, .rng, .can]) :
    area (doCanError s ch k flag) p = area s p := by
  unfold doCanError
  try dsimp only
  repeat' first
    | with_reducible rfl
    | with_reducible refine area_ite ?_ ?_
    | with_reducible refine area_dite (fun _ => ?_) (fun _ => ?_)
    | with_reducible refine (State.setCounters_area _ _ _ _ (notMem_of_sub h (by decide))).trans ?_
    | with_reducible refine (State.frameEnd_area _ _ (notMem_of_sub h (by decide))).trans ?_
    | with_reducible refine (State.tally_area _ _ (notMem_of_sub h (by decide))).trans ?_
    | with_reducible refine (area_each _ _ _ fun _ _ => ?_).trans ?_
    | with_reducible refine (area_foldl _ (fun _ _ => ?_) _ _).trans ?_
    | dsimp only
    | split

theorem doRecover_area (s : State) (ch : Fin 6) {p : Area} (h : p ∉ [Area.can]) :
    area (doRecover s ch) p = area s p := by
  unfold doRecover
  try dsimp only
  repeat' first
    | with_reducible rfl
    | with_reducible refine area_ite ?_ ?_
    | with_reducible refine area_dite (fun _ => ?_) (fun _ => ?_)
    | with_reducible refine (State.modCan_area _ _ _ (notMem_of_sub h (by decide))).trans ?_

theorem doBusOn_area (s : State) (ch : Fin 6) {p : Area} (h : p ∉ [Area.lrg, .trc, .tal, .can]) :
    area (doBusOn s ch) p = area s p := by
  unfold doBusOn
  try dsimp only
  repeat' first
    | with_reducible rfl
    | with_reducible refine area_ite ?_ ?_
    | with_reducible refine area_dite (fun _ => ?_) (fun _ => ?_)
    | with_reducible refine (State.reoffer_area _ _ _ (notMem_of_sub h (by decide))).trans ?_
    | with_reducible refine (State.modCan_area _ _ _ (notMem_of_sub h (by decide))).trans ?_
    | with_reducible refine (State.record_area _ _ _ _ _ _ (notMem_of_sub h (by decide))).trans ?_

end Sys2Proof.Machine
end

