-- ==== Sys2Proof/Laws/AreaCapture.lean ====
section
/-!
SUPPORT. Which areas of the state each operation of Capture.lean may change.
-/

namespace Sys2Proof.Machine

open Sys2Proof

theorem State.sealWin_area (s : State) (k : Fin 24) (w : Fin 8) (close : Nat) (old : Bool) (samples : List Sample) {p : Area} (h : p ∉ [Area.cap]) :
    area (State.sealWin s k w close old samples) p = area s p := by
  unfold State.sealWin
  try dsimp only
  repeat' first
    | with_reducible rfl
    | with_reducible refine area_ite ?_ ?_
    | with_reducible refine area_dite (fun _ => ?_) (fun _ => ?_)
    | with_reducible refine (State.modRes_area _ _ _ _ (notMem_of_sub h (by decide))).trans ?_
    | with_reducible refine (State.modCap_area _ _ (notMem_of_sub h (by decide))).trans ?_

theorem State.afterSeal_area (s : State) (k : Fin 24) (w : Fin 8) (close : Nat) (old : Bool) (valid : Bool) {p : Area} (h : p ∉ [Area.cap, .flights]) :
    area (State.afterSeal s k w close old valid) p = area s p := by
  unfold State.afterSeal
  try dsimp only
  repeat' first
    | with_reducible rfl
    | with_reducible refine area_ite ?_ ?_
    | with_reducible refine area_dite (fun _ => ?_) (fun _ => ?_)
    | with_reducible refine (State.joinDelivery_area _ _ _ (notMem_of_sub h (by decide))).trans ?_
    | with_reducible refine (State.sendSet_area _ _ (notMem_of_sub h (by decide))).trans ?_
    | with_reducible refine (State.modCap_area _ _ (notMem_of_sub h (by decide))).trans ?_

theorem doSeal_area (s : State) (k : Fin 24) (w : Fin 8) (samples : List Sample) {p : Area} (h : p ∉ [Area.lrg, .trc, .tal, .cap, .ce, .gsc, .glk, .rng, .flog, .dcc, .chg, .thm, .flights]) :
    area (doSeal s k w samples) p = area s p := by
  unfold doSeal
  try dsimp only
  repeat' first
    | with_reducible rfl
    | with_reducible refine area_ite ?_ ?_
    | with_reducible refine area_dite (fun _ => ?_) (fun _ => ?_)
    | with_reducible refine (State.afterSeal_area _ _ _ _ _ _ (notMem_of_sub h (by decide))).trans ?_
    | with_reducible refine (State.sealWin_area _ _ _ _ _ _ (notMem_of_sub h (by decide))).trans ?_
    | with_reducible refine (State.watchRows_area _ (notMem_of_sub h (by decide))).trans ?_
    | with_reducible refine (State.sealedResult_area _ _ (notMem_of_sub h (by decide))).trans ?_
    | with_reducible refine (State.tally_area _ _ (notMem_of_sub h (by decide))).trans ?_
    | with_reducible refine (area_each _ _ _ fun _ _ => ?_).trans ?_
    | with_reducible refine (area_foldl _ (fun _ _ => ?_) _ _).trans ?_
    | dsimp only
    | split

theorem doResultCapture_area (s : State) (k : Fin 24) (w : Fin 8) {p : Area} (h : p ∉ [Area.cap]) :
    area (doResultCapture s k w) p = area s p := by
  unfold doResultCapture
  try dsimp only
  repeat' first
    | with_reducible rfl
    | with_reducible refine area_ite ?_ ?_
    | with_reducible refine area_dite (fun _ => ?_) (fun _ => ?_)
    | with_reducible refine (State.modRes_area _ _ _ _ (notMem_of_sub h (by decide))).trans ?_

theorem doRefSettled_area (s : State) (r : Fin 3) (mv : Nat) {p : Area} (h : p ∉ [Area.lrg, .trc, .tal, .cap]) :
    area (doRefSettled s r mv) p = area s p := by
  unfold doRefSettled
  try dsimp only
  repeat' first
    | with_reducible rfl
    | with_reducible refine area_ite ?_ ?_
    | with_reducible refine area_dite (fun _ => ?_) (fun _ => ?_)
    | with_reducible refine (State.modCap_area _ _ (notMem_of_sub h (by decide))).trans ?_
    | with_reducible refine (State.record_area _ _ _ _ _ _ (notMem_of_sub h (by decide))).trans ?_

theorem doRefBad_area (s : State) (mv : Nat) {p : Area} (h : p ∉ [Area.lrg, .trc, .tal, .cap, .rng]) :
    area (doRefBad s mv) p = area s p := by
  unfold doRefBad
  try dsimp only
  repeat' first
    | with_reducible rfl
    | with_reducible refine area_ite ?_ ?_
    | with_reducible refine area_dite (fun _ => ?_) (fun _ => ?_)
    | with_reducible refine (State.modCap_area _ _ (notMem_of_sub h (by decide))).trans ?_
    | with_reducible refine (State.recordReport_area _ _ _ _ _ _ _ (notMem_of_sub h (by decide))).trans ?_

theorem doRefReturn_area (s : State) {p : Area} (h : p ∉ [Area.cap]) :
    area (doRefReturn s) p = area s p := by
  unfold doRefReturn
  try dsimp only
  repeat' first
    | with_reducible rfl
    | with_reducible refine area_ite ?_ ?_
    | with_reducible refine area_dite (fun _ => ?_) (fun _ => ?_)
    | with_reducible refine (State.modCap_area _ _ (notMem_of_sub h (by decide))).trans ?_

theorem State.setFeed_area (s : State) (k : Fin 24) (f : Option (Fin 24)) {p : Area} (h : p ∉ [Area.cap]) :
    area (State.setFeed s k f) p = area s p := by
  unfold State.setFeed
  try dsimp only
  repeat' first
    | with_reducible rfl
    | with_reducible refine area_ite ?_ ?_
    | with_reducible refine area_dite (fun _ => ?_) (fun _ => ?_)
    | with_reducible refine (State.modCap_area _ _ (notMem_of_sub h (by decide))).trans ?_

theorem doCalStart_area (s : State) {p : Area} (h : p ∉ [Area.cap]) :
    area (doCalStart s) p = area s p := by
  unfold doCalStart
  try dsimp only
  repeat' first
    | with_reducible rfl
    | with_reducible refine area_ite ?_ ?_
    | with_reducible refine area_dite (fun _ => ?_) (fun _ => ?_)
    | with_reducible refine (State.setFeed_area _ _ _ (notMem_of_sub h (by decide))).trans ?_
    | with_reducible refine (State.modCap_area _ _ (notMem_of_sub h (by decide))).trans ?_
    | with_reducible refine (area_each _ _ _ fun _ _ => ?_).trans ?_
    | with_reducible refine (area_foldl _ (fun _ _ => ?_) _ _).trans ?_
    | dsimp only
    | split

theorem State.calTo_area (s : State) (st : CalStep) {p : Area} (h : p ∉ [Area.cap]) :
    area (State.calTo s st) p = area s p := by
  unfold State.calTo
  try dsimp only
  repeat' first
    | with_reducible rfl
    | with_reducible refine area_ite ?_ ?_
    | with_reducible refine area_dite (fun _ => ?_) (fun _ => ?_)
    | with_reducible refine (State.modCap_area _ _ (notMem_of_sub h (by decide))).trans ?_

theorem doOverlapEnd_area (s : State) (mc : Int) (ms : Int) {p : Area} (h : p ∉ [Area.lrg, .trc, .tal, .cap, .rng]) :
    area (doOverlapEnd s mc ms) p = area s p := by
  unfold doOverlapEnd
  try dsimp only
  repeat' first
    | with_reducible rfl
    | with_reducible refine area_ite ?_ ?_
    | with_reducible refine area_dite (fun _ => ?_) (fun _ => ?_)
    | with_reducible refine (State.calTo_area _ _ (notMem_of_sub h (by decide))).trans ?_
    | with_reducible refine (State.recordReport_area _ _ _ _ _ _ _ (notMem_of_sub h (by decide))).trans ?_
    | with_reducible refine (State.tally_area _ _ (notMem_of_sub h (by decide))).trans ?_
    | with_reducible refine (area_each _ _ _ fun _ _ => ?_).trans ?_
    | with_reducible refine (area_foldl _ (fun _ _ => ?_) _ _).trans ?_
    | dsimp only
    | split

theorem State.checkSpares_area (s : State) {p : Area} (h : p ∉ [Area.lrg, .trc, .tal, .cap, .rng]) :
    area (State.checkSpares s) p = area s p := by
  unfold State.checkSpares
  try dsimp only
  repeat' first
    | with_reducible rfl
    | with_reducible refine area_ite ?_ ?_
    | with_reducible refine area_dite (fun _ => ?_) (fun _ => ?_)
    | with_reducible refine (State.modCap_area _ _ (notMem_of_sub h (by decide))).trans ?_
    | with_reducible refine (State.recordReport_area _ _ _ _ _ _ _ (notMem_of_sub h (by decide))).trans ?_

theorem State.calOver_area (s : State) {p : Area} (h : p ∉ [Area.cap]) :
    area (State.calOver s) p = area s p := by
  unfold State.calOver
  try dsimp only
  repeat' first
    | with_reducible rfl
    | with_reducible refine area_ite ?_ ?_
    | with_reducible refine area_dite (fun _ => ?_) (fun _ => ?_)
    | with_reducible refine (State.modCap_area _ _ (notMem_of_sub h (by decide))).trans ?_

theorem doSwitchover_area (s : State) {p : Area} (h : p ∉ [Area.cap]) :
    area (doSwitchover s) p = area s p := by
  unfold doSwitchover
  try dsimp only
  repeat' first
    | with_reducible rfl
    | with_reducible refine area_ite ?_ ?_
    | with_reducible refine area_dite (fun _ => ?_) (fun _ => ?_)
    | with_reducible refine (State.calOver_area _ (notMem_of_sub h (by decide))).trans ?_
    | with_reducible refine (State.calTo_area _ _ (notMem_of_sub h (by decide))).trans ?_
    | with_reducible refine (State.setFeed_area _ _ _ (notMem_of_sub h (by decide))).trans ?_
    | with_reducible refine (area_each _ _ _ fun _ _ => ?_).trans ?_
    | with_reducible refine (area_foldl _ (fun _ _ => ?_) _ _).trans ?_
    | dsimp only
    | split

theorem State.retire_area (s : State) (c : Cal) {p : Area} (h : p ∉ [Area.lrg, .trc, .tal, .cap, .rng]) :
    area (State.retire s c) p = area s p := by
  unfold State.retire
  try dsimp only
  repeat' first
    | with_reducible rfl
    | with_reducible refine area_ite ?_ ?_
    | with_reducible refine area_dite (fun _ => ?_) (fun _ => ?_)
    | with_reducible refine (State.calOver_area _ (notMem_of_sub h (by decide))).trans ?_
    | with_reducible refine (State.checkSpares_area _ (notMem_of_sub h (by decide))).trans ?_
    | with_reducible refine (State.modCap_area _ _ (notMem_of_sub h (by decide))).trans ?_

theorem newGain_area (s : State) (mp : Int) (mm : Int) {p : Area} (h : p ∉ [Area.draws]) :
    area (newGain s mp mm).1 p = area s p := by
  unfold newGain
  try dsimp only
  repeat' first
    | with_reducible rfl
    | with_reducible refine area_ite ?_ ?_
    | with_reducible refine area_dite (fun _ => ?_) (fun _ => ?_)
    | with_reducible refine (State.draw_area _ (notMem_of_sub h (by decide))).trans ?_
    | with_reducible refine (area_each _ _ _ fun _ _ => ?_).trans ?_
    | with_reducible refine (area_foldl _ (fun _ _ => ?_) _ _).trans ?_
    | with_reducible refine area_ite_fst ?_ ?_

theorem doLevels_area (s : State) (m0 : Int) (mp : Int) (mm : Int) {p : Area} (h : p ∉ [Area.lrg, .trc, .tal, .cap, .rng, .draws]) :
    area (doLevels s m0 mp mm) p = area s p := by
  unfold doLevels
  try dsimp only
  repeat' first
    | with_reducible rfl
    | with_reducible refine area_ite ?_ ?_
    | with_reducible refine area_dite (fun _ => ?_) (fun _ => ?_)
    | with_reducible refine (newGain_area _ _ _ (notMem_of_sub h (by decide))).trans ?_
    | with_reducible refine (State.retire_area _ _ (notMem_of_sub h (by decide))).trans ?_
    | with_reducible refine (State.calOver_area _ (notMem_of_sub h (by decide))).trans ?_
    | with_reducible refine (State.calTo_area _ _ (notMem_of_sub h (by decide))).trans ?_
    | with_reducible refine (State.setFeed_area _ _ _ (notMem_of_sub h (by decide))).trans ?_
    | with_reducible refine (State.modCap_area _ _ (notMem_of_sub h (by decide))).trans ?_
    | with_reducible refine (State.recordReport_area _ _ _ _ _ _ _ (notMem_of_sub h (by decide))).trans ?_
    | with_reducible refine (State.record_area _ _ _ _ _ _ (notMem_of_sub h (by decide))).trans ?_
    | with_reducible refine (State.tally_area _ _ (notMem_of_sub h (by decide))).trans ?_
    | with_reducible refine (area_each _ _ _ fun _ _ => ?_).trans ?_
    | with_reducible refine (area_foldl _ (fun _ _ => ?_) _ _).trans ?_
    | with_reducible refine area_ite_fst ?_ ?_
    | dsimp only
    | split

theorem doReturnOverlap_area (s : State) (mc : Int) (ms : Int) {p : Area} (h : p ∉ [Area.lrg, .trc, .tal, .cap, .rng]) :
    area (doReturnOverlap s mc ms) p = area s p := by
  unfold doReturnOverlap
  try dsimp only
  repeat' first
    | with_reducible rfl
    | with_reducible refine area_ite ?_ ?_
    | with_reducible refine area_dite (fun _ => ?_) (fun _ => ?_)
    | with_reducible refine (State.retire_area _ _ (notMem_of_sub h (by decide))).trans ?_
    | with_reducible refine (State.calTo_area _ _ (notMem_of_sub h (by decide))).trans ?_
    | with_reducible refine (State.recordReport_area _ _ _ _ _ _ _ (notMem_of_sub h (by decide))).trans ?_
    | with_reducible refine (State.tally_area _ _ (notMem_of_sub h (by decide))).trans ?_
    | with_reducible refine (area_each _ _ _ fun _ _ => ?_).trans ?_
    | with_reducible refine (area_foldl _ (fun _ _ => ?_) _ _).trans ?_
    | dsimp only
    | split

end Sys2Proof.Machine
end

