-- ==== Sys2Proof/Laws/AreaCharger.lean ====
section
/-!
SUPPORT. Which areas of the state each operation of Charger.lean may change.
-/

namespace Sys2Proof.Machine

open Sys2Proof

theorem doPilotCycle_area (s : State) (vh : Int) (vl : Int) (period : Nat) (duty : Nat) {p : Area} (h : p ∉ [Area.lrg, .trc, .tal, .gsc, .glk, .red, .obc, .chg, .emitted]) :
    area (doPilotCycle s vh vl period duty) p = area s p := by
  unfold doPilotCycle
  try dsimp only
  repeat' first
    | with_reducible rfl
    | with_reducible refine area_ite ?_ ?_
    | with_reducible refine area_dite (fun _ => ?_) (fun _ => ?_)
    | with_reducible refine (State.acceptPilot_area _ _ (notMem_of_sub h (by decide))).trans ?_
    | with_reducible refine (State.modChg_area _ _ (notMem_of_sub h (by decide))).trans ?_
    | with_reducible refine (area_each _ _ _ fun _ _ => ?_).trans ?_
    | with_reducible refine (area_foldl _ (fun _ _ => ?_) _ _).trans ?_
    | dsimp only
    | split

theorem doPp_area (s : State) (ohms : Nat) {p : Area} (h : p ∉ [Area.lrg, .trc, .tal, .gsc, .glk, .red, .obc, .chg, .emitted]) :
    area (doPp s ohms) p = area s p := by
  unfold doPp
  try dsimp only
  repeat' first
    | with_reducible rfl
    | with_reducible refine area_ite ?_ ?_
    | with_reducible refine area_dite (fun _ => ?_) (fun _ => ?_)
    | with_reducible refine (State.acceptCable_area _ _ (notMem_of_sub h (by decide))).trans ?_
    | with_reducible refine (State.modChg_area _ _ (notMem_of_sub h (by decide))).trans ?_

theorem doIinLimit_area (s : State) {p : Area} (h : p ∉ [Area.obc]) :
    area (doIinLimit s) p = area s p := by
  unfold doIinLimit
  try dsimp only
  repeat' first
    | with_reducible rfl
    | with_reducible refine area_ite ?_ ?_
    | with_reducible refine area_dite (fun _ => ?_) (fun _ => ?_)
    | with_reducible refine (State.modObc_area _ _ (notMem_of_sub h (by decide))).trans ?_

theorem doQualified_area (s : State) {p : Area} (h : p ∉ [Area.chg]) :
    area (doQualified s) p = area s p := by
  unfold doQualified
  try dsimp only
  repeat' first
    | with_reducible rfl
    | with_reducible refine area_ite ?_ ?_
    | with_reducible refine area_dite (fun _ => ?_) (fun _ => ?_)
    | with_reducible refine (State.modChg_area _ _ (notMem_of_sub h (by decide))).trans ?_

theorem State.addTimer_area (s : State) {p : Area} (h : p ∉ [Area.chg]) :
    area (State.addTimer s) p = area s p := by
  unfold State.addTimer
  try dsimp only
  repeat' first
    | with_reducible rfl
    | with_reducible refine area_ite ?_ ?_
    | with_reducible refine area_dite (fun _ => ?_) (fun _ => ?_)
    | with_reducible refine (State.modChg_area _ _ (notMem_of_sub h (by decide))).trans ?_

theorem State.supervise_area (s : State) {p : Area} (h : p ∉ [Area.lrg, .trc, .tal, .gsc, .glk, .red, .obc, .chg, .emitted]) :
    area (State.supervise s) p = area s p := by
  unfold State.supervise
  try dsimp only
  repeat' first
    | with_reducible rfl
    | with_reducible refine area_ite ?_ ?_
    | with_reducible refine area_dite (fun _ => ?_) (fun _ => ?_)
    | with_reducible refine (State.inletFault_area _ (notMem_of_sub h (by decide))).trans ?_
    | with_reducible refine (State.chgExit_area _ (notMem_of_sub h (by decide))).trans ?_
    | with_reducible refine (State.chgTo_area _ _ (notMem_of_sub h (by decide))).trans ?_
    | with_reducible refine (area_each _ _ _ fun _ _ => ?_).trans ?_
    | with_reducible refine (area_foldl _ (fun _ _ => ?_) _ _).trans ?_
    | dsimp only
    | split

theorem State.handTick_area (s : State) {p : Area} (h : p ∉ [Area.obc, .chg]) :
    area (State.handTick s) p = area s p := by
  unfold State.handTick
  try dsimp only
  repeat' first
    | with_reducible rfl
    | with_reducible refine area_ite ?_ ?_
    | with_reducible refine area_dite (fun _ => ?_) (fun _ => ?_)
    | with_reducible refine (State.modObc_area _ _ (notMem_of_sub h (by decide))).trans ?_
    | with_reducible refine (State.modChg_area _ _ (notMem_of_sub h (by decide))).trans ?_
    | with_reducible refine (area_each _ _ _ fun _ _ => ?_).trans ?_
    | with_reducible refine (area_foldl _ (fun _ _ => ?_) _ _).trans ?_
    | dsimp only
    | split

theorem doEvaluation_area (s : State) {p : Area} (h : p ∉ [Area.lrg, .trc, .tal, .gsc, .glk, .red, .obc, .chg, .emitted]) :
    area (doEvaluation s) p = area s p := by
  unfold doEvaluation
  try dsimp only
  repeat' first
    | with_reducible rfl
    | with_reducible refine area_ite ?_ ?_
    | with_reducible refine area_dite (fun _ => ?_) (fun _ => ?_)
    | with_reducible refine (State.handTick_area _ (notMem_of_sub h (by decide))).trans ?_
    | with_reducible refine (State.supervise_area _ (notMem_of_sub h (by decide))).trans ?_
    | with_reducible refine (State.addTimer_area _ (notMem_of_sub h (by decide))).trans ?_
    | with_reducible refine (State.setBand_area _ _ (notMem_of_sub h (by decide))).trans ?_
    | with_reducible refine (State.setSetpoints_area _ (notMem_of_sub h (by decide))).trans ?_

theorem doTempStale_area (s : State) {p : Area} (h : p ∉ [Area.lrg, .trc, .tal, .chg]) :
    area (doTempStale s) p = area s p := by
  unfold doTempStale
  try dsimp only
  repeat' first
    | with_reducible rfl
    | with_reducible refine area_ite ?_ ?_
    | with_reducible refine area_dite (fun _ => ?_) (fun _ => ?_)
    | with_reducible refine (State.setBand_area _ _ (notMem_of_sub h (by decide))).trans ?_

theorem doObcInput_area (s : State) {p : Area} (h : p ∉ [Area.sys, .lrg, .trc, .tal, .ce, .rng, .obc]) :
    area (doObcInput s) p = area s p := by
  unfold doObcInput
  try dsimp only
  repeat' first
    | with_reducible rfl
    | with_reducible refine area_ite ?_ ?_
    | with_reducible refine area_dite (fun _ => ?_) (fun _ => ?_)
    | with_reducible refine (State.writeObc_area _ (notMem_of_sub h (by decide))).trans ?_

theorem doTimerExpiry_area (s : State) {p : Area} (h : p ∉ [Area.lrg, .trc, .tal, .gsc, .glk, .red, .obc, .chg, .emitted]) :
    area (doTimerExpiry s) p = area s p := by
  unfold doTimerExpiry
  try dsimp only
  repeat' first
    | with_reducible rfl
    | with_reducible refine area_ite ?_ ?_
    | with_reducible refine area_dite (fun _ => ?_) (fun _ => ?_)
    | with_reducible refine (State.handOver_area _ _ (notMem_of_sub h (by decide))).trans ?_
    | with_reducible refine (State.modChg_area _ _ (notMem_of_sub h (by decide))).trans ?_

theorem doWaitTimeout_area (s : State) {p : Area} (h : p ∉ [Area.lrg, .trc, .tal, .gsc, .glk, .red, .obc, .chg, .emitted]) :
    area (doWaitTimeout s) p = area s p := by
  unfold doWaitTimeout
  try dsimp only
  repeat' first
    | with_reducible rfl
    | with_reducible refine area_ite ?_ ?_
    | with_reducible refine area_dite (fun _ => ?_) (fun _ => ?_)
    | with_reducible refine (State.handOver_area _ _ (notMem_of_sub h (by decide))).trans ?_

theorem doPrecondTimeout_area (s : State) {p : Area} (h : p ∉ [Area.lrg, .trc, .tal, .gsc, .glk, .red, .obc, .chg, .emitted]) :
    area (doPrecondTimeout s) p = area s p := by
  unfold doPrecondTimeout
  try dsimp only
  repeat' first
    | with_reducible rfl
    | with_reducible refine area_ite ?_ ?_
    | with_reducible refine area_dite (fun _ => ?_) (fun _ => ?_)
    | with_reducible refine (State.handOver_area _ _ (notMem_of_sub h (by decide))).trans ?_

theorem doNoSupply_area (s : State) {p : Area} (h : p ∉ [Area.lrg, .trc, .tal, .gsc, .glk, .red, .obc, .chg, .emitted]) :
    area (doNoSupply s) p = area s p := by
  unfold doNoSupply
  try dsimp only
  repeat' first
    | with_reducible rfl
    | with_reducible refine area_ite ?_ ?_
    | with_reducible refine area_dite (fun _ => ?_) (fun _ => ?_)
    | with_reducible refine (State.handOver_area _ _ (notMem_of_sub h (by decide))).trans ?_

theorem doCvEntry_area (s : State) {p : Area} (h : p ∉ [Area.lrg, .trc, .tal, .glk, .red, .obc, .chg]) :
    area (doCvEntry s) p = area s p := by
  unfold doCvEntry
  try dsimp only
  repeat' first
    | with_reducible rfl
    | with_reducible refine area_ite ?_ ?_
    | with_reducible refine area_dite (fun _ => ?_) (fun _ => ?_)
    | with_reducible refine (State.chgTo_area _ _ (notMem_of_sub h (by decide))).trans ?_
    | with_reducible refine (area_each _ _ _ fun _ _ => ?_).trans ?_
    | with_reducible refine (area_foldl _ (fun _ _ => ?_) _ _).trans ?_
    | dsimp only
    | split

theorem doTermHold_area (s : State) {p : Area} (h : p ∉ [Area.lrg, .trc, .tal, .gsc, .glk, .red, .obc, .chg, .emitted]) :
    area (doTermHold s) p = area s p := by
  unfold doTermHold
  try dsimp only
  repeat' first
    | with_reducible rfl
    | with_reducible refine area_ite ?_ ?_
    | with_reducible refine area_dite (fun _ => ?_) (fun _ => ?_)
    | with_reducible refine (State.handOver_area _ _ (notMem_of_sub h (by decide))).trans ?_
    | with_reducible refine (State.chgTo_area _ _ (notMem_of_sub h (by decide))).trans ?_
    | with_reducible refine (area_each _ _ _ fun _ _ => ?_).trans ?_
    | with_reducible refine (area_foldl _ (fun _ _ => ?_) _ _).trans ?_
    | dsimp only
    | split

theorem doTopoff_area (s : State) {p : Area} (h : p ∉ [Area.lrg, .trc, .tal, .gsc, .glk, .red, .obc, .chg, .emitted]) :
    area (doTopoff s) p = area s p := by
  unfold doTopoff
  try dsimp only
  repeat' first
    | with_reducible rfl
    | with_reducible refine area_ite ?_ ?_
    | with_reducible refine area_dite (fun _ => ?_) (fun _ => ?_)
    | with_reducible refine (State.handOver_area _ _ (notMem_of_sub h (by decide))).trans ?_

theorem doRecharge_area (s : State) {p : Area} (h : p ∉ [Area.lrg, .trc, .tal, .glk, .red, .obc, .chg]) :
    area (doRecharge s) p = area s p := by
  unfold doRecharge
  try dsimp only
  repeat' first
    | with_reducible rfl
    | with_reducible refine area_ite ?_ ?_
    | with_reducible refine area_dite (fun _ => ?_) (fun _ => ?_)
    | with_reducible refine (State.chgTo_area _ _ (notMem_of_sub h (by decide))).trans ?_
    | with_reducible refine (State.record_area _ _ _ _ _ _ (notMem_of_sub h (by decide))).trans ?_
    | with_reducible refine (State.tally_area _ _ (notMem_of_sub h (by decide))).trans ?_
    | with_reducible refine (area_each _ _ _ fun _ _ => ?_).trans ?_
    | with_reducible refine (area_foldl _ (fun _ _ => ?_) _ _).trans ?_
    | dsimp only
    | split

theorem doRampEnd_area (s : State) {p : Area} (h : p ∉ [Area.lrg, .trc, .tal, .gsc, .glk, .red, .obc, .chg, .emitted]) :
    area (doRampEnd s) p = area s p := by
  unfold doRampEnd
  try dsimp only
  repeat' first
    | with_reducible rfl
    | with_reducible refine area_ite ?_ ?_
    | with_reducible refine area_dite (fun _ => ?_) (fun _ => ?_)
    | with_reducible refine (State.handRelease_area _ (notMem_of_sub h (by decide))).trans ?_

theorem doHandoverDone_area (s : State) {p : Area} (h : p ∉ [Area.lrg, .trc, .tal, .pba, .cap, .ce, .trx, .gsc, .glk, .psp, .rng, .sbc, .red, .dcc, .obc, .chg, .axb, .emitted]) :
    area (doHandoverDone s) p = area s p := by
  unfold doHandoverDone
  try dsimp only
  repeat' first
    | with_reducible rfl
    | with_reducible refine area_ite ?_ ?_
    | with_reducible refine area_dite (fun _ => ?_) (fun _ => ?_)
    | with_reducible refine (State.setMode_area _ _ _ (notMem_of_sub h (by decide))).trans ?_
    | with_reducible refine (State.chgTo_area _ _ (notMem_of_sub h (by decide))).trans ?_
    | with_reducible refine (State.modChg_area _ _ (notMem_of_sub h (by decide))).trans ?_
    | with_reducible refine (State.record_area _ _ _ _ _ _ (notMem_of_sub h (by decide))).trans ?_

end Sys2Proof.Machine
end

