-- ==== Sys2Proof/Laws/AreaConverter.lean ====
section
/-!
SUPPORT. Which areas of the state each operation of Converter.lean may change.
-/

namespace Sys2Proof.Machine

open Sys2Proof

theorem doTurnOn_area (s : State) (p0 : Fin 2) (cur : Word24) {p : Area} (h : p ∉ [Area.lrg, .trc, .tal, .cap, .ce, .gsc, .glk, .dcc]) :
    area (doTurnOn s p0 cur) p = area s p := by
  unfold doTurnOn
  try dsimp only
  repeat' first
    | with_reducible rfl
    | with_reducible refine area_ite ?_ ?_
    | with_reducible refine area_dite (fun _ => ?_) (fun _ => ?_)
    | with_reducible refine (State.dccTurn_area _ _ _ _ (notMem_of_sub h (by decide))).trans ?_
    | with_reducible refine (State.modPhase_area _ _ _ (notMem_of_sub h (by decide))).trans ?_
    | with_reducible refine (State.tally_area _ _ (notMem_of_sub h (by decide))).trans ?_
    | with_reducible refine (area_each _ _ _ fun _ _ => ?_).trans ?_
    | with_reducible refine (area_foldl _ (fun _ _ => ?_) _ _).trans ?_
    | dsimp only
    | split

theorem State.dccTurnOff_area (s : State) (p0 : Fin 2) (stamp : Nat) (maxed : Bool) (cycles : Nat) {p : Area} (h : p ∉ [Area.lrg, .trc, .tal, .cap, .ce, .gsc, .glk, .dcc]) :
    area (State.dccTurnOff s p0 stamp maxed cycles) p = area s p := by
  unfold State.dccTurnOff
  try dsimp only
  repeat' first
    | with_reducible rfl
    | with_reducible refine area_ite ?_ ?_
    | with_reducible refine area_dite (fun _ => ?_) (fun _ => ?_)
    | with_reducible refine (State.dccTurn_area _ _ _ _ (notMem_of_sub h (by decide))).trans ?_
    | with_reducible refine (State.modPhase_area _ _ _ (notMem_of_sub h (by decide))).trans ?_

theorem doPeakTrip_area (s : State) (p0 : Fin 2) {p : Area} (h : p ∉ [Area.lrg, .trc, .tal, .cap, .ce, .gsc, .glk, .dcc]) :
    area (doPeakTrip s p0) p = area s p := by
  unfold doPeakTrip
  try dsimp only
  repeat' first
    | with_reducible rfl
    | with_reducible refine area_ite ?_ ?_
    | with_reducible refine area_dite (fun _ => ?_) (fun _ => ?_)
    | with_reducible refine (State.dccTurnOff_area _ _ _ _ _ (notMem_of_sub h (by decide))).trans ?_
    | with_reducible refine (State.modPhase_area _ _ _ (notMem_of_sub h (by decide))).trans ?_
    | with_reducible refine (State.modDcc_area _ _ (notMem_of_sub h (by decide))).trans ?_
    | with_reducible refine (State.tally_area _ _ (notMem_of_sub h (by decide))).trans ?_
    | with_reducible refine (area_each _ _ _ fun _ _ => ?_).trans ?_
    | with_reducible refine (area_foldl _ (fun _ _ => ?_) _ _).trans ?_
    | dsimp only
    | split

theorem doTmax_area (s : State) (p0 : Fin 2) {p : Area} (h : p ∉ [Area.lrg, .trc, .tal, .cap, .ce, .gsc, .glk, .dcc]) :
    area (doTmax s p0) p = area s p := by
  unfold doTmax
  try dsimp only
  repeat' first
    | with_reducible rfl
    | with_reducible refine area_ite ?_ ?_
    | with_reducible refine area_dite (fun _ => ?_) (fun _ => ?_)
    | with_reducible refine (State.dccTurnOff_area _ _ _ _ _ (notMem_of_sub h (by decide))).trans ?_
    | with_reducible refine (area_each _ _ _ fun _ _ => ?_).trans ?_
    | with_reducible refine (area_foldl _ (fun _ _ => ?_) _ _).trans ?_
    | dsimp only
    | split

theorem State.syncLapse_area (s : State) {p : Area} (h : p ∉ [Area.lrg, .trc, .tal, .dcc]) :
    area (State.syncLapse s) p = area s p := by
  unfold State.syncLapse
  try dsimp only
  repeat' first
    | with_reducible rfl
    | with_reducible refine area_ite ?_ ?_
    | with_reducible refine area_dite (fun _ => ?_) (fun _ => ?_)
    | with_reducible refine (State.modDcc_area _ _ (notMem_of_sub h (by decide))).trans ?_
    | with_reducible refine (State.record_area _ _ _ _ _ _ (notMem_of_sub h (by decide))).trans ?_
    | with_reducible refine (State.tally_area _ _ (notMem_of_sub h (by decide))).trans ?_
    | with_reducible refine (area_each _ _ _ fun _ _ => ?_).trans ?_
    | with_reducible refine (area_foldl _ (fun _ _ => ?_) _ _).trans ?_
    | dsimp only
    | split

theorem doSyncIn_area (s : State) {p : Area} (h : p ∉ [Area.lrg, .trc, .tal, .dcc]) :
    area (doSyncIn s) p = area s p := by
  unfold doSyncIn
  try dsimp only
  repeat' first
    | with_reducible rfl
    | with_reducible refine area_ite ?_ ?_
    | with_reducible refine area_dite (fun _ => ?_) (fun _ => ?_)
    | with_reducible refine (State.syncLapse_area _ (notMem_of_sub h (by decide))).trans ?_
    | with_reducible refine (State.modDcc_area _ _ (notMem_of_sub h (by decide))).trans ?_
    | with_reducible refine (State.record_area _ _ _ _ _ _ (notMem_of_sub h (by decide))).trans ?_
    | with_reducible refine (area_each _ _ _ fun _ _ => ?_).trans ?_
    | with_reducible refine (area_foldl _ (fun _ _ => ?_) _ _).trans ?_
    | dsimp only
    | split

theorem doSyncLost_area (s : State) {p : Area} (h : p ∉ [Area.lrg, .trc, .tal, .dcc]) :
    area (doSyncLost s) p = area s p := by
  unfold doSyncLost
  try dsimp only
  repeat' first
    | with_reducible rfl
    | with_reducible refine area_ite ?_ ?_
    | with_reducible refine area_dite (fun _ => ?_) (fun _ => ?_)
    | with_reducible refine (State.syncLapse_area _ (notMem_of_sub h (by decide))).trans ?_

theorem doVrefSlew_area (s : State) {p : Area} (h : p ∉ [Area.dcc]) :
    area (doVrefSlew s) p = area s p := by
  unfold doVrefSlew
  try dsimp only
  repeat' first
    | with_reducible rfl
    | with_reducible refine area_ite ?_ ?_
    | with_reducible refine area_dite (fun _ => ?_) (fun _ => ?_)
    | with_reducible refine (State.slewStep_area _ (notMem_of_sub h (by decide))).trans ?_

theorem doRetryExpiry_area (s : State) {p : Area} (h : p ∉ [Area.dcc]) :
    area (doRetryExpiry s) p = area s p := by
  unfold doRetryExpiry
  try dsimp only
  repeat' first
    | with_reducible rfl
    | with_reducible refine area_ite ?_ ?_
    | with_reducible refine area_dite (fun _ => ?_) (fun _ => ?_)
    | with_reducible refine (State.softStart_area _ _ _ (notMem_of_sub h (by decide))).trans ?_

theorem doSyncOut_area (s : State) (v : Bool) {p : Area} (h : p ∉ [Area.dcc]) :
    area (doSyncOut s v) p = area s p := by
  unfold doSyncOut
  try dsimp only
  repeat' first
    | with_reducible rfl
    | with_reducible refine area_ite ?_ ?_
    | with_reducible refine area_dite (fun _ => ?_) (fun _ => ?_)
    | with_reducible refine (State.modDcc_area _ _ (notMem_of_sub h (by decide))).trans ?_

end Sys2Proof.Machine
end

