-- ==== Sys2Proof/Laws/AreaHousekeeping.lean ====
section
/-!
SUPPORT. Which areas of the state each operation of Housekeeping.lean may change.
-/

namespace Sys2Proof.Machine

open Sys2Proof

theorem State.modHka_area (s : State) (f : Hka → Hka) {p : Area} (h : p ∉ [Area.hka]) :
    area (State.modHka s f) p = area s p := by
  unfold State.modHka
  try dsimp only
  repeat' first
    | with_reducible rfl
    | with_reducible refine area_ite ?_ ?_
    | with_reducible refine area_dite (fun _ => ?_) (fun _ => ?_)
    | with_reducible refine (area_each _ _ _ fun _ _ => ?_).trans ?_
    | with_reducible refine (area_foldl _ (fun _ _ => ?_) _ _).trans ?_
    | dsimp only
    | split
    | with_reducible refine (area_hka h (by decide)).trans ?_

theorem State.modModel_area (s : State) (m : Fin 3) (f : Model → Model) {p : Area} (h : p ∉ [Area.thm]) :
    area (State.modModel s m f) p = area s p := by
  unfold State.modModel
  try dsimp only
  repeat' first
    | with_reducible rfl
    | with_reducible refine area_ite ?_ ?_
    | with_reducible refine area_dite (fun _ => ?_) (fun _ => ?_)
    | with_reducible refine (area_each _ _ _ fun _ _ => ?_).trans ?_
    | with_reducible refine (area_foldl _ (fun _ _ => ?_) _ _).trans ?_
    | dsimp only
    | split
    | with_reducible refine (area_thm h (by decide)).trans ?_

theorem State.startLoop_area (s : State) {p : Area} (h : p ∉ [Area.hka]) :
    area (State.startLoop s) p = area s p := by
  unfold State.startLoop
  try dsimp only
  repeat' first
    | with_reducible rfl
    | with_reducible refine area_ite ?_ ?_
    | with_reducible refine area_dite (fun _ => ?_) (fun _ => ?_)
    | with_reducible refine (State.modHka_area _ _ (notMem_of_sub h (by decide))).trans ?_
    | with_reducible refine (area_each _ _ _ fun _ _ => ?_).trans ?_
    | with_reducible refine (area_foldl _ (fun _ _ => ?_) _ _).trans ?_
    | dsimp only
    | split

theorem doLoopStart_area (s : State) {p : Area} (h : p ∉ [Area.lrg, .trc, .tal, .hka]) :
    area (doLoopStart s) p = area s p := by
  unfold doLoopStart
  try dsimp only
  repeat' first
    | with_reducible rfl
    | with_reducible refine area_ite ?_ ?_
    | with_reducible refine area_dite (fun _ => ?_) (fun _ => ?_)
    | with_reducible refine (State.startLoop_area _ (notMem_of_sub h (by decide))).trans ?_
    | with_reducible refine (State.modHka_area _ _ (notMem_of_sub h (by decide))).trans ?_
    | with_reducible refine (State.record_area _ _ _ _ _ _ (notMem_of_sub h (by decide))).trans ?_
    | with_reducible refine (State.tally_area _ _ (notMem_of_sub h (by decide))).trans ?_

theorem State.endLoop_area (s : State) {p : Area} (h : p ∉ [Area.hka]) :
    area (State.endLoop s) p = area s p := by
  unfold State.endLoop
  try dsimp only
  repeat' first
    | with_reducible rfl
    | with_reducible refine area_ite ?_ ?_
    | with_reducible refine area_dite (fun _ => ?_) (fun _ => ?_)
    | with_reducible refine (State.startLoop_area _ (notMem_of_sub h (by decide))).trans ?_
    | with_reducible refine (State.modHka_area _ _ (notMem_of_sub h (by decide))).trans ?_

theorem State.beginConv_area (s : State) (kind : HkKind) (input : Nat) (ref : Bool) (aperture : Nat) {p : Area} (h : p ∉ [Area.hka]) :
    area (State.beginConv s kind input ref aperture) p = area s p := by
  unfold State.beginConv
  try dsimp only
  repeat' first
    | with_reducible rfl
    | with_reducible refine area_ite ?_ ?_
    | with_reducible refine area_dite (fun _ => ?_) (fun _ => ?_)
    | with_reducible refine (State.modHka_area _ _ (notMem_of_sub h (by decide))).trans ?_

theorem State.beginSensor_area (s : State) {p : Area} (h : p ∉ [Area.hka]) :
    area (State.beginSensor s) p = area s p := by
  unfold State.beginSensor
  try dsimp only
  repeat' first
    | with_reducible rfl
    | with_reducible refine area_ite ?_ ?_
    | with_reducible refine area_dite (fun _ => ?_) (fun _ => ?_)
    | with_reducible refine (State.beginConv_area _ _ _ _ _ (notMem_of_sub h (by decide))).trans ?_

theorem doAperture_area (s : State) {p : Area} (h : p ∉ [Area.hka]) :
    area (doAperture s) p = area s p := by
  unfold doAperture
  try dsimp only
  repeat' first
    | with_reducible rfl
    | with_reducible refine area_ite ?_ ?_
    | with_reducible refine area_dite (fun _ => ?_) (fun _ => ?_)
    | with_reducible refine (State.beginSensor_area _ (notMem_of_sub h (by decide))).trans ?_
    | with_reducible refine (State.beginConv_area _ _ _ _ _ (notMem_of_sub h (by decide))).trans ?_
    | with_reducible refine (State.modHka_area _ _ (notMem_of_sub h (by decide))).trans ?_
    | with_reducible refine (area_each _ _ _ fun _ _ => ?_).trans ?_
    | with_reducible refine (area_foldl _ (fun _ _ => ?_) _ _).trans ?_
    | dsimp only
    | split

theorem doIdleSensor_area (s : State) {p : Area} (h : p ∉ [Area.hka]) :
    area (doIdleSensor s) p = area s p := by
  unfold doIdleSensor
  try dsimp only
  repeat' first
    | with_reducible rfl
    | with_reducible refine area_ite ?_ ?_
    | with_reducible refine area_dite (fun _ => ?_) (fun _ => ?_)
    | with_reducible refine (State.beginSensor_area _ (notMem_of_sub h (by decide))).trans ?_

theorem State.entryEnds_area (s : State) (e : Fin 64) (c : HkConv) (code : Nat) {p : Area} (h : p ∉ [Area.hka]) :
    area (State.entryEnds s e c code) p = area s p := by
  unfold State.entryEnds
  try dsimp only
  repeat' first
    | with_reducible rfl
    | with_reducible refine area_ite ?_ ?_
    | with_reducible refine area_dite (fun _ => ?_) (fun _ => ?_)
    | with_reducible refine (State.endLoop_area _ (notMem_of_sub h (by decide))).trans ?_
    | with_reducible refine (State.modHka_area _ _ (notMem_of_sub h (by decide))).trans ?_
    | with_reducible refine (area_each _ _ _ fun _ _ => ?_).trans ?_
    | with_reducible refine (area_foldl _ (fun _ _ => ?_) _ _).trans ?_
    | dsimp only
    | split

theorem State.urgentEnds_area (s : State) (b : Fin 3) (v : Bool) (code : Nat) {p : Area} (h : p ∉ [Area.axb]) :
    area (State.urgentEnds s b v code) p = area s p := by
  unfold State.urgentEnds
  try dsimp only
  repeat' first
    | with_reducible rfl
    | with_reducible refine area_ite ?_ ?_
    | with_reducible refine area_dite (fun _ => ?_) (fun _ => ?_)
    | with_reducible refine (State.modAxb_area _ _ _ (notMem_of_sub h (by decide))).trans ?_

theorem State.dieWarn_area (s : State) (i : Fin 14) {p : Area} (h : p ∉ [Area.lrg, .trc, .tal, .rng, .thm]) :
    area (State.dieWarn s i) p = area s p := by
  unfold State.dieWarn
  try dsimp only
  repeat' first
    | with_reducible rfl
    | with_reducible refine area_ite ?_ ?_
    | with_reducible refine area_dite (fun _ => ?_) (fun _ => ?_)
    | with_reducible refine (State.recordReport_area _ _ _ _ _ _ _ (notMem_of_sub h (by decide))).trans ?_
    | with_reducible refine (State.record_area _ _ _ _ _ _ (notMem_of_sub h (by decide))).trans ?_
    | with_reducible refine (State.tally_area _ _ (notMem_of_sub h (by decide))).trans ?_
    | with_reducible refine (area_each _ _ _ fun _ _ => ?_).trans ?_
    | with_reducible refine (area_foldl _ (fun _ _ => ?_) _ _).trans ?_
    | dsimp only
    | split
    | with_reducible refine (area_thm h (by decide)).trans ?_

theorem State.sensorEnds_area (s : State) (i : Fin 14) (code : Nat) {p : Area} (h : p ∉ [Area.lrg, .trc, .tal, .rng, .hka, .thm]) :
    area (State.sensorEnds s i code) p = area s p := by
  unfold State.sensorEnds
  try dsimp only
  repeat' first
    | with_reducible rfl
    | with_reducible refine area_ite ?_ ?_
    | with_reducible refine area_dite (fun _ => ?_) (fun _ => ?_)
    | with_reducible refine (State.dieWarn_area _ _ (notMem_of_sub h (by decide))).trans ?_
    | with_reducible refine (State.modHka_area _ _ (notMem_of_sub h (by decide))).trans ?_
    | with_reducible refine (area_each _ _ _ fun _ _ => ?_).trans ?_
    | with_reducible refine (area_foldl _ (fun _ _ => ?_) _ _).trans ?_
    | dsimp only
    | split
    | with_reducible refine (area_thm h (by decide)).trans ?_

theorem doConversionEnd_area (s : State) (code : Nat) {p : Area} (h : p ∉ [Area.lrg, .trc, .tal, .rng, .hka, .thm, .axb]) :
    area (doConversionEnd s code) p = area s p := by
  unfold doConversionEnd
  try dsimp only
  repeat' first
    | with_reducible rfl
    | with_reducible refine area_ite ?_ ?_
    | with_reducible refine area_dite (fun _ => ?_) (fun _ => ?_)
    | with_reducible refine (State.sensorEnds_area _ _ _ (notMem_of_sub h (by decide))).trans ?_
    | with_reducible refine (State.urgentEnds_area _ _ _ _ (notMem_of_sub h (by decide))).trans ?_
    | with_reducible refine (State.entryEnds_area _ _ _ _ (notMem_of_sub h (by decide))).trans ?_
    | with_reducible refine (State.modHka_area _ _ (notMem_of_sub h (by decide))).trans ?_
    | with_reducible refine (area_each _ _ _ fun _ _ => ?_).trans ?_
    | with_reducible refine (area_foldl _ (fun _ _ => ?_) _ _).trans ?_
    | dsimp only
    | split

theorem doHkaCapture_area (s : State) (i : Fin 48) {p : Area} (h : p ∉ [Area.hka]) :
    area (doHkaCapture s i) p = area s p := by
  unfold doHkaCapture
  try dsimp only
  repeat' first
    | with_reducible rfl
    | with_reducible refine area_ite ?_ ?_
    | with_reducible refine area_dite (fun _ => ?_) (fun _ => ?_)
    | with_reducible refine (State.modHka_area _ _ (notMem_of_sub h (by decide))).trans ?_

theorem State.hotCheck_area (s : State) (m : Fin 3) {p : Area} (h : p ∉ [Area.lrg, .trc, .tal, .rng, .thm]) :
    area (State.hotCheck s m) p = area s p := by
  unfold State.hotCheck
  try dsimp only
  repeat' first
    | with_reducible rfl
    | with_reducible refine area_ite ?_ ?_
    | with_reducible refine area_dite (fun _ => ?_) (fun _ => ?_)
    | with_reducible refine (State.modModel_area _ _ _ (notMem_of_sub h (by decide))).trans ?_
    | with_reducible refine (State.recordReport_area _ _ _ _ _ _ _ (notMem_of_sub h (by decide))).trans ?_
    | with_reducible refine (State.record_area _ _ _ _ _ _ (notMem_of_sub h (by decide))).trans ?_
    | with_reducible refine (State.tally_area _ _ (notMem_of_sub h (by decide))).trans ?_

theorem State.modelStep_area (s : State) (m : Fin 3) {p : Area} (h : p ∉ [Area.lrg, .trc, .tal, .rng, .thm]) :
    area (State.modelStep s m) p = area s p := by
  unfold State.modelStep
  try dsimp only
  repeat' first
    | with_reducible rfl
    | with_reducible refine area_ite ?_ ?_
    | with_reducible refine area_dite (fun _ => ?_) (fun _ => ?_)
    | with_reducible refine (State.hotCheck_area _ _ (notMem_of_sub h (by decide))).trans ?_
    | with_reducible refine (State.modModel_area _ _ _ (notMem_of_sub h (by decide))).trans ?_

theorem doModelStep_area (s : State) {p : Area} (h : p ∉ [Area.lrg, .trc, .tal, .rng, .thm]) :
    area (doModelStep s) p = area s p := by
  unfold doModelStep
  try dsimp only
  repeat' first
    | with_reducible rfl
    | with_reducible refine area_ite ?_ ?_
    | with_reducible refine area_dite (fun _ => ?_) (fun _ => ?_)
    | with_reducible refine (State.modelStep_area _ _ (notMem_of_sub h (by decide))).trans ?_
    | with_reducible refine (area_each _ _ _ fun _ _ => ?_).trans ?_

theorem doCoolStale_area (s : State) (m : Fin 3) {p : Area} (h : p ∉ [Area.lrg, .trc, .tal, .thm]) :
    area (doCoolStale s m) p = area s p := by
  unfold doCoolStale
  try dsimp only
  repeat' first
    | with_reducible rfl
    | with_reducible refine area_ite ?_ ?_
    | with_reducible refine area_dite (fun _ => ?_) (fun _ => ?_)
    | with_reducible refine (State.modModel_area _ _ _ (notMem_of_sub h (by decide))).trans ?_
    | with_reducible refine (State.record_area _ _ _ _ _ _ (notMem_of_sub h (by decide))).trans ?_
    | with_reducible refine (State.tally_area _ _ (notMem_of_sub h (by decide))).trans ?_

end Sys2Proof.Machine
end

