-- ==== Sys2Proof/Laws/AreaResetOps.lean ====
section
/-!
SUPPORT. Which areas of the state each operation of ResetOps.lean may change.
-/

namespace Sys2Proof.Machine

open Sys2Proof

theorem State.toReset_area (s : State) {p : Area} (h : p ∉ [Area.clk, .bus, .sys, .mbx, .lrg, .trc, .tal, .pba, .cap, .ce, .trx, .pos, .gsc, .glk, .psp, .rng, .sbc, .flog, .red, .dcc, .obc, .chg, .hka, .thm, .axb, .skd, .blz, .can, .boot, .regs, .mem, .flights]) :
    area (State.toReset s) p = area s p := by
  unfold State.toReset
  try dsimp only
  repeat' first
    | with_reducible rfl
    | with_reducible refine area_ite ?_ ?_
    | with_reducible refine area_dite (fun _ => ?_) (fun _ => ?_)
    | with_reducible refine (area_each _ _ _ fun _ _ => ?_).trans ?_
    | with_reducible refine (area_foldl _ (fun _ _ => ?_) _ _).trans ?_
    | dsimp only
    | split
    | with_reducible refine (area_clk h (by decide)).trans ?_
    | with_reducible refine (area_bus h (by decide)).trans ?_
    | with_reducible refine (area_sys h (by decide)).trans ?_
    | with_reducible refine (area_mbx h (by decide)).trans ?_
    | with_reducible refine (area_lrg h (by decide)).trans ?_
    | with_reducible refine (area_trc h (by decide)).trans ?_
    | with_reducible refine (area_tal h (by decide)).trans ?_
    | with_reducible refine (area_pba h (by decide)).trans ?_
    | with_reducible refine (area_cap h (by decide)).trans ?_
    | with_reducible refine (area_ce h (by decide)).trans ?_
    | with_reducible refine (area_trx h (by decide)).trans ?_
    | with_reducible refine (area_pos h (by decide)).trans ?_
    | with_reducible refine (area_gsc h (by decide)).trans ?_
    | with_reducible refine (area_glk h (by decide)).trans ?_
    | with_reducible refine (area_psp h (by decide)).trans ?_
    | with_reducible refine (area_rng h (by decide)).trans ?_
    | with_reducible refine (area_sbc h (by decide)).trans ?_
    | with_reducible refine (area_flog h (by decide)).trans ?_
    | with_reducible refine (area_red h (by decide)).trans ?_
    | with_reducible refine (area_dcc h (by decide)).trans ?_
    | with_reducible refine (area_obc h (by decide)).trans ?_
    | with_reducible refine (area_chg h (by decide)).trans ?_
    | with_reducible refine (area_hka h (by decide)).trans ?_
    | with_reducible refine (area_thm h (by decide)).trans ?_
    | with_reducible refine (area_axb h (by decide)).trans ?_
    | with_reducible refine (area_skd h (by decide)).trans ?_
    | with_reducible refine (area_blz h (by decide)).trans ?_
    | with_reducible refine (area_can h (by decide)).trans ?_
    | with_reducible refine (area_boot h (by decide)).trans ?_
    | with_reducible refine (area_regs h (by decide)).trans ?_
    | with_reducible refine (area_mem h (by decide)).trans ?_
    | with_reducible refine (area_flights h (by decide)).trans ?_
    | (cases p <;> first | exact absurd (by decide) h | rfl)

theorem State.unpowered_area (s : State) {p : Area} (h : p ∉ [Area.clk, .bus, .sys, .mbx, .lrg, .trc, .tal, .pba, .cap, .ce, .trx, .pos, .gsc, .glk, .psp, .rng, .sbc, .flog, .red, .dcc, .obc, .chg, .hka, .thm, .axb, .skd, .blz, .can, .boot, .regs, .mem, .flights]) :
    area (State.unpowered s) p = area s p := by
  unfold State.unpowered
  try dsimp only
  repeat' first
    | with_reducible rfl
    | with_reducible refine area_ite ?_ ?_
    | with_reducible refine area_dite (fun _ => ?_) (fun _ => ?_)
    | with_reducible refine (State.toReset_area _ (notMem_of_sub h (by decide))).trans ?_
    | with_reducible refine (area_each _ _ _ fun _ _ => ?_).trans ?_
    | with_reducible refine (area_foldl _ (fun _ _ => ?_) _ _).trans ?_
    | dsimp only
    | split
    | with_reducible refine (area_rng h (by decide)).trans ?_
    | with_reducible refine (area_boot h (by decide)).trans ?_
    | (cases p <;> first | exact absurd (by decide) h | rfl)

theorem State.repowered_area (s : State) {p : Area} (h : p ∉ [Area.rng, .boot]) :
    area (State.repowered s) p = area s p := by
  unfold State.repowered
  try dsimp only
  repeat' first
    | with_reducible rfl
    | with_reducible refine area_ite ?_ ?_
    | with_reducible refine area_dite (fun _ => ?_) (fun _ => ?_)
    | with_reducible refine (area_each _ _ _ fun _ _ => ?_).trans ?_
    | with_reducible refine (area_foldl _ (fun _ _ => ?_) _ _).trans ?_
    | dsimp only
    | split
    | with_reducible refine (area_rng h (by decide)).trans ?_
    | with_reducible refine (area_boot h (by decide)).trans ?_
    | (cases p <;> first | exact absurd (by decide) h | rfl)

theorem State.holdDies_area (s : State) {p : Area} (h : p ∉ [Area.bus, .sys, .mbx, .lrg, .trc, .pba, .cap, .ce, .trx, .pos, .gsc, .glk, .psp, .red, .dcc, .obc, .chg, .hka, .thm, .axb, .skd, .can, .boot, .regs, .mem, .flights]) :
    area (State.holdDies s) p = area s p := by
  unfold State.holdDies
  try dsimp only
  repeat' first
    | with_reducible rfl
    | with_reducible refine area_ite ?_ ?_
    | with_reducible refine area_dite (fun _ => ?_) (fun _ => ?_)
    | with_reducible refine (area_each _ _ _ fun _ _ => ?_).trans ?_
    | with_reducible refine (area_foldl _ (fun _ _ => ?_) _ _).trans ?_
    | dsimp only
    | split
    | with_reducible refine (area_bus h (by decide)).trans ?_
    | with_reducible refine (area_sys h (by decide)).trans ?_
    | with_reducible refine (area_mbx h (by decide)).trans ?_
    | with_reducible refine (area_lrg h (by decide)).trans ?_
    | with_reducible refine (area_trc h (by decide)).trans ?_
    | with_reducible refine (area_pba h (by decide)).trans ?_
    | with_reducible refine (area_cap h (by decide)).trans ?_
    | with_reducible refine (area_ce h (by decide)).trans ?_
    | with_reducible refine (area_trx h (by decide)).trans ?_
    | with_reducible refine (area_pos h (by decide)).trans ?_
    | with_reducible refine (area_gsc h (by decide)).trans ?_
    | with_reducible refine (area_glk h (by decide)).trans ?_
    | with_reducible refine (area_psp h (by decide)).trans ?_
    | with_reducible refine (area_red h (by decide)).trans ?_
    | with_reducible refine (area_dcc h (by decide)).trans ?_
    | with_reducible refine (area_obc h (by decide)).trans ?_
    | with_reducible refine (area_chg h (by decide)).trans ?_
    | with_reducible refine (area_hka h (by decide)).trans ?_
    | with_reducible refine (area_thm h (by decide)).trans ?_
    | with_reducible refine (area_axb h (by decide)).trans ?_
    | with_reducible refine (area_skd h (by decide)).trans ?_
    | with_reducible refine (area_can h (by decide)).trans ?_
    | with_reducible refine (area_boot h (by decide)).trans ?_
    | with_reducible refine (area_regs h (by decide)).trans ?_
    | with_reducible refine (area_mem h (by decide)).trans ?_
    | with_reducible refine (area_flights h (by decide)).trans ?_
    | (cases p <;> first | exact absurd (by decide) h | rfl)

end Sys2Proof.Machine
end

