-- ==== Sys2Proof/Laws/AreaIsland.lean ====
section
/-!
SUPPORT. Which areas of the state each operation of Island.lean may change.
-/

namespace Sys2Proof.Machine

open Sys2Proof

theorem doFaultReport_area (s : State) {p : Area} (h : p ∉ [Area.lrg, .trc, .tal, .pba, .cap, .ce, .trx, .gsc, .glk, .psp, .rng, .sbc, .flog, .red, .dcc, .obc, .chg, .axb, .blz, .boot, .emitted]) :
    area (doFaultReport s) p = area s p := by
  unfold doFaultReport
  try dsimp only
  repeat' first
    | with_reducible rfl
    | with_reducible refine area_ite ?_ ?_
    | with_reducible refine area_dite (fun _ => ?_) (fun _ => ?_)
    | with_reducible refine (State.bootReact_area _ (notMem_of_sub h (by decide))).trans ?_
    | with_reducible refine (State.evaluateReports_area _ _ (notMem_of_sub h (by decide))).trans ?_
    | with_reducible refine (State.watchRows_area _ (notMem_of_sub h (by decide))).trans ?_
    | with_reducible refine (State.modRng_area _ _ (notMem_of_sub h (by decide))).trans ?_
    | with_reducible refine (area_each _ _ _ fun _ _ => ?_).trans ?_
    | with_reducible refine (area_foldl _ (fun _ _ => ?_) _ _).trans ?_
    | dsimp only
    | split

theorem doSetDecided_area (s : State) (g : Fin 4) {p : Area} (h : p ∉ [Area.lrg, .trc, .tal, .ce, .trx, .gsc, .glk, .psp, .rng, .red, .boot, .emitted]) :
    area (doSetDecided s g) p = area s p := by
  unfold doSetDecided
  try dsimp only
  repeat' first
    | with_reducible rfl
    | with_reducible refine area_ite ?_ ?_
    | with_reducible refine area_dite (fun _ => ?_) (fun _ => ?_)
    | with_reducible refine (State.bootReact_area _ (notMem_of_sub h (by decide))).trans ?_
    | with_reducible refine (State.decideSet_area _ _ (notMem_of_sub h (by decide))).trans ?_

theorem doSpeedReport_area (s : State) {p : Area} (h : p ∉ [Area.lrg, .trc, .tal, .pba, .cap, .ce, .trx, .gsc, .glk, .psp, .rng, .sbc, .red, .dcc, .obc, .chg, .axb, .blz, .emitted]) :
    area (doSpeedReport s) p = area s p := by
  unfold doSpeedReport
  try dsimp only
  repeat' first
    | with_reducible rfl
    | with_reducible refine area_ite ?_ ?_
    | with_reducible refine area_dite (fun _ => ?_) (fun _ => ?_)
    | with_reducible refine (State.rechoose_area _ _ (notMem_of_sub h (by decide))).trans ?_
    | with_reducible refine (State.watchStill_area _ (notMem_of_sub h (by decide))).trans ?_
    | with_reducible refine (State.speedChanged_area _ _ (notMem_of_sub h (by decide))).trans ?_
    | with_reducible refine (State.modTrx_area _ _ _ (notMem_of_sub h (by decide))).trans ?_
    | with_reducible refine (area_each _ _ _ fun _ _ => ?_).trans ?_

theorem doLossRefresh_area (s : State) {p : Area} (h : p ∉ [Area.glk]) :
    area (doLossRefresh s) p = area s p := by
  unfold doLossRefresh
  try dsimp only
  repeat' first
    | with_reducible rfl
    | with_reducible refine area_ite ?_ ?_
    | with_reducible refine area_dite (fun _ => ?_) (fun _ => ?_)
    | with_reducible refine (State.supplyLoss_area _ _ _ (notMem_of_sub h (by decide))).trans ?_
    | with_reducible refine (area_each _ _ _ fun _ _ => ?_).trans ?_

theorem doTimeBeacon_area (s : State) {p : Area} (h : p ∉ [Area.clk]) :
    area (doTimeBeacon s) p = area s p := by
  unfold doTimeBeacon
  try dsimp only
  repeat' first
    | with_reducible rfl
    | with_reducible refine area_ite ?_ ?_
    | with_reducible refine area_dite (fun _ => ?_) (fun _ => ?_)
    | with_reducible refine (area_each _ _ _ fun _ _ => ?_).trans ?_
    | with_reducible refine (area_foldl _ (fun _ _ => ?_) _ _).trans ?_
    | dsimp only
    | split
    | with_reducible refine (area_clk h (by decide)).trans ?_

theorem State.d2dFault_area (s : State) (cause : Nat) {p : Area} (h : p ∉ [Area.lrg, .trc, .tal, .rng]) :
    area (State.d2dFault s cause) p = area s p := by
  unfold State.d2dFault
  try dsimp only
  repeat' first
    | with_reducible rfl
    | with_reducible refine area_ite ?_ ?_
    | with_reducible refine area_dite (fun _ => ?_) (fun _ => ?_)
    | with_reducible refine (State.recordReport_area _ _ _ _ _ _ _ (notMem_of_sub h (by decide))).trans ?_

theorem doTbStale_area (s : State) {p : Area} (h : p ∉ [Area.clk, .lrg, .trc, .tal, .rng]) :
    area (doTbStale s) p = area s p := by
  unfold doTbStale
  try dsimp only
  repeat' first
    | with_reducible rfl
    | with_reducible refine area_ite ?_ ?_
    | with_reducible refine area_dite (fun _ => ?_) (fun _ => ?_)
    | with_reducible refine (State.d2dFault_area _ _ (notMem_of_sub h (by decide))).trans ?_
    | with_reducible refine (area_each _ _ _ fun _ _ => ?_).trans ?_
    | with_reducible refine (area_foldl _ (fun _ _ => ?_) _ _).trans ?_
    | dsimp only
    | split
    | with_reducible refine (area_clk h (by decide)).trans ?_

theorem State.clockSeen_area (s : State) (c : Fin 5) (n : Nat) (silent : Bool) {p : Area} (h : p ∉ [Area.lrg, .trc, .tal, .rng]) :
    area (State.clockSeen s c n silent) p = area s p := by
  unfold State.clockSeen
  try dsimp only
  repeat' first
    | with_reducible rfl
    | with_reducible refine area_ite ?_ ?_
    | with_reducible refine area_dite (fun _ => ?_) (fun _ => ?_)
    | with_reducible refine (State.modRng_area _ _ (notMem_of_sub h (by decide))).trans ?_
    | with_reducible refine (State.recordReport_area _ _ _ _ _ _ _ (notMem_of_sub h (by decide))).trans ?_
    | with_reducible refine (State.tally_area _ _ (notMem_of_sub h (by decide))).trans ?_

theorem State.supplySeen_area (s : State) (i : Fin 6) (mv : Nat) {p : Area} (h : p ∉ [Area.lrg, .trc, .tal, .rng]) :
    area (State.supplySeen s i mv) p = area s p := by
  unfold State.supplySeen
  try dsimp only
  repeat' first
    | with_reducible rfl
    | with_reducible refine area_ite ?_ ?_
    | with_reducible refine area_dite (fun _ => ?_) (fun _ => ?_)
    | with_reducible refine (State.modRng_area _ _ (notMem_of_sub h (by decide))).trans ?_
    | with_reducible refine (State.recordReport_area _ _ _ _ _ _ _ (notMem_of_sub h (by decide))).trans ?_
    | with_reducible refine (State.tally_area _ _ (notMem_of_sub h (by decide))).trans ?_

theorem doAutoRelease_area (s : State) (r : Nat) {p : Area} (h : p ∉ [Area.lrg, .trc, .tal, .cap, .gsc, .glk, .psp, .rng, .red, .dcc, .axb]) :
    area (doAutoRelease s r) p = area s p := by
  unfold doAutoRelease
  try dsimp only
  repeat' first
    | with_reducible rfl
    | with_reducible refine area_ite ?_ ?_
    | with_reducible refine area_dite (fun _ => ?_) (fun _ => ?_)
    | with_reducible refine (State.releaseRow_area _ _ (notMem_of_sub h (by decide))).trans ?_
    | with_reducible refine (area_each _ _ _ fun _ _ => ?_).trans ?_
    | with_reducible refine (area_foldl _ (fun _ _ => ?_) _ _).trans ?_
    | dsimp only
    | split

theorem doShutdown_area (s : State) (n : Nat) {p : Area} (h : p ∉ [Area.lrg, .trc, .tal, .pba, .cap, .ce, .trx, .gsc, .glk, .psp, .rng, .sbc, .flog, .red, .dcc, .obc, .chg, .axb, .boot, .emitted]) :
    area (doShutdown s n) p = area s p := by
  unfold doShutdown
  try dsimp only
  repeat' first
    | with_reducible rfl
    | with_reducible refine area_ite ?_ ?_
    | with_reducible refine area_dite (fun _ => ?_) (fun _ => ?_)
    | with_reducible refine (State.bootReact_area _ (notMem_of_sub h (by decide))).trans ?_
    | with_reducible refine (State.fixedTraction_area _ (notMem_of_sub h (by decide))).trans ?_
    | with_reducible refine (State.setMode_area _ _ _ (notMem_of_sub h (by decide))).trans ?_
    | with_reducible refine (State.applyBrakes_area _ (notMem_of_sub h (by decide))).trans ?_
    | with_reducible refine (State.applyTraction_area _ _ _ _ (notMem_of_sub h (by decide))).trans ?_
    | with_reducible refine (State.modRng_area _ _ (notMem_of_sub h (by decide))).trans ?_
    | with_reducible refine (State.axbPattern_area _ _ _ (notMem_of_sub h (by decide))).trans ?_
    | with_reducible refine (State.logRecord_area _ _ (notMem_of_sub h (by decide))).trans ?_
    | with_reducible refine (area_each _ _ _ fun _ _ => ?_).trans ?_

theorem doShutdownHold_area (s : State) {p : Area} (h : p ∉ [Area.bus, .sys, .mbx, .lrg, .trc, .pba, .cap, .ce, .trx, .pos, .gsc, .glk, .psp, .red, .dcc, .obc, .chg, .hka, .thm, .axb, .skd, .can, .boot, .regs, .mem, .flights]) :
    area (doShutdownHold s) p = area s p := by
  unfold doShutdownHold
  try dsimp only
  repeat' first
    | with_reducible rfl
    | with_reducible refine area_ite ?_ ?_
    | with_reducible refine area_dite (fun _ => ?_) (fun _ => ?_)
    | with_reducible refine (State.holdDies_area _ (notMem_of_sub h (by decide))).trans ?_

theorem doFlogStore_area (s : State) {p : Area} (h : p ∉ [Area.flog]) :
    area (doFlogStore s) p = area s p := by
  unfold doFlogStore
  try dsimp only
  repeat' first
    | with_reducible rfl
    | with_reducible refine area_ite ?_ ?_
    | with_reducible refine area_dite (fun _ => ?_) (fun _ => ?_)
    | with_reducible refine (area_each _ _ _ fun _ _ => ?_).trans ?_
    | with_reducible refine (area_foldl _ (fun _ _ => ?_) _ _).trans ?_
    | dsimp only
    | split
    | with_reducible refine (area_flog h (by decide)).trans ?_

theorem doFlogClear_area (s : State) (v : BitVec 16) {p : Area} (h : p ∉ [Area.flog]) :
    area (doFlogClear s v) p = area s p := by
  unfold doFlogClear
  try dsimp only
  repeat' first
    | with_reducible rfl
    | with_reducible refine area_ite ?_ ?_
    | with_reducible refine area_dite (fun _ => ?_) (fun _ => ?_)
    | with_reducible refine (area_each _ _ _ fun _ _ => ?_).trans ?_
    | with_reducible refine (area_foldl _ (fun _ _ => ?_) _ _).trans ?_
    | dsimp only
    | split
    | with_reducible refine (area_flog h (by decide)).trans ?_

theorem doAlive_area (s : State) (t : Tick) {p : Area} (h : p ∉ [Area.rng]) :
    area (doAlive s t) p = area s p := by
  unfold doAlive
  try dsimp only
  repeat' first
    | with_reducible rfl
    | with_reducible refine area_ite ?_ ?_
    | with_reducible refine area_dite (fun _ => ?_) (fun _ => ?_)
    | with_reducible refine (State.modRng_area _ _ (notMem_of_sub h (by decide))).trans ?_

end Sys2Proof.Machine
end

