-- ==== Sys2Proof/Laws/AreaPosition.lean ====
section
/-!
SUPPORT. Which areas of the state each operation of Position.lean may change.
-/

namespace Sys2Proof.Machine

open Sys2Proof

theorem State.modPos_area (s : State) (f : Pos → Pos) {p : Area} (h : p ∉ [Area.pos]) :
    area (State.modPos s f) p = area s p := by
  unfold State.modPos
  try dsimp only
  repeat' first
    | with_reducible rfl
    | with_reducible refine area_ite ?_ ?_
    | with_reducible refine area_dite (fun _ => ?_) (fun _ => ?_)
    | with_reducible refine (area_each _ _ _ fun _ _ => ?_).trans ?_
    | with_reducible refine (area_foldl _ (fun _ _ => ?_) _ _).trans ?_
    | dsimp only
    | split
    | with_reducible refine (area_pos h (by decide)).trans ?_

theorem State.moveCount_area (s : State) (e : Fin 2) (d : Int) {p : Area} (h : p ∉ [Area.pos]) :
    area (State.moveCount s e d) p = area s p := by
  unfold State.moveCount
  try dsimp only
  repeat' first
    | with_reducible rfl
    | with_reducible refine area_ite ?_ ?_
    | with_reducible refine area_dite (fun _ => ?_) (fun _ => ?_)
    | with_reducible refine (State.modEnc_area _ _ _ (notMem_of_sub h (by decide))).trans ?_

theorem State.rebase_area (s : State) (e : Fin 2) (d : Int) {p : Area} (h : p ∉ [Area.pos]) :
    area (State.rebase s e d) p = area s p := by
  unfold State.rebase
  try dsimp only
  repeat' first
    | with_reducible rfl
    | with_reducible refine area_ite ?_ ?_
    | with_reducible refine area_dite (fun _ => ?_) (fun _ => ?_)
    | with_reducible refine (State.moveCount_area _ _ _ (notMem_of_sub h (by decide))).trans ?_
    | with_reducible refine (State.modEnc_area _ _ _ (notMem_of_sub h (by decide))).trans ?_

theorem State.encFault_area (s : State) (e : Fin 2) (cause : Nat) {p : Area} (h : p ∉ [Area.lrg, .trc, .tal, .trx, .pos, .rng]) :
    area (State.encFault s e cause) p = area s p := by
  unfold State.encFault
  try dsimp only
  repeat' first
    | with_reducible rfl
    | with_reducible refine area_ite ?_ ?_
    | with_reducible refine area_dite (fun _ => ?_) (fun _ => ?_)
    | with_reducible refine (State.encFaultTo_area _ _ (notMem_of_sub h (by decide))).trans ?_
    | with_reducible refine (State.modEnc_area _ _ _ (notMem_of_sub h (by decide))).trans ?_
    | with_reducible refine (State.recordAt_area _ _ _ _ _ _ _ (notMem_of_sub h (by decide))).trans ?_
    | with_reducible refine (State.tally_area _ _ (notMem_of_sub h (by decide))).trans ?_
    | with_reducible refine (area_each _ _ _ fun _ _ => ?_).trans ?_
    | with_reducible refine (area_foldl _ (fun _ _ => ?_) _ _).trans ?_
    | dsimp only
    | split

theorem State.referenced_area (s : State) (e : Fin 2) (how : Nat) {p : Area} (h : p ∉ [Area.lrg, .trc, .tal, .pos]) :
    area (State.referenced s e how) p = area s p := by
  unfold State.referenced
  try dsimp only
  repeat' first
    | with_reducible rfl
    | with_reducible refine area_ite ?_ ?_
    | with_reducible refine area_dite (fun _ => ?_) (fun _ => ?_)
    | with_reducible refine (State.modEnc_area _ _ _ (notMem_of_sub h (by decide))).trans ?_
    | with_reducible refine (State.recordAt_area _ _ _ _ _ _ _ (notMem_of_sub h (by decide))).trans ?_

theorem State.illegalMove_area (s : State) (e : Fin 2) (a : Bool) (b : Bool) {p : Area} (h : p ∉ [Area.lrg, .trc, .tal, .trx, .pos, .rng]) :
    area (State.illegalMove s e a b) p = area s p := by
  unfold State.illegalMove
  try dsimp only
  repeat' first
    | with_reducible rfl
    | with_reducible refine area_ite ?_ ?_
    | with_reducible refine area_dite (fun _ => ?_) (fun _ => ?_)
    | with_reducible refine (State.encFault_area _ _ _ (notMem_of_sub h (by decide))).trans ?_
    | with_reducible refine (State.modEnc_area _ _ _ (notMem_of_sub h (by decide))).trans ?_
    | with_reducible refine (State.recordAt_area _ _ _ _ _ _ _ (notMem_of_sub h (by decide))).trans ?_
    | with_reducible refine (State.tally_area _ _ (notMem_of_sub h (by decide))).trans ?_

theorem State.quadMove_area (s : State) (e : Fin 2) (a : Bool) (b : Bool) {p : Area} (h : p ∉ [Area.lrg, .trc, .tal, .trx, .pos, .rng]) :
    area (State.quadMove s e a b) p = area s p := by
  unfold State.quadMove
  try dsimp only
  repeat' first
    | with_reducible rfl
    | with_reducible refine area_ite ?_ ?_
    | with_reducible refine area_dite (fun _ => ?_) (fun _ => ?_)
    | with_reducible refine (State.illegalMove_area _ _ _ _ (notMem_of_sub h (by decide))).trans ?_
    | with_reducible refine (State.moveCount_area _ _ _ (notMem_of_sub h (by decide))).trans ?_
    | with_reducible refine (State.modEnc_area _ _ _ (notMem_of_sub h (by decide))).trans ?_
    | with_reducible refine (area_each _ _ _ fun _ _ => ?_).trans ?_
    | with_reducible refine (area_foldl _ (fun _ _ => ?_) _ _).trans ?_
    | dsimp only
    | split

theorem State.indexReset_area (s : State) (e : Fin 2) (dev : Int) {p : Area} (h : p ∉ [Area.lrg, .trc, .tal, .pos]) :
    area (State.indexReset s e dev) p = area s p := by
  unfold State.indexReset
  try dsimp only
  repeat' first
    | with_reducible rfl
    | with_reducible refine area_ite ?_ ?_
    | with_reducible refine area_dite (fun _ => ?_) (fun _ => ?_)
    | with_reducible refine (State.referenced_area _ _ _ (notMem_of_sub h (by decide))).trans ?_
    | with_reducible refine (State.rebase_area _ _ _ (notMem_of_sub h (by decide))).trans ?_
    | with_reducible refine (State.recordAt_area _ _ _ _ _ _ _ (notMem_of_sub h (by decide))).trans ?_
    | with_reducible refine (State.tally_area _ _ (notMem_of_sub h (by decide))).trans ?_

theorem State.indexCheck_area (s : State) (e : Fin 2) (was : EncState) (dev : Int) {p : Area} (h : p ∉ [Area.lrg, .trc, .tal, .trx, .pos, .rng]) :
    area (State.indexCheck s e was dev) p = area s p := by
  unfold State.indexCheck
  try dsimp only
  repeat' first
    | with_reducible rfl
    | with_reducible refine area_ite ?_ ?_
    | with_reducible refine area_dite (fun _ => ?_) (fun _ => ?_)
    | with_reducible refine (State.encFault_area _ _ _ (notMem_of_sub h (by decide))).trans ?_
    | with_reducible refine (State.recordAt_area _ _ _ _ _ _ _ (notMem_of_sub h (by decide))).trans ?_
    | with_reducible refine (State.tally_area _ _ (notMem_of_sub h (by decide))).trans ?_

theorem State.index_area (s : State) (e : Fin 2) {p : Area} (h : p ∉ [Area.lrg, .trc, .tal, .trx, .pos, .rng]) :
    area (State.index s e) p = area s p := by
  unfold State.index
  try dsimp only
  repeat' first
    | with_reducible rfl
    | with_reducible refine area_ite ?_ ?_
    | with_reducible refine area_dite (fun _ => ?_) (fun _ => ?_)
    | with_reducible refine (State.indexCheck_area _ _ _ _ (notMem_of_sub h (by decide))).trans ?_
    | with_reducible refine (State.indexReset_area _ _ _ (notMem_of_sub h (by decide))).trans ?_
    | with_reducible refine (State.modEnc_area _ _ _ (notMem_of_sub h (by decide))).trans ?_
    | with_reducible refine (area_each _ _ _ fun _ _ => ?_).trans ?_
    | with_reducible refine (area_foldl _ (fun _ _ => ?_) _ _).trans ?_
    | dsimp only
    | split

theorem doInputs_area (s : State) (e : Fin 2) (a : Bool) (b : Bool) (z : Bool) {p : Area} (h : p ∉ [Area.lrg, .trc, .tal, .trx, .pos, .rng]) :
    area (doInputs s e a b z) p = area s p := by
  unfold doInputs
  try dsimp only
  repeat' first
    | with_reducible rfl
    | with_reducible refine area_ite ?_ ?_
    | with_reducible refine area_dite (fun _ => ?_) (fun _ => ?_)
    | with_reducible refine (State.index_area _ _ (notMem_of_sub h (by decide))).trans ?_
    | with_reducible refine (State.quadMove_area _ _ _ _ (notMem_of_sub h (by decide))).trans ?_
    | with_reducible refine (State.modEnc_area _ _ _ (notMem_of_sub h (by decide))).trans ?_

theorem State.observe_area (s : State) (e : Fin 2) {p : Area} (h : p ∉ [Area.lrg, .trc, .tal, .trx, .pos, .rng]) :
    area (State.observe s e) p = area s p := by
  unfold State.observe
  try dsimp only
  repeat' first
    | with_reducible rfl
    | with_reducible refine area_ite ?_ ?_
    | with_reducible refine area_dite (fun _ => ?_) (fun _ => ?_)
    | with_reducible refine (State.encFault_area _ _ _ (notMem_of_sub h (by decide))).trans ?_
    | with_reducible refine (State.modEnc_area _ _ _ (notMem_of_sub h (by decide))).trans ?_

theorem State.emulate_area (s : State) {p : Area} (h : p ∉ [Area.lrg, .trc, .tal, .pos]) :
    area (State.emulate s) p = area s p := by
  unfold State.emulate
  try dsimp only
  repeat' first
    | with_reducible rfl
    | with_reducible refine area_ite ?_ ?_
    | with_reducible refine area_dite (fun _ => ?_) (fun _ => ?_)
    | with_reducible refine (State.modPos_area _ _ (notMem_of_sub h (by decide))).trans ?_
    | with_reducible refine (State.record_area _ _ _ _ _ _ (notMem_of_sub h (by decide))).trans ?_
    | with_reducible refine (State.tally_area _ _ (notMem_of_sub h (by decide))).trans ?_

theorem doObserve_area (s : State) {p : Area} (h : p ∉ [Area.lrg, .trc, .tal, .trx, .pos, .rng]) :
    area (doObserve s) p = area s p := by
  unfold doObserve
  try dsimp only
  repeat' first
    | with_reducible rfl
    | with_reducible refine area_ite ?_ ?_
    | with_reducible refine area_dite (fun _ => ?_) (fun _ => ?_)
    | with_reducible refine (State.emulate_area _ (notMem_of_sub h (by decide))).trans ?_
    | with_reducible refine (State.observe_area _ _ (notMem_of_sub h (by decide))).trans ?_
    | with_reducible refine (area_each _ _ _ fun _ _ => ?_).trans ?_

theorem doSetref_area (s : State) (e : Fin 2) {p : Area} (h : p ∉ [Area.lrg, .trc, .tal, .pos]) :
    area (doSetref s e) p = area s p := by
  unfold doSetref
  try dsimp only
  repeat' first
    | with_reducible rfl
    | with_reducible refine area_ite ?_ ?_
    | with_reducible refine area_dite (fun _ => ?_) (fun _ => ?_)
    | with_reducible refine (State.referenced_area _ _ _ (notMem_of_sub h (by decide))).trans ?_
    | with_reducible refine (State.rebase_area _ _ _ (notMem_of_sub h (by decide))).trans ?_

theorem doClear_area (s : State) (e : Fin 2) {p : Area} (h : p ∉ [Area.pos]) :
    area (doClear s e) p = area s p := by
  unfold doClear
  try dsimp only
  repeat' first
    | with_reducible rfl
    | with_reducible refine area_ite ?_ ?_
    | with_reducible refine area_dite (fun _ => ?_) (fun _ => ?_)
    | with_reducible refine (State.modEnc_area _ _ _ (notMem_of_sub h (by decide))).trans ?_

theorem doDelivery_area (s : State) (e : Fin 2) {p : Area} (h : p ∉ [Area.sys, .lrg, .trc, .tal, .ce, .pos, .rng]) :
    area (doDelivery s e) p = area s p := by
  unfold doDelivery
  try dsimp only
  repeat' first
    | with_reducible rfl
    | with_reducible refine area_ite ?_ ?_
    | with_reducible refine area_dite (fun _ => ?_) (fun _ => ?_)
    | with_reducible refine (State.latchEnc_area _ _ _ (notMem_of_sub h (by decide))).trans ?_
    | with_reducible refine (State.modEnc_area _ _ _ (notMem_of_sub h (by decide))).trans ?_
    | with_reducible refine (State.ceWrites_area _ _ _ _ (notMem_of_sub h (by decide))).trans ?_
    | with_reducible refine (area_each _ _ _ fun _ _ => ?_).trans ?_

end Sys2Proof.Machine
end

