-- ==== Sys2Proof/Laws/AreaSkid.lean ====
section
/-!
SUPPORT. Which areas of the state each operation of Skid.lean may change.
-/

namespace Sys2Proof.Machine

open Sys2Proof

theorem State.cruiseIn_area (s : State) (p0 : Fin 8) (b : List Byte) {p : Area} (h : p ∉ [Area.lrg, .trc, .tal, .skd]) :
    area (State.cruiseIn s p0 b) p = area s p := by
  unfold State.cruiseIn
  try dsimp only
  repeat' first
    | with_reducible rfl
    | with_reducible refine area_ite ?_ ?_
    | with_reducible refine area_dite (fun _ => ?_) (fun _ => ?_)
    | with_reducible refine (State.formView_area _ (notMem_of_sub h (by decide))).trans ?_
    | with_reducible refine (State.modPort_area _ _ _ (notMem_of_sub h (by decide))).trans ?_
    | with_reducible refine (State.modSkd_area _ _ (notMem_of_sub h (by decide))).trans ?_
    | with_reducible refine (area_each _ _ _ fun _ _ => ?_).trans ?_
    | with_reducible refine (area_foldl _ (fun _ _ => ?_) _ _).trans ?_
    | dsimp only
    | split

theorem doCruiseTick_area (s : State) {p : Area} (h : p ∉ [Area.lrg, .trc, .tal, .skd]) :
    area (doCruiseTick s) p = area s p := by
  unfold doCruiseTick
  try dsimp only
  repeat' first
    | with_reducible rfl
    | with_reducible refine area_ite ?_ ?_
    | with_reducible refine area_dite (fun _ => ?_) (fun _ => ?_)
    | with_reducible refine (State.formView_area _ (notMem_of_sub h (by decide))).trans ?_
    | with_reducible refine (State.enqueueLink_area _ _ _ _ (notMem_of_sub h (by decide))).trans ?_
    | with_reducible refine (State.modSkd_area _ _ (notMem_of_sub h (by decide))).trans ?_
    | with_reducible refine (area_each _ _ _ fun _ _ => ?_).trans ?_

theorem doViewStable_area (s : State) {p : Area} (h : p ∉ [Area.lrg, .trc, .tal, .skd]) :
    area (doViewStable s) p = area s p := by
  unfold doViewStable
  try dsimp only
  repeat' first
    | with_reducible rfl
    | with_reducible refine area_ite ?_ ?_
    | with_reducible refine area_dite (fun _ => ?_) (fun _ => ?_)
    | with_reducible refine (State.ownNumber_area _ (notMem_of_sub h (by decide))).trans ?_
    | with_reducible refine (State.enterNumbered_area _ (notMem_of_sub h (by decide))).trans ?_
    | with_reducible refine (State.askNumber_area _ _ (notMem_of_sub h (by decide))).trans ?_
    | with_reducible refine (State.setCoord_area _ _ (notMem_of_sub h (by decide))).trans ?_
    | with_reducible refine (State.modSkd_area _ _ (notMem_of_sub h (by decide))).trans ?_

theorem State.assignIn_area (s : State) (b : List Byte) {p : Area} (h : p ∉ [Area.lrg, .trc, .tal, .skd]) :
    area (State.assignIn s b) p = area s p := by
  unfold State.assignIn
  try dsimp only
  repeat' first
    | with_reducible rfl
    | with_reducible refine area_ite ?_ ?_
    | with_reducible refine area_dite (fun _ => ?_) (fun _ => ?_)
    | with_reducible refine (State.enterNumbered_area _ (notMem_of_sub h (by decide))).trans ?_
    | with_reducible refine (State.refuseOwn_area _ (notMem_of_sub h (by decide))).trans ?_
    | with_reducible refine (State.askNumber_area _ _ (notMem_of_sub h (by decide))).trans ?_
    | with_reducible refine (State.setNode_area _ _ (notMem_of_sub h (by decide))).trans ?_
    | with_reducible refine (State.skdEvent_area _ _ _ _ _ (notMem_of_sub h (by decide))).trans ?_
    | with_reducible refine (State.modSkd_area _ _ (notMem_of_sub h (by decide))).trans ?_
    | with_reducible refine (area_each _ _ _ fun _ _ => ?_).trans ?_
    | with_reducible refine (area_foldl _ (fun _ _ => ?_) _ _).trans ?_
    | dsimp only
    | split

theorem doAssignRetry_area (s : State) {p : Area} (h : p ∉ [Area.tal, .skd]) :
    area (doAssignRetry s) p = area s p := by
  unfold doAssignRetry
  try dsimp only
  repeat' first
    | with_reducible rfl
    | with_reducible refine area_ite ?_ ?_
    | with_reducible refine area_dite (fun _ => ?_) (fun _ => ?_)
    | with_reducible refine (State.askNumber_area _ _ (notMem_of_sub h (by decide))).trans ?_

theorem doUnblazedRetry_area (s : State) {p : Area} (h : p ∉ [Area.tal, .skd]) :
    area (doUnblazedRetry s) p = area s p := by
  unfold doUnblazedRetry
  try dsimp only
  repeat' first
    | with_reducible rfl
    | with_reducible refine area_ite ?_ ?_
    | with_reducible refine area_dite (fun _ => ?_) (fun _ => ?_)
    | with_reducible refine (State.askNumber_area _ _ (notMem_of_sub h (by decide))).trans ?_
    | with_reducible refine (State.modSkd_area _ _ (notMem_of_sub h (by decide))).trans ?_

theorem State.offerIn_area (s : State) (p0 : Fin 8) (n : Nat) (h0 : Nat) {p : Area} (h : p ∉ [Area.lrg, .trc, .tal, .skd]) :
    area (State.offerIn s p0 n h0) p = area s p := by
  unfold State.offerIn
  try dsimp only
  repeat' first
    | with_reducible rfl
    | with_reducible refine area_ite ?_ ?_
    | with_reducible refine area_dite (fun _ => ?_) (fun _ => ?_)
    | with_reducible refine (State.reroute_area _ _ (notMem_of_sub h (by decide))).trans ?_
    | with_reducible refine (State.modSkd_area _ _ (notMem_of_sub h (by decide))).trans ?_

theorem State.offersIn_area (p0 : Fin 8) (a : List Byte) (x2 : State) {p : Area} (h : p ∉ [Area.lrg, .trc, .tal, .skd]) :
    area (State.offersIn p0 a x2) p = area x2 p := by
  match a with
  | [] => rfl
  | [_] => rfl
  | n :: m :: rest =>
    exact (State.offersIn_area p0 rest _ h).trans (State.offerIn_area _ _ _ _ h)

theorem doAdvertise_area (s : State) (p0 : Fin 8) {p : Area} (h : p ∉ [Area.skd]) :
    area (doAdvertise s p0) p = area s p := by
  unfold doAdvertise
  try dsimp only
  repeat' first
    | with_reducible rfl
    | with_reducible refine area_ite ?_ ?_
    | with_reducible refine area_dite (fun _ => ?_) (fun _ => ?_)
    | with_reducible refine (State.sendRoutes_area _ _ _ _ (notMem_of_sub h (by decide))).trans ?_
    | with_reducible refine (State.modPort_area _ _ _ (notMem_of_sub h (by decide))).trans ?_

theorem doRouteUpdate_area (s : State) (p0 : Fin 8) {p : Area} (h : p ∉ [Area.skd]) :
    area (doRouteUpdate s p0) p = area s p := by
  unfold doRouteUpdate
  try dsimp only
  repeat' first
    | with_reducible rfl
    | with_reducible refine area_ite ?_ ?_
    | with_reducible refine area_dite (fun _ => ?_) (fun _ => ?_)
    | with_reducible refine (State.sendRoutes_area _ _ _ _ (notMem_of_sub h (by decide))).trans ?_
    | with_reducible refine (State.modPort_area _ _ _ (notMem_of_sub h (by decide))).trans ?_

theorem doRouteWithdrawal_area (s : State) {p : Area} (h : p ∉ [Area.lrg, .trc, .tal, .skd]) :
    area (doRouteWithdrawal s) p = area s p := by
  unfold doRouteWithdrawal
  try dsimp only
  repeat' first
    | with_reducible rfl
    | with_reducible refine area_ite ?_ ?_
    | with_reducible refine area_dite (fun _ => ?_) (fun _ => ?_)
    | with_reducible refine (State.reroute_area _ _ (notMem_of_sub h (by decide))).trans ?_
    | with_reducible refine (State.modSkd_area _ _ (notMem_of_sub h (by decide))).trans ?_
    | with_reducible refine (area_each _ _ _ fun _ _ => ?_).trans ?_
    | with_reducible refine (area_foldl _ (fun _ _ => ?_) _ _).trans ?_

theorem State.registerIn_area (s : State) (b : List Byte) {p : Area} (h : p ∉ [Area.tal, .skd]) :
    area (State.registerIn s b) p = area s p := by
  unfold State.registerIn
  try dsimp only
  repeat' first
    | with_reducible rfl
    | with_reducible refine area_ite ?_ ?_
    | with_reducible refine area_dite (fun _ => ?_) (fun _ => ?_)
    | with_reducible refine (State.regAnswer_area _ _ _ (notMem_of_sub h (by decide))).trans ?_
    | with_reducible refine (State.sendOut_area _ _ (notMem_of_sub h (by decide))).trans ?_

theorem State.replyIn_area (s : State) (b : List Byte) {p : Area} (h : p ∉ [Area.lrg, .trc, .tal, .skd]) :
    area (State.replyIn s b) p = area s p := by
  unfold State.replyIn
  try dsimp only
  repeat' first
    | with_reducible rfl
    | with_reducible refine area_ite ?_ ?_
    | with_reducible refine area_dite (fun _ => ?_) (fun _ => ?_)
    | with_reducible refine (State.pump_area _ (notMem_of_sub h (by decide))).trans ?_
    | with_reducible refine (State.regResult_area _ _ _ (notMem_of_sub h (by decide))).trans ?_

theorem doRegisterRetry_area (s : State) {p : Area} (h : p ∉ [Area.tal, .skd]) :
    area (doRegisterRetry s) p = area s p := by
  unfold doRegisterRetry
  try dsimp only
  repeat' first
    | with_reducible rfl
    | with_reducible refine area_ite ?_ ?_
    | with_reducible refine area_dite (fun _ => ?_) (fun _ => ?_)
    | with_reducible refine (State.sendRegister_area _ _ (notMem_of_sub h (by decide))).trans ?_
    | with_reducible refine (State.modSkd_area _ _ (notMem_of_sub h (by decide))).trans ?_
    | with_reducible refine (area_each _ _ _ fun _ _ => ?_).trans ?_
    | with_reducible refine (area_foldl _ (fun _ _ => ?_) _ _).trans ?_

theorem State.refusalIn_area (s : State) (b : List Byte) {p : Area} (h : p ∉ [Area.lrg, .trc, .tal]) :
    area (State.refusalIn s b) p = area s p := by
  unfold State.refusalIn
  try dsimp only
  repeat' first
    | with_reducible rfl
    | with_reducible refine area_ite ?_ ?_
    | with_reducible refine area_dite (fun _ => ?_) (fun _ => ?_)
    | with_reducible refine (State.c1Refused_area _ _ _ _ (notMem_of_sub h (by decide))).trans ?_

theorem doTxpost_area (s : State) (id : Fin 64) (v : Word32) {p : Area} (h : p ∉ [Area.bus, .lrg, .trc, .tal, .skd]) :
    area (doTxpost s id v) p = area s p := by
  unfold doTxpost
  try dsimp only
  repeat' first
    | with_reducible rfl
    | with_reducible refine area_ite ?_ ?_
    | with_reducible refine area_dite (fun _ => ?_) (fun _ => ?_)
    | with_reducible refine (State.modSkd_area _ _ (notMem_of_sub h (by decide))).trans ?_
    | with_reducible refine (State.busDone_area _ _ (notMem_of_sub h (by decide))).trans ?_
    | with_reducible refine (State.busError_area _ _ _ _ (notMem_of_sub h (by decide))).trans ?_
    | with_reducible refine (State.tally_area _ _ (notMem_of_sub h (by decide))).trans ?_

theorem State.sendRecord_area (s : State) (a : Nat) (st : Nat) (len : Nat) {p : Area} (h : p ∉ [Area.bus, .sys, .lrg, .trc, .tal, .pba, .rng, .skd, .blz, .can]) :
    area (State.sendRecord s a st len) p = area s p := by
  unfold State.sendRecord
  try dsimp only
  repeat' first
    | with_reducible rfl
    | with_reducible refine area_ite ?_ ?_
    | with_reducible refine area_dite (fun _ => ?_) (fun _ => ?_)
    | with_reducible refine (State.dataIn_area _ _ _ _ (notMem_of_sub h (by decide))).trans ?_
    | with_reducible refine (State.sendData_area _ _ _ _ (notMem_of_sub h (by decide))).trans ?_
    | with_reducible refine (State.readRows_area _ _ _ _ (notMem_of_sub h (by decide))).trans ?_
    | with_reducible refine (State.busError_area _ _ _ _ (notMem_of_sub h (by decide))).trans ?_

theorem doRecordFetch_area (s : State) {p : Area} (h : p ∉ [Area.bus, .sys, .lrg, .trc, .tal, .pba, .rng, .skd, .blz, .can]) :
    area (doRecordFetch s) p = area s p := by
  unfold doRecordFetch
  try dsimp only
  repeat' first
    | with_reducible rfl
    | with_reducible refine area_ite ?_ ?_
    | with_reducible refine area_dite (fun _ => ?_) (fun _ => ?_)
    | with_reducible refine (State.sendRecord_area _ _ _ _ (notMem_of_sub h (by decide))).trans ?_
    | with_reducible refine (State.txRefused_area _ _ (notMem_of_sub h (by decide))).trans ?_
    | with_reducible refine (State.modSkd_area _ _ (notMem_of_sub h (by decide))).trans ?_
    | with_reducible refine (State.busError_area _ _ _ _ (notMem_of_sub h (by decide))).trans ?_
    | with_reducible refine (area_each _ _ _ fun _ _ => ?_).trans ?_
    | with_reducible refine (area_foldl _ (fun _ _ => ?_) _ _).trans ?_
    | dsimp only
    | split

theorem State.putOut_area (s : State) (p0 : Fin 8) (b : List Byte) {p : Area} (h : p ∉ [Area.skd, .emitted]) :
    area (State.putOut s p0 b) p = area s p := by
  unfold State.putOut
  try dsimp only
  repeat' first
    | with_reducible rfl
    | with_reducible refine area_ite ?_ ?_
    | with_reducible refine area_dite (fun _ => ?_) (fun _ => ?_)
    | with_reducible refine (State.modPort_area _ _ _ (notMem_of_sub h (by decide))).trans ?_
    | with_reducible refine (State.emit_area _ _ _ (notMem_of_sub h (by decide))).trans ?_

theorem State.sendLinkFrame_area (s : State) (p0 : Fin 8) (f : SkdFrame) {p : Area} (h : p ∉ [Area.skd, .emitted]) :
    area (State.sendLinkFrame s p0 f) p = area s p := by
  unfold State.sendLinkFrame
  try dsimp only
  repeat' first
    | with_reducible rfl
    | with_reducible refine area_ite ?_ ?_
    | with_reducible refine area_dite (fun _ => ?_) (fun _ => ?_)
    | with_reducible refine (State.putOut_area _ _ _ (notMem_of_sub h (by decide))).trans ?_
    | with_reducible refine (State.modPort_area _ _ _ (notMem_of_sub h (by decide))).trans ?_
    | with_reducible refine (State.modSkd_area _ _ (notMem_of_sub h (by decide))).trans ?_

theorem State.sendOutFrame_area (s : State) (p0 : Fin 8) (f : SkdFrame) {p : Area} (h : p ∉ [Area.skd, .emitted]) :
    area (State.sendOutFrame s p0 f) p = area s p := by
  unfold State.sendOutFrame
  try dsimp only
  repeat' first
    | with_reducible rfl
    | with_reducible refine area_ite ?_ ?_
    | with_reducible refine area_dite (fun _ => ?_) (fun _ => ?_)
    | with_reducible refine (State.putOut_area _ _ _ (notMem_of_sub h (by decide))).trans ?_
    | with_reducible refine (State.frameGone_area _ _ (notMem_of_sub h (by decide))).trans ?_
    | with_reducible refine (State.modPort_area _ _ _ (notMem_of_sub h (by decide))).trans ?_

theorem doOutput_area (s : State) (p0 : Fin 8) {p : Area} (h : p ∉ [Area.lrg, .trc, .tal, .skd, .emitted]) :
    area (doOutput s p0) p = area s p := by
  unfold doOutput
  try dsimp only
  repeat' first
    | with_reducible rfl
    | with_reducible refine area_ite ?_ ?_
    | with_reducible refine area_dite (fun _ => ?_) (fun _ => ?_)
    | with_reducible refine (State.sendOutFrame_area _ _ _ (notMem_of_sub h (by decide))).trans ?_
    | with_reducible refine (State.sendLinkFrame_area _ _ _ (notMem_of_sub h (by decide))).trans ?_
    | with_reducible refine (State.dropOld_area _ _ (notMem_of_sub h (by decide))).trans ?_
    | with_reducible refine (State.shape_area _ (notMem_of_sub h (by decide))).trans ?_
    | with_reducible refine (area_each _ _ _ fun _ _ => ?_).trans ?_
    | with_reducible refine (area_foldl _ (fun _ _ => ?_) _ _).trans ?_
    | dsimp only
    | split

theorem doExchange_area (s : State) {p : Area} (h : p ∉ [Area.skd]) :
    area (doExchange s) p = area s p := by
  unfold doExchange
  try dsimp only
  repeat' first
    | with_reducible rfl
    | with_reducible refine area_ite ?_ ?_
    | with_reducible refine area_dite (fun _ => ?_) (fun _ => ?_)
    | with_reducible refine (State.enqueueLink_area _ _ _ _ (notMem_of_sub h (by decide))).trans ?_
    | with_reducible refine (State.modSkd_area _ _ (notMem_of_sub h (by decide))).trans ?_
    | with_reducible refine (area_each _ _ _ fun _ _ => ?_).trans ?_
    | with_reducible refine (area_foldl _ (fun _ _ => ?_) _ _).trans ?_
    | dsimp only
    | split

theorem State.timeReqIn_area (s : State) (p0 : Fin 8) (stamp : Nat) {p : Area} (h : p ∉ [Area.skd]) :
    area (State.timeReqIn s p0 stamp) p = area s p := by
  unfold State.timeReqIn
  try dsimp only
  repeat' first
    | with_reducible rfl
    | with_reducible refine area_ite ?_ ?_
    | with_reducible refine area_dite (fun _ => ?_) (fun _ => ?_)
    | with_reducible refine (State.enqueueLink_area _ _ _ _ (notMem_of_sub h (by decide))).trans ?_

theorem State.applyOffset_area (s : State) (o : Int) {p : Area} (h : p ∉ [Area.clk, .lrg, .trc, .tal, .skd]) :
    area (State.applyOffset s o) p = area s p := by
  unfold State.applyOffset
  try dsimp only
  repeat' first
    | with_reducible rfl
    | with_reducible refine area_ite ?_ ?_
    | with_reducible refine area_dite (fun _ => ?_) (fun _ => ?_)
    | with_reducible refine (State.skdEvent_area _ _ _ _ _ (notMem_of_sub h (by decide))).trans ?_
    | with_reducible refine (State.modSkd_area _ _ (notMem_of_sub h (by decide))).trans ?_
    | with_reducible refine (area_each _ _ _ fun _ _ => ?_).trans ?_
    | with_reducible refine (area_foldl _ (fun _ _ => ?_) _ _).trans ?_
    | dsimp only
    | split
    | with_reducible refine (area_clk h (by decide)).trans ?_

theorem State.judgeOffset_area (s : State) (o : Int) {p : Area} (h : p ∉ [Area.lrg, .trc, .tal, .skd]) :
    area (State.judgeOffset s o) p = area s p := by
  unfold State.judgeOffset
  try dsimp only
  repeat' first
    | with_reducible rfl
    | with_reducible refine area_ite ?_ ?_
    | with_reducible refine area_dite (fun _ => ?_) (fun _ => ?_)
    | with_reducible refine (State.setAligned_area _ _ (notMem_of_sub h (by decide))).trans ?_
    | with_reducible refine (State.modSkd_area _ _ (notMem_of_sub h (by decide))).trans ?_

theorem State.timeRespIn_area (s : State) (p0 : Fin 8) (t4 : Nat) (b : List Byte) {p : Area} (h : p ∉ [Area.clk, .lrg, .trc, .tal, .skd]) :
    area (State.timeRespIn s p0 t4 b) p = area s p := by
  unfold State.timeRespIn
  try dsimp only
  repeat' first
    | with_reducible rfl
    | with_reducible refine area_ite ?_ ?_
    | with_reducible refine area_dite (fun _ => ?_) (fun _ => ?_)
    | with_reducible refine (State.judgeOffset_area _ _ (notMem_of_sub h (by decide))).trans ?_
    | with_reducible refine (State.applyOffset_area _ _ (notMem_of_sub h (by decide))).trans ?_
    | with_reducible refine (State.modSkd_area _ _ (notMem_of_sub h (by decide))).trans ?_
    | with_reducible refine (area_each _ _ _ fun _ _ => ?_).trans ?_
    | with_reducible refine (area_foldl _ (fun _ _ => ?_) _ _).trans ?_
    | dsimp only
    | split

theorem doExchangeTimeout_area (s : State) {p : Area} (h : p ∉ [Area.skd]) :
    area (doExchangeTimeout s) p = area s p := by
  unfold doExchangeTimeout
  try dsimp only
  repeat' first
    | with_reducible rfl
    | with_reducible refine area_ite ?_ ?_
    | with_reducible refine area_dite (fun _ => ?_) (fun _ => ?_)
    | with_reducible refine (State.modSkd_area _ _ (notMem_of_sub h (by decide))).trans ?_
    | with_reducible refine (area_each _ _ _ fun _ _ => ?_).trans ?_
    | with_reducible refine (area_foldl _ (fun _ _ => ?_) _ _).trans ?_
    | dsimp only
    | split

theorem doAlignTimeout_area (s : State) {p : Area} (h : p ∉ [Area.lrg, .trc, .tal, .skd]) :
    area (doAlignTimeout s) p = area s p := by
  unfold doAlignTimeout
  try dsimp only
  repeat' first
    | with_reducible rfl
    | with_reducible refine area_ite ?_ ?_
    | with_reducible refine area_dite (fun _ => ?_) (fun _ => ?_)
    | with_reducible refine (State.setAligned_area _ _ (notMem_of_sub h (by decide))).trans ?_
    | with_reducible refine (State.modSkd_area _ _ (notMem_of_sub h (by decide))).trans ?_

end Sys2Proof.Machine
end

