-- ==== Sys2Proof/Laws/AreaTrace.lean ====
section
/-!
SUPPORT. Which areas of the state each operation of Trace.lean may change.
-/

namespace Sys2Proof.Machine

open Sys2Proof

theorem doPacketSend_area (s : State) {p : Area} (h : p ∉ [Area.trc, .emitted]) :
    area (doPacketSend s) p = area s p := by
  unfold doPacketSend
  try dsimp only
  repeat' first
    | with_reducible rfl
    | with_reducible refine area_ite ?_ ?_
    | with_reducible refine area_dite (fun _ => ?_) (fun _ => ?_)
    | with_reducible refine (State.emit_area _ _ _ (notMem_of_sub h (by decide))).trans ?_
    | with_reducible refine (State.traceLoss_area _ (notMem_of_sub h (by decide))).trans ?_
    | with_reducible refine (State.modTrc_area _ _ (notMem_of_sub h (by decide))).trans ?_
    | with_reducible refine (area_each _ _ _ fun _ _ => ?_).trans ?_
    | with_reducible refine (area_foldl _ (fun _ _ => ?_) _ _).trans ?_
    | dsimp only
    | split

theorem doTraceTime_area (s : State) {p : Area} (h : p ∉ [Area.trc, .tal]) :
    area (doTraceTime s) p = area s p := by
  unfold doTraceTime
  try dsimp only
  repeat' first
    | with_reducible rfl
    | with_reducible refine area_ite ?_ ?_
    | with_reducible refine area_dite (fun _ => ?_) (fun _ => ?_)
    | with_reducible refine (State.traceOffer_area _ _ _ (notMem_of_sub h (by decide))).trans ?_

theorem doMessage_area (s : State) (id : Fin 64) (v : Word32) {p : Area} (h : p ∉ [Area.bus, .trc, .tal]) :
    area (doMessage s id v) p = area s p := by
  unfold doMessage
  try dsimp only
  repeat' first
    | with_reducible rfl
    | with_reducible refine area_ite ?_ ?_
    | with_reducible refine area_dite (fun _ => ?_) (fun _ => ?_)
    | with_reducible refine (State.busDone_area _ _ (notMem_of_sub h (by decide))).trans ?_
    | with_reducible refine (State.traceOffer_area _ _ _ (notMem_of_sub h (by decide))).trans ?_

theorem doTalInc_area (s : State) (id : Fin 64) (v : Word32) {p : Area} (h : p ∉ [Area.bus, .lrg, .trc, .tal]) :
    area (doTalInc s id v) p = area s p := by
  unfold doTalInc
  try dsimp only
  repeat' first
    | with_reducible rfl
    | with_reducible refine area_ite ?_ ?_
    | with_reducible refine area_dite (fun _ => ?_) (fun _ => ?_)
    | with_reducible refine (State.busDone_area _ _ (notMem_of_sub h (by decide))).trans ?_
    | with_reducible refine (State.busError_area _ _ _ _ (notMem_of_sub h (by decide))).trans ?_
    | with_reducible refine (State.tallyBy_area _ _ _ (notMem_of_sub h (by decide))).trans ?_

theorem doSamplePacket_area (s : State) (lane : Fin 4) (qs : List Sample) {p : Area} (h : p ∉ [Area.trc, .tal, .cap]) :
    area (doSamplePacket s lane qs) p = area s p := by
  unfold doSamplePacket
  try dsimp only
  repeat' first
    | with_reducible rfl
    | with_reducible refine area_ite ?_ ?_
    | with_reducible refine area_dite (fun _ => ?_) (fun _ => ?_)
    | with_reducible refine (State.modCap_area _ _ (notMem_of_sub h (by decide))).trans ?_
    | with_reducible refine (State.traceOffer_area _ _ _ (notMem_of_sub h (by decide))).trans ?_
    | with_reducible refine (area_each _ _ _ fun _ _ => ?_).trans ?_
    | with_reducible refine (area_foldl _ (fun _ _ => ?_) _ _).trans ?_

end Sys2Proof.Machine
end

