-- ==== Sys2Proof/Laws/AreaRegWrite.lean ====
section
/-!
SUPPORT. Which areas of the state each operation of RegWrite.lean may change.
-/

namespace Sys2Proof.Machine

open Sys2Proof

theorem State.storeReg_area (s : State) (a : Nat) (v : Nat) {p : Area} (h : p ∉ [Area.regs]) :
    area (State.storeReg s a v) p = area s p := by
  unfold State.storeReg
  try dsimp only
  repeat' first
    | with_reducible rfl
    | with_reducible refine area_ite ?_ ?_
    | with_reducible refine area_dite (fun _ => ?_) (fun _ => ?_)
    | with_reducible refine (area_each _ _ _ fun _ _ => ?_).trans ?_
    | with_reducible refine (area_foldl _ (fun _ _ => ?_) _ _).trans ?_
    | dsimp only
    | split
    | with_reducible refine (area_regs h (by decide)).trans ?_

theorem State.onFam_area (s : State) (o : Nat) (base : Nat) (stride : Nat) (n : Nat) (f : Fin n → Nat → State) {p : Area} (hf : ∀ i r, area (f i r) p = area s p) :
    area (State.onFam s o base stride n f) p = area s p := by
  unfold State.onFam
  try dsimp only
  repeat' first
    | with_reducible rfl
    | with_reducible refine area_ite ?_ ?_
    | with_reducible refine area_dite (fun _ => ?_) (fun _ => ?_)
    | with_reducible refine (hf _ _).trans ?_

theorem State.writeCe_area (s : State) (boot : Bool) (e : Fin 8) (o : Nat) (v : Nat) {p : Area} (h : p ∉ [Area.sys, .lrg, .trc, .tal, .ce, .glk, .rng, .red]) :
    area (State.writeCe s boot e o v) p = area s p := by
  unfold State.writeCe
  try dsimp only
  repeat' first
    | with_reducible rfl
    | with_reducible refine area_ite ?_ ?_
    | with_reducible refine area_dite (fun _ => ?_) (fun _ => ?_)
    | with_reducible refine (State.onFam_area _ _ _ _ _ _ (fun _ _ => ?_)).trans ?_
    | with_reducible refine (doLoad_area _ _ _ (notMem_of_sub h (by decide))).trans ?_
    | with_reducible refine (State.writeRun_area _ _ _ (notMem_of_sub h (by decide))).trans ?_
    | with_reducible refine (State.trigger_area _ _ _ (notMem_of_sub h (by decide))).trans ?_
    | with_reducible refine (State.ceWrite_area _ _ _ _ (notMem_of_sub h (by decide))).trans ?_
    | with_reducible refine (State.modCe_area _ _ _ (notMem_of_sub h (by decide))).trans ?_
    | with_reducible refine (area_each _ _ _ fun _ _ => ?_).trans ?_
    | with_reducible refine (area_foldl _ (fun _ _ => ?_) _ _).trans ?_
    | dsimp only
    | split

theorem State.writePos_area (s : State) (o : Nat) (v : Nat) {p : Area} (h : p ∉ [Area.lrg, .trc, .tal, .pos]) :
    area (State.writePos s o v) p = area s p := by
  unfold State.writePos
  try dsimp only
  repeat' first
    | with_reducible rfl
    | with_reducible refine area_ite ?_ ?_
    | with_reducible refine area_dite (fun _ => ?_) (fun _ => ?_)
    | with_reducible refine (State.onFam_area _ _ _ _ _ _ (fun _ _ => ?_)).trans ?_
    | with_reducible refine (doClear_area _ _ (notMem_of_sub h (by decide))).trans ?_
    | with_reducible refine (doSetref_area _ _ (notMem_of_sub h (by decide))).trans ?_
    | with_reducible refine (State.emulate_area _ (notMem_of_sub h (by decide))).trans ?_
    | with_reducible refine (State.latchEnc_area _ _ _ (notMem_of_sub h (by decide))).trans ?_
    | with_reducible refine (State.modEnc_area _ _ _ (notMem_of_sub h (by decide))).trans ?_
    | with_reducible refine (area_each _ _ _ fun _ _ => ?_).trans ?_
    | with_reducible refine (area_foldl _ (fun _ _ => ?_) _ _).trans ?_
    | dsimp only
    | split

theorem State.writeGsc_area (s : State) (o : Nat) (v : Nat) {p : Area} (h : p ∉ [Area.gsc]) :
    area (State.writeGsc s o v) p = area s p := by
  unfold State.writeGsc
  try dsimp only
  repeat' first
    | with_reducible rfl
    | with_reducible refine area_ite ?_ ?_
    | with_reducible refine area_dite (fun _ => ?_) (fun _ => ?_)
    | with_reducible refine (State.onFam_area _ _ _ _ _ _ (fun _ _ => ?_)).trans ?_
    | with_reducible refine (State.modGroup_area _ _ _ (notMem_of_sub h (by decide))).trans ?_
    | with_reducible refine (area_each _ _ _ fun _ _ => ?_).trans ?_
    | with_reducible refine (area_foldl _ (fun _ _ => ?_) _ _).trans ?_
    | dsimp only
    | split

theorem State.writeGlk_area (s : State) (id : Fin 64) (o : Nat) (v : Nat) {p : Area} (h : p ∉ [Area.bus, .lrg, .trc, .tal, .glk, .rng, .emitted]) :
    area (State.writeGlk s id o v) p = area s p := by
  unfold State.writeGlk
  try dsimp only
  repeat' first
    | with_reducible rfl
    | with_reducible refine area_ite ?_ ?_
    | with_reducible refine area_dite (fun _ => ?_) (fun _ => ?_)
    | with_reducible refine (State.onFam_area _ _ _ _ _ _ (fun _ _ => ?_)).trans ?_
    | with_reducible refine (State.retrain_area _ _ (notMem_of_sub h (by decide))).trans ?_
    | with_reducible refine (State.cmdWrite_area _ _ _ _ (notMem_of_sub h (by decide))).trans ?_
    | with_reducible refine (State.modLink_area _ _ _ (notMem_of_sub h (by decide))).trans ?_
    | with_reducible refine (area_each _ _ _ fun _ _ => ?_).trans ?_
    | with_reducible refine (area_foldl _ (fun _ _ => ?_) _ _).trans ?_
    | dsimp only
    | split

theorem State.writeCan_area (s : State) (id : Fin 64) (o : Nat) (v : Nat) {p : Area} (h : p ∉ [Area.bus, .lrg, .trc, .tal, .can, .regs]) :
    area (State.writeCan s id o v) p = area s p := by
  unfold State.writeCan
  try dsimp only
  repeat' first
    | with_reducible rfl
    | with_reducible refine area_ite ?_ ?_
    | with_reducible refine area_dite (fun _ => ?_) (fun _ => ?_)
    | with_reducible refine (State.onFam_area _ _ _ _ _ _ (fun _ _ => ?_)).trans ?_
    | with_reducible refine (doRecover_area _ _ (notMem_of_sub h (by decide))).trans ?_
    | with_reducible refine (doAbort_area _ _ _ (notMem_of_sub h (by decide))).trans ?_
    | with_reducible refine (doGo_area _ _ _ _ (notMem_of_sub h (by decide))).trans ?_
    | with_reducible refine (doShsel_area _ _ _ (notMem_of_sub h (by decide))).trans ?_
    | with_reducible refine (area_each _ _ _ fun _ _ => ?_).trans ?_
    | with_reducible refine (area_foldl _ (fun _ _ => ?_) _ _).trans ?_
    | dsimp only
    | split

theorem State.writeThm_area (s : State) (o : Nat) (v : Nat) {p : Area} (h : p ∉ [Area.thm]) :
    area (State.writeThm s o v) p = area s p := by
  unfold State.writeThm
  try dsimp only
  repeat' first
    | with_reducible rfl
    | with_reducible refine area_ite ?_ ?_
    | with_reducible refine area_dite (fun _ => ?_) (fun _ => ?_)
    | with_reducible refine (State.onFam_area _ _ _ _ _ _ (fun _ _ => ?_)).trans ?_
    | with_reducible refine (State.modModel_area _ _ _ (notMem_of_sub h (by decide))).trans ?_
    | with_reducible refine (area_each _ _ _ fun _ _ => ?_).trans ?_
    | with_reducible refine (area_foldl _ (fun _ _ => ?_) _ _).trans ?_
    | dsimp only
    | split
    | with_reducible refine (area_thm h (by decide)).trans ?_

theorem State.writePba_area (s : State) (o : Nat) (v : Nat) {p : Area} (h : p ∉ [Area.lrg, .trc, .tal, .pba]) :
    area (State.writePba s o v) p = area s p := by
  unfold State.writePba
  try dsimp only
  repeat' first
    | with_reducible rfl
    | with_reducible refine area_ite ?_ ?_
    | with_reducible refine area_dite (fun _ => ?_) (fun _ => ?_)
    | with_reducible refine (State.onFam_area _ _ _ _ _ _ (fun _ _ => ?_)).trans ?_
    | with_reducible refine (doLimitWrite_area _ _ _ (notMem_of_sub h (by decide))).trans ?_
    | with_reducible refine (State.modPba_area _ _ (notMem_of_sub h (by decide))).trans ?_
    | with_reducible refine (area_each _ _ _ fun _ _ => ?_).trans ?_
    | with_reducible refine (area_foldl _ (fun _ _ => ?_) _ _).trans ?_
    | dsimp only
    | split

theorem State.regEffect_area (s : State) (id : Fin 64) (boot : Bool) (a : Nat) (v : Nat) {p : Area} (h : p ∉ [Area.bus, .sys, .mbx, .lrg, .trc, .tal, .pba, .ce, .pos, .gsc, .glk, .rng, .flog, .red, .chg, .thm, .skd, .blz, .can, .regs, .emitted]) :
    area (State.regEffect s id boot a v) p = area s p := by
  unfold State.regEffect
  try dsimp only
  repeat' first
    | with_reducible rfl
    | with_reducible refine area_ite ?_ ?_
    | with_reducible refine area_dite (fun _ => ?_) (fun _ => ?_)
    | with_reducible refine (State.writePba_area _ _ _ (notMem_of_sub h (by decide))).trans ?_
    | with_reducible refine (State.writeThm_area _ _ _ (notMem_of_sub h (by decide))).trans ?_
    | with_reducible refine (State.writeCan_area _ _ _ _ (notMem_of_sub h (by decide))).trans ?_
    | with_reducible refine (State.writeGlk_area _ _ _ _ (notMem_of_sub h (by decide))).trans ?_
    | with_reducible refine (State.writeGsc_area _ _ _ (notMem_of_sub h (by decide))).trans ?_
    | with_reducible refine (State.writePos_area _ _ _ (notMem_of_sub h (by decide))).trans ?_
    | with_reducible refine (State.writeCe_area _ _ _ _ _ (notMem_of_sub h (by decide))).trans ?_
    | with_reducible refine (State.onFam_area _ _ _ _ _ _ (fun _ _ => ?_)).trans ?_
    | with_reducible refine (doTalInc_area _ _ _ (notMem_of_sub h (by decide))).trans ?_
    | with_reducible refine (doMessage_area _ _ _ (notMem_of_sub h (by decide))).trans ?_
    | with_reducible refine (doTxpost_area _ _ _ (notMem_of_sub h (by decide))).trans ?_
    | with_reducible refine (doFlogClear_area _ _ (notMem_of_sub h (by decide))).trans ?_
    | with_reducible refine (doRelease_area _ _ _ (notMem_of_sub h (by decide))).trans ?_
    | with_reducible refine (State.requestDomain_area _ _ _ (notMem_of_sub h (by decide))).trans ?_
    | with_reducible refine (doHandOver_area _ _ _ (notMem_of_sub h (by decide))).trans ?_
    | with_reducible refine (State.blzRestart_area _ _ (notMem_of_sub h (by decide))).trans ?_
    | with_reducible refine (State.modChg_area _ _ (notMem_of_sub h (by decide))).trans ?_
    | with_reducible refine (area_each _ _ _ fun _ _ => ?_).trans ?_
    | with_reducible refine (area_foldl _ (fun _ _ => ?_) _ _).trans ?_
    | dsimp only
    | split

theorem State.putReg_area (s : State) (id : Fin 64) (boot : Bool) (a : Nat) (v : Nat) {p : Area} (h : p ∉ [Area.bus, .sys, .mbx, .lrg, .trc, .tal, .pba, .ce, .pos, .gsc, .glk, .rng, .flog, .red, .chg, .thm, .skd, .blz, .can, .regs, .emitted]) :
    area (State.putReg s id boot a v) p = area s p := by
  unfold State.putReg
  try dsimp only
  repeat' first
    | with_reducible rfl
    | with_reducible refine area_ite ?_ ?_
    | with_reducible refine area_dite (fun _ => ?_) (fun _ => ?_)
    | with_reducible refine (State.regEffect_area _ _ _ _ _ (notMem_of_sub h (by decide))).trans ?_
    | with_reducible refine (State.storeReg_area _ _ _ (notMem_of_sub h (by decide))).trans ?_

end Sys2Proof.Machine
end

