-- ==== Sys2Proof/Laws/AreaImageOps.lean ====
section
/-!
SUPPORT. Which areas of the state each operation of ImageOps.lean may change.
-/

namespace Sys2Proof.Machine

open Sys2Proof

theorem State.stage_area (s : State) (bs : List Byte) {p : Area} (h : p ∉ [Area.sys, .mem]) :
    area (State.stage s bs) p = area s p := by
  unfold State.stage
  try dsimp only
  repeat' first
    | with_reducible rfl
    | with_reducible refine area_ite ?_ ?_
    | with_reducible refine area_dite (fun _ => ?_) (fun _ => ?_)
    | with_reducible refine (State.repaired_area _ _ (notMem_of_sub h (by decide))).trans ?_
    | with_reducible refine (State.store_area _ _ _ (notMem_of_sub h (by decide))).trans ?_
    | with_reducible refine (area_each _ _ _ fun _ _ => ?_).trans ?_
    | with_reducible refine (area_foldl _ (fun _ _ => ?_) _ _).trans ?_

theorem State.bootProgram_area (s : State) (e : Fin 8) (ws : List Word32) {p : Area} (h : p ∉ [Area.sys, .lrg, .trc, .tal, .ce, .mem]) :
    area (State.bootProgram s e ws) p = area s p := by
  unfold State.bootProgram
  try dsimp only
  repeat' first
    | with_reducible rfl
    | with_reducible refine area_ite ?_ ?_
    | with_reducible refine area_dite (fun _ => ?_) (fun _ => ?_)
    | with_reducible refine (State.stage_area _ _ (notMem_of_sub h (by decide))).trans ?_
    | with_reducible refine (State.loadProgram_area _ _ _ _ (notMem_of_sub h (by decide))).trans ?_
    | with_reducible refine (State.modCe_area _ _ _ (notMem_of_sub h (by decide))).trans ?_

theorem State.bootWord_area (s : State) (a : Nat) (v : Word32) {p : Area} (h : p ∉ [Area.mem]) :
    area (State.bootWord s a v) p = area s p := by
  unfold State.bootWord
  try dsimp only
  repeat' first
    | with_reducible rfl
    | with_reducible refine area_ite ?_ ?_
    | with_reducible refine area_dite (fun _ => ?_) (fun _ => ?_)
    | with_reducible refine (State.storeCopies_area _ _ _ (notMem_of_sub h (by decide))).trans ?_

theorem State.bootReg_area (s : State) (x : Nat × Word32) {p : Area} (h : p ∉ [Area.bus, .sys, .mbx, .lrg, .trc, .tal, .pba, .ce, .pos, .gsc, .glk, .rng, .flog, .red, .chg, .thm, .skd, .blz, .can, .boot, .regs, .emitted]) :
    area (State.bootReg s x) p = area s p := by
  unfold State.bootReg
  try dsimp only
  repeat' first
    | with_reducible rfl
    | with_reducible refine area_ite ?_ ?_
    | with_reducible refine area_dite (fun _ => ?_) (fun _ => ?_)
    | with_reducible refine (State.putReg_area _ _ _ _ _ (notMem_of_sub h (by decide))).trans ?_
    | with_reducible refine (State.modBoot_area _ _ (notMem_of_sub h (by decide))).trans ?_
    | with_reducible refine (area_each _ _ _ fun _ _ => ?_).trans ?_
    | with_reducible refine (area_foldl _ (fun _ _ => ?_) _ _).trans ?_
    | dsimp only
    | split
    | with_reducible refine (area_blz h (by decide)).trans ?_

theorem State.bootMem_area (s : State) (b : Bool) (typ : Nat) {p : Area} (h : p ∉ [Area.sys, .lrg, .trc, .tal, .ce, .rng, .mem]) :
    area (State.bootMem s b typ) p = area s p := by
  unfold State.bootMem
  try dsimp only
  repeat' first
    | with_reducible rfl
    | with_reducible refine area_ite ?_ ?_
    | with_reducible refine area_dite (fun _ => ?_) (fun _ => ?_)
    | with_reducible refine (State.bootWord_area _ _ _ (notMem_of_sub h (by decide))).trans ?_
    | with_reducible refine (State.bootProgram_area _ _ _ (notMem_of_sub h (by decide))).trans ?_
    | with_reducible refine (State.ceWrite_area _ _ _ _ (notMem_of_sub h (by decide))).trans ?_
    | with_reducible refine (area_each _ _ _ fun _ _ => ?_).trans ?_
    | with_reducible refine (area_foldl _ (fun _ _ => ?_) _ _).trans ?_
    | dsimp only
    | split

theorem State.bootDomains_area (s : State) {p : Area} (h : p ∉ [Area.sys, .lrg, .trc, .tal, .red, .skd, .can, .mem]) :
    area (State.bootDomains s) p = area s p := by
  unfold State.bootDomains
  try dsimp only
  repeat' first
    | with_reducible rfl
    | with_reducible refine area_ite ?_ ?_
    | with_reducible refine area_dite (fun _ => ?_) (fun _ => ?_)
    | with_reducible refine (State.domainUp_area _ _ (notMem_of_sub h (by decide))).trans ?_
    | with_reducible refine (State.modSys_area _ _ (notMem_of_sub h (by decide))).trans ?_
    | with_reducible refine (State.record_area _ _ _ _ _ _ (notMem_of_sub h (by decide))).trans ?_
    | with_reducible refine (area_each _ _ _ fun _ _ => ?_).trans ?_

theorem State.applyImage_area (s : State) (b : Bool) {p : Area} (h : p ∉ [Area.bus, .sys, .mbx, .lrg, .trc, .tal, .pba, .ce, .pos, .gsc, .glk, .rng, .flog, .red, .chg, .thm, .skd, .blz, .can, .boot, .regs, .mem, .emitted]) :
    area (State.applyImage s b) p = area s p := by
  unfold State.applyImage
  try dsimp only
  repeat' first
    | with_reducible rfl
    | with_reducible refine area_ite ?_ ?_
    | with_reducible refine area_dite (fun _ => ?_) (fun _ => ?_)
    | with_reducible refine (State.bootDomains_area _ (notMem_of_sub h (by decide))).trans ?_
    | with_reducible refine (State.bootMem_area _ _ _ (notMem_of_sub h (by decide))).trans ?_
    | with_reducible refine (State.bootReg_area _ _ (notMem_of_sub h (by decide))).trans ?_
    | with_reducible refine (area_each _ _ _ fun _ _ => ?_).trans ?_
    | with_reducible refine (area_foldl _ (fun _ _ => ?_) _ _).trans ?_
    | dsimp only
    | split
    | with_reducible refine (area_red h (by decide)).trans ?_
    | with_reducible refine (area_blz h (by decide)).trans ?_
    | (cases p <;> first | exact absurd (by decide) h | rfl)

end Sys2Proof.Machine
end

