-- ==== Sys2Proof/Laws/AreaBoot.lean ====
section
/-!
SUPPORT. Which areas of the state each operation of Boot.lean may change.
-/

namespace Sys2Proof.Machine

open Sys2Proof

theorem doResetAssert_area (s : State) (cells : List (Nat × Byte)) {p : Area} (h : p ∉ [Area.clk, .bus, .sys, .mbx, .lrg, .trc, .tal, .pba, .cap, .ce, .trx, .pos, .gsc, .glk, .psp, .rng, .sbc, .flog, .red, .dcc, .obc, .chg, .hka, .thm, .axb, .skd, .blz, .can, .boot, .regs, .mem, .nor, .flights]) :
    area (doResetAssert s cells) p = area s p := by
  unfold doResetAssert
  try dsimp only
  repeat' first
    | with_reducible rfl
    | with_reducible refine area_ite ?_ ?_
    | with_reducible refine area_dite (fun _ => ?_) (fun _ => ?_)
    | with_reducible refine (State.toReset_area _ (notMem_of_sub h (by decide))).trans ?_
    | with_reducible refine (area_each _ _ _ fun _ _ => ?_).trans ?_
    | with_reducible refine (area_foldl _ (fun _ _ => ?_) _ _).trans ?_
    | dsimp only
    | split
    | with_reducible refine (area_nor h (by decide)).trans ?_

theorem doResetRelease_area (s : State) (bootSlot : Bool) (splitEn : Bool) (strapTest : Bool) {p : Area} (h : p ∉ [Area.red, .boot]) :
    area (doResetRelease s bootSlot splitEn strapTest) p = area s p := by
  unfold doResetRelease
  try dsimp only
  repeat' first
    | with_reducible rfl
    | with_reducible refine area_ite ?_ ?_
    | with_reducible refine area_dite (fun _ => ?_) (fun _ => ?_)
    | with_reducible refine (area_each _ _ _ fun _ _ => ?_).trans ?_
    | with_reducible refine (area_foldl _ (fun _ _ => ?_) _ _).trans ?_
    | dsimp only
    | split
    | with_reducible refine (area_red h (by decide)).trans ?_
    | with_reducible refine (area_boot h (by decide)).trans ?_
    | (cases p <;> first | exact absurd (by decide) h | rfl)

theorem doPllLock_area (s : State) {p : Area} (h : p ∉ [Area.clk, .rng, .red, .boot]) :
    area (doPllLock s) p = area s p := by
  unfold doPllLock
  try dsimp only
  repeat' first
    | with_reducible rfl
    | with_reducible refine area_ite ?_ ?_
    | with_reducible refine area_dite (fun _ => ?_) (fun _ => ?_)
    | with_reducible refine (area_each _ _ _ fun _ _ => ?_).trans ?_
    | with_reducible refine (area_foldl _ (fun _ _ => ?_) _ _).trans ?_
    | dsimp only
    | split
    | with_reducible refine (area_clk h (by decide)).trans ?_
    | with_reducible refine (area_rng h (by decide)).trans ?_
    | with_reducible refine (area_red h (by decide)).trans ?_
    | with_reducible refine (area_boot h (by decide)).trans ?_
    | (cases p <;> first | exact absurd (by decide) h | rfl)

theorem doFlogRead_area (s : State) {p : Area} (h : p ∉ [Area.cap, .skd, .boot]) :
    area (doFlogRead s) p = area s p := by
  have e : ∀ (a : Skd) (b : Cap) (c : Boot), area { s with skd := a, cap := b, boot := c } p = area s p :=
    fun a b c => (area_boot (s := { s with skd := a, cap := b }) h (by decide)).trans
      ((area_cap (s := { s with skd := a }) h (by decide)).trans (area_skd h (by decide)))
  unfold doFlogRead
  with_reducible exact area_ite (e _ _ _) rfl

theorem State.slotBad_area (s : State) (b : Bool) (cause : Nat) {p : Area} (h : p ∉ [Area.tal, .boot]) :
    area (State.slotBad s b cause) p = area s p := by
  unfold State.slotBad
  try dsimp only
  repeat' first
    | with_reducible rfl
    | with_reducible refine area_ite ?_ ?_
    | with_reducible refine area_dite (fun _ => ?_) (fun _ => ?_)
    | with_reducible refine (State.modBoot_area _ _ (notMem_of_sub h (by decide))).trans ?_
    | with_reducible refine (State.tally_area _ _ (notMem_of_sub h (by decide))).trans ?_

theorem State.bootFailed_area (s : State) {p : Area} (h : p ∉ [Area.bus, .sys, .mbx, .lrg, .trc, .tal, .pba, .cap, .ce, .trx, .pos, .gsc, .glk, .psp, .flog, .red, .dcc, .obc, .chg, .hka, .thm, .axb, .skd, .can, .boot, .regs, .mem, .flights]) :
    area (State.bootFailed s) p = area s p := by
  unfold State.bootFailed
  try dsimp only
  repeat' first
    | with_reducible rfl
    | with_reducible refine area_ite ?_ ?_
    | with_reducible refine area_dite (fun _ => ?_) (fun _ => ?_)
    | with_reducible refine (State.holdDies_area _ (notMem_of_sub h (by decide))).trans ?_
    | with_reducible refine (State.modBoot_area _ _ (notMem_of_sub h (by decide))).trans ?_
    | with_reducible refine (State.logRecord_area _ _ (notMem_of_sub h (by decide))).trans ?_

theorem State.trySlot_area (s : State) (silent : Bool) (b : Bool) {p : Area} (h : p ∉ [Area.tal, .boot]) :
    area (State.trySlot s silent b) p = area s p := by
  unfold State.trySlot
  try dsimp only
  repeat' first
    | with_reducible rfl
    | with_reducible refine area_ite ?_ ?_
    | with_reducible refine area_dite (fun _ => ?_) (fun _ => ?_)
    | with_reducible refine (State.slotBad_area _ _ _ (notMem_of_sub h (by decide))).trans ?_
    | with_reducible refine (State.modBoot_area _ _ (notMem_of_sub h (by decide))).trans ?_
    | with_reducible refine (area_each _ _ _ fun _ _ => ?_).trans ?_
    | with_reducible refine (area_foldl _ (fun _ _ => ?_) _ _).trans ?_
    | dsimp only
    | split

theorem doSlotSelect_area (s : State) (silent : Bool) {p : Area} (h : p ∉ [Area.bus, .sys, .mbx, .lrg, .trc, .tal, .pba, .cap, .ce, .trx, .pos, .gsc, .glk, .psp, .flog, .red, .dcc, .obc, .chg, .hka, .thm, .axb, .skd, .can, .boot, .regs, .mem, .flights]) :
    area (doSlotSelect s silent) p = area s p := by
  unfold doSlotSelect
  try dsimp only
  repeat' first
    | with_reducible rfl
    | with_reducible refine area_ite ?_ ?_
    | with_reducible refine area_dite (fun _ => ?_) (fun _ => ?_)
    | with_reducible refine (State.trySlot_area _ _ _ (notMem_of_sub h (by decide))).trans ?_
    | with_reducible refine (State.bootFailed_area _ (notMem_of_sub h (by decide))).trans ?_

theorem doImageRead_area (s : State) {p : Area} (h : p ∉ [Area.bus, .sys, .mbx, .lrg, .trc, .tal, .pba, .cap, .ce, .trx, .pos, .gsc, .glk, .psp, .rng, .flog, .red, .dcc, .obc, .chg, .hka, .thm, .axb, .skd, .blz, .can, .boot, .regs, .mem, .emitted, .flights]) :
    area (doImageRead s) p = area s p := by
  unfold doImageRead
  try dsimp only
  repeat' first
    | with_reducible rfl
    | with_reducible refine area_ite ?_ ?_
    | with_reducible refine area_dite (fun _ => ?_) (fun _ => ?_)
    | with_reducible refine (State.bootFailed_area _ (notMem_of_sub h (by decide))).trans ?_
    | with_reducible refine (State.slotBad_area _ _ _ (notMem_of_sub h (by decide))).trans ?_
    | with_reducible refine (State.applyImage_area _ _ (notMem_of_sub h (by decide))).trans ?_
    | with_reducible refine (State.modBoot_area _ _ (notMem_of_sub h (by decide))).trans ?_
    | with_reducible refine (area_each _ _ _ fun _ _ => ?_).trans ?_
    | with_reducible refine (area_foldl _ (fun _ _ => ?_) _ _).trans ?_
    | dsimp only
    | split

theorem State.checkTrx_area (s : State) {p : Area} (h : p ∉ [Area.lrg, .trc, .tal, .trx, .rng]) :
    area (State.checkTrx s) p = area s p := by
  unfold State.checkTrx
  try dsimp only
  repeat' first
    | with_reducible rfl
    | with_reducible refine area_ite ?_ ?_
    | with_reducible refine area_dite (fun _ => ?_) (fun _ => ?_)
    | with_reducible refine (State.recordReport_area _ _ _ _ _ _ _ (notMem_of_sub h (by decide))).trans ?_
    | with_reducible refine (area_each _ _ _ fun _ _ => ?_).trans ?_
    | with_reducible refine (area_foldl _ (fun _ _ => ?_) _ _).trans ?_
    | dsimp only
    | split
    | with_reducible refine (area_trx h (by decide)).trans ?_

theorem State.checkGsc_area (s : State) {p : Area} (h : p ∉ [Area.lrg, .trc, .tal, .gsc, .rng]) :
    area (State.checkGsc s) p = area s p := by
  unfold State.checkGsc
  try dsimp only
  repeat' first
    | with_reducible rfl
    | with_reducible refine area_ite ?_ ?_
    | with_reducible refine area_dite (fun _ => ?_) (fun _ => ?_)
    | with_reducible refine (State.recordReport_area _ _ _ _ _ _ _ (notMem_of_sub h (by decide))).trans ?_
    | with_reducible refine (area_each _ _ _ fun _ _ => ?_).trans ?_
    | with_reducible refine (area_foldl _ (fun _ _ => ?_) _ _).trans ?_
    | dsimp only
    | split
    | with_reducible refine (area_gsc h (by decide)).trans ?_

theorem State.checkBlz_area (s : State) {p : Area} (h : p ∉ [Area.lrg, .trc, .tal, .regs]) :
    area (State.checkBlz s) p = area s p := by
  unfold State.checkBlz
  try dsimp only
  repeat' first
    | with_reducible rfl
    | with_reducible refine area_ite ?_ ?_
    | with_reducible refine area_dite (fun _ => ?_) (fun _ => ?_)
    | with_reducible refine (State.record_area _ _ _ _ _ _ (notMem_of_sub h (by decide))).trans ?_
    | with_reducible refine (area_each _ _ _ fun _ _ => ?_).trans ?_
    | with_reducible refine (area_foldl _ (fun _ _ => ?_) _ _).trans ?_
    | dsimp only
    | split
    | with_reducible refine (area_regs h (by decide)).trans ?_

theorem State.checkRings_area (s : State) {p : Area} (h : p ∉ [Area.lrg]) :
    area (State.checkRings s) p = area s p := by
  unfold State.checkRings
  try dsimp only
  repeat' first
    | with_reducible rfl
    | with_reducible refine area_ite ?_ ?_
    | with_reducible refine area_dite (fun _ => ?_) (fun _ => ?_)
    | with_reducible refine (area_each _ _ _ fun _ _ => ?_).trans ?_
    | with_reducible refine (area_foldl _ (fun _ _ => ?_) _ _).trans ?_
    | dsimp only
    | split
    | with_reducible refine (area_lrg h (by decide)).trans ?_

theorem State.releasePairs_area (s : State) {p : Area} (h : p ∉ [Area.lrg, .trc, .tal, .red]) :
    area (State.releasePairs s) p = area s p := by
  unfold State.releasePairs
  try dsimp only
  repeat' first
    | with_reducible rfl
    | with_reducible refine area_ite ?_ ?_
    | with_reducible refine area_dite (fun _ => ?_) (fun _ => ?_)
    | with_reducible refine (State.modPair_area _ _ _ (notMem_of_sub h (by decide))).trans ?_
    | with_reducible refine (State.record_area _ _ _ _ _ _ (notMem_of_sub h (by decide))).trans ?_
    | with_reducible refine (area_each _ _ _ fun _ _ => ?_).trans ?_

theorem State.startEngines_area (s : State) {p : Area} (h : p ∉ [Area.lrg, .trc, .tal, .ce, .glk, .red]) :
    area (State.startEngines s) p = area s p := by
  unfold State.startEngines
  try dsimp only
  repeat' first
    | with_reducible rfl
    | with_reducible refine area_ite ?_ ?_
    | with_reducible refine area_dite (fun _ => ?_) (fun _ => ?_)
    | with_reducible refine (State.writeRun_area _ _ _ (notMem_of_sub h (by decide))).trans ?_
    | with_reducible refine (area_each _ _ _ fun _ _ => ?_).trans ?_

theorem State.startBlaze_area (s : State) {p : Area} (h : p ∉ [Area.blz]) :
    area (State.startBlaze s) p = area s p := by
  unfold State.startBlaze
  try dsimp only
  repeat' first
    | with_reducible rfl
    | with_reducible refine area_ite ?_ ?_
    | with_reducible refine area_dite (fun _ => ?_) (fun _ => ?_)
    | with_reducible refine (State.modConn_area _ _ _ (notMem_of_sub h (by decide))).trans ?_
    | with_reducible refine (area_each _ _ _ fun _ _ => ?_).trans ?_

theorem State.startAxle_area (s : State) {p : Area} (h : p ∉ [Area.red]) :
    area (State.startAxle s) p = area s p := by
  unfold State.startAxle
  try dsimp only
  repeat' first
    | with_reducible rfl
    | with_reducible refine area_ite ?_ ?_
    | with_reducible refine area_dite (fun _ => ?_) (fun _ => ?_)
    | with_reducible refine (State.modAx_area _ _ _ (notMem_of_sub h (by decide))).trans ?_
    | with_reducible refine (area_each _ _ _ fun _ _ => ?_).trans ?_

theorem State.postStart_area (s : State) {p : Area} (h : p ∉ [Area.lrg, .trc, .tal]) :
    area (State.postStart s) p = area s p := by
  unfold State.postStart
  try dsimp only
  repeat' first
    | with_reducible rfl
    | with_reducible refine area_ite ?_ ?_
    | with_reducible refine area_dite (fun _ => ?_) (fun _ => ?_)
    | with_reducible refine (State.record_area _ _ _ _ _ _ (notMem_of_sub h (by decide))).trans ?_

theorem State.startWatches_area (s : State) {p : Area} (h : p ∉ [Area.pba, .cap, .red]) :
    area (State.startWatches s) p = area s p := by
  unfold State.startWatches
  try dsimp only
  repeat' first
    | with_reducible rfl
    | with_reducible refine area_ite ?_ ?_
    | with_reducible refine area_dite (fun _ => ?_) (fun _ => ?_)
    | with_reducible refine (area_each _ _ _ fun _ _ => ?_).trans ?_
    | with_reducible refine (area_foldl _ (fun _ _ => ?_) _ _).trans ?_
    | dsimp only
    | split
    | with_reducible refine (area_pba h (by decide)).trans ?_
    | with_reducible refine (area_cap h (by decide)).trans ?_
    | with_reducible refine (area_red h (by decide)).trans ?_
    | (cases p <;> first | exact absurd (by decide) h | rfl)

theorem doStartLock_area (s : State) {p : Area} (h : p ∉ [Area.lrg, .trc, .tal, .pba, .cap, .ce, .trx, .gsc, .glk, .rng, .red, .skd, .blz, .can, .boot, .regs]) :
    area (doStartLock s) p = area s p := by
  unfold doStartLock
  try dsimp only
  repeat' first
    | with_reducible rfl
    | with_reducible refine area_ite ?_ ?_
    | with_reducible refine area_dite (fun _ => ?_) (fun _ => ?_)
    | with_reducible refine (State.startWatches_area _ (notMem_of_sub h (by decide))).trans ?_
    | with_reducible refine (State.postStart_area _ (notMem_of_sub h (by decide))).trans ?_
    | with_reducible refine (State.startAxle_area _ (notMem_of_sub h (by decide))).trans ?_
    | with_reducible refine (State.startBlaze_area _ (notMem_of_sub h (by decide))).trans ?_
    | with_reducible refine (State.startEngines_area _ (notMem_of_sub h (by decide))).trans ?_
    | with_reducible refine (State.releasePairs_area _ (notMem_of_sub h (by decide))).trans ?_
    | with_reducible refine (State.checkRings_area _ (notMem_of_sub h (by decide))).trans ?_
    | with_reducible refine (State.checkBlz_area _ (notMem_of_sub h (by decide))).trans ?_
    | with_reducible refine (State.checkGsc_area _ (notMem_of_sub h (by decide))).trans ?_
    | with_reducible refine (State.checkTrx_area _ (notMem_of_sub h (by decide))).trans ?_
    | with_reducible refine (State.skdStart_area _ (notMem_of_sub h (by decide))).trans ?_
    | with_reducible refine (State.canStart_area _ _ (notMem_of_sub h (by decide))).trans ?_
    | with_reducible refine (State.linkStart_area _ _ (notMem_of_sub h (by decide))).trans ?_
    | with_reducible refine (State.modBoot_area _ _ (notMem_of_sub h (by decide))).trans ?_
    | with_reducible refine (area_each _ _ _ fun _ _ => ?_).trans ?_

theorem State.nvBegin_area (s : State) (a : Nat) (d : List Byte) {p : Area} (h : p ∉ [Area.boot]) :
    area (State.nvBegin s a d) p = area s p := by
  unfold State.nvBegin
  try dsimp only
  repeat' first
    | with_reducible rfl
    | with_reducible refine area_ite ?_ ?_
    | with_reducible refine area_dite (fun _ => ?_) (fun _ => ?_)
    | with_reducible refine (State.modBoot_area _ _ (notMem_of_sub h (by decide))).trans ?_

theorem State.nvEnd_area (s : State) (r : Nat) {p : Area} (h : p ∉ [Area.boot]) :
    area (State.nvEnd s r) p = area s p := by
  unfold State.nvEnd
  try dsimp only
  repeat' first
    | with_reducible rfl
    | with_reducible refine area_ite ?_ ?_
    | with_reducible refine area_dite (fun _ => ?_) (fun _ => ?_)
    | with_reducible refine (State.modBoot_area _ _ (notMem_of_sub h (by decide))).trans ?_

theorem doNv_area (s : State) (id : Fin 64) (op : Nat) {p : Area} (h : p ∉ [Area.bus, .sys, .lrg, .trc, .tal, .rng, .boot, .regs]) :
    area (doNv s id op) p = area s p := by
  unfold doNv
  try dsimp only
  repeat' first
    | with_reducible rfl
    | with_reducible refine area_ite ?_ ?_
    | with_reducible refine area_dite (fun _ => ?_) (fun _ => ?_)
    | with_reducible refine (State.nvEnd_area _ _ (notMem_of_sub h (by decide))).trans ?_
    | with_reducible refine (State.nvBegin_area _ _ _ (notMem_of_sub h (by decide))).trans ?_
    | with_reducible refine (State.modBoot_area _ _ (notMem_of_sub h (by decide))).trans ?_
    | with_reducible refine (State.readRows_area _ _ _ _ (notMem_of_sub h (by decide))).trans ?_
    | with_reducible refine (State.busDone_area _ _ (notMem_of_sub h (by decide))).trans ?_
    | with_reducible refine (State.busError_area _ _ _ _ (notMem_of_sub h (by decide))).trans ?_
    | with_reducible refine (area_each _ _ _ fun _ _ => ?_).trans ?_
    | with_reducible refine (area_foldl _ (fun _ _ => ?_) _ _).trans ?_
    | with_reducible refine area_ite_fst ?_ ?_
    | dsimp only
    | split
    | with_reducible refine (area_regs h (by decide)).trans ?_

theorem State.norStore_area (s : State) (a : Nat) (bs : List Byte) {p : Area} (h : p ∉ [Area.nor]) :
    area (State.norStore s a bs) p = area s p := by
  unfold State.norStore
  try dsimp only
  repeat' first
    | with_reducible rfl
    | with_reducible refine area_ite ?_ ?_
    | with_reducible refine area_dite (fun _ => ?_) (fun _ => ?_)
    | with_reducible refine (area_each _ _ _ fun _ _ => ?_).trans ?_
    | with_reducible refine (area_foldl _ (fun _ _ => ?_) _ _).trans ?_
    | dsimp only
    | split
    | with_reducible refine (area_nor h (by decide)).trans ?_

theorem State.norFree_area (s : State) (a : Nat) (n : Nat) {p : Area} (h : p ∉ [Area.nor, .draws]) :
    area (State.norFree s a n) p = area s p := by
  unfold State.norFree
  try dsimp only
  repeat' first
    | with_reducible rfl
    | with_reducible refine area_ite ?_ ?_
    | with_reducible refine area_dite (fun _ => ?_) (fun _ => ?_)
    | with_reducible refine (State.norStore_area _ _ _ (notMem_of_sub h (by decide))).trans ?_
    | with_reducible refine (State.draw_area _ (notMem_of_sub h (by decide))).trans ?_

theorem State.nvVerify_area (s : State) (silent : Bool) {p : Area} (h : p ∉ [Area.lrg, .trc, .tal, .boot]) :
    area (State.nvVerify s silent) p = area s p := by
  unfold State.nvVerify
  try dsimp only
  repeat' first
    | with_reducible rfl
    | with_reducible refine area_ite ?_ ?_
    | with_reducible refine area_dite (fun _ => ?_) (fun _ => ?_)
    | with_reducible refine (State.nvEnd_area _ _ (notMem_of_sub h (by decide))).trans ?_
    | with_reducible refine (State.modBoot_area _ _ (notMem_of_sub h (by decide))).trans ?_
    | with_reducible refine (State.record_area _ _ _ _ _ _ (notMem_of_sub h (by decide))).trans ?_

theorem doNvDone_area (s : State) (err : Bool) {p : Area} (h : p ∉ [Area.lrg, .trc, .tal, .boot, .nor, .draws]) :
    area (doNvDone s err) p = area s p := by
  unfold doNvDone
  try dsimp only
  repeat' first
    | with_reducible rfl
    | with_reducible refine area_ite ?_ ?_
    | with_reducible refine area_dite (fun _ => ?_) (fun _ => ?_)
    | with_reducible refine (State.nvVerify_area _ _ (notMem_of_sub h (by decide))).trans ?_
    | with_reducible refine (State.norFree_area _ _ _ (notMem_of_sub h (by decide))).trans ?_
    | with_reducible refine (State.norStore_area _ _ _ (notMem_of_sub h (by decide))).trans ?_
    | with_reducible refine (State.nvEnd_area _ _ (notMem_of_sub h (by decide))).trans ?_
    | with_reducible refine (area_each _ _ _ fun _ _ => ?_).trans ?_
    | with_reducible refine (area_foldl _ (fun _ _ => ?_) _ _).trans ?_
    | dsimp only
    | split

theorem doActivate_area (s : State) (v : Word32) {p : Area} (h : p ∉ [Area.lrg, .trc, .tal, .boot, .regs]) :
    area (doActivate s v) p = area s p := by
  unfold doActivate
  try dsimp only
  repeat' first
    | with_reducible rfl
    | with_reducible refine area_ite ?_ ?_
    | with_reducible refine area_dite (fun _ => ?_) (fun _ => ?_)
    | with_reducible refine (State.endAct_area _ _ (notMem_of_sub h (by decide))).trans ?_
    | with_reducible refine (State.modAct_area _ _ (notMem_of_sub h (by decide))).trans ?_
    | with_reducible refine (area_each _ _ _ fun _ _ => ?_).trans ?_
    | with_reducible refine (area_foldl _ (fun _ _ => ?_) _ _).trans ?_
    | dsimp only
    | split
    | with_reducible refine (area_regs h (by decide)).trans ?_

theorem doActivationRead_area (s : State) {p : Area} (h : p ∉ [Area.sys, .lrg, .trc, .tal, .ce, .glk, .red, .boot, .mem]) :
    area (doActivationRead s) p = area s p := by
  unfold doActivationRead
  try dsimp only
  repeat' first
    | with_reducible rfl
    | with_reducible refine area_ite ?_ ?_
    | with_reducible refine area_dite (fun _ => ?_) (fun _ => ?_)
    | with_reducible refine (State.stage_area _ _ (notMem_of_sub h (by decide))).trans ?_
    | with_reducible refine (State.bootPoll_area _ (notMem_of_sub h (by decide))).trans ?_
    | with_reducible refine (State.endAct_area _ _ (notMem_of_sub h (by decide))).trans ?_
    | with_reducible refine (State.modAct_area _ _ (notMem_of_sub h (by decide))).trans ?_
    | with_reducible refine (area_each _ _ _ fun _ _ => ?_).trans ?_
    | with_reducible refine (area_foldl _ (fun _ _ => ?_) _ _).trans ?_
    | dsimp only
    | split

theorem doStepWait_area (s : State) {p : Area} (h : p ∉ [Area.lrg, .trc, .tal, .ce, .glk, .red, .boot]) :
    area (doStepWait s) p = area s p := by
  unfold doStepWait
  try dsimp only
  repeat' first
    | with_reducible rfl
    | with_reducible refine area_ite ?_ ?_
    | with_reducible refine area_dite (fun _ => ?_) (fun _ => ?_)
    | with_reducible refine (State.bootPoll_area _ (notMem_of_sub h (by decide))).trans ?_
    | with_reducible refine (State.failAct_area _ _ (notMem_of_sub h (by decide))).trans ?_
    | with_reducible refine (State.modAct_area _ _ (notMem_of_sub h (by decide))).trans ?_
    | with_reducible refine (area_each _ _ _ fun _ _ => ?_).trans ?_
    | with_reducible refine (area_foldl _ (fun _ _ => ?_) _ _).trans ?_
    | dsimp only
    | split

theorem doRaise_area (s : State) (v : BitVec 16) {p : Area} (h : p ∉ [Area.lrg, .trc, .tal, .flog]) :
    area (doRaise s v) p = area s p := by
  unfold doRaise
  try dsimp only
  repeat' first
    | with_reducible rfl
    | with_reducible refine area_ite ?_ ?_
    | with_reducible refine area_dite (fun _ => ?_) (fun _ => ?_)
    | with_reducible refine (State.record_area _ _ _ _ _ _ (notMem_of_sub h (by decide))).trans ?_
    | with_reducible refine (State.tally_area _ _ (notMem_of_sub h (by decide))).trans ?_
    | with_reducible refine (area_each _ _ _ fun _ _ => ?_).trans ?_
    | with_reducible refine (area_foldl _ (fun _ _ => ?_) _ _).trans ?_
    | dsimp only
    | split
    | with_reducible refine (area_flog h (by decide)).trans ?_

theorem State.modRestart_area (s : State) (k : Fin 6) (f : PairRestart → PairRestart) {p : Area} (h : p ∉ [Area.boot]) :
    area (State.modRestart s k f) p = area s p := by
  unfold State.modRestart
  try dsimp only
  repeat' first
    | with_reducible rfl
    | with_reducible refine area_ite ?_ ?_
    | with_reducible refine area_dite (fun _ => ?_) (fun _ => ?_)
    | with_reducible refine (State.modBoot_area _ _ (notMem_of_sub h (by decide))).trans ?_

theorem State.askRestart_area (s : State) (k : Fin 6) (v : Bool) {p : Area} (h : p ∉ [Area.sys]) :
    area (State.askRestart s k v) p = area s p := by
  unfold State.askRestart
  try dsimp only
  repeat' first
    | with_reducible rfl
    | with_reducible refine area_ite ?_ ?_
    | with_reducible refine area_dite (fun _ => ?_) (fun _ => ?_)
    | with_reducible refine (State.modSys_area _ _ (notMem_of_sub h (by decide))).trans ?_

theorem State.pairStop_area (s : State) (k : Fin 6) {p : Area} (h : p ∉ [Area.sys, .red, .boot, .mem]) :
    area (State.pairStop s k) p = area s p := by
  unfold State.pairStop
  try dsimp only
  repeat' first
    | with_reducible rfl
    | with_reducible refine area_ite ?_ ?_
    | with_reducible refine area_dite (fun _ => ?_) (fun _ => ?_)
    | with_reducible refine (State.askRestart_area _ _ _ (notMem_of_sub h (by decide))).trans ?_
    | with_reducible refine (State.modRestart_area _ _ _ (notMem_of_sub h (by decide))).trans ?_
    | with_reducible refine (State.modPair_area _ _ _ (notMem_of_sub h (by decide))).trans ?_
    | with_reducible refine (State.clearPair_area _ _ (notMem_of_sub h (by decide))).trans ?_

theorem doHold_area (s : State) (k : Fin 6) (v : Word32) {p : Area} (h : p ∉ [Area.sys, .red, .boot, .regs, .mem]) :
    area (doHold s k v) p = area s p := by
  unfold doHold
  try dsimp only
  repeat' first
    | with_reducible rfl
    | with_reducible refine area_ite ?_ ?_
    | with_reducible refine area_dite (fun _ => ?_) (fun _ => ?_)
    | with_reducible refine (State.pairStop_area _ _ (notMem_of_sub h (by decide))).trans ?_
    | with_reducible refine (State.askRestart_area _ _ _ (notMem_of_sub h (by decide))).trans ?_
    | with_reducible refine (State.modRestart_area _ _ _ (notMem_of_sub h (by decide))).trans ?_
    | with_reducible refine (area_each _ _ _ fun _ _ => ?_).trans ?_
    | with_reducible refine (area_foldl _ (fun _ _ => ?_) _ _).trans ?_
    | dsimp only
    | split
    | with_reducible refine (area_regs h (by decide)).trans ?_

theorem doCheckpoint_area (s : State) (k : Fin 6) {p : Area} (h : p ∉ [Area.sys, .red, .boot, .mem]) :
    area (doCheckpoint s k) p = area s p := by
  unfold doCheckpoint
  try dsimp only
  repeat' first
    | with_reducible rfl
    | with_reducible refine area_ite ?_ ?_
    | with_reducible refine area_dite (fun _ => ?_) (fun _ => ?_)
    | with_reducible refine (State.pairStop_area _ _ (notMem_of_sub h (by decide))).trans ?_

theorem doHoldWait_area (s : State) (k : Fin 6) {p : Area} (h : p ∉ [Area.sys, .boot]) :
    area (doHoldWait s k) p = area s p := by
  unfold doHoldWait
  try dsimp only
  repeat' first
    | with_reducible rfl
    | with_reducible refine area_ite ?_ ?_
    | with_reducible refine area_dite (fun _ => ?_) (fun _ => ?_)
    | with_reducible refine (State.askRestart_area _ _ _ (notMem_of_sub h (by decide))).trans ?_
    | with_reducible refine (State.modRestart_area _ _ _ (notMem_of_sub h (by decide))).trans ?_

theorem State.pairRecords_area (s : State) (b : Bool) (k : Fin 6) {p : Area} (h : p ∉ [Area.mem]) :
    area (State.pairRecords s b k) p = area s p := by
  unfold State.pairRecords
  try dsimp only
  repeat' first
    | with_reducible rfl
    | with_reducible refine area_ite ?_ ?_
    | with_reducible refine area_dite (fun _ => ?_) (fun _ => ?_)
    | with_reducible refine (State.bootWord_area _ _ _ (notMem_of_sub h (by decide))).trans ?_
    | with_reducible refine (area_each _ _ _ fun _ _ => ?_).trans ?_
    | with_reducible refine (area_foldl _ (fun _ _ => ?_) _ _).trans ?_
    | dsimp only
    | split

theorem doPairLoad_area (s : State) (k : Fin 6) {p : Area} (h : p ∉ [Area.lrg, .trc, .tal, .red, .boot, .mem]) :
    area (doPairLoad s k) p = area s p := by
  unfold doPairLoad
  try dsimp only
  repeat' first
    | with_reducible rfl
    | with_reducible refine area_ite ?_ ?_
    | with_reducible refine area_dite (fun _ => ?_) (fun _ => ?_)
    | with_reducible refine (State.pairRecords_area _ _ _ (notMem_of_sub h (by decide))).trans ?_
    | with_reducible refine (State.modRestart_area _ _ _ (notMem_of_sub h (by decide))).trans ?_
    | with_reducible refine (State.modPair_area _ _ _ (notMem_of_sub h (by decide))).trans ?_
    | with_reducible refine (State.record_area _ _ _ _ _ _ (notMem_of_sub h (by decide))).trans ?_
    | with_reducible refine (State.tally_area _ _ (notMem_of_sub h (by decide))).trans ?_

theorem State.writeBoot_area (s : State) (id : Fin 64) (o : Nat) (v : Nat) {p : Area} (h : p ∉ [Area.bus, .sys, .lrg, .trc, .tal, .rng, .flog, .red, .boot, .regs, .mem]) :
    area (State.writeBoot s id o v) p = area s p := by
  unfold State.writeBoot
  try dsimp only
  repeat' first
    | with_reducible rfl
    | with_reducible refine area_ite ?_ ?_
    | with_reducible refine area_dite (fun _ => ?_) (fun _ => ?_)
    | with_reducible refine (doCheckpoint_area _ _ (notMem_of_sub h (by decide))).trans ?_
    | with_reducible refine (doHold_area _ _ _ (notMem_of_sub h (by decide))).trans ?_
    | with_reducible refine (doRaise_area _ _ (notMem_of_sub h (by decide))).trans ?_
    | with_reducible refine (doActivate_area _ _ (notMem_of_sub h (by decide))).trans ?_
    | with_reducible refine (doNv_area _ _ _ (notMem_of_sub h (by decide))).trans ?_
    | with_reducible refine (State.onFam_area _ _ _ _ _ _ (fun _ _ => ?_)).trans ?_
    | with_reducible refine (area_each _ _ _ fun _ _ => ?_).trans ?_
    | with_reducible refine (area_foldl _ (fun _ _ => ?_) _ _).trans ?_
    | dsimp only
    | split

end Sys2Proof.Machine
end

