-- ==== Sys2Proof/Laws/AreaBridge.lean ====
section
/-!
SUPPORT. Which areas of the state each operation of Bridge.lean may change.
-/

namespace Sys2Proof.Machine

open Sys2Proof

theorem State.axbPeriodAt_area (s : State) (b : Fin 3) (x : Nat) {p : Area} (h : p ∉ [Area.lrg, .trc, .tal, .cap, .pos, .rng, .axb]) :
    area (State.axbPeriodAt s b x) p = area s p := by
  unfold State.axbPeriodAt
  try dsimp only
  repeat' first
    | with_reducible rfl
    | with_reducible refine area_ite ?_ ?_
    | with_reducible refine area_dite (fun _ => ?_) (fun _ => ?_)
    | with_reducible refine (State.periodStarts_area _ _ _ _ (notMem_of_sub h (by decide))).trans ?_
    | with_reducible refine (State.takeCommit_area _ _ _ (notMem_of_sub h (by decide))).trans ?_
    | with_reducible refine (State.place_area _ _ (notMem_of_sub h (by decide))).trans ?_
    | with_reducible refine (State.edgesUpTo_area _ _ _ _ (notMem_of_sub h (by decide))).trans ?_
    | with_reducible refine (State.modAxb_area _ _ _ (notMem_of_sub h (by decide))).trans ?_
    | with_reducible refine (State.tally_area _ _ (notMem_of_sub h (by decide))).trans ?_
    | with_reducible refine (area_each _ _ _ fun _ _ => ?_).trans ?_

theorem doAxbPeriod_area (s : State) (b : Fin 3) {p : Area} (h : p ∉ [Area.lrg, .trc, .tal, .cap, .pos, .rng, .axb]) :
    area (doAxbPeriod s b) p = area s p := by
  unfold doAxbPeriod
  try dsimp only
  repeat' first
    | with_reducible rfl
    | with_reducible refine area_ite ?_ ?_
    | with_reducible refine area_dite (fun _ => ?_) (fun _ => ?_)
    | with_reducible refine (State.axbPeriodAt_area _ _ _ (notMem_of_sub h (by decide))).trans ?_
    | with_reducible refine (area_each _ _ _ fun _ _ => ?_).trans ?_
    | with_reducible refine (area_foldl _ (fun _ _ => ?_) _ _).trans ?_
    | dsimp only
    | split

theorem State.urgent_area (s : State) (b : Fin 3) (v : Bool) (aperture : Nat) (input : Nat) {p : Area} (h : p ∉ [Area.lrg, .trc, .tal, .hka]) :
    area (State.urgent s b v aperture input) p = area s p := by
  unfold State.urgent
  try dsimp only
  repeat' first
    | with_reducible rfl
    | with_reducible refine area_ite ?_ ?_
    | with_reducible refine area_dite (fun _ => ?_) (fun _ => ?_)
    | with_reducible refine (State.record_area _ _ _ _ _ _ (notMem_of_sub h (by decide))).trans ?_
    | with_reducible refine (State.tally_area _ _ (notMem_of_sub h (by decide))).trans ?_
    | with_reducible refine (area_each _ _ _ fun _ _ => ?_).trans ?_
    | with_reducible refine (area_foldl _ (fun _ _ => ?_) _ _).trans ?_
    | dsimp only
    | split
    | with_reducible refine (area_hka h (by decide)).trans ?_

theorem doUrgent_area (s : State) (b : Fin 3) {p : Area} (h : p ∉ [Area.lrg, .trc, .tal, .hka]) :
    area (doUrgent s b) p = area s p := by
  unfold doUrgent
  try dsimp only
  repeat' first
    | with_reducible rfl
    | with_reducible refine area_ite ?_ ?_
    | with_reducible refine area_dite (fun _ => ?_) (fun _ => ?_)
    | with_reducible refine (State.urgent_area _ _ _ _ _ (notMem_of_sub h (by decide))).trans ?_

theorem State.overcurrent_area (s : State) (b : Fin 3) {p : Area} (h : p ∉ [Area.lrg, .trc, .tal, .rng, .axb]) :
    area (State.overcurrent s b) p = area s p := by
  unfold State.overcurrent
  try dsimp only
  repeat' first
    | with_reducible rfl
    | with_reducible refine area_ite ?_ ?_
    | with_reducible refine area_dite (fun _ => ?_) (fun _ => ?_)
    | with_reducible refine (State.modAxb_area _ _ _ (notMem_of_sub h (by decide))).trans ?_
    | with_reducible refine (State.recordReport_area _ _ _ _ _ _ _ (notMem_of_sub h (by decide))).trans ?_
    | with_reducible refine (State.tally_area _ _ (notMem_of_sub h (by decide))).trans ?_

theorem doAxbInput_area (s : State) (b : Fin 3) {p : Area} (h : p ∉ [Area.sys, .lrg, .trc, .tal, .ce, .rng, .axb]) :
    area (doAxbInput s b) p = area s p := by
  unfold doAxbInput
  try dsimp only
  repeat' first
    | with_reducible rfl
    | with_reducible refine area_ite ?_ ?_
    | with_reducible refine area_dite (fun _ => ?_) (fun _ => ?_)
    | with_reducible refine (State.overcurrent_area _ _ (notMem_of_sub h (by decide))).trans ?_
    | with_reducible refine (State.modAxb_area _ _ _ (notMem_of_sub h (by decide))).trans ?_
    | with_reducible refine (State.ceWrites_area _ _ _ _ (notMem_of_sub h (by decide))).trans ?_

theorem State.modPh_area (s : State) (b : Fin 3) (p0 : Fin 3) (f : Phase → Phase) {p : Area} (h : p ∉ [Area.axb]) :
    area (State.modPh s b p0 f) p = area s p := by
  unfold State.modPh
  try dsimp only
  repeat' first
    | with_reducible rfl
    | with_reducible refine area_ite ?_ ?_
    | with_reducible refine area_dite (fun _ => ?_) (fun _ => ?_)
    | with_reducible refine (State.modAxb_area _ _ _ (notMem_of_sub h (by decide))).trans ?_

theorem State.bootLowAt_area (s : State) (b : Fin 3) (p0 : Fin 3) (v : Nat) {p : Area} (h : p ∉ [Area.lrg, .trc, .tal, .axb]) :
    area (State.bootLowAt s b p0 v) p = area s p := by
  unfold State.bootLowAt
  try dsimp only
  repeat' first
    | with_reducible rfl
    | with_reducible refine area_ite ?_ ?_
    | with_reducible refine area_dite (fun _ => ?_) (fun _ => ?_)
    | with_reducible refine (State.modPh_area _ _ _ _ (notMem_of_sub h (by decide))).trans ?_
    | with_reducible refine (State.record_area _ _ _ _ _ _ (notMem_of_sub h (by decide))).trans ?_
    | with_reducible refine (State.tally_area _ _ (notMem_of_sub h (by decide))).trans ?_

theorem doUvlo_area (s : State) (b : Fin 3) (p0 : Fin 3) {p : Area} (h : p ∉ [Area.lrg, .trc, .tal, .cap, .axb, .draws]) :
    area (doUvlo s b p0) p = area s p := by
  unfold doUvlo
  try dsimp only
  repeat' first
    | with_reducible rfl
    | with_reducible refine area_ite ?_ ?_
    | with_reducible refine area_dite (fun _ => ?_) (fun _ => ?_)
    | with_reducible refine (State.bootLowAt_area _ _ _ _ (notMem_of_sub h (by decide))).trans ?_
    | with_reducible refine (State.modPh_area _ _ _ _ (notMem_of_sub h (by decide))).trans ?_
    | with_reducible refine (State.gateEdge_area _ _ _ _ _ _ (notMem_of_sub h (by decide))).trans ?_
    | with_reducible refine (State.record_area _ _ _ _ _ _ (notMem_of_sub h (by decide))).trans ?_
    | with_reducible refine (State.tally_area _ _ (notMem_of_sub h (by decide))).trans ?_
    | with_reducible refine (State.draw_area _ (notMem_of_sub h (by decide))).trans ?_

theorem State.enterSix_area (s : State) (b : Fin 3) (st : BState) (step : Nat) {p : Area} (h : p ∉ [Area.lrg, .trc, .tal, .cap, .rng, .axb]) :
    area (State.enterSix s b st step) p = area s p := by
  unfold State.enterSix
  try dsimp only
  repeat' first
    | with_reducible rfl
    | with_reducible refine area_ite ?_ ?_
    | with_reducible refine area_dite (fun _ => ?_) (fun _ => ?_)
    | with_reducible refine (State.place_area _ _ (notMem_of_sub h (by decide))).trans ?_
    | with_reducible refine (State.stepNow_area _ _ (notMem_of_sub h (by decide))).trans ?_
    | with_reducible refine (State.modAxb_area _ _ _ (notMem_of_sub h (by decide))).trans ?_

theorem doAlignEnd_area (s : State) (b : Fin 3) {p : Area} (h : p ∉ [Area.lrg, .trc, .tal, .cap, .rng, .axb]) :
    area (doAlignEnd s b) p = area s p := by
  unfold doAlignEnd
  try dsimp only
  repeat' first
    | with_reducible rfl
    | with_reducible refine area_ite ?_ ?_
    | with_reducible refine area_dite (fun _ => ?_) (fun _ => ?_)
    | with_reducible refine (State.startStep_area _ _ _ _ (notMem_of_sub h (by decide))).trans ?_
    | with_reducible refine (State.modAxb_area _ _ _ (notMem_of_sub h (by decide))).trans ?_

theorem doRampStep_area (s : State) (b : Fin 3) {p : Area} (h : p ∉ [Area.lrg, .trc, .tal, .cap, .rng, .axb]) :
    area (doRampStep s b) p = area s p := by
  unfold doRampStep
  try dsimp only
  repeat' first
    | with_reducible rfl
    | with_reducible refine area_ite ?_ ?_
    | with_reducible refine area_dite (fun _ => ?_) (fun _ => ?_)
    | with_reducible refine (State.startStep_area _ _ _ _ (notMem_of_sub h (by decide))).trans ?_
    | with_reducible refine (State.modAxb_area _ _ _ (notMem_of_sub h (by decide))).trans ?_

theorem doRampTimeout_area (s : State) (b : Fin 3) {p : Area} (h : p ∉ [Area.lrg, .trc, .tal, .cap, .rng, .axb]) :
    area (doRampTimeout s b) p = area s p := by
  unfold doRampTimeout
  try dsimp only
  repeat' first
    | with_reducible rfl
    | with_reducible refine area_ite ?_ ?_
    | with_reducible refine area_dite (fun _ => ?_) (fun _ => ?_)
    | with_reducible refine (State.coast_area _ _ _ (notMem_of_sub h (by decide))).trans ?_

theorem State.enterRun_area (s : State) (b : Fin 3) (stamp : Nat) {p : Area} (h : p ∉ [Area.lrg, .trc, .tal, .axb]) :
    area (State.enterRun s b stamp) p = area s p := by
  unfold State.enterRun
  try dsimp only
  repeat' first
    | with_reducible rfl
    | with_reducible refine area_ite ?_ ?_
    | with_reducible refine area_dite (fun _ => ?_) (fun _ => ?_)
    | with_reducible refine (State.modAxb_area _ _ _ (notMem_of_sub h (by decide))).trans ?_
    | with_reducible refine (State.record_area _ _ _ _ _ _ (notMem_of_sub h (by decide))).trans ?_

theorem State.rampCrossing_area (s : State) (b : Fin 3) (stamp : Nat) {p : Area} (h : p ∉ [Area.lrg, .trc, .tal, .axb]) :
    area (State.rampCrossing s b stamp) p = area s p := by
  unfold State.rampCrossing
  try dsimp only
  repeat' first
    | with_reducible rfl
    | with_reducible refine area_ite ?_ ?_
    | with_reducible refine area_dite (fun _ => ?_) (fun _ => ?_)
    | with_reducible refine (State.enterRun_area _ _ _ (notMem_of_sub h (by decide))).trans ?_
    | with_reducible refine (State.modAxb_area _ _ _ (notMem_of_sub h (by decide))).trans ?_

theorem State.runCrossing_area (s : State) (b : Fin 3) (stamp : Nat) (early : Bool) {p : Area} (h : p ∉ [Area.lrg, .trc, .tal, .cap, .rng, .axb]) :
    area (State.runCrossing s b stamp early) p = area s p := by
  unfold State.runCrossing
  try dsimp only
  repeat' first
    | with_reducible rfl
    | with_reducible refine area_ite ?_ ?_
    | with_reducible refine area_dite (fun _ => ?_) (fun _ => ?_)
    | with_reducible refine (State.coast_area _ _ _ (notMem_of_sub h (by decide))).trans ?_
    | with_reducible refine (State.modAxb_area _ _ _ (notMem_of_sub h (by decide))).trans ?_

theorem State.zcSample_area (s : State) (b : Fin 3) (x : Nat × Bool) {p : Area} (h : p ∉ [Area.lrg, .trc, .tal, .cap, .rng, .axb]) :
    area (State.zcSample s b x) p = area s p := by
  unfold State.zcSample
  try dsimp only
  repeat' first
    | with_reducible rfl
    | with_reducible refine area_ite ?_ ?_
    | with_reducible refine area_dite (fun _ => ?_) (fun _ => ?_)
    | with_reducible refine (State.runCrossing_area _ _ _ _ (notMem_of_sub h (by decide))).trans ?_
    | with_reducible refine (State.rampCrossing_area _ _ _ (notMem_of_sub h (by decide))).trans ?_
    | with_reducible refine (State.modAxb_area _ _ _ (notMem_of_sub h (by decide))).trans ?_

theorem doStepChange_area (s : State) (b : Fin 3) {p : Area} (h : p ∉ [Area.lrg, .trc, .tal, .cap, .rng, .axb]) :
    area (doStepChange s b) p = area s p := by
  unfold doStepChange
  try dsimp only
  repeat' first
    | with_reducible rfl
    | with_reducible refine area_ite ?_ ?_
    | with_reducible refine area_dite (fun _ => ?_) (fun _ => ?_)
    | with_reducible refine (State.startStep_area _ _ _ _ (notMem_of_sub h (by decide))).trans ?_
    | with_reducible refine (area_each _ _ _ fun _ _ => ?_).trans ?_
    | with_reducible refine (area_foldl _ (fun _ _ => ?_) _ _).trans ?_
    | dsimp only
    | split

theorem doCrossing_area (s : State) (b : Fin 3) (samples : List (Nat × Bool)) {p : Area} (h : p ∉ [Area.lrg, .trc, .tal, .cap, .rng, .axb]) :
    area (doCrossing s b samples) p = area s p := by
  unfold doCrossing
  try dsimp only
  repeat' first
    | with_reducible rfl
    | with_reducible refine area_ite ?_ ?_
    | with_reducible refine area_dite (fun _ => ?_) (fun _ => ?_)
    | with_reducible refine (doStepChange_area _ _ (notMem_of_sub h (by decide))).trans ?_
    | with_reducible refine (State.zcSample_area _ _ _ (notMem_of_sub h (by decide))).trans ?_
    | with_reducible refine (area_each _ _ _ fun _ _ => ?_).trans ?_

theorem doSyncLoss_area (s : State) (b : Fin 3) {p : Area} (h : p ∉ [Area.lrg, .trc, .tal, .cap, .rng, .axb]) :
    area (doSyncLoss s b) p = area s p := by
  unfold doSyncLoss
  try dsimp only
  repeat' first
    | with_reducible rfl
    | with_reducible refine area_ite ?_ ?_
    | with_reducible refine area_dite (fun _ => ?_) (fun _ => ?_)
    | with_reducible refine (State.coast_area _ _ _ (notMem_of_sub h (by decide))).trans ?_

theorem doCoastEnd_area (s : State) (b : Fin 3) {p : Area} (h : p ∉ [Area.lrg, .trc, .tal, .cap, .rng, .axb]) :
    area (doCoastEnd s b) p = area s p := by
  unfold doCoastEnd
  try dsimp only
  repeat' first
    | with_reducible rfl
    | with_reducible refine area_ite ?_ ?_
    | with_reducible refine area_dite (fun _ => ?_) (fun _ => ?_)
    | with_reducible refine (State.toB_area _ _ _ (notMem_of_sub h (by decide))).trans ?_
    | with_reducible refine (State.modAxb_area _ _ _ (notMem_of_sub h (by decide))).trans ?_
    | with_reducible refine (State.record_area _ _ _ _ _ _ (notMem_of_sub h (by decide))).trans ?_
    | with_reducible refine (State.tally_area _ _ (notMem_of_sub h (by decide))).trans ?_

theorem doPulse_area (s : State) (b : Fin 3) {p : Area} (h : p ∉ [Area.lrg, .trc, .tal, .cap, .rng, .axb]) :
    area (doPulse s b) p = area s p := by
  unfold doPulse
  try dsimp only
  repeat' first
    | with_reducible rfl
    | with_reducible refine area_ite ?_ ?_
    | with_reducible refine area_dite (fun _ => ?_) (fun _ => ?_)
    | with_reducible refine (State.doEdge_area _ _ _ (notMem_of_sub h (by decide))).trans ?_
    | with_reducible refine (State.modAxb_area _ _ _ (notMem_of_sub h (by decide))).trans ?_
    | with_reducible refine (area_each _ _ _ fun _ _ => ?_).trans ?_
    | with_reducible refine (area_foldl _ (fun _ _ => ?_) _ _).trans ?_
    | dsimp only
    | split

theorem doVs_area (s : State) (b : Fin 3) (bad : Bool) (v : Nat) {p : Area} (h : p ∉ [Area.lrg, .trc, .tal, .rng, .axb]) :
    area (doVs s b bad v) p = area s p := by
  unfold doVs
  try dsimp only
  repeat' first
    | with_reducible rfl
    | with_reducible refine area_ite ?_ ?_
    | with_reducible refine area_dite (fun _ => ?_) (fun _ => ?_)
    | with_reducible refine (State.watchRows_area _ (notMem_of_sub h (by decide))).trans ?_
    | with_reducible refine (State.modAxb_area _ _ _ (notMem_of_sub h (by decide))).trans ?_
    | with_reducible refine (State.recordReport_area _ _ _ _ _ _ _ (notMem_of_sub h (by decide))).trans ?_
    | with_reducible refine (State.record_area _ _ _ _ _ _ (notMem_of_sub h (by decide))).trans ?_

theorem doVdrv_area (s : State) (low : Bool) (v : Nat) {p : Area} (h : p ∉ [Area.lrg, .trc, .tal, .rng, .axb]) :
    area (doVdrv s low v) p = area s p := by
  unfold doVdrv
  try dsimp only
  repeat' first
    | with_reducible rfl
    | with_reducible refine area_ite ?_ ?_
    | with_reducible refine area_dite (fun _ => ?_) (fun _ => ?_)
    | with_reducible refine (State.watchRows_area _ (notMem_of_sub h (by decide))).trans ?_
    | with_reducible refine (State.recordReport_area _ _ _ _ _ _ _ (notMem_of_sub h (by decide))).trans ?_
    | with_reducible refine (State.record_area _ _ _ _ _ _ (notMem_of_sub h (by decide))).trans ?_
    | with_reducible refine (area_each _ _ _ fun _ _ => ?_).trans ?_
    | with_reducible refine (area_foldl _ (fun _ _ => ?_) _ _).trans ?_
    | dsimp only
    | split
    | with_reducible refine (area_axb h (by decide)).trans ?_

theorem doBootHigh_area (s : State) (b : Fin 3) (p0 : Fin 3) (v : Nat) {p : Area} (h : p ∉ [Area.axb]) :
    area (doBootHigh s b p0 v) p = area s p := by
  unfold doBootHigh
  try dsimp only
  repeat' first
    | with_reducible rfl
    | with_reducible refine area_ite ?_ ?_
    | with_reducible refine area_dite (fun _ => ?_) (fun _ => ?_)
    | with_reducible refine (State.modPh_area _ _ _ _ (notMem_of_sub h (by decide))).trans ?_

theorem doBootLow_area (s : State) (b : Fin 3) (p0 : Fin 3) (v : Nat) {p : Area} (h : p ∉ [Area.lrg, .trc, .tal, .axb]) :
    area (doBootLow s b p0 v) p = area s p := by
  unfold doBootLow
  try dsimp only
  repeat' first
    | with_reducible rfl
    | with_reducible refine area_ite ?_ ?_
    | with_reducible refine area_dite (fun _ => ?_) (fun _ => ?_)
    | with_reducible refine (State.bootLowAt_area _ _ _ _ (notMem_of_sub h (by decide))).trans ?_

end Sys2Proof.Machine
end

