-- ==== Sys2Proof/Laws/AreaDrive.lean ====
section
/-!
SUPPORT. Which areas of the state each operation of Drive.lean may change.
-/

namespace Sys2Proof.Machine

open Sys2Proof

theorem State.rampInput_area (s : State) (m : Fin 2) {p : Area} (h : p ∉ [Area.lrg, .trc, .tal, .trx]) :
    area (State.rampInput s m) p = area s p := by
  unfold State.rampInput
  try dsimp only
  repeat' first
    | with_reducible rfl
    | with_reducible refine area_ite ?_ ?_
    | with_reducible refine area_dite (fun _ => ?_) (fun _ => ?_)
    | with_reducible refine (State.modTrx_area _ _ _ (notMem_of_sub h (by decide))).trans ?_
    | with_reducible refine (State.record_area _ _ _ _ _ _ (notMem_of_sub h (by decide))).trans ?_
    | with_reducible refine (area_each _ _ _ fun _ _ => ?_).trans ?_
    | with_reducible refine (area_foldl _ (fun _ _ => ?_) _ _).trans ?_
    | dsimp only
    | split

theorem doInputWrite_area (s : State) (m : Fin 2) {p : Area} (h : p ∉ [Area.sys, .lrg, .trc, .tal, .pba, .cap, .ce, .trx, .gsc, .glk, .psp, .rng, .sbc, .red, .dcc, .obc, .chg, .axb, .emitted]) :
    area (doInputWrite s m) p = area s p := by
  unfold doInputWrite
  try dsimp only
  repeat' first
    | with_reducible rfl
    | with_reducible refine area_ite ?_ ?_
    | with_reducible refine area_dite (fun _ => ?_) (fun _ => ?_)
    | with_reducible refine (State.rampInput_area _ _ (notMem_of_sub h (by decide))).trans ?_
    | with_reducible refine (State.finishExit_area _ (notMem_of_sub h (by decide))).trans ?_
    | with_reducible refine (State.writeInput_area _ _ (notMem_of_sub h (by decide))).trans ?_

theorem doRestart_area (s : State) (m : Fin 2) {p : Area} (h : p ∉ [Area.lrg, .trc, .tal, .cap, .trx, .gsc, .glk, .psp, .rng, .red, .dcc, .axb]) :
    area (doRestart s m) p = area s p := by
  unfold doRestart
  try dsimp only
  repeat' first
    | with_reducible rfl
    | with_reducible refine area_ite ?_ ?_
    | with_reducible refine area_dite (fun _ => ?_) (fun _ => ?_)
    | with_reducible refine (State.releaseRow_area _ _ (notMem_of_sub h (by decide))).trans ?_
    | with_reducible refine (State.modTrx_area _ _ _ (notMem_of_sub h (by decide))).trans ?_
    | with_reducible refine (State.record_area _ _ _ _ _ _ (notMem_of_sub h (by decide))).trans ?_
    | with_reducible refine (area_each _ _ _ fun _ _ => ?_).trans ?_

theorem doStandstill_area (s : State) (m : Fin 2) {p : Area} (h : p ∉ [Area.trx]) :
    area (doStandstill s m) p = area s p := by
  unfold doStandstill
  try dsimp only
  repeat' first
    | with_reducible rfl
    | with_reducible refine area_ite ?_ ?_
    | with_reducible refine area_dite (fun _ => ?_) (fun _ => ?_)
    | with_reducible refine (State.modTrx_area _ _ _ (notMem_of_sub h (by decide))).trans ?_
    | with_reducible refine (area_each _ _ _ fun _ _ => ?_).trans ?_
    | with_reducible refine (area_foldl _ (fun _ _ => ?_) _ _).trans ?_
    | dsimp only
    | split

end Sys2Proof.Machine
end

