-- ==== Sys2Proof/Laws/AreaGate.lean ====
section
/-!
SUPPORT. Which areas of the state each operation of Gate.lean may change.
-/

namespace Sys2Proof.Machine

open Sys2Proof

theorem State.leaveSession_area (s : State) {p : Area} (h : p ∉ [Area.lrg, .trc, .tal, .gsc, .glk, .red, .obc, .chg, .emitted]) :
    area (State.leaveSession s) p = area s p := by
  unfold State.leaveSession
  try dsimp only
  repeat' first
    | with_reducible rfl
    | with_reducible refine area_ite ?_ ?_
    | with_reducible refine area_dite (fun _ => ?_) (fun _ => ?_)
    | with_reducible refine (State.chgExit_area _ (notMem_of_sub h (by decide))).trans ?_

theorem State.modeReq_area (s : State) (target : Mode) {p : Area} (h : p ∉ [Area.sys, .lrg, .trc, .tal, .pba, .cap, .ce, .trx, .gsc, .glk, .psp, .rng, .sbc, .red, .dcc, .obc, .chg, .axb, .emitted]) :
    area (State.modeReq s target) p = area s p := by
  unfold State.modeReq
  try dsimp only
  repeat' first
    | with_reducible rfl
    | with_reducible refine area_ite ?_ ?_
    | with_reducible refine area_dite (fun _ => ?_) (fun _ => ?_)
    | with_reducible refine (State.leaveSession_area _ (notMem_of_sub h (by decide))).trans ?_
    | with_reducible refine (State.startExit_area _ (notMem_of_sub h (by decide))).trans ?_
    | with_reducible refine (State.enterMode_area _ _ (notMem_of_sub h (by decide))).trans ?_
    | with_reducible refine (State.setMode_area _ _ _ (notMem_of_sub h (by decide))).trans ?_
    | with_reducible refine (State.chgExit_area _ (notMem_of_sub h (by decide))).trans ?_
    | with_reducible refine (area_each _ _ _ fun _ _ => ?_).trans ?_
    | with_reducible refine (area_foldl _ (fun _ _ => ?_) _ _).trans ?_
    | dsimp only
    | split

theorem doModeReq_area (c : Cmd) (s : State) {p : Area} (h : p ∉ [Area.sys, .lrg, .trc, .tal, .pba, .cap, .ce, .trx, .gsc, .glk, .psp, .rng, .sbc, .red, .dcc, .obc, .chg, .axb, .skd, .blz, .can, .emitted]) :
    area (doModeReq c s) p = area s p := by
  unfold doModeReq
  try dsimp only
  repeat' first
    | with_reducible rfl
    | with_reducible refine area_ite ?_ ?_
    | with_reducible refine area_dite (fun _ => ?_) (fun _ => ?_)
    | with_reducible refine (State.modeReq_area _ _ (notMem_of_sub h (by decide))).trans ?_
    | with_reducible refine (State.check_area _ _ _ _ _ _ _ (notMem_of_sub h (by decide)) (fun _ => ?_)).trans ?_
    | with_reducible refine (State.accepted_area _ _ _ (notMem_of_sub h (by decide))).trans ?_

theorem State.request_area (s : State) (p0 : Path) (m : Fin 2) (speed : Bool) (v : Int) {p : Area} (h : p ∉ [Area.lrg, .trc, .tal, .pba, .trx]) :
    area (State.request s p0 m speed v) p = area s p := by
  unfold State.request
  try dsimp only
  repeat' first
    | with_reducible rfl
    | with_reducible refine area_ite ?_ ?_
    | with_reducible refine area_dite (fun _ => ?_) (fun _ => ?_)
    | with_reducible refine (State.modPba_area _ _ (notMem_of_sub h (by decide))).trans ?_
    | with_reducible refine (State.modTrx_area _ _ _ (notMem_of_sub h (by decide))).trans ?_
    | with_reducible refine (State.record_area _ _ _ _ _ _ (notMem_of_sub h (by decide))).trans ?_
    | with_reducible refine (area_each _ _ _ fun _ _ => ?_).trans ?_
    | with_reducible refine (area_foldl _ (fun _ _ => ?_) _ _).trans ?_
    | dsimp only
    | split

theorem State.requests_area (s : State) (c : Cmd) (mode : Mode) (speed : Bool) {p : Area} (h : p ∉ [Area.lrg, .trc, .tal, .pba, .trx]) :
    area (State.requests s c mode speed) p = area s p := by
  unfold State.requests
  try dsimp only
  repeat' first
    | with_reducible rfl
    | with_reducible refine area_ite ?_ ?_
    | with_reducible refine area_dite (fun _ => ?_) (fun _ => ?_)
    | with_reducible refine (State.request_area _ _ _ _ _ (notMem_of_sub h (by decide))).trans ?_
    | with_reducible refine (State.awaits_area _ _ _ _ _ (notMem_of_sub h (by decide))).trans ?_
    | with_reducible refine (area_each _ _ _ fun _ _ => ?_).trans ?_
    | with_reducible refine (area_foldl _ (fun _ _ => ?_) _ _).trans ?_
    | dsimp only
    | split

theorem doTorqueReq_area (c : Cmd) (s : State) {p : Area} (h : p ∉ [Area.lrg, .trc, .tal, .pba, .trx, .skd, .blz, .can]) :
    area (doTorqueReq c s) p = area s p := by
  unfold doTorqueReq
  try dsimp only
  repeat' first
    | with_reducible rfl
    | with_reducible refine area_ite ?_ ?_
    | with_reducible refine area_dite (fun _ => ?_) (fun _ => ?_)
    | with_reducible refine (State.requests_area _ _ _ _ (notMem_of_sub h (by decide))).trans ?_
    | with_reducible refine (State.check_area _ _ _ _ _ _ _ (notMem_of_sub h (by decide)) (fun _ => ?_)).trans ?_

theorem doSpeedReq_area (c : Cmd) (s : State) {p : Area} (h : p ∉ [Area.lrg, .trc, .tal, .pba, .trx, .skd, .blz, .can]) :
    area (doSpeedReq c s) p = area s p := by
  unfold doSpeedReq
  try dsimp only
  repeat' first
    | with_reducible rfl
    | with_reducible refine area_ite ?_ ?_
    | with_reducible refine area_dite (fun _ => ?_) (fun _ => ?_)
    | with_reducible refine (State.requests_area _ _ _ _ (notMem_of_sub h (by decide))).trans ?_
    | with_reducible refine (State.check_area _ _ _ _ _ _ _ (notMem_of_sub h (by decide)) (fun _ => ?_)).trans ?_

theorem doChargeStart_area (c : Cmd) (s : State) {p : Area} (h : p ∉ [Area.lrg, .trc, .tal, .pba, .glk, .red, .obc, .chg, .skd, .blz, .can]) :
    area (doChargeStart c s) p = area s p := by
  unfold doChargeStart
  try dsimp only
  repeat' first
    | with_reducible rfl
    | with_reducible refine area_ite ?_ ?_
    | with_reducible refine area_dite (fun _ => ?_) (fun _ => ?_)
    | with_reducible refine (State.check_area _ _ _ _ _ _ _ (notMem_of_sub h (by decide)) (fun _ => ?_)).trans ?_
    | with_reducible refine (State.awaits_area _ _ _ _ _ (notMem_of_sub h (by decide))).trans ?_
    | with_reducible refine (State.chgTo_area _ _ (notMem_of_sub h (by decide))).trans ?_
    | with_reducible refine (State.modChg_area _ _ (notMem_of_sub h (by decide))).trans ?_

theorem State.chargeStop_area (s : State) {p : Area} (h : p ∉ [Area.lrg, .trc, .tal, .gsc, .glk, .red, .obc, .chg, .emitted]) :
    area (State.chargeStop s) p = area s p := by
  unfold State.chargeStop
  try dsimp only
  repeat' first
    | with_reducible rfl
    | with_reducible refine area_ite ?_ ?_
    | with_reducible refine area_dite (fun _ => ?_) (fun _ => ?_)
    | with_reducible refine (State.handOver_area _ _ (notMem_of_sub h (by decide))).trans ?_
    | with_reducible refine (State.modChg_area _ _ (notMem_of_sub h (by decide))).trans ?_

theorem doChargeStop_area (c : Cmd) (s : State) {p : Area} (h : p ∉ [Area.lrg, .trc, .tal, .gsc, .glk, .red, .obc, .chg, .skd, .blz, .can, .emitted]) :
    area (doChargeStop c s) p = area s p := by
  unfold doChargeStop
  try dsimp only
  repeat' first
    | with_reducible rfl
    | with_reducible refine area_ite ?_ ?_
    | with_reducible refine area_dite (fun _ => ?_) (fun _ => ?_)
    | with_reducible refine (State.chargeStop_area _ (notMem_of_sub h (by decide))).trans ?_
    | with_reducible refine (State.check_area _ _ _ _ _ _ _ (notMem_of_sub h (by decide)) (fun _ => ?_)).trans ?_
    | with_reducible refine (State.accepted_area _ _ _ (notMem_of_sub h (by decide))).trans ?_

theorem doChargeLimits_area (c : Cmd) (s : State) {p : Area} (h : p ∉ [Area.lrg, .trc, .tal, .chg, .skd, .blz, .can]) :
    area (doChargeLimits c s) p = area s p := by
  unfold doChargeLimits
  try dsimp only
  repeat' first
    | with_reducible rfl
    | with_reducible refine area_ite ?_ ?_
    | with_reducible refine area_dite (fun _ => ?_) (fun _ => ?_)
    | with_reducible refine (State.check_area _ _ _ _ _ _ _ (notMem_of_sub h (by decide)) (fun _ => ?_)).trans ?_
    | with_reducible refine (State.accepted_area _ _ _ (notMem_of_sub h (by decide))).trans ?_
    | with_reducible refine (State.modChg_area _ _ (notMem_of_sub h (by decide))).trans ?_

theorem doConvSetpoint_area (c : Cmd) (s : State) {p : Area} (h : p ∉ [Area.lrg, .trc, .tal, .pba, .cap, .ce, .gsc, .glk, .dcc, .skd, .blz, .can]) :
    area (doConvSetpoint c s) p = area s p := by
  unfold doConvSetpoint
  try dsimp only
  repeat' first
    | with_reducible rfl
    | with_reducible refine area_ite ?_ ?_
    | with_reducible refine area_dite (fun _ => ?_) (fun _ => ?_)
    | with_reducible refine (State.check_area _ _ _ _ _ _ _ (notMem_of_sub h (by decide)) (fun _ => ?_)).trans ?_
    | with_reducible refine (State.awaits_area _ _ _ _ _ (notMem_of_sub h (by decide))).trans ?_
    | with_reducible refine (State.dccSetpoint_area _ _ _ (notMem_of_sub h (by decide))).trans ?_

theorem doGearShift_area (c : Cmd) (s : State) {p : Area} (h : p ∉ [Area.lrg, .trc, .tal, .pba, .axb, .skd, .blz, .can]) :
    area (doGearShift c s) p = area s p := by
  unfold doGearShift
  try dsimp only
  repeat' first
    | with_reducible rfl
    | with_reducible refine area_ite ?_ ?_
    | with_reducible refine area_dite (fun _ => ?_) (fun _ => ?_)
    | with_reducible refine (State.check_area _ _ _ _ _ _ _ (notMem_of_sub h (by decide)) (fun _ => ?_)).trans ?_
    | with_reducible refine (State.awaits_area _ _ _ _ _ (notMem_of_sub h (by decide))).trans ?_
    | with_reducible refine (State.axbCmd_area _ _ _ (notMem_of_sub h (by decide))).trans ?_
    | with_reducible refine (area_each _ _ _ fun _ _ => ?_).trans ?_
    | with_reducible refine (area_foldl _ (fun _ _ => ?_) _ _).trans ?_
    | dsimp only
    | exact rfl
    | split

theorem doParkLock_area (c : Cmd) (s : State) {p : Area} (h : p ∉ [Area.lrg, .trc, .tal, .axb, .skd, .blz, .can]) :
    area (doParkLock c s) p = area s p := by
  unfold doParkLock
  try dsimp only
  repeat' first
    | with_reducible rfl
    | with_reducible refine area_ite ?_ ?_
    | with_reducible refine area_dite (fun _ => ?_) (fun _ => ?_)
    | with_reducible refine (State.check_area _ _ _ _ _ _ _ (notMem_of_sub h (by decide)) (fun _ => ?_)).trans ?_
    | with_reducible refine (State.accepted_area _ _ _ (notMem_of_sub h (by decide))).trans ?_
    | with_reducible refine (State.axbCmd_area _ _ _ (notMem_of_sub h (by decide))).trans ?_
    | with_reducible refine (area_each _ _ _ fun _ _ => ?_).trans ?_
    | with_reducible refine (area_foldl _ (fun _ _ => ?_) _ _).trans ?_
    | dsimp only
    | exact rfl
    | split

theorem doPumpSpeed_area (c : Cmd) (s : State) {p : Area} (h : p ∉ [Area.lrg, .trc, .tal, .pba, .axb, .skd, .blz, .can]) :
    area (doPumpSpeed c s) p = area s p := by
  unfold doPumpSpeed
  try dsimp only
  repeat' first
    | with_reducible rfl
    | with_reducible refine area_ite ?_ ?_
    | with_reducible refine area_dite (fun _ => ?_) (fun _ => ?_)
    | with_reducible refine (State.check_area _ _ _ _ _ _ _ (notMem_of_sub h (by decide)) (fun _ => ?_)).trans ?_
    | with_reducible refine (State.awaits_area _ _ _ _ _ (notMem_of_sub h (by decide))).trans ?_
    | with_reducible refine (State.axbCmd_area _ _ _ (notMem_of_sub h (by decide))).trans ?_

theorem State.energise_area (s : State) (n : Fin 2) {p : Area} (h : p ∉ [Area.sbc]) :
    area (State.energise s n) p = area s p := by
  unfold State.energise
  try dsimp only
  repeat' first
    | with_reducible rfl
    | with_reducible refine area_ite ?_ ?_
    | with_reducible refine area_dite (fun _ => ?_) (fun _ => ?_)
    | with_reducible refine (State.modSbc_area _ _ _ (notMem_of_sub h (by decide))).trans ?_

theorem doBrakeRelease_area (c : Cmd) (s : State) {p : Area} (h : p ∉ [Area.lrg, .trc, .tal, .sbc, .skd, .blz, .can]) :
    area (doBrakeRelease c s) p = area s p := by
  unfold doBrakeRelease
  try dsimp only
  repeat' first
    | with_reducible rfl
    | with_reducible refine area_ite ?_ ?_
    | with_reducible refine area_dite (fun _ => ?_) (fun _ => ?_)
    | with_reducible refine (State.energise_area _ _ (notMem_of_sub h (by decide))).trans ?_
    | with_reducible refine (State.check_area _ _ _ _ _ _ _ (notMem_of_sub h (by decide)) (fun _ => ?_)).trans ?_
    | with_reducible refine (State.accepted_area _ _ _ (notMem_of_sub h (by decide))).trans ?_
    | with_reducible refine (area_each _ _ _ fun _ _ => ?_).trans ?_

theorem doBrakeTest_area (c : Cmd) (s : State) {p : Area} (h : p ∉ [Area.lrg, .trc, .tal, .pba, .cap, .ce, .trx, .pos, .gsc, .glk, .psp, .rng, .sbc, .red, .dcc, .obc, .chg, .axb, .skd, .blz, .can, .emitted]) :
    area (doBrakeTest c s) p = area s p := by
  unfold doBrakeTest
  try dsimp only
  repeat' first
    | with_reducible rfl
    | with_reducible refine area_ite ?_ ?_
    | with_reducible refine area_dite (fun _ => ?_) (fun _ => ?_)
    | with_reducible refine (State.startTest_area _ _ _ (notMem_of_sub h (by decide))).trans ?_
    | with_reducible refine (State.check_area _ _ _ _ _ _ _ (notMem_of_sub h (by decide)) (fun _ => ?_)).trans ?_
    | with_reducible refine (State.accepted_area _ _ _ (notMem_of_sub h (by decide))).trans ?_

theorem State.resetReq_area (s : State) (kind : Int) {p : Area} (h : p ∉ [Area.lrg, .trc, .tal, .pba, .cap, .ce, .trx, .gsc, .glk, .psp, .rng, .sbc, .red, .dcc, .obc, .chg, .axb, .emitted]) :
    area (State.resetReq s kind) p = area s p := by
  unfold State.resetReq
  try dsimp only
  repeat' first
    | with_reducible rfl
    | with_reducible refine area_ite ?_ ?_
    | with_reducible refine area_dite (fun _ => ?_) (fun _ => ?_)
    | with_reducible refine (State.setMode_area _ _ _ (notMem_of_sub h (by decide))).trans ?_
    | with_reducible refine (State.lockTo_area _ _ (notMem_of_sub h (by decide))).trans ?_
    | with_reducible refine (State.releaseRows_area _ _ (notMem_of_sub h (by decide))).trans ?_
    | with_reducible refine (State.modRng_area _ _ (notMem_of_sub h (by decide))).trans ?_

theorem doReset_area (c : Cmd) (s : State) {p : Area} (h : p ∉ [Area.lrg, .trc, .tal, .pba, .cap, .ce, .trx, .gsc, .glk, .psp, .rng, .sbc, .red, .dcc, .obc, .chg, .axb, .skd, .blz, .can, .emitted]) :
    area (doReset c s) p = area s p := by
  unfold doReset
  try dsimp only
  repeat' first
    | with_reducible rfl
    | with_reducible refine area_ite ?_ ?_
    | with_reducible refine area_dite (fun _ => ?_) (fun _ => ?_)
    | with_reducible refine (State.resetReq_area _ _ (notMem_of_sub h (by decide))).trans ?_
    | with_reducible refine (State.check_area _ _ _ _ _ _ _ (notMem_of_sub h (by decide)) (fun _ => ?_)).trans ?_
    | with_reducible refine (State.accepted_area _ _ _ (notMem_of_sub h (by decide))).trans ?_

end Sys2Proof.Machine
end

