-- ==== Sys2Proof/Laws/AreaRegisters.lean ====
section
/-!
SUPPORT. Which areas of the state each operation of Registers.lean may change.
-/

namespace Sys2Proof.Machine

open Sys2Proof

theorem State.regRow_area (s : State) (id : Fin 64) (write : Bool) (a : Nat) {p : Area} (h : p ∉ [Area.sys, .lrg, .trc, .tal, .ce, .rng]) :
    area (State.regRow s id write a).1 p = area s p := by
  unfold State.regRow
  try dsimp only
  repeat' first
    | with_reducible rfl
    | with_reducible refine area_ite ?_ ?_
    | with_reducible refine area_dite (fun _ => ?_) (fun _ => ?_)
    | with_reducible refine (State.rowCheck_area _ _ _ _ (notMem_of_sub h (by decide))).trans ?_
    | with_reducible refine (area_each _ _ _ fun _ _ => ?_).trans ?_
    | with_reducible refine (area_foldl _ (fun _ _ => ?_) _ _).trans ?_
    | with_reducible refine area_ite_fst ?_ ?_
    | dsimp only
    | split

theorem doRegWrite_area (s : State) (id : Fin 64) (addr : Nat) (size : Nat) (v : Nat) {p : Area} (h : p ∉ [Area.bus, .sys, .mbx, .lrg, .trc, .tal, .pba, .ce, .pos, .gsc, .glk, .rng, .flog, .red, .chg, .thm, .skd, .blz, .can, .boot, .regs, .mem, .emitted]) :
    area (doRegWrite s id addr size v) p = area s p := by
  unfold doRegWrite
  try dsimp only
  repeat' first
    | with_reducible rfl
    | with_reducible refine area_ite ?_ ?_
    | with_reducible refine area_dite (fun _ => ?_) (fun _ => ?_)
    | with_reducible refine (State.regRow_area _ _ _ _ (notMem_of_sub h (by decide))).trans ?_
    | with_reducible refine (State.writeBoot_area _ _ _ _ (notMem_of_sub h (by decide))).trans ?_
    | with_reducible refine (State.putReg_area _ _ _ _ _ (notMem_of_sub h (by decide))).trans ?_
    | with_reducible refine (State.bootPoll_area _ (notMem_of_sub h (by decide))).trans ?_
    | with_reducible refine (State.watchRows_area _ (notMem_of_sub h (by decide))).trans ?_
    | with_reducible refine (State.busDone_area _ _ (notMem_of_sub h (by decide))).trans ?_
    | with_reducible refine (State.busError_area _ _ _ _ (notMem_of_sub h (by decide))).trans ?_
    | with_reducible refine (area_each _ _ _ fun _ _ => ?_).trans ?_
    | with_reducible refine (area_foldl _ (fun _ _ => ?_) _ _).trans ?_
    | with_reducible refine area_ite_fst ?_ ?_
    | dsimp only
    | split

theorem State.readCapture_area (s : State) (a : Nat) {p : Area} (h : p ∉ [Area.cap, .pos, .hka]) :
    area (State.readCapture s a) p = area s p := by
  unfold State.readCapture
  try dsimp only
  repeat' first
    | with_reducible rfl
    | with_reducible refine area_ite ?_ ?_
    | with_reducible refine area_dite (fun _ => ?_) (fun _ => ?_)
    | with_reducible refine (State.onFam_area _ _ _ _ _ _ (fun _ _ => ?_)).trans ?_
    | with_reducible refine (doHkaCapture_area _ _ (notMem_of_sub h (by decide))).trans ?_
    | with_reducible refine (doResultCapture_area _ _ _ (notMem_of_sub h (by decide))).trans ?_
    | with_reducible refine (State.modEnc_area _ _ _ (notMem_of_sub h (by decide))).trans ?_
    | with_reducible refine (area_each _ _ _ fun _ _ => ?_).trans ?_
    | with_reducible refine (area_foldl _ (fun _ _ => ?_) _ _).trans ?_
    | dsimp only
    | split

theorem doRegRead_area (s : State) (id : Fin 64) (addr : Nat) (size : Nat) {p : Area} (h : p ∉ [Area.bus, .sys, .lrg, .trc, .tal, .cap, .ce, .pos, .rng, .hka]) :
    area (doRegRead s id addr size) p = area s p := by
  unfold doRegRead
  try dsimp only
  repeat' first
    | with_reducible rfl
    | with_reducible refine area_ite ?_ ?_
    | with_reducible refine area_dite (fun _ => ?_) (fun _ => ?_)
    | with_reducible refine (State.readCapture_area _ _ (notMem_of_sub h (by decide))).trans ?_
    | with_reducible refine (State.regRow_area _ _ _ _ (notMem_of_sub h (by decide))).trans ?_
    | with_reducible refine (State.busDone_area _ _ (notMem_of_sub h (by decide))).trans ?_
    | with_reducible refine (State.busError_area _ _ _ _ (notMem_of_sub h (by decide))).trans ?_
    | with_reducible refine (area_each _ _ _ fun _ _ => ?_).trans ?_
    | with_reducible refine (area_foldl _ (fun _ _ => ?_) _ _).trans ?_
    | with_reducible refine area_ite_fst ?_ ?_
    | dsimp only
    | split

theorem State.onWire_area (s : State) (id : Fin 64) (addr : Nat) (wire : List (Fin 266)) (f : State → State) {p : Area} (h : p ∉ [Area.bus, .sys, .lrg, .trc, .tal, .rng]) (hf : ∀ x, area (f x) p = area x p) :
    area (State.onWire s id addr wire f) p = area s p := by
  unfold State.onWire
  try dsimp only
  repeat' first
    | with_reducible rfl
    | with_reducible refine area_ite ?_ ?_
    | with_reducible refine area_dite (fun _ => ?_) (fun _ => ?_)
    | with_reducible refine (State.eccNote_area _ _ _ _ (notMem_of_sub h (by decide))).trans ?_
    | with_reducible refine (State.busError_area _ _ _ _ (notMem_of_sub h (by decide))).trans ?_
    | with_reducible refine (hf _).trans ?_

theorem doBusWrite_area (s : State) (id : Fin 64) (addr : Nat) (bs : List Byte) (up : List (Fin 266)) (wire : List (Fin 266)) {p : Area} (h : p ∉ [Area.bus, .sys, .mbx, .lrg, .trc, .tal, .pba, .ce, .pos, .gsc, .glk, .rng, .flog, .red, .chg, .thm, .skd, .blz, .can, .boot, .regs, .mem, .emitted]) :
    area (doBusWrite s id addr bs up wire) p = area s p := by
  unfold doBusWrite
  try dsimp only
  repeat' first
    | with_reducible rfl
    | with_reducible refine area_ite ?_ ?_
    | with_reducible refine area_dite (fun _ => ?_) (fun _ => ?_)
    | with_reducible refine (State.onWire_area _ _ _ _ _ (notMem_of_sub h (by decide)) (fun _ => ?_)).trans ?_
    | with_reducible refine (doRegWrite_area _ _ _ _ _ (notMem_of_sub h (by decide))).trans ?_
    | with_reducible refine (doMbxWrite_area _ _ _ _ _ (notMem_of_sub h (by decide))).trans ?_
    | with_reducible refine (State.memWrite_area _ _ _ _ _ (notMem_of_sub h (by decide))).trans ?_
    | with_reducible refine (State.upset_area _ _ _ (notMem_of_sub h (by decide))).trans ?_
    | with_reducible refine (State.busError_area _ _ _ _ (notMem_of_sub h (by decide))).trans ?_
    | with_reducible refine (area_each _ _ _ fun _ _ => ?_).trans ?_
    | with_reducible refine (area_foldl _ (fun _ _ => ?_) _ _).trans ?_
    | dsimp only
    | split

theorem doBusRead_area (s : State) (id : Fin 64) (addr : Nat) (n : Nat) (up : List (Fin 266)) (wire : List (Fin 266)) {p : Area} (h : p ∉ [Area.bus, .sys, .mbx, .lrg, .trc, .tal, .cap, .ce, .pos, .rng, .hka]) :
    area (doBusRead s id addr n up wire) p = area s p := by
  unfold doBusRead
  try dsimp only
  repeat' first
    | with_reducible rfl
    | with_reducible refine area_ite ?_ ?_
    | with_reducible refine area_dite (fun _ => ?_) (fun _ => ?_)
    | with_reducible refine (State.onWire_area _ _ _ _ _ (notMem_of_sub h (by decide)) (fun _ => ?_)).trans ?_
    | with_reducible refine (doRegRead_area _ _ _ _ (notMem_of_sub h (by decide))).trans ?_
    | with_reducible refine (doMbxRead_area _ _ _ _ _ (notMem_of_sub h (by decide))).trans ?_
    | with_reducible refine (State.memRead_area _ _ _ _ _ _ (notMem_of_sub h (by decide))).trans ?_
    | with_reducible refine (State.upset_area _ _ _ (notMem_of_sub h (by decide))).trans ?_
    | with_reducible refine (State.busError_area _ _ _ _ (notMem_of_sub h (by decide))).trans ?_
    | with_reducible refine (area_each _ _ _ fun _ _ => ?_).trans ?_
    | with_reducible refine (area_foldl _ (fun _ _ => ?_) _ _).trans ?_
    | dsimp only
    | split

end Sys2Proof.Machine
end

