-- ==== Sys2Proof/Laws/AreaStep.lean ====
section
/-!
SUPPORT. Which areas of the state each operation of Step.lean may change.
-/

namespace Sys2Proof.Machine

open Sys2Proof

theorem State.withPending_area (s : State) (q : List Instr) {p : Area} (h : p ∉ [Area.pending]) :
    area (State.withPending s q) p = area s p := by
  unfold State.withPending
  try dsimp only
  repeat' first
    | with_reducible rfl
    | with_reducible refine area_ite ?_ ?_
    | with_reducible refine area_dite (fun _ => ?_) (fun _ => ?_)
    | with_reducible refine (area_each _ _ _ fun _ _ => ?_).trans ?_
    | with_reducible refine (area_foldl _ (fun _ _ => ?_) _ _).trans ?_
    | dsimp only
    | split
    | with_reducible refine (area_pending h (by decide)).trans ?_

theorem State.withFetchWord_area (s : State) (nbits : Nat) (w : Nat) {p : Area} (h : p ∉ [Area.pending]) :
    area (State.withFetchWord s nbits w) p = area s p := by
  unfold State.withFetchWord
  try dsimp only
  repeat' first
    | with_reducible rfl
    | with_reducible refine area_ite ?_ ?_
    | with_reducible refine area_dite (fun _ => ?_) (fun _ => ?_)
    | with_reducible refine (State.withPending_area _ _ (notMem_of_sub h (by decide))).trans ?_
    | with_reducible refine (area_each _ _ _ fun _ _ => ?_).trans ?_
    | with_reducible refine (area_foldl _ (fun _ _ => ?_) _ _).trans ?_
    | dsimp only
    | split

end Sys2Proof.Machine
end

