-- ==== Sys2Proof/Laws/State.lean ====
section
/-!
SUPPORT. What the operations that every block uses leave unchanged, one lemma per field, for the
simplifier; the entry of an updated vector; the clock at the tick of a command.
-/

namespace Sys2Proof.Machine

open Sys2Proof

/-! ### Vectors -/

theorem vupd_getElem {α : Type} {n : Nat} (v : Vector α n) (i : Fin n) (f : α → α) (j : Nat)
    (h : j < n) : (vupd v i f)[j] = if i.val = j then f v[i] else v[j] := by
  unfold vupd
  rw [Vector.getElem_set]

@[simp] theorem vupd_same {α : Type} {n : Nat} (v : Vector α n) (i : Fin n) (f : α → α) :
    (vupd v i f)[i.val] = f v[i.val] := by
  rw [vupd_getElem, if_pos rfl]; rfl

theorem vupd_other {α : Type} {n : Nat} (v : Vector α n) (i j : Fin n) (f : α → α) (h : j ≠ i) :
    (vupd v i f)[j.val] = v[j.val] := by
  rw [vupd_getElem, if_neg fun x => h (Fin.ext x.symm)]

/-! ### Shared operations, field by field -/

@[simp] theorem clockTo_bus (s : State) (t : Tick) : (s.clockTo t).bus = s.bus :=
  State.clockTo_area s t (p := .bus) (by decide)
@[simp] theorem clockTo_sys (s : State) (t : Tick) : (s.clockTo t).sys = s.sys :=
  State.clockTo_area s t (p := .sys) (by decide)
@[simp] theorem clockTo_mbx (s : State) (t : Tick) : (s.clockTo t).mbx = s.mbx :=
  State.clockTo_area s t (p := .mbx) (by decide)
@[simp] theorem clockTo_lrg (s : State) (t : Tick) : (s.clockTo t).lrg = s.lrg :=
  State.clockTo_area s t (p := .lrg) (by decide)
@[simp] theorem clockTo_trc (s : State) (t : Tick) : (s.clockTo t).trc = s.trc :=
  State.clockTo_area s t (p := .trc) (by decide)
@[simp] theorem clockTo_tal (s : State) (t : Tick) : (s.clockTo t).tal = s.tal :=
  State.clockTo_area s t (p := .tal) (by decide)
@[simp] theorem clockTo_pba (s : State) (t : Tick) : (s.clockTo t).pba = s.pba :=
  State.clockTo_area s t (p := .pba) (by decide)
@[simp] theorem clockTo_cap (s : State) (t : Tick) : (s.clockTo t).cap = s.cap :=
  State.clockTo_area s t (p := .cap) (by decide)
@[simp] theorem clockTo_ce (s : State) (t : Tick) : (s.clockTo t).ce = s.ce :=
  State.clockTo_area s t (p := .ce) (by decide)
@[simp] theorem clockTo_trx (s : State) (t : Tick) : (s.clockTo t).trx = s.trx :=
  State.clockTo_area s t (p := .trx) (by decide)
@[simp] theorem clockTo_pos (s : State) (t : Tick) : (s.clockTo t).pos = s.pos :=
  State.clockTo_area s t (p := .pos) (by decide)
@[simp] theorem clockTo_gsc (s : State) (t : Tick) : (s.clockTo t).gsc = s.gsc :=
  State.clockTo_area s t (p := .gsc) (by decide)
@[simp] theorem clockTo_glk (s : State) (t : Tick) : (s.clockTo t).glk = s.glk :=
  State.clockTo_area s t (p := .glk) (by decide)
@[simp] theorem clockTo_psp (s : State) (t : Tick) : (s.clockTo t).psp = s.psp :=
  State.clockTo_area s t (p := .psp) (by decide)
@[simp] theorem clockTo_rng (s : State) (t : Tick) : (s.clockTo t).rng = s.rng :=
  State.clockTo_area s t (p := .rng) (by decide)
@[simp] theorem clockTo_sbc (s : State) (t : Tick) : (s.clockTo t).sbc = s.sbc :=
  State.clockTo_area s t (p := .sbc) (by decide)
@[simp] theorem clockTo_flog (s : State) (t : Tick) : (s.clockTo t).flog = s.flog :=
  State.clockTo_area s t (p := .flog) (by decide)
@[simp] theorem clockTo_red (s : State) (t : Tick) : (s.clockTo t).red = s.red :=
  State.clockTo_area s t (p := .red) (by decide)
@[simp] theorem clockTo_dcc (s : State) (t : Tick) : (s.clockTo t).dcc = s.dcc :=
  State.clockTo_area s t (p := .dcc) (by decide)
@[simp] theorem clockTo_obc (s : State) (t : Tick) : (s.clockTo t).obc = s.obc :=
  State.clockTo_area s t (p := .obc) (by decide)
@[simp] theorem clockTo_chg (s : State) (t : Tick) : (s.clockTo t).chg = s.chg :=
  State.clockTo_area s t (p := .chg) (by decide)
@[simp] theorem clockTo_hka (s : State) (t : Tick) : (s.clockTo t).hka = s.hka :=
  State.clockTo_area s t (p := .hka) (by decide)
@[simp] theorem clockTo_thm (s : State) (t : Tick) : (s.clockTo t).thm = s.thm :=
  State.clockTo_area s t (p := .thm) (by decide)
@[simp] theorem clockTo_axb (s : State) (t : Tick) : (s.clockTo t).axb = s.axb :=
  State.clockTo_area s t (p := .axb) (by decide)
@[simp] theorem clockTo_skd (s : State) (t : Tick) : (s.clockTo t).skd = s.skd :=
  State.clockTo_area s t (p := .skd) (by decide)
@[simp] theorem clockTo_blz (s : State) (t : Tick) : (s.clockTo t).blz = s.blz :=
  State.clockTo_area s t (p := .blz) (by decide)
@[simp] theorem clockTo_can (s : State) (t : Tick) : (s.clockTo t).can = s.can :=
  State.clockTo_area s t (p := .can) (by decide)
@[simp] theorem clockTo_boot (s : State) (t : Tick) : (s.clockTo t).boot = s.boot :=
  State.clockTo_area s t (p := .boot) (by decide)
@[simp] theorem clockTo_regs (s : State) (t : Tick) : (s.clockTo t).regs = s.regs :=
  State.clockTo_area s t (p := .regs) (by decide)
@[simp] theorem clockTo_mem (s : State) (t : Tick) : (s.clockTo t).mem = s.mem :=
  State.clockTo_area s t (p := .mem) (by decide)
@[simp] theorem clockTo_nor (s : State) (t : Tick) : (s.clockTo t).nor = s.nor :=
  State.clockTo_area s t (p := .nor) (by decide)
@[simp] theorem clockTo_emitted (s : State) (t : Tick) : (s.clockTo t).emitted = s.emitted :=
  State.clockTo_area s t (p := .emitted) (by decide)
@[simp] theorem clockTo_flights (s : State) (t : Tick) : (s.clockTo t).flights = s.flights :=
  State.clockTo_area s t (p := .flights) (by decide)
@[simp] theorem clockTo_draws (s : State) (t : Tick) : (s.clockTo t).draws = s.draws :=
  State.clockTo_area s t (p := .draws) (by decide)
@[simp] theorem clockTo_pending (s : State) (t : Tick) : (s.clockTo t).pending = s.pending :=
  State.clockTo_area s t (p := .pending) (by decide)

@[simp] theorem tallyBy_clk (s : State) (n k : Nat) : (s.tallyBy n k).clk = s.clk :=
  State.tallyBy_area s n k (p := .clk) (by decide)
@[simp] theorem tallyBy_bus (s : State) (n k : Nat) : (s.tallyBy n k).bus = s.bus :=
  State.tallyBy_area s n k (p := .bus) (by decide)
@[simp] theorem tallyBy_sys (s : State) (n k : Nat) : (s.tallyBy n k).sys = s.sys :=
  State.tallyBy_area s n k (p := .sys) (by decide)
@[simp] theorem tallyBy_mbx (s : State) (n k : Nat) : (s.tallyBy n k).mbx = s.mbx :=
  State.tallyBy_area s n k (p := .mbx) (by decide)
@[simp] theorem tallyBy_lrg (s : State) (n k : Nat) : (s.tallyBy n k).lrg = s.lrg :=
  State.tallyBy_area s n k (p := .lrg) (by decide)
@[simp] theorem tallyBy_trc (s : State) (n k : Nat) : (s.tallyBy n k).trc = s.trc :=
  State.tallyBy_area s n k (p := .trc) (by decide)
@[simp] theorem tallyBy_pba (s : State) (n k : Nat) : (s.tallyBy n k).pba = s.pba :=
  State.tallyBy_area s n k (p := .pba) (by decide)
@[simp] theorem tallyBy_cap (s : State) (n k : Nat) : (s.tallyBy n k).cap = s.cap :=
  State.tallyBy_area s n k (p := .cap) (by decide)
@[simp] theorem tallyBy_ce (s : State) (n k : Nat) : (s.tallyBy n k).ce = s.ce :=
  State.tallyBy_area s n k (p := .ce) (by decide)
@[simp] theorem tallyBy_trx (s : State) (n k : Nat) : (s.tallyBy n k).trx = s.trx :=
  State.tallyBy_area s n k (p := .trx) (by decide)
@[simp] theorem tallyBy_pos (s : State) (n k : Nat) : (s.tallyBy n k).pos = s.pos :=
  State.tallyBy_area s n k (p := .pos) (by decide)
@[simp] theorem tallyBy_gsc (s : State) (n k : Nat) : (s.tallyBy n k).gsc = s.gsc :=
  State.tallyBy_area s n k (p := .gsc) (by decide)
@[simp] theorem tallyBy_glk (s : State) (n k : Nat) : (s.tallyBy n k).glk = s.glk :=
  State.tallyBy_area s n k (p := .glk) (by decide)
@[simp] theorem tallyBy_psp (s : State) (n k : Nat) : (s.tallyBy n k).psp = s.psp :=
  State.tallyBy_area s n k (p := .psp) (by decide)
@[simp] theorem tallyBy_rng (s : State) (n k : Nat) : (s.tallyBy n k).rng = s.rng :=
  State.tallyBy_area s n k (p := .rng) (by decide)
@[simp] theorem tallyBy_sbc (s : State) (n k : Nat) : (s.tallyBy n k).sbc = s.sbc :=
  State.tallyBy_area s n k (p := .sbc) (by decide)
@[simp] theorem tallyBy_flog (s : State) (n k : Nat) : (s.tallyBy n k).flog = s.flog :=
  State.tallyBy_area s n k (p := .flog) (by decide)
@[simp] theorem tallyBy_red (s : State) (n k : Nat) : (s.tallyBy n k).red = s.red :=
  State.tallyBy_area s n k (p := .red) (by decide)
@[simp] theorem tallyBy_dcc (s : State) (n k : Nat) : (s.tallyBy n k).dcc = s.dcc :=
  State.tallyBy_area s n k (p := .dcc) (by decide)
@[simp] theorem tallyBy_obc (s : State) (n k : Nat) : (s.tallyBy n k).obc = s.obc :=
  State.tallyBy_area s n k (p := .obc) (by decide)
@[simp] theorem tallyBy_chg (s : State) (n k : Nat) : (s.tallyBy n k).chg = s.chg :=
  State.tallyBy_area s n k (p := .chg) (by decide)
@[simp] theorem tallyBy_hka (s : State) (n k : Nat) : (s.tallyBy n k).hka = s.hka :=
  State.tallyBy_area s n k (p := .hka) (by decide)
@[simp] theorem tallyBy_thm (s : State) (n k : Nat) : (s.tallyBy n k).thm = s.thm :=
  State.tallyBy_area s n k (p := .thm) (by decide)
@[simp] theorem tallyBy_axb (s : State) (n k : Nat) : (s.tallyBy n k).axb = s.axb :=
  State.tallyBy_area s n k (p := .axb) (by decide)
@[simp] theorem tallyBy_skd (s : State) (n k : Nat) : (s.tallyBy n k).skd = s.skd :=
  State.tallyBy_area s n k (p := .skd) (by decide)
@[simp] theorem tallyBy_blz (s : State) (n k : Nat) : (s.tallyBy n k).blz = s.blz :=
  State.tallyBy_area s n k (p := .blz) (by decide)
@[simp] theorem tallyBy_can (s : State) (n k : Nat) : (s.tallyBy n k).can = s.can :=
  State.tallyBy_area s n k (p := .can) (by decide)
@[simp] theorem tallyBy_boot (s : State) (n k : Nat) : (s.tallyBy n k).boot = s.boot :=
  State.tallyBy_area s n k (p := .boot) (by decide)
@[simp] theorem tallyBy_regs (s : State) (n k : Nat) : (s.tallyBy n k).regs = s.regs :=
  State.tallyBy_area s n k (p := .regs) (by decide)
@[simp] theorem tallyBy_mem (s : State) (n k : Nat) : (s.tallyBy n k).mem = s.mem :=
  State.tallyBy_area s n k (p := .mem) (by decide)
@[simp] theorem tallyBy_nor (s : State) (n k : Nat) : (s.tallyBy n k).nor = s.nor :=
  State.tallyBy_area s n k (p := .nor) (by decide)
@[simp] theorem tallyBy_emitted (s : State) (n k : Nat) : (s.tallyBy n k).emitted = s.emitted :=
  State.tallyBy_area s n k (p := .emitted) (by decide)
@[simp] theorem tallyBy_flights (s : State) (n k : Nat) : (s.tallyBy n k).flights = s.flights :=
  State.tallyBy_area s n k (p := .flights) (by decide)
@[simp] theorem tallyBy_draws (s : State) (n k : Nat) : (s.tallyBy n k).draws = s.draws :=
  State.tallyBy_area s n k (p := .draws) (by decide)
@[simp] theorem tallyBy_pending (s : State) (n k : Nat) : (s.tallyBy n k).pending = s.pending :=
  State.tallyBy_area s n k (p := .pending) (by decide)

@[simp] theorem tally_clk (s : State) (n : Nat) : (s.tally n).clk = s.clk :=
  State.tally_area s n (p := .clk) (by decide)
@[simp] theorem tally_bus (s : State) (n : Nat) : (s.tally n).bus = s.bus :=
  State.tally_area s n (p := .bus) (by decide)
@[simp] theorem tally_sys (s : State) (n : Nat) : (s.tally n).sys = s.sys :=
  State.tally_area s n (p := .sys) (by decide)
@[simp] theorem tally_mbx (s : State) (n : Nat) : (s.tally n).mbx = s.mbx :=
  State.tally_area s n (p := .mbx) (by decide)
@[simp] theorem tally_lrg (s : State) (n : Nat) : (s.tally n).lrg = s.lrg :=
  State.tally_area s n (p := .lrg) (by decide)
@[simp] theorem tally_trc (s : State) (n : Nat) : (s.tally n).trc = s.trc :=
  State.tally_area s n (p := .trc) (by decide)
@[simp] theorem tally_pba (s : State) (n : Nat) : (s.tally n).pba = s.pba :=
  State.tally_area s n (p := .pba) (by decide)
@[simp] theorem tally_cap (s : State) (n : Nat) : (s.tally n).cap = s.cap :=
  State.tally_area s n (p := .cap) (by decide)
@[simp] theorem tally_ce (s : State) (n : Nat) : (s.tally n).ce = s.ce :=
  State.tally_area s n (p := .ce) (by decide)
@[simp] theorem tally_trx (s : State) (n : Nat) : (s.tally n).trx = s.trx :=
  State.tally_area s n (p := .trx) (by decide)
@[simp] theorem tally_pos (s : State) (n : Nat) : (s.tally n).pos = s.pos :=
  State.tally_area s n (p := .pos) (by decide)
@[simp] theorem tally_gsc (s : State) (n : Nat) : (s.tally n).gsc = s.gsc :=
  State.tally_area s n (p := .gsc) (by decide)
@[simp] theorem tally_glk (s : State) (n : Nat) : (s.tally n).glk = s.glk :=
  State.tally_area s n (p := .glk) (by decide)
@[simp] theorem tally_psp (s : State) (n : Nat) : (s.tally n).psp = s.psp :=
  State.tally_area s n (p := .psp) (by decide)
@[simp] theorem tally_rng (s : State) (n : Nat) : (s.tally n).rng = s.rng :=
  State.tally_area s n (p := .rng) (by decide)
@[simp] theorem tally_sbc (s : State) (n : Nat) : (s.tally n).sbc = s.sbc :=
  State.tally_area s n (p := .sbc) (by decide)
@[simp] theorem tally_flog (s : State) (n : Nat) : (s.tally n).flog = s.flog :=
  State.tally_area s n (p := .flog) (by decide)
@[simp] theorem tally_red (s : State) (n : Nat) : (s.tally n).red = s.red :=
  State.tally_area s n (p := .red) (by decide)
@[simp] theorem tally_dcc (s : State) (n : Nat) : (s.tally n).dcc = s.dcc :=
  State.tally_area s n (p := .dcc) (by decide)
@[simp] theorem tally_obc (s : State) (n : Nat) : (s.tally n).obc = s.obc :=
  State.tally_area s n (p := .obc) (by decide)
@[simp] theorem tally_chg (s : State) (n : Nat) : (s.tally n).chg = s.chg :=
  State.tally_area s n (p := .chg) (by decide)
@[simp] theorem tally_hka (s : State) (n : Nat) : (s.tally n).hka = s.hka :=
  State.tally_area s n (p := .hka) (by decide)
@[simp] theorem tally_thm (s : State) (n : Nat) : (s.tally n).thm = s.thm :=
  State.tally_area s n (p := .thm) (by decide)
@[simp] theorem tally_axb (s : State) (n : Nat) : (s.tally n).axb = s.axb :=
  State.tally_area s n (p := .axb) (by decide)
@[simp] theorem tally_skd (s : State) (n : Nat) : (s.tally n).skd = s.skd :=
  State.tally_area s n (p := .skd) (by decide)
@[simp] theorem tally_blz (s : State) (n : Nat) : (s.tally n).blz = s.blz :=
  State.tally_area s n (p := .blz) (by decide)
@[simp] theorem tally_can (s : State) (n : Nat) : (s.tally n).can = s.can :=
  State.tally_area s n (p := .can) (by decide)
@[simp] theorem tally_boot (s : State) (n : Nat) : (s.tally n).boot = s.boot :=
  State.tally_area s n (p := .boot) (by decide)
@[simp] theorem tally_regs (s : State) (n : Nat) : (s.tally n).regs = s.regs :=
  State.tally_area s n (p := .regs) (by decide)
@[simp] theorem tally_mem (s : State) (n : Nat) : (s.tally n).mem = s.mem :=
  State.tally_area s n (p := .mem) (by decide)
@[simp] theorem tally_nor (s : State) (n : Nat) : (s.tally n).nor = s.nor :=
  State.tally_area s n (p := .nor) (by decide)
@[simp] theorem tally_emitted (s : State) (n : Nat) : (s.tally n).emitted = s.emitted :=
  State.tally_area s n (p := .emitted) (by decide)
@[simp] theorem tally_flights (s : State) (n : Nat) : (s.tally n).flights = s.flights :=
  State.tally_area s n (p := .flights) (by decide)
@[simp] theorem tally_draws (s : State) (n : Nat) : (s.tally n).draws = s.draws :=
  State.tally_area s n (p := .draws) (by decide)
@[simp] theorem tally_pending (s : State) (n : Nat) : (s.tally n).pending = s.pending :=
  State.tally_area s n (p := .pending) (by decide)

@[simp] theorem recordAt_clk (s : State) (x b u e d p : Nat) : (s.recordAt x b u e d p).clk = s.clk :=
  State.recordAt_area s x b u e d p (p := .clk) (by decide)
@[simp] theorem recordAt_bus (s : State) (x b u e d p : Nat) : (s.recordAt x b u e d p).bus = s.bus :=
  State.recordAt_area s x b u e d p (p := .bus) (by decide)
@[simp] theorem recordAt_sys (s : State) (x b u e d p : Nat) : (s.recordAt x b u e d p).sys = s.sys :=
  State.recordAt_area s x b u e d p (p := .sys) (by decide)
@[simp] theorem recordAt_mbx (s : State) (x b u e d p : Nat) : (s.recordAt x b u e d p).mbx = s.mbx :=
  State.recordAt_area s x b u e d p (p := .mbx) (by decide)
@[simp] theorem recordAt_pba (s : State) (x b u e d p : Nat) : (s.recordAt x b u e d p).pba = s.pba :=
  State.recordAt_area s x b u e d p (p := .pba) (by decide)
@[simp] theorem recordAt_cap (s : State) (x b u e d p : Nat) : (s.recordAt x b u e d p).cap = s.cap :=
  State.recordAt_area s x b u e d p (p := .cap) (by decide)
@[simp] theorem recordAt_ce (s : State) (x b u e d p : Nat) : (s.recordAt x b u e d p).ce = s.ce :=
  State.recordAt_area s x b u e d p (p := .ce) (by decide)
@[simp] theorem recordAt_trx (s : State) (x b u e d p : Nat) : (s.recordAt x b u e d p).trx = s.trx :=
  State.recordAt_area s x b u e d p (p := .trx) (by decide)
@[simp] theorem recordAt_pos (s : State) (x b u e d p : Nat) : (s.recordAt x b u e d p).pos = s.pos :=
  State.recordAt_area s x b u e d p (p := .pos) (by decide)
@[simp] theorem recordAt_gsc (s : State) (x b u e d p : Nat) : (s.recordAt x b u e d p).gsc = s.gsc :=
  State.recordAt_area s x b u e d p (p := .gsc) (by decide)
@[simp] theorem recordAt_glk (s : State) (x b u e d p : Nat) : (s.recordAt x b u e d p).glk = s.glk :=
  State.recordAt_area s x b u e d p (p := .glk) (by decide)
@[simp] theorem recordAt_psp (s : State) (x b u e d p : Nat) : (s.recordAt x b u e d p).psp = s.psp :=
  State.recordAt_area s x b u e d p (p := .psp) (by decide)
@[simp] theorem recordAt_rng (s : State) (x b u e d p : Nat) : (s.recordAt x b u e d p).rng = s.rng :=
  State.recordAt_area s x b u e d p (p := .rng) (by decide)
@[simp] theorem recordAt_sbc (s : State) (x b u e d p : Nat) : (s.recordAt x b u e d p).sbc = s.sbc :=
  State.recordAt_area s x b u e d p (p := .sbc) (by decide)
@[simp] theorem recordAt_flog (s : State) (x b u e d p : Nat) : (s.recordAt x b u e d p).flog = s.flog :=
  State.recordAt_area s x b u e d p (p := .flog) (by decide)
@[simp] theorem recordAt_red (s : State) (x b u e d p : Nat) : (s.recordAt x b u e d p).red = s.red :=
  State.recordAt_area s x b u e d p (p := .red) (by decide)
@[simp] theorem recordAt_dcc (s : State) (x b u e d p : Nat) : (s.recordAt x b u e d p).dcc = s.dcc :=
  State.recordAt_area s x b u e d p (p := .dcc) (by decide)
@[simp] theorem recordAt_obc (s : State) (x b u e d p : Nat) : (s.recordAt x b u e d p).obc = s.obc :=
  State.recordAt_area s x b u e d p (p := .obc) (by decide)
@[simp] theorem recordAt_chg (s : State) (x b u e d p : Nat) : (s.recordAt x b u e d p).chg = s.chg :=
  State.recordAt_area s x b u e d p (p := .chg) (by decide)
@[simp] theorem recordAt_hka (s : State) (x b u e d p : Nat) : (s.recordAt x b u e d p).hka = s.hka :=
  State.recordAt_area s x b u e d p (p := .hka) (by decide)
@[simp] theorem recordAt_thm (s : State) (x b u e d p : Nat) : (s.recordAt x b u e d p).thm = s.thm :=
  State.recordAt_area s x b u e d p (p := .thm) (by decide)
@[simp] theorem recordAt_axb (s : State) (x b u e d p : Nat) : (s.recordAt x b u e d p).axb = s.axb :=
  State.recordAt_area s x b u e d p (p := .axb) (by decide)
@[simp] theorem recordAt_skd (s : State) (x b u e d p : Nat) : (s.recordAt x b u e d p).skd = s.skd :=
  State.recordAt_area s x b u e d p (p := .skd) (by decide)
@[simp] theorem recordAt_blz (s : State) (x b u e d p : Nat) : (s.recordAt x b u e d p).blz = s.blz :=
  State.recordAt_area s x b u e d p (p := .blz) (by decide)
@[simp] theorem recordAt_can (s : State) (x b u e d p : Nat) : (s.recordAt x b u e d p).can = s.can :=
  State.recordAt_area s x b u e d p (p := .can) (by decide)
@[simp] theorem recordAt_boot (s : State) (x b u e d p : Nat) : (s.recordAt x b u e d p).boot = s.boot :=
  State.recordAt_area s x b u e d p (p := .boot) (by decide)
@[simp] theorem recordAt_regs (s : State) (x b u e d p : Nat) : (s.recordAt x b u e d p).regs = s.regs :=
  State.recordAt_area s x b u e d p (p := .regs) (by decide)
@[simp] theorem recordAt_mem (s : State) (x b u e d p : Nat) : (s.recordAt x b u e d p).mem = s.mem :=
  State.recordAt_area s x b u e d p (p := .mem) (by decide)
@[simp] theorem recordAt_nor (s : State) (x b u e d p : Nat) : (s.recordAt x b u e d p).nor = s.nor :=
  State.recordAt_area s x b u e d p (p := .nor) (by decide)
@[simp] theorem recordAt_emitted (s : State) (x b u e d p : Nat) : (s.recordAt x b u e d p).emitted = s.emitted :=
  State.recordAt_area s x b u e d p (p := .emitted) (by decide)
@[simp] theorem recordAt_flights (s : State) (x b u e d p : Nat) : (s.recordAt x b u e d p).flights = s.flights :=
  State.recordAt_area s x b u e d p (p := .flights) (by decide)
@[simp] theorem recordAt_draws (s : State) (x b u e d p : Nat) : (s.recordAt x b u e d p).draws = s.draws :=
  State.recordAt_area s x b u e d p (p := .draws) (by decide)
@[simp] theorem recordAt_pending (s : State) (x b u e d p : Nat) : (s.recordAt x b u e d p).pending = s.pending :=
  State.recordAt_area s x b u e d p (p := .pending) (by decide)

@[simp] theorem record_clk (s : State) (b u e d p : Nat) : (s.record b u e d p).clk = s.clk :=
  State.record_area s b u e d p (p := .clk) (by decide)
@[simp] theorem record_bus (s : State) (b u e d p : Nat) : (s.record b u e d p).bus = s.bus :=
  State.record_area s b u e d p (p := .bus) (by decide)
@[simp] theorem record_sys (s : State) (b u e d p : Nat) : (s.record b u e d p).sys = s.sys :=
  State.record_area s b u e d p (p := .sys) (by decide)
@[simp] theorem record_mbx (s : State) (b u e d p : Nat) : (s.record b u e d p).mbx = s.mbx :=
  State.record_area s b u e d p (p := .mbx) (by decide)
@[simp] theorem record_pba (s : State) (b u e d p : Nat) : (s.record b u e d p).pba = s.pba :=
  State.record_area s b u e d p (p := .pba) (by decide)
@[simp] theorem record_cap (s : State) (b u e d p : Nat) : (s.record b u e d p).cap = s.cap :=
  State.record_area s b u e d p (p := .cap) (by decide)
@[simp] theorem record_ce (s : State) (b u e d p : Nat) : (s.record b u e d p).ce = s.ce :=
  State.record_area s b u e d p (p := .ce) (by decide)
@[simp] theorem record_trx (s : State) (b u e d p : Nat) : (s.record b u e d p).trx = s.trx :=
  State.record_area s b u e d p (p := .trx) (by decide)
@[simp] theorem record_pos (s : State) (b u e d p : Nat) : (s.record b u e d p).pos = s.pos :=
  State.record_area s b u e d p (p := .pos) (by decide)
@[simp] theorem record_gsc (s : State) (b u e d p : Nat) : (s.record b u e d p).gsc = s.gsc :=
  State.record_area s b u e d p (p := .gsc) (by decide)
@[simp] theorem record_glk (s : State) (b u e d p : Nat) : (s.record b u e d p).glk = s.glk :=
  State.record_area s b u e d p (p := .glk) (by decide)
@[simp] theorem record_psp (s : State) (b u e d p : Nat) : (s.record b u e d p).psp = s.psp :=
  State.record_area s b u e d p (p := .psp) (by decide)
@[simp] theorem record_rng (s : State) (b u e d p : Nat) : (s.record b u e d p).rng = s.rng :=
  State.record_area s b u e d p (p := .rng) (by decide)
@[simp] theorem record_sbc (s : State) (b u e d p : Nat) : (s.record b u e d p).sbc = s.sbc :=
  State.record_area s b u e d p (p := .sbc) (by decide)
@[simp] theorem record_flog (s : State) (b u e d p : Nat) : (s.record b u e d p).flog = s.flog :=
  State.record_area s b u e d p (p := .flog) (by decide)
@[simp] theorem record_red (s : State) (b u e d p : Nat) : (s.record b u e d p).red = s.red :=
  State.record_area s b u e d p (p := .red) (by decide)
@[simp] theorem record_dcc (s : State) (b u e d p : Nat) : (s.record b u e d p).dcc = s.dcc :=
  State.record_area s b u e d p (p := .dcc) (by decide)
@[simp] theorem record_obc (s : State) (b u e d p : Nat) : (s.record b u e d p).obc = s.obc :=
  State.record_area s b u e d p (p := .obc) (by decide)
@[simp] theorem record_chg (s : State) (b u e d p : Nat) : (s.record b u e d p).chg = s.chg :=
  State.record_area s b u e d p (p := .chg) (by decide)
@[simp] theorem record_hka (s : State) (b u e d p : Nat) : (s.record b u e d p).hka = s.hka :=
  State.record_area s b u e d p (p := .hka) (by decide)
@[simp] theorem record_thm (s : State) (b u e d p : Nat) : (s.record b u e d p).thm = s.thm :=
  State.record_area s b u e d p (p := .thm) (by decide)
@[simp] theorem record_axb (s : State) (b u e d p : Nat) : (s.record b u e d p).axb = s.axb :=
  State.record_area s b u e d p (p := .axb) (by decide)
@[simp] theorem record_skd (s : State) (b u e d p : Nat) : (s.record b u e d p).skd = s.skd :=
  State.record_area s b u e d p (p := .skd) (by decide)
@[simp] theorem record_blz (s : State) (b u e d p : Nat) : (s.record b u e d p).blz = s.blz :=
  State.record_area s b u e d p (p := .blz) (by decide)
@[simp] theorem record_can (s : State) (b u e d p : Nat) : (s.record b u e d p).can = s.can :=
  State.record_area s b u e d p (p := .can) (by decide)
@[simp] theorem record_boot (s : State) (b u e d p : Nat) : (s.record b u e d p).boot = s.boot :=
  State.record_area s b u e d p (p := .boot) (by decide)
@[simp] theorem record_regs (s : State) (b u e d p : Nat) : (s.record b u e d p).regs = s.regs :=
  State.record_area s b u e d p (p := .regs) (by decide)
@[simp] theorem record_mem (s : State) (b u e d p : Nat) : (s.record b u e d p).mem = s.mem :=
  State.record_area s b u e d p (p := .mem) (by decide)
@[simp] theorem record_nor (s : State) (b u e d p : Nat) : (s.record b u e d p).nor = s.nor :=
  State.record_area s b u e d p (p := .nor) (by decide)
@[simp] theorem record_emitted (s : State) (b u e d p : Nat) : (s.record b u e d p).emitted = s.emitted :=
  State.record_area s b u e d p (p := .emitted) (by decide)
@[simp] theorem record_flights (s : State) (b u e d p : Nat) : (s.record b u e d p).flights = s.flights :=
  State.record_area s b u e d p (p := .flights) (by decide)
@[simp] theorem record_draws (s : State) (b u e d p : Nat) : (s.record b u e d p).draws = s.draws :=
  State.record_area s b u e d p (p := .draws) (by decide)
@[simp] theorem record_pending (s : State) (b u e d p : Nat) : (s.record b u e d p).pending = s.pending :=
  State.record_area s b u e d p (p := .pending) (by decide)

@[simp] theorem report_clk (s : State) (b u e : Nat) (f : Byte) (x : Nat) : (s.report b u e f x).clk = s.clk :=
  State.report_area s b u e f x (p := .clk) (by decide)
@[simp] theorem report_bus (s : State) (b u e : Nat) (f : Byte) (x : Nat) : (s.report b u e f x).bus = s.bus :=
  State.report_area s b u e f x (p := .bus) (by decide)
@[simp] theorem report_sys (s : State) (b u e : Nat) (f : Byte) (x : Nat) : (s.report b u e f x).sys = s.sys :=
  State.report_area s b u e f x (p := .sys) (by decide)
@[simp] theorem report_mbx (s : State) (b u e : Nat) (f : Byte) (x : Nat) : (s.report b u e f x).mbx = s.mbx :=
  State.report_area s b u e f x (p := .mbx) (by decide)
@[simp] theorem report_lrg (s : State) (b u e : Nat) (f : Byte) (x : Nat) : (s.report b u e f x).lrg = s.lrg :=
  State.report_area s b u e f x (p := .lrg) (by decide)
@[simp] theorem report_trc (s : State) (b u e : Nat) (f : Byte) (x : Nat) : (s.report b u e f x).trc = s.trc :=
  State.report_area s b u e f x (p := .trc) (by decide)
@[simp] theorem report_tal (s : State) (b u e : Nat) (f : Byte) (x : Nat) : (s.report b u e f x).tal = s.tal :=
  State.report_area s b u e f x (p := .tal) (by decide)
@[simp] theorem report_pba (s : State) (b u e : Nat) (f : Byte) (x : Nat) : (s.report b u e f x).pba = s.pba :=
  State.report_area s b u e f x (p := .pba) (by decide)
@[simp] theorem report_cap (s : State) (b u e : Nat) (f : Byte) (x : Nat) : (s.report b u e f x).cap = s.cap :=
  State.report_area s b u e f x (p := .cap) (by decide)
@[simp] theorem report_ce (s : State) (b u e : Nat) (f : Byte) (x : Nat) : (s.report b u e f x).ce = s.ce :=
  State.report_area s b u e f x (p := .ce) (by decide)
@[simp] theorem report_trx (s : State) (b u e : Nat) (f : Byte) (x : Nat) : (s.report b u e f x).trx = s.trx :=
  State.report_area s b u e f x (p := .trx) (by decide)
@[simp] theorem report_pos (s : State) (b u e : Nat) (f : Byte) (x : Nat) : (s.report b u e f x).pos = s.pos :=
  State.report_area s b u e f x (p := .pos) (by decide)
@[simp] theorem report_gsc (s : State) (b u e : Nat) (f : Byte) (x : Nat) : (s.report b u e f x).gsc = s.gsc :=
  State.report_area s b u e f x (p := .gsc) (by decide)
@[simp] theorem report_glk (s : State) (b u e : Nat) (f : Byte) (x : Nat) : (s.report b u e f x).glk = s.glk :=
  State.report_area s b u e f x (p := .glk) (by decide)
@[simp] theorem report_psp (s : State) (b u e : Nat) (f : Byte) (x : Nat) : (s.report b u e f x).psp = s.psp :=
  State.report_area s b u e f x (p := .psp) (by decide)
@[simp] theorem report_sbc (s : State) (b u e : Nat) (f : Byte) (x : Nat) : (s.report b u e f x).sbc = s.sbc :=
  State.report_area s b u e f x (p := .sbc) (by decide)
@[simp] theorem report_flog (s : State) (b u e : Nat) (f : Byte) (x : Nat) : (s.report b u e f x).flog = s.flog :=
  State.report_area s b u e f x (p := .flog) (by decide)
@[simp] theorem report_red (s : State) (b u e : Nat) (f : Byte) (x : Nat) : (s.report b u e f x).red = s.red :=
  State.report_area s b u e f x (p := .red) (by decide)
@[simp] theorem report_dcc (s : State) (b u e : Nat) (f : Byte) (x : Nat) : (s.report b u e f x).dcc = s.dcc :=
  State.report_area s b u e f x (p := .dcc) (by decide)
@[simp] theorem report_obc (s : State) (b u e : Nat) (f : Byte) (x : Nat) : (s.report b u e f x).obc = s.obc :=
  State.report_area s b u e f x (p := .obc) (by decide)
@[simp] theorem report_chg (s : State) (b u e : Nat) (f : Byte) (x : Nat) : (s.report b u e f x).chg = s.chg :=
  State.report_area s b u e f x (p := .chg) (by decide)
@[simp] theorem report_hka (s : State) (b u e : Nat) (f : Byte) (x : Nat) : (s.report b u e f x).hka = s.hka :=
  State.report_area s b u e f x (p := .hka) (by decide)
@[simp] theorem report_thm (s : State) (b u e : Nat) (f : Byte) (x : Nat) : (s.report b u e f x).thm = s.thm :=
  State.report_area s b u e f x (p := .thm) (by decide)
@[simp] theorem report_axb (s : State) (b u e : Nat) (f : Byte) (x : Nat) : (s.report b u e f x).axb = s.axb :=
  State.report_area s b u e f x (p := .axb) (by decide)
@[simp] theorem report_skd (s : State) (b u e : Nat) (f : Byte) (x : Nat) : (s.report b u e f x).skd = s.skd :=
  State.report_area s b u e f x (p := .skd) (by decide)
@[simp] theorem report_blz (s : State) (b u e : Nat) (f : Byte) (x : Nat) : (s.report b u e f x).blz = s.blz :=
  State.report_area s b u e f x (p := .blz) (by decide)
@[simp] theorem report_can (s : State) (b u e : Nat) (f : Byte) (x : Nat) : (s.report b u e f x).can = s.can :=
  State.report_area s b u e f x (p := .can) (by decide)
@[simp] theorem report_boot (s : State) (b u e : Nat) (f : Byte) (x : Nat) : (s.report b u e f x).boot = s.boot :=
  State.report_area s b u e f x (p := .boot) (by decide)
@[simp] theorem report_regs (s : State) (b u e : Nat) (f : Byte) (x : Nat) : (s.report b u e f x).regs = s.regs :=
  State.report_area s b u e f x (p := .regs) (by decide)
@[simp] theorem report_mem (s : State) (b u e : Nat) (f : Byte) (x : Nat) : (s.report b u e f x).mem = s.mem :=
  State.report_area s b u e f x (p := .mem) (by decide)
@[simp] theorem report_nor (s : State) (b u e : Nat) (f : Byte) (x : Nat) : (s.report b u e f x).nor = s.nor :=
  State.report_area s b u e f x (p := .nor) (by decide)
@[simp] theorem report_emitted (s : State) (b u e : Nat) (f : Byte) (x : Nat) : (s.report b u e f x).emitted = s.emitted :=
  State.report_area s b u e f x (p := .emitted) (by decide)
@[simp] theorem report_flights (s : State) (b u e : Nat) (f : Byte) (x : Nat) : (s.report b u e f x).flights = s.flights :=
  State.report_area s b u e f x (p := .flights) (by decide)
@[simp] theorem report_draws (s : State) (b u e : Nat) (f : Byte) (x : Nat) : (s.report b u e f x).draws = s.draws :=
  State.report_area s b u e f x (p := .draws) (by decide)
@[simp] theorem report_pending (s : State) (b u e : Nat) (f : Byte) (x : Nat) : (s.report b u e f x).pending = s.pending :=
  State.report_area s b u e f x (p := .pending) (by decide)

@[simp] theorem recordReport_clk (s : State) (b u e d p x : Nat) : (s.recordReport b u e d p x).clk = s.clk :=
  State.recordReport_area s b u e d p x (p := .clk) (by decide)
@[simp] theorem recordReport_bus (s : State) (b u e d p x : Nat) : (s.recordReport b u e d p x).bus = s.bus :=
  State.recordReport_area s b u e d p x (p := .bus) (by decide)
@[simp] theorem recordReport_sys (s : State) (b u e d p x : Nat) : (s.recordReport b u e d p x).sys = s.sys :=
  State.recordReport_area s b u e d p x (p := .sys) (by decide)
@[simp] theorem recordReport_mbx (s : State) (b u e d p x : Nat) : (s.recordReport b u e d p x).mbx = s.mbx :=
  State.recordReport_area s b u e d p x (p := .mbx) (by decide)
@[simp] theorem recordReport_pba (s : State) (b u e d p x : Nat) : (s.recordReport b u e d p x).pba = s.pba :=
  State.recordReport_area s b u e d p x (p := .pba) (by decide)
@[simp] theorem recordReport_cap (s : State) (b u e d p x : Nat) : (s.recordReport b u e d p x).cap = s.cap :=
  State.recordReport_area s b u e d p x (p := .cap) (by decide)
@[simp] theorem recordReport_ce (s : State) (b u e d p x : Nat) : (s.recordReport b u e d p x).ce = s.ce :=
  State.recordReport_area s b u e d p x (p := .ce) (by decide)
@[simp] theorem recordReport_trx (s : State) (b u e d p x : Nat) : (s.recordReport b u e d p x).trx = s.trx :=
  State.recordReport_area s b u e d p x (p := .trx) (by decide)
@[simp] theorem recordReport_pos (s : State) (b u e d p x : Nat) : (s.recordReport b u e d p x).pos = s.pos :=
  State.recordReport_area s b u e d p x (p := .pos) (by decide)
@[simp] theorem recordReport_gsc (s : State) (b u e d p x : Nat) : (s.recordReport b u e d p x).gsc = s.gsc :=
  State.recordReport_area s b u e d p x (p := .gsc) (by decide)
@[simp] theorem recordReport_glk (s : State) (b u e d p x : Nat) : (s.recordReport b u e d p x).glk = s.glk :=
  State.recordReport_area s b u e d p x (p := .glk) (by decide)
@[simp] theorem recordReport_psp (s : State) (b u e d p x : Nat) : (s.recordReport b u e d p x).psp = s.psp :=
  State.recordReport_area s b u e d p x (p := .psp) (by decide)
@[simp] theorem recordReport_sbc (s : State) (b u e d p x : Nat) : (s.recordReport b u e d p x).sbc = s.sbc :=
  State.recordReport_area s b u e d p x (p := .sbc) (by decide)
@[simp] theorem recordReport_flog (s : State) (b u e d p x : Nat) : (s.recordReport b u e d p x).flog = s.flog :=
  State.recordReport_area s b u e d p x (p := .flog) (by decide)
@[simp] theorem recordReport_red (s : State) (b u e d p x : Nat) : (s.recordReport b u e d p x).red = s.red :=
  State.recordReport_area s b u e d p x (p := .red) (by decide)
@[simp] theorem recordReport_dcc (s : State) (b u e d p x : Nat) : (s.recordReport b u e d p x).dcc = s.dcc :=
  State.recordReport_area s b u e d p x (p := .dcc) (by decide)
@[simp] theorem recordReport_obc (s : State) (b u e d p x : Nat) : (s.recordReport b u e d p x).obc = s.obc :=
  State.recordReport_area s b u e d p x (p := .obc) (by decide)
@[simp] theorem recordReport_chg (s : State) (b u e d p x : Nat) : (s.recordReport b u e d p x).chg = s.chg :=
  State.recordReport_area s b u e d p x (p := .chg) (by decide)
@[simp] theorem recordReport_hka (s : State) (b u e d p x : Nat) : (s.recordReport b u e d p x).hka = s.hka :=
  State.recordReport_area s b u e d p x (p := .hka) (by decide)
@[simp] theorem recordReport_thm (s : State) (b u e d p x : Nat) : (s.recordReport b u e d p x).thm = s.thm :=
  State.recordReport_area s b u e d p x (p := .thm) (by decide)
@[simp] theorem recordReport_axb (s : State) (b u e d p x : Nat) : (s.recordReport b u e d p x).axb = s.axb :=
  State.recordReport_area s b u e d p x (p := .axb) (by decide)
@[simp] theorem recordReport_skd (s : State) (b u e d p x : Nat) : (s.recordReport b u e d p x).skd = s.skd :=
  State.recordReport_area s b u e d p x (p := .skd) (by decide)
@[simp] theorem recordReport_blz (s : State) (b u e d p x : Nat) : (s.recordReport b u e d p x).blz = s.blz :=
  State.recordReport_area s b u e d p x (p := .blz) (by decide)
@[simp] theorem recordReport_can (s : State) (b u e d p x : Nat) : (s.recordReport b u e d p x).can = s.can :=
  State.recordReport_area s b u e d p x (p := .can) (by decide)
@[simp] theorem recordReport_boot (s : State) (b u e d p x : Nat) : (s.recordReport b u e d p x).boot = s.boot :=
  State.recordReport_area s b u e d p x (p := .boot) (by decide)
@[simp] theorem recordReport_regs (s : State) (b u e d p x : Nat) : (s.recordReport b u e d p x).regs = s.regs :=
  State.recordReport_area s b u e d p x (p := .regs) (by decide)
@[simp] theorem recordReport_mem (s : State) (b u e d p x : Nat) : (s.recordReport b u e d p x).mem = s.mem :=
  State.recordReport_area s b u e d p x (p := .mem) (by decide)
@[simp] theorem recordReport_nor (s : State) (b u e d p x : Nat) : (s.recordReport b u e d p x).nor = s.nor :=
  State.recordReport_area s b u e d p x (p := .nor) (by decide)
@[simp] theorem recordReport_emitted (s : State) (b u e d p x : Nat) : (s.recordReport b u e d p x).emitted = s.emitted :=
  State.recordReport_area s b u e d p x (p := .emitted) (by decide)
@[simp] theorem recordReport_flights (s : State) (b u e d p x : Nat) : (s.recordReport b u e d p x).flights = s.flights :=
  State.recordReport_area s b u e d p x (p := .flights) (by decide)
@[simp] theorem recordReport_draws (s : State) (b u e d p x : Nat) : (s.recordReport b u e d p x).draws = s.draws :=
  State.recordReport_area s b u e d p x (p := .draws) (by decide)
@[simp] theorem recordReport_pending (s : State) (b u e d p x : Nat) : (s.recordReport b u e d p x).pending = s.pending :=
  State.recordReport_area s b u e d p x (p := .pending) (by decide)

@[simp] theorem busError_clk (s : State) (i : Fin 64) (a c : Nat) : (s.busError i a c).clk = s.clk :=
  State.busError_area s i a c (p := .clk) (by decide)
@[simp] theorem busError_sys (s : State) (i : Fin 64) (a c : Nat) : (s.busError i a c).sys = s.sys :=
  State.busError_area s i a c (p := .sys) (by decide)
@[simp] theorem busError_mbx (s : State) (i : Fin 64) (a c : Nat) : (s.busError i a c).mbx = s.mbx :=
  State.busError_area s i a c (p := .mbx) (by decide)
@[simp] theorem busError_pba (s : State) (i : Fin 64) (a c : Nat) : (s.busError i a c).pba = s.pba :=
  State.busError_area s i a c (p := .pba) (by decide)
@[simp] theorem busError_cap (s : State) (i : Fin 64) (a c : Nat) : (s.busError i a c).cap = s.cap :=
  State.busError_area s i a c (p := .cap) (by decide)
@[simp] theorem busError_ce (s : State) (i : Fin 64) (a c : Nat) : (s.busError i a c).ce = s.ce :=
  State.busError_area s i a c (p := .ce) (by decide)
@[simp] theorem busError_trx (s : State) (i : Fin 64) (a c : Nat) : (s.busError i a c).trx = s.trx :=
  State.busError_area s i a c (p := .trx) (by decide)
@[simp] theorem busError_pos (s : State) (i : Fin 64) (a c : Nat) : (s.busError i a c).pos = s.pos :=
  State.busError_area s i a c (p := .pos) (by decide)
@[simp] theorem busError_gsc (s : State) (i : Fin 64) (a c : Nat) : (s.busError i a c).gsc = s.gsc :=
  State.busError_area s i a c (p := .gsc) (by decide)
@[simp] theorem busError_glk (s : State) (i : Fin 64) (a c : Nat) : (s.busError i a c).glk = s.glk :=
  State.busError_area s i a c (p := .glk) (by decide)
@[simp] theorem busError_psp (s : State) (i : Fin 64) (a c : Nat) : (s.busError i a c).psp = s.psp :=
  State.busError_area s i a c (p := .psp) (by decide)
@[simp] theorem busError_rng (s : State) (i : Fin 64) (a c : Nat) : (s.busError i a c).rng = s.rng :=
  State.busError_area s i a c (p := .rng) (by decide)
@[simp] theorem busError_sbc (s : State) (i : Fin 64) (a c : Nat) : (s.busError i a c).sbc = s.sbc :=
  State.busError_area s i a c (p := .sbc) (by decide)
@[simp] theorem busError_flog (s : State) (i : Fin 64) (a c : Nat) : (s.busError i a c).flog = s.flog :=
  State.busError_area s i a c (p := .flog) (by decide)
@[simp] theorem busError_red (s : State) (i : Fin 64) (a c : Nat) : (s.busError i a c).red = s.red :=
  State.busError_area s i a c (p := .red) (by decide)
@[simp] theorem busError_dcc (s : State) (i : Fin 64) (a c : Nat) : (s.busError i a c).dcc = s.dcc :=
  State.busError_area s i a c (p := .dcc) (by decide)
@[simp] theorem busError_obc (s : State) (i : Fin 64) (a c : Nat) : (s.busError i a c).obc = s.obc :=
  State.busError_area s i a c (p := .obc) (by decide)
@[simp] theorem busError_chg (s : State) (i : Fin 64) (a c : Nat) : (s.busError i a c).chg = s.chg :=
  State.busError_area s i a c (p := .chg) (by decide)
@[simp] theorem busError_hka (s : State) (i : Fin 64) (a c : Nat) : (s.busError i a c).hka = s.hka :=
  State.busError_area s i a c (p := .hka) (by decide)
@[simp] theorem busError_thm (s : State) (i : Fin 64) (a c : Nat) : (s.busError i a c).thm = s.thm :=
  State.busError_area s i a c (p := .thm) (by decide)
@[simp] theorem busError_axb (s : State) (i : Fin 64) (a c : Nat) : (s.busError i a c).axb = s.axb :=
  State.busError_area s i a c (p := .axb) (by decide)
@[simp] theorem busError_skd (s : State) (i : Fin 64) (a c : Nat) : (s.busError i a c).skd = s.skd :=
  State.busError_area s i a c (p := .skd) (by decide)
@[simp] theorem busError_blz (s : State) (i : Fin 64) (a c : Nat) : (s.busError i a c).blz = s.blz :=
  State.busError_area s i a c (p := .blz) (by decide)
@[simp] theorem busError_can (s : State) (i : Fin 64) (a c : Nat) : (s.busError i a c).can = s.can :=
  State.busError_area s i a c (p := .can) (by decide)
@[simp] theorem busError_boot (s : State) (i : Fin 64) (a c : Nat) : (s.busError i a c).boot = s.boot :=
  State.busError_area s i a c (p := .boot) (by decide)
@[simp] theorem busError_regs (s : State) (i : Fin 64) (a c : Nat) : (s.busError i a c).regs = s.regs :=
  State.busError_area s i a c (p := .regs) (by decide)
@[simp] theorem busError_mem (s : State) (i : Fin 64) (a c : Nat) : (s.busError i a c).mem = s.mem :=
  State.busError_area s i a c (p := .mem) (by decide)
@[simp] theorem busError_nor (s : State) (i : Fin 64) (a c : Nat) : (s.busError i a c).nor = s.nor :=
  State.busError_area s i a c (p := .nor) (by decide)
@[simp] theorem busError_emitted (s : State) (i : Fin 64) (a c : Nat) : (s.busError i a c).emitted = s.emitted :=
  State.busError_area s i a c (p := .emitted) (by decide)
@[simp] theorem busError_flights (s : State) (i : Fin 64) (a c : Nat) : (s.busError i a c).flights = s.flights :=
  State.busError_area s i a c (p := .flights) (by decide)
@[simp] theorem busError_draws (s : State) (i : Fin 64) (a c : Nat) : (s.busError i a c).draws = s.draws :=
  State.busError_area s i a c (p := .draws) (by decide)
@[simp] theorem busError_pending (s : State) (i : Fin 64) (a c : Nat) : (s.busError i a c).pending = s.pending :=
  State.busError_area s i a c (p := .pending) (by decide)

@[simp] theorem watchRows_clk (s : State) : (s.watchRows).clk = s.clk :=
  State.watchRows_area s (p := .clk) (by decide)
@[simp] theorem watchRows_bus (s : State) : (s.watchRows).bus = s.bus :=
  State.watchRows_area s (p := .bus) (by decide)
@[simp] theorem watchRows_sys (s : State) : (s.watchRows).sys = s.sys :=
  State.watchRows_area s (p := .sys) (by decide)
@[simp] theorem watchRows_mbx (s : State) : (s.watchRows).mbx = s.mbx :=
  State.watchRows_area s (p := .mbx) (by decide)
@[simp] theorem watchRows_lrg (s : State) : (s.watchRows).lrg = s.lrg :=
  State.watchRows_area s (p := .lrg) (by decide)
@[simp] theorem watchRows_trc (s : State) : (s.watchRows).trc = s.trc :=
  State.watchRows_area s (p := .trc) (by decide)
@[simp] theorem watchRows_tal (s : State) : (s.watchRows).tal = s.tal :=
  State.watchRows_area s (p := .tal) (by decide)
@[simp] theorem watchRows_pba (s : State) : (s.watchRows).pba = s.pba :=
  State.watchRows_area s (p := .pba) (by decide)
@[simp] theorem watchRows_cap (s : State) : (s.watchRows).cap = s.cap :=
  State.watchRows_area s (p := .cap) (by decide)
@[simp] theorem watchRows_ce (s : State) : (s.watchRows).ce = s.ce :=
  State.watchRows_area s (p := .ce) (by decide)
@[simp] theorem watchRows_trx (s : State) : (s.watchRows).trx = s.trx :=
  State.watchRows_area s (p := .trx) (by decide)
@[simp] theorem watchRows_pos (s : State) : (s.watchRows).pos = s.pos :=
  State.watchRows_area s (p := .pos) (by decide)
@[simp] theorem watchRows_gsc (s : State) : (s.watchRows).gsc = s.gsc :=
  State.watchRows_area s (p := .gsc) (by decide)
@[simp] theorem watchRows_glk (s : State) : (s.watchRows).glk = s.glk :=
  State.watchRows_area s (p := .glk) (by decide)
@[simp] theorem watchRows_psp (s : State) : (s.watchRows).psp = s.psp :=
  State.watchRows_area s (p := .psp) (by decide)
@[simp] theorem watchRows_sbc (s : State) : (s.watchRows).sbc = s.sbc :=
  State.watchRows_area s (p := .sbc) (by decide)
@[simp] theorem watchRows_flog (s : State) : (s.watchRows).flog = s.flog :=
  State.watchRows_area s (p := .flog) (by decide)
@[simp] theorem watchRows_red (s : State) : (s.watchRows).red = s.red :=
  State.watchRows_area s (p := .red) (by decide)
@[simp] theorem watchRows_dcc (s : State) : (s.watchRows).dcc = s.dcc :=
  State.watchRows_area s (p := .dcc) (by decide)
@[simp] theorem watchRows_obc (s : State) : (s.watchRows).obc = s.obc :=
  State.watchRows_area s (p := .obc) (by decide)
@[simp] theorem watchRows_chg (s : State) : (s.watchRows).chg = s.chg :=
  State.watchRows_area s (p := .chg) (by decide)
@[simp] theorem watchRows_hka (s : State) : (s.watchRows).hka = s.hka :=
  State.watchRows_area s (p := .hka) (by decide)
@[simp] theorem watchRows_thm (s : State) : (s.watchRows).thm = s.thm :=
  State.watchRows_area s (p := .thm) (by decide)
@[simp] theorem watchRows_axb (s : State) : (s.watchRows).axb = s.axb :=
  State.watchRows_area s (p := .axb) (by decide)
@[simp] theorem watchRows_skd (s : State) : (s.watchRows).skd = s.skd :=
  State.watchRows_area s (p := .skd) (by decide)
@[simp] theorem watchRows_blz (s : State) : (s.watchRows).blz = s.blz :=
  State.watchRows_area s (p := .blz) (by decide)
@[simp] theorem watchRows_can (s : State) : (s.watchRows).can = s.can :=
  State.watchRows_area s (p := .can) (by decide)
@[simp] theorem watchRows_boot (s : State) : (s.watchRows).boot = s.boot :=
  State.watchRows_area s (p := .boot) (by decide)
@[simp] theorem watchRows_regs (s : State) : (s.watchRows).regs = s.regs :=
  State.watchRows_area s (p := .regs) (by decide)
@[simp] theorem watchRows_mem (s : State) : (s.watchRows).mem = s.mem :=
  State.watchRows_area s (p := .mem) (by decide)
@[simp] theorem watchRows_nor (s : State) : (s.watchRows).nor = s.nor :=
  State.watchRows_area s (p := .nor) (by decide)
@[simp] theorem watchRows_emitted (s : State) : (s.watchRows).emitted = s.emitted :=
  State.watchRows_area s (p := .emitted) (by decide)
@[simp] theorem watchRows_flights (s : State) : (s.watchRows).flights = s.flights :=
  State.watchRows_area s (p := .flights) (by decide)
@[simp] theorem watchRows_draws (s : State) : (s.watchRows).draws = s.draws :=
  State.watchRows_area s (p := .draws) (by decide)
@[simp] theorem watchRows_pending (s : State) : (s.watchRows).pending = s.pending :=
  State.watchRows_area s (p := .pending) (by decide)

/-! ### The clock -/

@[simp] theorem clockTo_now {s : State} {t : Tick} (h : s.clk.locked = true) :
    (s.clockTo t).clk.now = max t s.clk.now := by
  unfold State.clockTo
  split
  · rename_i c
    rcases c with c | c
    · simp [h] at c
    · exact (Nat.max_eq_right c).symm
  · rename_i c
    have : ¬ t ≤ s.clk.now := fun x => c (.inr x)
    exact (Nat.max_eq_left (Nat.le_of_lt (Nat.lt_of_not_le this))).symm

/-- With nothing to arrive, time alone moves on to the tick of a command. -/
theorem at_quiet {s : State} {t : Tick} (h : Quiet s t) : s.at t = s.clockTo t := by
  have z : slewShift s t = 0 := by simp [slewShift, h.1]
  have c : countAt s t = t := by simp [countAt, z]
  have d : s.flights.filter (fun x => decide (x.1 ≤ max t s.clk.now)) = [] :=
    List.filter_eq_nil_iff.mpr fun f hf x => absurd (of_decide_eq_true x) (Nat.not_le.mpr (h.2 f hf))
  have k : s.flights.filter (fun x => !decide (x.1 ≤ max t s.clk.now)) = s.flights :=
    List.filter_eq_self.mpr fun f hf => by rw [decide_eq_false (Nat.not_le.mpr (h.2 f hf))]; rfl
  have w : (s.clockTo t).skd.slew = 0 := by rw [clockTo_skd, h.1]
  unfold State.at
  simp only [c, d, k, z, List.foldl_nil]
  unfold State.slewed
  rw [if_pos w]

@[simp] theorem at_now {s : State} {t : Tick} (h : OnTime s t) : (s.at t).clk.now = t := by
  rw [at_quiet h.2.2, clockTo_now h.1, Nat.max_eq_left h.2.1]

/-! ### What a command finds at its tick when nothing arrives before it -/

@[simp] theorem at_bus {s : State} {t : Tick} (h : Quiet s t) : (s.at t).bus = s.bus := by
  rw [at_quiet h, clockTo_bus]
@[simp] theorem at_sys {s : State} {t : Tick} (h : Quiet s t) : (s.at t).sys = s.sys := by
  rw [at_quiet h, clockTo_sys]
@[simp] theorem at_mbx {s : State} {t : Tick} (h : Quiet s t) : (s.at t).mbx = s.mbx := by
  rw [at_quiet h, clockTo_mbx]
@[simp] theorem at_lrg {s : State} {t : Tick} (h : Quiet s t) : (s.at t).lrg = s.lrg := by
  rw [at_quiet h, clockTo_lrg]
@[simp] theorem at_trc {s : State} {t : Tick} (h : Quiet s t) : (s.at t).trc = s.trc := by
  rw [at_quiet h, clockTo_trc]
@[simp] theorem at_tal {s : State} {t : Tick} (h : Quiet s t) : (s.at t).tal = s.tal := by
  rw [at_quiet h, clockTo_tal]
@[simp] theorem at_pba {s : State} {t : Tick} (h : Quiet s t) : (s.at t).pba = s.pba := by
  rw [at_quiet h, clockTo_pba]
@[simp] theorem at_cap {s : State} {t : Tick} (h : Quiet s t) : (s.at t).cap = s.cap := by
  rw [at_quiet h, clockTo_cap]
@[simp] theorem at_ce {s : State} {t : Tick} (h : Quiet s t) : (s.at t).ce = s.ce := by
  rw [at_quiet h, clockTo_ce]
@[simp] theorem at_trx {s : State} {t : Tick} (h : Quiet s t) : (s.at t).trx = s.trx := by
  rw [at_quiet h, clockTo_trx]
@[simp] theorem at_pos {s : State} {t : Tick} (h : Quiet s t) : (s.at t).pos = s.pos := by
  rw [at_quiet h, clockTo_pos]
@[simp] theorem at_gsc {s : State} {t : Tick} (h : Quiet s t) : (s.at t).gsc = s.gsc := by
  rw [at_quiet h, clockTo_gsc]
@[simp] theorem at_glk {s : State} {t : Tick} (h : Quiet s t) : (s.at t).glk = s.glk := by
  rw [at_quiet h, clockTo_glk]
@[simp] theorem at_psp {s : State} {t : Tick} (h : Quiet s t) : (s.at t).psp = s.psp := by
  rw [at_quiet h, clockTo_psp]
@[simp] theorem at_rng {s : State} {t : Tick} (h : Quiet s t) : (s.at t).rng = s.rng := by
  rw [at_quiet h, clockTo_rng]
@[simp] theorem at_sbc {s : State} {t : Tick} (h : Quiet s t) : (s.at t).sbc = s.sbc := by
  rw [at_quiet h, clockTo_sbc]
@[simp] theorem at_flog {s : State} {t : Tick} (h : Quiet s t) : (s.at t).flog = s.flog := by
  rw [at_quiet h, clockTo_flog]
@[simp] theorem at_red {s : State} {t : Tick} (h : Quiet s t) : (s.at t).red = s.red := by
  rw [at_quiet h, clockTo_red]
@[simp] theorem at_dcc {s : State} {t : Tick} (h : Quiet s t) : (s.at t).dcc = s.dcc := by
  rw [at_quiet h, clockTo_dcc]
@[simp] theorem at_obc {s : State} {t : Tick} (h : Quiet s t) : (s.at t).obc = s.obc := by
  rw [at_quiet h, clockTo_obc]
@[simp] theorem at_chg {s : State} {t : Tick} (h : Quiet s t) : (s.at t).chg = s.chg := by
  rw [at_quiet h, clockTo_chg]
@[simp] theorem at_hka {s : State} {t : Tick} (h : Quiet s t) : (s.at t).hka = s.hka := by
  rw [at_quiet h, clockTo_hka]
@[simp] theorem at_thm {s : State} {t : Tick} (h : Quiet s t) : (s.at t).thm = s.thm := by
  rw [at_quiet h, clockTo_thm]
@[simp] theorem at_axb {s : State} {t : Tick} (h : Quiet s t) : (s.at t).axb = s.axb := by
  rw [at_quiet h, clockTo_axb]
@[simp] theorem at_skd {s : State} {t : Tick} (h : Quiet s t) : (s.at t).skd = s.skd := by
  rw [at_quiet h, clockTo_skd]
@[simp] theorem at_blz {s : State} {t : Tick} (h : Quiet s t) : (s.at t).blz = s.blz := by
  rw [at_quiet h, clockTo_blz]
@[simp] theorem at_can {s : State} {t : Tick} (h : Quiet s t) : (s.at t).can = s.can := by
  rw [at_quiet h, clockTo_can]
@[simp] theorem at_boot {s : State} {t : Tick} (h : Quiet s t) : (s.at t).boot = s.boot := by
  rw [at_quiet h, clockTo_boot]
@[simp] theorem at_regs {s : State} {t : Tick} (h : Quiet s t) : (s.at t).regs = s.regs := by
  rw [at_quiet h, clockTo_regs]
@[simp] theorem at_mem {s : State} {t : Tick} (h : Quiet s t) : (s.at t).mem = s.mem := by
  rw [at_quiet h, clockTo_mem]
@[simp] theorem at_nor {s : State} {t : Tick} (h : Quiet s t) : (s.at t).nor = s.nor := by
  rw [at_quiet h, clockTo_nor]
@[simp] theorem at_emitted {s : State} {t : Tick} (h : Quiet s t) : (s.at t).emitted = s.emitted := by
  rw [at_quiet h, clockTo_emitted]
@[simp] theorem at_flights {s : State} {t : Tick} (h : Quiet s t) : (s.at t).flights = s.flights := by
  rw [at_quiet h, clockTo_flights]
@[simp] theorem at_draws {s : State} {t : Tick} (h : Quiet s t) : (s.at t).draws = s.draws := by
  rw [at_quiet h, clockTo_draws]
@[simp] theorem at_pending {s : State} {t : Tick} (h : Quiet s t) : (s.at t).pending = s.pending := by
  rw [at_quiet h, clockTo_pending]

end Sys2Proof.Machine
end

