-- ==== Sys2Proof/Laws/Memory.lean ====
section
/-!
SUPPORT. Tables in canonical form: what a read after a write gives, and that every operation on memory
keeps the form.
-/

namespace Sys2Proof.Machine

open Sys2Proof

/-- A canonical table whose keys all lie above `k`. -/
def above {α : Type} [DecidableEq α] (d : α) (k : Nat) (t : List (Nat × α)) : Prop :=
  swfFrom d (some k) t = true

theorem above_cons {α : Type} [DecidableEq α] {d : α} {lo k : Nat} {v : α} {t : List (Nat × α)} :
    above d lo ((k, v) :: t) ↔ lo < k ∧ v ≠ d ∧ above d k t := by
  simp [above, swfFrom, and_assoc]

theorem swf_cons {α : Type} [DecidableEq α] {d : α} {k : Nat} {v : α} {t : List (Nat × α)} :
    swf d ((k, v) :: t) = true ↔ v ≠ d ∧ above d k t := by
  simp [swf, above, swfFrom]

theorem above_mono {α : Type} [DecidableEq α] {d : α} {a b : Nat} {t : List (Nat × α)} (h : above d b t)
    (l : a ≤ b) : above d a t := by
  cases t with
  | nil => rfl
  | cons x t => exact above_cons.2 ⟨Nat.lt_of_le_of_lt l (above_cons.1 h).1, (above_cons.1 h).2⟩

theorem swf_of_above {α : Type} [DecidableEq α] {d : α} {k : Nat} {t : List (Nat × α)}
    (h : above d k t) : swf d t = true := by
  cases t with
  | nil => rfl
  | cons x t => exact swf_cons.2 (above_cons.1 h).2

theorem sget_above {α : Type} [DecidableEq α] {d : α} {k a : Nat} :
    ∀ {t : List (Nat × α)}, above d k t → a ≤ k → sget d t a = d
  | [], _, _ => rfl
  | (x, v) :: t, h, l => by
    have hx := above_cons.1 h
    have : x ≠ a := by omega
    simp only [sget, if_neg this]
    exact sget_above hx.2.2 (by omega)

theorem above_sput {α : Type} [DecidableEq α] {d : α} {a : Nat} {x : α} :
    ∀ {t : List (Nat × α)} {lo : Nat}, above d lo t → lo < a → above d lo (sput d t a x)
  | [], lo, _, l => by
    unfold sput scons
    split
    · rfl
    · exact above_cons.2 ⟨l, ‹_›, rfl⟩
  | (k, v) :: t, lo, h, l => by
    obtain ⟨hk, hv, ht⟩ := above_cons.1 h
    unfold sput scons
    split
    · split
      · exact h
      · exact above_cons.2 ⟨l, ‹_›, above_cons.2 ⟨‹_›, hv, ht⟩⟩
    · split
      · subst a
        split
        · exact above_mono ht (Nat.le_of_lt hk)
        · exact above_cons.2 ⟨hk, ‹_›, ht⟩
      · exact above_cons.2 ⟨hk, hv, above_sput ht (by omega)⟩

/-- A write keeps the canonical form. -/
theorem swf_sput {α : Type} [DecidableEq α] {d : α} {a : Nat} {x : α} {t : List (Nat × α)}
    (h : swf d t = true) : swf d (sput d t a x) = true := by
  cases t with
  | nil =>
    unfold sput scons
    split
    · rfl
    · exact swf_cons.2 ⟨‹_›, rfl⟩
  | cons y t =>
    obtain ⟨k, v⟩ := y
    obtain ⟨hv, ht⟩ := swf_cons.1 h
    unfold sput scons
    split
    · split
      · exact h
      · exact swf_cons.2 ⟨‹_›, above_cons.2 ⟨‹_›, hv, ht⟩⟩
    · split
      · subst a
        split
        · exact swf_of_above ht
        · exact swf_cons.2 ⟨‹_›, ht⟩
      · exact swf_cons.2 ⟨hv, above_sput ht (by omega)⟩

/-- A read after a write: the value at the written key, the old value elsewhere. -/
theorem sget_sput {α : Type} [DecidableEq α] {d : α} {a b : Nat} {x : α} :
    ∀ {t : List (Nat × α)}, swf d t = true →
      sget d (sput d t a x) b = if b = a then x else sget d t b
  | [], _ => by
    unfold sput scons
    split <;> simp only [sget]
    · subst x; split <;> rfl
    · by_cases c : b = a
      · simp [c]
      · simp [c, Ne.symm c]
  | (k, v) :: t, h => by
    obtain ⟨hv, ht⟩ := swf_cons.1 h
    unfold sput scons
    split
    · have e : sget d ((k, v) :: t) a = d := by
        simp only [sget]; rw [if_neg (by omega)]; exact sget_above ht (by omega)
      split
      · by_cases c : b = a
        · subst b; rw [if_pos rfl, e]; exact Eq.symm ‹_›
        · rw [if_neg c]
      · by_cases c : b = a
        · subst b; simp [sget]
        · rw [if_neg c]; simp only [sget]; rw [if_neg (Ne.symm c)]
    · split
      · subst a
        have e : sget d t k = d := sget_above ht (Nat.le_refl _)
        split
        · by_cases c : b = k
          · subst b; rw [if_pos rfl, e]; exact Eq.symm ‹_›
          · rw [if_neg c]; simp only [sget]; rw [if_neg (Ne.symm c)]
        · by_cases c : b = k
          · subst b; simp [sget]
          · rw [if_neg c]; simp only [sget]; rw [if_neg (Ne.symm c), if_neg (Ne.symm c)]
      · simp only [sget]
        by_cases c : k = b
        · subst b; rw [if_pos rfl, if_neg (by omega), if_pos rfl]
        · rw [if_neg c, if_neg c]; exact sget_sput (swf_of_above ht)

theorem above_filter {α : Type} [DecidableEq α] {d : α} (f : Nat × α → Bool) :
    ∀ {t : List (Nat × α)} {lo : Nat}, above d lo t → above d lo (t.filter f)
  | [], _, _ => rfl
  | (k, v) :: t, lo, h => by
    obtain ⟨hk, hv, ht⟩ := above_cons.1 h
    simp only [List.filter]
    split
    · exact above_cons.2 ⟨hk, hv, above_filter f ht⟩
    · exact above_mono (above_filter f ht) (Nat.le_of_lt hk)

/-- Leaving entries out keeps the canonical form. -/
theorem swf_filter {α : Type} [DecidableEq α] {d : α} (f : Nat × α → Bool) {t : List (Nat × α)}
    (h : swf d t = true) : swf d (t.filter f) = true := by
  cases t with
  | nil => rfl
  | cons y t =>
    obtain ⟨k, v⟩ := y
    obtain ⟨hv, ht⟩ := swf_cons.1 h
    simp only [List.filter]
    split
    · exact swf_cons.2 ⟨hv, above_filter f ht⟩
    · exact swf_of_above (above_filter f ht)

/-! ### Memory -/

theorem memory_wf_reset : Memory.wf State.reset.mem = true := rfl

theorem storeBytes_wf : ∀ (bs : List Byte) {m : List Host.Cell} {a : Nat}, Memory.wf m = true →
    Memory.wf (storeBytes m a bs) = true
  | [], _, _, h => h
  | _ :: bs, _, _, h => storeBytes_wf bs (swf_sput h)

/-- A store keeps the canonical form of memory. -/
theorem store_wf (s : State) (a : Nat) (bs : List Byte) (h : Memory.wf s.mem = true) :
    Memory.wf (s.store a bs).mem = true := storeBytes_wf bs h

theorem storeWord_wf (s : State) (a : Nat) (w : Word256) (h : Memory.wf s.mem = true) :
    Memory.wf (s.storeWord a w).mem = true := by
  unfold State.storeWord State.setFlips
  generalize leBytes 32 w.toNat = bs
  exact store_wf s a bs h

theorem storeCopies_wf (s : State) (a : Nat) (bs : List Byte) (h : Memory.wf s.mem = true) :
    Memory.wf (s.storeCopies a bs).mem = true := by
  unfold State.storeCopies
  dsimp only
  split
  · exact store_wf _ _ _ (store_wf _ _ _ h)
  · exact store_wf _ _ _ h

theorem clearPair_wf (s : State) (k : Fin 6) (h : Memory.wf s.mem = true) :
    Memory.wf (s.clearPair k).mem = true := swf_filter _ h

theorem repairCopies_mem (s : State) (a : Nat) : (s.repairCopies a).mem = s.mem :=
  State.repairCopies_area s a (p := .mem) (by decide)

theorem eccCheck_mem (s : State) (id : Option (Fin 64)) (a : Nat) : (s.eccCheck id a).1.mem = s.mem :=
  State.eccCheck_area s id a (p := .mem) (by decide)

theorem checkCopies_mem (s : State) (id : Fin 64) (a : Nat) : (s.checkCopies id a).1.mem = s.mem :=
  State.checkCopies_area s id a (p := .mem) (by decide)

/-- A write inside one word keeps the canonical form of memory. -/
theorem memWrite_wf (s : State) (id : Fin 64) (addr a : Nat) (bs : List Byte)
    (h : Memory.wf s.mem = true) : Memory.wf (s.memWrite id addr a bs).mem = true := by
  unfold State.memWrite
  dsimp only
  split
  · simp only [State.busDone, repairCopies_mem]; exact storeCopies_wf _ _ _ h
  · split
    · simp only [busError_mem, checkCopies_mem]; exact h
    · simp only [State.busDone, repairCopies_mem]
      exact storeCopies_wf _ _ _ (by rw [checkCopies_mem]; exact h)

/-- The ring unit keeps the canonical form of memory. -/
theorem doRingWrite_wf (s : State) (h : Memory.wf s.mem = true) : Memory.wf (doRingWrite s).mem = true := by
  unfold doRingWrite
  split
  · exact h
  · rename_i e es _
    split
    · exact h
    · dsimp only
      generalize leBytes 32 e.word.toNat = bs
      exact storeBytes_wf bs h

/-- A byte after a store: the stored one, or the old one outside. -/
theorem sget_storeBytes : ∀ (bs : List Byte) {m : List Host.Cell} {a b : Nat}, Memory.wf m = true →
    sget 0 (storeBytes m a bs) b = if a ≤ b ∧ b < a + bs.length then bs.getD (b - a) 0 else sget 0 m b
  | [], m, a, b, _ => by
    rw [if_neg (by simp only [List.length_nil]; omega)]; rfl
  | x :: bs, m, a, b, h => by
    have hw : Memory.wf (sput 0 m a x) = true := swf_sput h
    show sget 0 (storeBytes (sput 0 m a x) (a + 1) bs) b = _
    rw [sget_storeBytes bs hw, sget_sput h]
    simp only [List.length_cons]
    by_cases c : b = a
    · subst b
      rw [if_neg (by omega), if_pos rfl, if_pos (by omega), Nat.sub_self]; rfl
    · rw [if_neg c]
      by_cases c2 : a + 1 ≤ b ∧ b < a + 1 + bs.length
      · rw [if_pos c2, if_pos (by omega)]
        obtain ⟨n, rfl⟩ : ∃ n, b = a + 1 + n := ⟨b - (a + 1), by omega⟩
        rw [Nat.add_sub_cancel_left, show a + 1 + n - a = n + 1 by omega]; rfl
      · rw [if_neg c2, if_neg (by omega)]

end Sys2Proof.Machine
end

