-- ==== Sys2Proof/Machine/Balls.lean ====
section
/-!
DEFINITION. The ball map of the package: 22 rows and 22 columns, 258 signal balls with their types, domains
and states in reset, and 226 supply and ground balls (R436 to R440, R442).
-/

namespace Sys2Proof.Machine

/-- The row letters, from row index 1 on (R437). -/
def rowLetters : List String :=
  ["A", "B", "C", "D", "E", "F", "G", "H", "J", "K", "L", "M", "N", "P", "T", "U", "V", "W", "Y", "AA",
    "AB", "AC"]

/-- A ball by row index and column, from 1 (R437). -/
structure Ball where
  row : Nat
  col : Nat
deriving DecidableEq, Repr

/-- The name of a ball, as in AB14 (R437). -/
def Ball.name (b : Ball) : String := rowLetters.getD (b.row - 1) "" ++ toString b.col

/-- The balls of the package (R436). -/
def allBalls : List Ball :=
  (List.range 22).flatMap fun r => (List.range 22).map fun c => ⟨r + 1, c + 1⟩

/-- Names in order along a row from a column on. -/
def along (row col : Nat) (names : List String) : List (String × Ball) :=
  names.zip ((List.range names.length).map fun i => ⟨row, col + i⟩)

/-- Names in order down the columns of a row, to the left. -/
def against (row col : Nat) (names : List String) : List (String × Ball) :=
  names.zip ((List.range names.length).map fun i => ⟨row, col - i⟩)

/-- `n` names made from their unit numbers, from `lo` on. -/
def units (lo n : Nat) (f : String → List String) : List String :=
  (List.range n).flatMap fun i => f (toString (lo + i))

/-- The rows A to D (R438). -/
def topBalls : List (String × Ball) :=
  along 1 1 ["PORn", "RESETn", "SAFE_RESET"] ++ along 2 1 ["SPLIT_EN", "BOOT_SLOT", "STRAP_TEST"] ++
  along 3 1 ["XIN", "XOUT", "FAULTn"] ++
  along 1 4 (units 0 8 fun n => ["SKID" ++ n ++ "_TXP", "SKID" ++ n ++ "_TXN"]) ++
  along 2 4 (units 0 8 fun n => ["SKID" ++ n ++ "_RXP", "SKID" ++ n ++ "_RXN"]) ++
  along 3 4 ["TRC_CLKP", "TRC_CLKN", "TRC_D0P", "TRC_D0N", "TRC_D1P", "TRC_D1N"] ++
  along 3 10 (["NV_CLK", "NV_CS", "NV_DQS"] ++ units 0 8 fun n => ["NV_D" ++ n]) ++
  along 1 20 ["EMU_A", "EMU_B", "EMU_Z"] ++ along 2 20 ["ALIVE"] ++
  along 4 5 (units 0 6 fun n => ["CAN" ++ n ++ "_TX", "CAN" ++ n ++ "_RX"]) ++
  along 4 17 ["ENC0_A", "ENC0_B", "ENC0_Z", "ENC1_A", "ENC1_B", "ENC1_Z"]

/-- The gate links, the bridges and the brakes (R438). -/
def edgeBalls : List (String × Ball) :=
  ((List.range 12).flatMap fun l => along (4 + l) 1
    (["_TXP", "_TXN", "_RXP", "_RXN"].map fun x => "GLK" ++ toString l ++ x)) ++
  ((List.range 3).flatMap fun b => (List.range 3).flatMap fun p => along (5 + 3 * b + p) 19
    (["_GL", "_BST", "_SH", "_GH"].map fun x =>
      "AXB" ++ toString b ++ x ++ ["U", "V", "W"].getD p "")) ++
  against 14 22 (units 0 3 fun b => ["AXB" ++ b ++ "_VS"]) ++
  against 15 22 ["SB0_HS", "SB0_LS", "SB0_FB"] ++ against 16 22 ["SB1_HS", "SB1_LS", "SB1_FB"]

/-- The converter inputs on the rows Y to AC (R438). -/
def inputBalls : List (String × Ball) :=
  along 20 5 (units 0 18 fun k => ["HK" ++ k]) ++ along 19 1 (units 18 14 fun k => ["HK" ++ k]) ++
  along 19 15 ["VREF_EXT", "SYNC_IN", "SYNC_OUT", "CP", "PP"] ++
  along 22 1 (units 0 11 fun k => ["FIN" ++ k ++ "P", "FIN" ++ k ++ "N"]) ++
  along 21 1 (units 11 11 fun k => ["FIN" ++ k ++ "P", "FIN" ++ k ++ "N"]) ++
  along 20 1 ["FIN22P", "FIN22N", "FIN23P", "FIN23N"]

/-- The signal balls (R438). -/
def signalBalls : List (String × Ball) := topBalls ++ edgeBalls ++ inputBalls

/-- The supply and ground groups (R442). -/
inductive Supply where
  | vddSerdes | vddIo18 | vddIo33 | vddCore | vddSafe | vddAna | vssa | vdrv | vbrk | pgnd | vss
deriving DecidableEq, Repr

/-- A ball of the field of rows E to W and columns 5 to 18, by the parity of R442. -/
def fieldSupply (b : Ball) : Option Supply :=
  let even := (b.row + b.col) % 2 == 0
  if b.col < 5 ∨ 18 < b.col then none
  else match b.row with
    | 5 | 6 => some (if even then .vddSerdes else .vss)
    | 7 => some (if even then .vddIo18 else .vss)
    | 8 => some (if even then .vddIo33 else .vss)
    | 9 | 10 | 11 | 12 => some (if even then .vddCore else .vss)
    | 13 | 14 | 15 | 16 => some (if even then .vddAna else .vssa)
    | 17 => some (if even then .vdrv else .vss)
    | 18 => some (if even then .pgnd else .vss)
    | _ => none

/-- The supply or ground group of a ball (R442). -/
def supplyOf (b : Ball) : Option Supply :=
  match b.row, b.col with
  | 2, 21 | 3, 22 => some .vddSafe
  | 2, 22 | 3, 21 => some .vss
  | 17, 21 | 17, 22 | 18, 21 | 18, 22 => some .vbrk
  | 14, 19 | 15, 19 | 16, 19 | 17, 19 | 17, 20 | 18, 19 | 18, 20 | 19, 20 | 19, 21 | 19, 22 => some .pgnd
  | 16, 1 | 16, 2 | 16, 3 | 16, 4 | 17, 1 | 17, 2 | 17, 3 | 17, 4 | 18, 1 | 18, 2 | 18, 3 | 18, 4 => some .vss
  | _, _ => fieldSupply b

/-- The signal of a ball (R438). -/
def signalOf (b : Ball) : Option String := (signalBalls.find? fun x => x.2 = b).map (·.1)

/-! ### Types, domains and states in reset (R440) -/

/-- The rows of the table of R440. -/
inductive PinKind where
  | cmlOut | cmlIn | trace | nvClk | nvCs | nvData | crystal | canTx | canRx | enc | emu | por | resetIn
  | safeReset | strap | faultn | alive | syncIn | syncOut | fin | hk | vrefExt | pilot | proximity
  | gateHigh | gateLow | phaseNode | bootstrap | bridgeSupply | brakeHigh | brakeLow | brakeSense
deriving DecidableEq, Repr

/-- The row of a ball, by its place (R438, R440). -/
def kindOf (b : Ball) : Option PinKind :=
  let r := b.row
  let c := b.col
  if r = 1 then
    if c = 1 then some .por else if c = 2 then some .resetIn else if c = 3 then some .safeReset
    else if c < 20 then some .cmlOut else some .emu
  else if r = 2 then
    if c < 4 then some .strap else if c < 20 then some .cmlIn else if c = 20 then some .alive else none
  else if r = 3 then
    if c < 3 then some .crystal else if c = 3 then some .faultn else if c < 10 then some .trace
    else if c = 10 then some .nvClk else if c = 11 then some .nvCs else if c < 21 then some .nvData else none
  else if r = 4 ∧ 4 < c then
    if 16 < c then some .enc else if c % 2 = 1 then some .canTx else some .canRx
  else if r < 16 ∧ c < 5 then if c < 3 then some .cmlOut else some .cmlIn
  else if r < 14 ∧ 18 < c then
    if c = 19 then some .gateLow else if c = 20 then some .bootstrap
    else if c = 21 then some .phaseNode else some .gateHigh
  else if r = 14 then if 19 < c then some .bridgeSupply else none
  else if r = 15 ∨ r = 16 then
    if c = 22 then some .brakeHigh else if c = 21 then some .brakeLow else if c = 20 then some .brakeSense
    else none
  else if r = 19 then
    if c < 15 then some .hk else if c = 15 then some .vrefExt else if c = 16 then some .syncIn
    else if c = 17 then some .syncOut else if c = 18 then some .pilot else if c = 19 then some .proximity
    else none
  else if r = 20 then if c < 5 then some .fin else some .hk
  else if r = 21 ∨ r = 22 then some .fin
  else none

/-- The supply that feeds a ball, where R440 names one of the groups of R442. -/
def PinKind.domain : PinKind → Option Supply
  | .cmlOut | .cmlIn | .trace => some .vddSerdes
  | .nvClk | .nvCs | .nvData | .crystal => some .vddIo18
  | .canTx | .canRx | .enc | .emu | .por | .resetIn | .safeReset | .strap | .faultn | .alive | .syncIn
    | .syncOut => some .vddIo33
  | .fin | .hk | .vrefExt | .pilot | .proximity => some .vddAna
  | .gateLow => some .vdrv
  | .brakeHigh => some .vbrk
  | .brakeLow => some .pgnd
  | .gateHigh | .phaseNode | .bootstrap | .bridgeSupply | .brakeSense => none

/-- What a ball shows in reset (R440). -/
inductive PinReset where
  | low | high | zero | terminated | input | oscillating | open_ | loaded | off
deriving DecidableEq, Repr

/-- The state in reset. -/
def PinKind.inReset : PinKind → PinReset
  | .cmlOut | .trace => .zero
  | .cmlIn => .terminated
  | .nvClk | .emu | .faultn | .alive | .syncOut | .gateHigh | .gateLow => .low
  | .nvCs | .canTx => .high
  | .nvData | .canRx | .enc | .por | .resetIn | .safeReset | .strap | .syncIn => .input
  | .crystal => .oscillating
  | .fin | .hk | .vrefExt | .proximity | .phaseNode | .bridgeSupply | .brakeSense => .open_
  | .pilot => .loaded
  | .bootstrap | .brakeHigh | .brakeLow => .off

/-- The balls are in their state in reset, but ALIVE, which toggles from the end of phase 1: PORn or RESETn is
low, or no block is configured yet, as before phase 5; with STRAP_TEST sampled high phase 1 does not end
(R440, R441). -/
def State.ballsInReset (s : State) : Bool := !s.boot.released || decide (s.boot.phase < 5)

end Sys2Proof.Machine
end

