-- ==== Sys2Proof/Tests/Slice0.lean ====
section
/-!
SUPPORT. Tests: a witness for the hypotheses of every statement, known answers from the spec and from
the standards it names, and commands outside their operand ranges.
-/

namespace Sys2Proof.Tests

open Sys2Proof Sys2Proof.Machine

set_option Elab.async false

/-- Register words put into a state. -/
def wr (s : State) (l : List (Nat × Word32)) : State :=
  { s with regs := l.foldl (fun m x => sput 0 m x.1 x.2) s.regs }

/-- After reset, with the time base locked 10 ms ago and every power domain on. -/
def s0 : State :=
  { State.reset with
    sys := { dom := Vector.replicate 10 .on }
    clk := { locked := true, now := 16000000, power := 16000000 } }

/-- Bytes at an address, from a number whose most significant byte comes first. -/
def bytesAt (a n v : Nat) : Sparse Byte :=
  (List.range n).map fun i => (a + i, BitVec.ofNat 8 (v / 256 ^ (n - 1 - i)))

/-- A header signed outside the model for slot A: version 5, SECVER 3, one empty SAFE partition. -/
def hdrCells : Sparse Byte :=
  bytesAt 0x1000 80 0x46554F530500000003000100000400002211000000000000000000000000000001000000000400000000000000000000E3B0C44298FC1C149AFBF4C8996FB92427AE41E4649B934CA495991B7852B855 ++
  bytesAt 0x11A0 128 0xF9EBE464147CC102D92324D099D927C1A50E42D57A08A116FFEC0A29819D8C6570BAF7D12888902A6A0C1D67ADD103123C859AB69BF8E9431C9384930D4B7EEE52C6FF5B71DE65D83C75D393E249EC03894370515D0B229B1C6224681F2A5030DF69DCF0FFBA484E1A6562B4E2A15234AF24E5863219679302CD03C499F0FA03

/-- The digest of its public key. -/
def hdrKey : List Byte :=
  beBytes 32 0xB4A554A124A36EF1564C565670DFFEDA3D8AD292C43394A18DC91B0BBCDA8111

/-! ### Witnesses: what each clause of each statement assumes is met together -/

theorem witness_RegisterWrites :
    (∃ (t : Tick) (a : Word32) (v : Word32) (s : State), Quiet s t ∧ regError s a.toNat 4 = 0 ∧
      lockedOut s a.toNat v.toNat = true) ∧
    (∃ (t : Tick) (a : Word32) (n : Nat) (s : State), Quiet s t ∧ regError s a.toNat n ≠ 0) ∧
    (∃ (t : Tick) (a : Word32) (v : Word32) (r : RegRow) (s : State), Quiet s t ∧ Canonical s ∧
      regAt a.toNat = some r ∧ regError s a.toNat 4 = 0 ∧ lockedOut s a.toNat v.toNat = false ∧
      a.toNat / 0x10000 ≠ 0x4001 ∧ a.toNat / 0x10000 ≠ 0x4007) := by
  refine ⟨
    ⟨17600000, 0x400F0004, 5, { s0 with boot := { s0.boot with locked := true } }, ?_⟩,
    ⟨17600000, 0x400F0002, 4, (s0), ?_⟩,
    ⟨17600000, 0x400F0004, 0xFFFFFFFF, ((regAt 0x400F0004).get (by decide)), (s0), ?_⟩⟩
  all_goals first | decide +kernel | (dsimp only [Canonical, OnTime, Issues, Offered, Quiet]; decide +kernel)

theorem witness_SramAccess :
    (∃ (t : Tick) (id : Fin 64) (a : Word32) (bs : List Byte) (up : List (Fin 266)) (wire : List
      (Fin 266)) (b : Nat) (s : State), Quiet s t ∧ Canonical s ∧ swf [] s.sys.flips = true ∧ b =
      busAddr id a.toNat ∧ (inSram b = true ∨ (tcmCore b).isSome = true) ∧ memReach s b = 0 ∧ bs ≠
      [] ∧ a.toNat % 32 + bs.length ≤ 32 ∧ wire.length ≤ 1 ∧ (bs.length = 32 ∨ (mergeFlips (flipsAt
      s (wordOf b)) up).length ≤ 1 ∧ (∀ c ∈ otherCopy s (wordOf b), (flipsAt s c).length ≤ 1))) ∧
    (∃ (t : Tick) (id : Fin 64) (a : Word32) (n : Nat) (up : List (Fin 266)) (wire : List (Fin 266))
      (b : Nat) (s : State), Quiet s t ∧ swf [] s.sys.flips = true ∧ b = busAddr id a.toNat ∧
      (inSram b = true ∨ (tcmCore b).isSome = true) ∧ memReach s b = 0 ∧ 1 ≤ n ∧ a.toNat % 32 + n ≤
      32 ∧ (mergeFlips (mergeFlips (flipsAt s (wordOf b)) up) wire).length ≤ 1) ∧
    (∃ (t : Tick) (id : Fin 64) (a : Word32) (n : Nat) (up : List (Fin 266)) (wire : List (Fin 266))
      (b : Nat) (s : State), Quiet s t ∧ swf [] s.sys.flips = true ∧ b = busAddr id a.toNat ∧
      (inSram b = true ∨ (tcmCore b).isSome = true) ∧ memReach s b = 0 ∧ 1 ≤ n ∧ a.toNat % 32 + n ≤
      32 ∧ 2 ≤ (mergeFlips (mergeFlips (flipsAt s (wordOf b)) up) wire).length) ∧
    (∃ (t : Tick) (id : Fin 64) (a : Word32) (bs : List Byte) (up : List (Fin 266)) (wire : List
      (Fin 266)) (b : Nat) (s : State), Quiet s t ∧ swf [] s.sys.flips = true ∧ b = busAddr id
      a.toNat ∧ (inSram b = true ∨ (tcmCore b).isSome = true) ∧ memReach s b = 0 ∧ bs ≠ [] ∧ a.toNat
      % 32 + bs.length ≤ 32 ∧ (2 ≤ wire.length ∨ bs.length < 32 ∧ 2 ≤ (mergeFlips (flipsAt s (wordOf
      b)) up).length)) ∧
    (∃ (t : Tick) (a : Word32) (bs : List Byte) (s : State), Quiet s t ∧ (bs = [] ∨ 32 < a.toNat %
      32 + bs.length)) ∧
    (∃ (t : Tick) (a : Word32) (n : Nat) (s : State), Quiet s t ∧ (n = 0 ∨ 32 < a.toNat % 32 + n)) ∧
    (∃ (t : Tick) (a : Nat) (q : List Nat) (b : Fin 266) (s : State), Quiet s t ∧ swf [] s.sys.flips
      = true ∧ s.sys.writeback = a :: q ∧ flipsAt s a = [b]) ∧
    (∃ (t : Tick) (a : Nat) (s : State), OnTime s t ∧ swf [] s.sys.flips = true ∧ sysScrubInterval s
      ≠ 0 ∧ s.sys.scrubAt ≤ t ∧ a = scrubSkip s 12 s.sys.scrubPos) ∧
    (∃ (t : Tick) (s : State), OnTime s t ∧ (sysScrubInterval s = 0 ∨ t < s.sys.scrubAt)) := by
  refine ⟨
    ⟨17600000, 1, 0x10000103, [1, 2, 3], [7], [4], 0x10000103, (s0), ?_⟩,
    ⟨17600000, 1, 0x10000103, 5, [3], [9], 0x10000103, { s0 with mem := [(0x10000104, 7)], sys := { s0.sys with flips := [(0x10000100, [3])] } }, ?_⟩,
    ⟨17600000, 1, 0x10000103, 5, [], [], 0x10000103, { s0 with sys := { s0.sys with flips := [(0x10000100, [3, 9])] } }, ?_⟩,
    ⟨17600000, 1, 0x10000103, [1, 2, 3], [], [], 0x10000103, { s0 with sys := { s0.sys with flips := [(0x10000100, [3, 9])] } }, ?_⟩,
    ⟨17600000, 0x1000011F, [1, 2, 3], (s0), ?_⟩,
    ⟨17600000, 0x1000011F, 2, (s0), ?_⟩,
    ⟨17600000, 0x10000100, ([0x10000140, 0x10000100]), 4, { s0 with sys := { s0.sys with flips := [(0x10000100, [4]), (0x10000200, [1])], writeback := [0x10000100, 0x10000140, 0x10000100] } }, ?_⟩,
    ⟨17600000, 0x10000000, ((wr s0 [(0x40000010, 0x1)])), ?_⟩,
    ⟨17600000, { (wr s0 [(0x40000010, 0x1)]) with sys := { s0.sys with scrubAt := 17600001 } }, ?_⟩⟩
  all_goals first | decide +kernel | (dsimp only [Canonical, OnTime, Issues, Offered, Quiet]; decide +kernel)

theorem witness_PowerDomains :
    (∃ (t : Tick) (s : State), Quiet s t ∧ (s.pba.mode = .off ∨ s.pba.mode = .standby)) ∧
    (∃ (t : Tick) (d : Fin 10) (s : State), Quiet s t ∧ s.sys.dom[d] = .turningOn ∧ s.pba.toMode =
      none) ∧
    (∃ (t : Tick) (d : Fin 10) (s : State), Quiet s t ∧ s.sys.dom[d] = .turningOff) := by
  refine ⟨
    ⟨17600000, { s0 with sys := { s0.sys with pdctl := 0x3C3 } }, ?_⟩,
    ⟨17600000, 3, { s0 with sys := { s0.sys with dom := s0.sys.dom.set 3 .turningOn } }, ?_⟩,
    ⟨17600000, 7, { s0 with sys := { s0.sys with dom := s0.sys.dom.set 7 .turningOff } }, ?_⟩⟩
  all_goals first | decide +kernel | (dsimp only [Canonical, OnTime, Issues, Offered, Quiet]; decide +kernel)

theorem witness_MailboxesAndRings :
    (∃ (t : Tick) (m : Fin 64) (s : State), Quiet s t ∧ mbxReach s m = 0 ∧ ((s.mbx[m].full = false ∨
      mbxCfgOnFull s m = true))) ∧
    (∃ (t : Tick) (m : Fin 64) (s : State), Quiet s t ∧ mbxReach s m = 0 ∧ s.mbx[m].full = true ∧
      mbxCfgOnFull s m = false) ∧
    (∃ (t : Tick) (m : Fin 64) (s : State), Quiet s t ∧ mbxReach s m = 0) ∧
    (∃ (t : Tick) (m : Fin 64) (s : State), Quiet s t ∧ mbxReach s m = 0) ∧
    (∃ (t : Tick) (e : RingEntry) (es : List RingEntry) (s : State), Quiet s t ∧ Canonical s ∧
      s.lrg.waiting = e :: es ∧ s.lrg.wrote ≠ 1 + (s.at t).clk.now / 4) ∧
    (∃ (t : Tick) (r : Fin 32) (v : Word32) (s : State), Quiet s t ∧ v.toNat / 2 ^ 16 =
      s.lrg.ring[r].lost.toNat % 65536) ∧
    (∃ (t : Tick) (r : Fin 32) (v : Word32) (s : State), Quiet s t ∧ v.toNat / 2 ^ 16 ≠
      s.lrg.ring[r].lost.toNat % 65536) := by
  refine ⟨
    ⟨17600000, 9, ((wr s0 [(0x40020124, 0x80000000)])), ?_⟩,
    ⟨17600000, 9, { (wr s0 [(0x40020124, 0x80000000)]) with mbx := s0.mbx.set 9 { full := true, word := 5, seq := 1023 } }, ?_⟩,
    ⟨17600000, 9, { (wr s0 [(0x40020124, 0x80000000)]) with mbx := s0.mbx.set 9 { full := true, word := 0x123456789ABCDEF0, seq := 1023 } }, ?_⟩,
    ⟨17600000, 9, { (wr s0 [(0x40020124, 0x80000000)]) with mbx := s0.mbx.set 9 { full := true, word := 0x123456789ABCDEF0, seq := 1023 } }, ?_⟩,
    ⟨17600000, (⟨3, 2, 0xABCDEF⟩), ([⟨3, 3, 1⟩]), { (wr s0 [(0x40030160, 0x10000000), (0x40030164, 0x80000008)]) with lrg := { s0.lrg with waiting := [⟨3, 2, 0xABCDEF⟩, ⟨3, 3, 1⟩] } }, ?_⟩,
    ⟨17600000, 3, 0x20003, { (wr s0 [(0x40030164, 0x8)]) with lrg := { s0.lrg with ring := s0.lrg.ring.set 3 { ridx := 7, count := 5, lost := 0x10002 } } }, ?_⟩,
    ⟨17600000, 3, 0x30003, { (wr s0 [(0x40030164, 0x8)]) with lrg := { s0.lrg with ring := s0.lrg.ring.set 3 { ridx := 7, count := 5, lost := 0x10002 } } }, ?_⟩⟩
  all_goals first | decide +kernel | (dsimp only [Canonical, OnTime, Issues, Offered, Quiet]; decide +kernel)

theorem witness_CaptureResults :
    (∃ (t : Tick) (k : Fin 24) (w : Fin 8) (close : Nat) (old : Bool) (c : Fin 24) (x : Win) (s :
      State), OnTime s t ∧ sealTick s k w = some (close, old) ∧ close ≤ t ∧ winValid s (capView s
      old).1 (capView s old).2 (k, w) = true ∧ x = (capView s old).1.at (k, w) ∧ feedAt s k close =
      some c) ∧
    (∃ (t : Tick) (k : Fin 24) (w : Fin 8) (close : Nat) (old : Bool) (s : State), OnTime s t ∧
      sealTick s k w = some (close, old) ∧ close ≤ t ∧ winValid s (capView s old).1 (capView s
      old).2 (k, w) = false) ∧
    (∃ (t : Tick) (s : State), Quiet s t) ∧
    (∃ (t : Tick) (r : Fin 3) (s : State), OnTime s t ∧ s.cap.settling[r] = true ∧ ((r = 1 →
      s.cap.extWas = true → s.cap.settleFrom[r] + 320000 ≤ t))) ∧
    (∃ (t : Tick) (mv : Nat) (s : State), OnTime s t ∧ s.cap.extBad = false ∧ (mv < 1500 ∨ 1700 <
      mv)) ∧
    (∃ (t : Tick) (s : State), OnTime s t ∧ s.cap.extBad = true) ∧
    (∃ (t : Tick) (k : Fin 24) (w : Fin 8) (samples : List Sample) (close : Nat) (old : Bool) (c :
      Fin 24) (x : Win) (e : Nat) (b : Nat) (s : State), OnTime s t ∧ sealTick s k w = some (close,
      old) ∧ close ≤ t ∧ winValid s (capView s old).1 (capView s old).2 (k, w) = true ∧ x = (capView
      s old).1.at (k, w) ∧ feedAt s k close = some c ∧ e ≤ 12 ∧ nearLattice e b samples = true ∧ b +
      e ≤ close - x.close + x.opn ∧ close + e ≤ b + 40 * samples.length) ∧
    (∃ (t : Tick) (k : Fin 24) (w : Fin 8) (close : Nat) (x : Win) (s : State), OnTime s t ∧
      sealTick s k w = some (close, false) ∧ close ≤ t ∧ winValid s s.cap.win s.cap.period (k, w) =
      true ∧ x = s.cap.win[k][w] ∧ s.cap.delivered[x.set] = false ∧ ((∀ y ∈ validOf s s.cap.win
      s.cap.period x.set, y ≠ (k, w) → (Wins.at s.cap.win y).sealed = true))) ∧
    (∃ (t : Tick) (d : Delivery) (m : Member) (e : Fin 8) (s : State), s.clk.locked = true ∧
      s.skd.slew = 0 ∧ s.flights = [(t, .results d)] ∧ s.clk.now ≤ t ∧ d.members = [m] ∧ m.valid =
      true ∧ m.slot < 32 ∧ capSetBaseWord s d.set ≤ 959 ∧ bit (capSetEngines s d.set) e = true ∧
      s.ce[e].state = .idle ∧ ((∀ j : Fin 1024, s.ce[e].dataFlips j.val = []))) := by
  refine ⟨
    ⟨17600000, 1, 1, 16004000, false, 1, { en := true, set := 2, opn := 100, close := 4000, mask := 3, slot := 4 }, { (wr s0 [(0x60000088, 0x801400)]) with cap := { s0.cap with pstart := Vector.replicate 7 (some 16000000), period := Vector.replicate 7 16000, win := s0.cap.win.set 1 (s0.cap.win[1].set 1 { en := true, set := 2, opn := 100, close := 4000, mask := 3, slot := 4 }), res := s0.cap.res.set 1 (s0.cap.res[1].set 1 { flags := 5, sum := 9, count := 3, stamp := 77 }) } }, ?_⟩,
    ⟨17600000, 1, 1, 16004000, false, { s0 with cap := { s0.cap with pstart := Vector.replicate 7 (some 16000000), period := Vector.replicate 7 16000, win := s0.cap.win.set 1 (s0.cap.win[1].set 1 { en := true, set := 2, opn := 100, close := 4000, mask := 3, slot := 4 }), res := s0.cap.res.set 1 (s0.cap.res[1].set 1 { flags := 5, sum := 9, count := 3, stamp := 77 }) } }, ?_⟩,
    ⟨17600000, { s0 with cap := { s0.cap with pstart := Vector.replicate 7 (some 16000000), period := Vector.replicate 7 16000, win := s0.cap.win.set 1 (s0.cap.win[1].set 1 { en := true, set := 2, opn := 100, close := 4000, mask := 3, slot := 4 }), res := s0.cap.res.set 1 (s0.cap.res[1].set 1 { flags := 5, sum := 9, count := 3, stamp := 77 }) } }, ?_⟩,
    ⟨17600000, 2, (s0), ?_⟩,
    ⟨17600000, 1499, (s0), ?_⟩,
    ⟨17600000, { s0 with cap := { s0.cap with extBad := true, settling := s0.cap.settling.set 1 false } }, ?_⟩,
    ⟨17600000, 1, 1, ((List.range 120).map fun i => ⟨16000061 + 40 * i + (if i < 50 then 0 else 3), 5⟩), 16004000, false, 1, { en := true, set := 2, opn := 100, close := 4000, mask := 3, slot := 4 }, 3, 16000061, { (wr s0 [(0x60000088, 0x801400)]) with cap := { s0.cap with pstart := Vector.replicate 7 (some 16000000), period := Vector.replicate 7 16000, win := s0.cap.win.set 1 (s0.cap.win[1].set 1 { en := true, set := 2, opn := 100, close := 4000, mask := 3, slot := 4 }), res := s0.cap.res.set 1 (s0.cap.res[1].set 1 { flags := 5, sum := 9, count := 3, stamp := 77 }) } }, ?_⟩,
    ⟨17600000, 1, 1, 16004000, { en := true, set := 2, opn := 100, close := 4000, mask := 3, slot := 4 }, { (wr s0 [(0x60000088, 0x801400)]) with cap := { s0.cap with pstart := Vector.replicate 7 (some 16000000), period := Vector.replicate 7 16000, win := s0.cap.win.set 1 (s0.cap.win[1].set 1 { en := true, set := 2, opn := 100, close := 4000, mask := 3, slot := 4 }), res := s0.cap.res.set 1 (s0.cap.res[1].set 1 { flags := 5, sum := 9, count := 3, stamp := 77 }) } }, ?_⟩,
    ⟨17600000, (⟨2, 17599880, [⟨1,1,true,4,0x77,5,3,17599880⟩]⟩), (⟨1,1,true,4,0x77,5,3,17599880⟩), 3, { (wr s0 [(0x60000088, 0x8001400)]) with ce := s0.ce.set 3 { s0.ce[3] with state := .idle, run := true }, flights := [(17600000, .results ⟨2, 17599880, [⟨1,1,true,4,0x77,5,3,17599880⟩]⟩)] }, ?_⟩⟩
  all_goals first | decide +kernel | (dsimp only [Canonical, OnTime, Issues, Offered, Quiet]; decide +kernel)

theorem witness_RotatingCalibration :
    (∃ (t : Tick) (c : Fin 24) (q : Fin 24) (s : State), OnTime s t ∧ capRotIntervalMs s ≠ 0 ∧
      s.cap.stopped = false ∧ s.cap.cal = none ∧ s.cap.calFrom + capRotIntervalMs s * msTk ≤ t ∧
      calNext s = some c ∧ c.val < 22 ∧ capChEn s c = true ∧ freeSpare s = some q) ∧
    (∃ (t : Tick) (c : Fin 24) (s : State), OnTime s t ∧ capRotIntervalMs s ≠ 0 ∧ s.cap.stopped =
      false ∧ s.cap.cal = none ∧ s.cap.calFrom + capRotIntervalMs s * msTk ≤ t ∧ calNext s = some c
      ∧ ((22 ≤ c.val ∨ capChEn s c = false))) ∧
    (∃ (t : Tick) (c : Cal) (s : State), OnTime s t ∧ s.cap.cal = some c ∧ c.step = .overlapOut ∧
      c.since + 40 * overlapOf s ≤ t) ∧
    (∃ (t : Tick) (c : Cal) (q : Fin 24) (s : State), OnTime s t ∧ s.cap.cal = some c ∧ c.step =
      .switchOut ∧ c.spare = some q ∧ maySwitch (s.at t) c.conv = true) ∧
    (∃ (t : Tick) (c : Cal) (q : Fin 24) (s : State), OnTime s t ∧ s.cap.cal = some c ∧ c.step =
      .switchBack ∧ c.spare = some q ∧ c.conv ≠ q ∧ maySwitch (s.at t) c.conv = true) ∧
    (∃ (t : Tick) (m0 : Int) (mp : Int) (mm : Int) (c : Cal) (s : State), OnTime s t ∧ s.cap.cal =
      some c ∧ c.step = .levels ∧ c.since + 3 * (3200 + 40 * calSamplesOf s) ≤ t ∧ m0.natAbs ≤ 512 ∧
      mm < mp ∧ 31785 ≤ roundDiv (2 ^ 30 : Nat) (mp - mm).natAbs ∧ roundDiv (2 ^ 30 : Nat) (mp -
      mm).natAbs ≤ 33751) ∧
    (∃ (t : Tick) (m0 : Int) (c : Cal) (s : State), OnTime s t ∧ s.cap.cal = some c ∧ c.step =
      .levels ∧ c.since + 3 * (3200 + 40 * calSamplesOf s) ≤ t ∧ 512 < m0.natAbs) ∧
    (∃ (t : Tick) (mc : Int) (ms : Int) (c : Cal) (s : State), OnTime s t ∧ s.cap.cal = some c ∧
      c.step = .overlapBack ∧ c.since + 40 * overlapOf s ≤ t ∧ (mc - ms).natAbs ≤ mismatchOf s) ∧
    (∃ (t : Tick) (mc : Int) (ms : Int) (c : Cal) (s : State), OnTime s t ∧ s.cap.cal = some c ∧
      c.step = .overlapBack ∧ c.since + 40 * overlapOf s ≤ t ∧ mismatchOf s < (mc - ms).natAbs) := by
  refine ⟨
    ⟨17600000, 3, 22, { (wr s0 [(0x60000008, 0x20000), (0x60000130, 0x1)]) with cap := { s0.cap with turn := 3, settling := Vector.replicate 3 false } }, ?_⟩,
    ⟨17600000, 22, { (wr s0 [(0x60000008, 0x20000)]) with cap := { s0.cap with turn := 22, settling := Vector.replicate 3 false } }, ?_⟩,
    ⟨17600000, (⟨3, some 22, .overlapOut, 16000000⟩), { s0 with cap := { s0.cap with cal := some ⟨3, some 22, .overlapOut, 16000000⟩ } }, ?_⟩,
    ⟨17600000, (⟨3, some 22, .switchOut, 16000000⟩), 22, { s0 with cap := { s0.cap with cal := some ⟨3, some 22, .switchOut, 16000000⟩ } }, ?_⟩,
    ⟨17600000, (⟨3, some 22, .switchBack, 16000000⟩), 22, { s0 with cap := { s0.cap with cal := some ⟨3, some 22, .switchBack, 16000000⟩ } }, ?_⟩,
    ⟨17600000, (-20), 16384, (-16384), (⟨3, some 22, .levels, 16000000⟩), { s0 with cap := { s0.cap with cal := some ⟨3, some 22, .levels, 16000000⟩ } }, ?_⟩,
    ⟨17600000, (-520), (⟨3, some 22, .levels, 16000000⟩), { s0 with cap := { s0.cap with cal := some ⟨3, some 22, .levels, 16000000⟩ } }, ?_⟩,
    ⟨17600000, (-3), 5, (⟨3, some 22, .overlapBack, 16000000⟩), { s0 with cap := { s0.cap with cal := some ⟨3, some 22, .overlapBack, 16000000⟩ } }, ?_⟩,
    ⟨17600000, (-3), 50, (⟨3, some 22, .overlapBack, 16000000⟩), { s0 with cap := { s0.cap with cal := some ⟨3, some 22, .overlapBack, 16000000⟩ } }, ?_⟩⟩
  all_goals first | decide +kernel | (dsimp only [Canonical, OnTime, Issues, Offered, Quiet]; decide +kernel)

theorem witness_EnginePasses :
    (∃ (t : Tick) (e : Fin 8) (s : State), OnTime s t ∧ ceTimerPeriod s e ≠ 0 ∧ t % max
      (ceTimerPeriod s e) 400 = ceTphasePhase s e % max (ceTimerPeriod s e) 400 ∧ ((s.ce[e].state =
      .idle ∨ s.ce[e].state = .running))) ∧
    (∃ (t : Tick) (e : Fin 8) (s : State), OnTime s t ∧ ((s.ce[e].state = .idle ∨ s.ce[e].state =
      .running))) ∧
    (∃ (t : Tick) (e : Fin 8) (s : State), Quiet s t ∧ s.ce[e].state = .stopped ∧ s.boot.act.busy =
      false) ∧
    (∃ (t : Tick) (e : Fin 8) (s : State), Quiet s t ∧ s.ce[e].state = .fault ∧ s.boot.act.busy =
      false) ∧
    (∃ (t : Tick) (e : Fin 8) (s : State), OnTime s t ∧ s.ce[e].state = .idle ∧ s.ce[e].anyPend =
      true ∧ max (s.ce[e].raised + 16) s.ce[e].readyAt ≤ t) ∧
    (∃ (t : Tick) (e : Fin 8) (j : Fin 1024) (s : State), Quiet s t ∧ s.ce[e].state ≠ .running ∧
      s.ce[e].dataFlips j.val = []) ∧
    (∃ (t : Tick) (e : Fin 8) (s : State), Quiet s t ∧ s.ce[e].state = .running ∧
      s.ce[e].hold.length < 192) ∧
    (∃ (t : Tick) (e : Fin 8) (j : Fin 1024) (s : State), Quiet s t ∧ mirrored s e = false ∧
      s.ce[e].state ≠ .running ∧ (s.ce[e].dataFlips j.val).length = 1) ∧
    (∃ (t : Tick) (e : Fin 8) (j : Fin 1024) (s : State), Quiet s t ∧ mirrored s e = false ∧
      s.ce[e].state ≠ .running ∧ 2 ≤ (s.ce[e].dataFlips j.val).length) ∧
    (∃ (t : Tick) (e : Fin 8) (s : State), Quiet s t ∧ s.ce[e].state = .running ∧ s.boot.act.busy =
      false) ∧
    (∃ (t : Tick) (e : Fin 8) (s : State), Quiet s t ∧ s.ce[e].state = .idle ∧ s.boot.act.busy =
      false) ∧
    (∃ (t : Tick) (e : Fin 8) (j : Fin 1024) (s : State), Quiet s t ∧ mirrored s e = true ∧
      s.ce[7].state ≠ .running ∧ s.ce[7].dataFlips j.val = []) := by
  refine ⟨
    ⟨16016000, 2, { (wr s0 [(0x40084010, 0x3E80)]) with ce := s0.ce.set 2 { s0.ce[2] with state := .idle } }, ?_⟩,
    ⟨17600000, 2, { s0 with ce := s0.ce.set 2 { s0.ce[2] with state := .running } }, ?_⟩,
    ⟨17600000, 2, { s0 with ce := s0.ce.set 2 { s0.ce[2] with swPend := true } }, ?_⟩,
    ⟨17600000, 2, { s0 with ce := s0.ce.set 2 { s0.ce[2] with state := .fault, cause := 3, run := true } }, ?_⟩,
    ⟨17600000, 2, { s0 with ce := s0.ce.set 2 { s0.ce[2] with state := .idle, timerPend := true, raised := 16000000, entryTimer := 9, stack := [4], staged := [(3, 4)] } }, ?_⟩,
    ⟨17600000, 2, 5, { s0 with ce := s0.ce.set 2 { s0.ce[2] with state := .idle } }, ?_⟩,
    ⟨17600000, 2, { s0 with ce := s0.ce.set 2 { s0.ce[2] with state := .running, hold := [(1, 2)] } }, ?_⟩,
    ⟨17600000, 2, 5, { s0 with ce := s0.ce.set 2 { s0.ce[2] with state := .idle, dflips := [(0, [5])] } }, ?_⟩,
    ⟨17600000, 2, 5, { s0 with ce := s0.ce.set 2 { s0.ce[2] with state := .idle, dflips := [(0, [5, 6])] } }, ?_⟩,
    ⟨17600000, 2, { s0 with ce := s0.ce.set 2 { s0.ce[2] with state := .running, run := true } }, ?_⟩,
    ⟨17600000, 2, { s0 with ce := s0.ce.set 2 { s0.ce[2] with state := .idle, run := true }, red := { s0.red with tok := s0.red.tok.set 1 { s0.red.tok[1] with state := .held, holder := some 2 } } }, ?_⟩,
    ⟨17600000, 6, 5, { s0 with ce := s0.ce.set 7 { s0.ce[7] with state := .idle, mirror := 6 } }, ?_⟩⟩
  all_goals first | decide +kernel | (dsimp only [Canonical, OnTime, Issues, Offered, Quiet]; decide +kernel)

theorem witness_ProgramLoads :
    (∃ (t : Tick) (e : Fin 8) (v : Word32) (s : State), OnTime s t ∧ v.getLsbD 31 = true ∧
      s.ce[e].loadBusy = false ∧ s.ce[e].state = .stopped ∧ inSram s.ce[e].loadSrc = true ∧ bits
      v.toNat 8 0 + loadRows v.toNat ≤ 512 ∧ s.ce[e].loadSrc + 32 * loadRows v.toNat ≤ sramEnd) ∧
    (∃ (t : Tick) (e : Fin 8) (v : Word32) (s : State), Quiet s t ∧ v.getLsbD 31 = true ∧
      s.ce[e].loadBusy = false ∧ s.ce[e].state ≠ .stopped) ∧
    (∃ (t : Tick) (e : Fin 8) (s : State), Quiet s t ∧ s.ce[e].loadBusy = true ∧ bootLoadSlot s e =
      none ∧ s.ce[e].state = .stopped ∧ s.sys.flips = []) ∧
    (∃ (t : Tick) (e : Fin 8) (s : State), Quiet s t ∧ s.ce[e].loadBusy = true ∧ bootLoadSlot s e =
      none ∧ s.ce[e].state ≠ .stopped) := by
  refine ⟨
    ⟨17600000, 2, 0x80030005, { s0 with ce := s0.ce.set 2 { s0.ce[2] with loadSrc := 0x10000200, loadResult := 3 } }, ?_⟩,
    ⟨17600000, 2, 0x80030005, { s0 with ce := s0.ce.set 2 { s0.ce[2] with loadSrc := 0x10000200, loadResult := 3, state := .idle } }, ?_⟩,
    ⟨17600000, 2, { s0 with ce := s0.ce.set 2 { s0.ce[2] with loadSrc := 0x10000200, loadBusy := true, goRows := 2, goDest := 3, goSrc := 0x10000200, pmem := [(24, 5), (99, 8)], flags := 7 }, mem := [(0x10000200, 7), (0x10000205, 9), (0x1000023F, 255)] }, ?_⟩,
    ⟨17600000, 2, { s0 with ce := s0.ce.set 2 { s0.ce[2] with loadSrc := 0x10000200, loadBusy := true, goRows := 2, goDest := 3, goSrc := 0x10000200, pmem := [(24, 5), (99, 8)], flags := 7, state := .idle } }, ?_⟩⟩
  all_goals first | decide +kernel | (dsimp only [Canonical, OnTime, Issues, Offered, Quiet]; decide +kernel)

theorem witness_EngineArithmetic :
    (∃ (e : Fin 8) (s : State), Issues s e 0x00) ∧
    (∃ (e : Fin 8) (s : State), Issues s e 0x01) ∧
    (∃ (e : Fin 8) (s : State), Issues s e 0x03) ∧
    (∃ (e : Fin 8) (s : State), Issues s e 0x04) ∧
    (∃ (e : Fin 8) (s : State), Issues s e 0x05) ∧
    (∃ (e : Fin 8) (s : State), Issues s e 0x08) ∧
    (∃ (e : Fin 8) (s : State), Issues s e 0x09) ∧
    (∃ (e : Fin 8) (s : State), Issues s e 0x0A) ∧
    (∃ (e : Fin 8) (s : State), Issues s e 0x0B) ∧
    (∃ (e : Fin 8) (s : State), Issues s e 0x0C) := by
  refine ⟨
    ⟨2, { s0 with ce := s0.ce.set 2 { s0.ce[2] with state := .running, run := true, pc := 40, pstart := 16000000, cycles := 4, pmem := [(40, 0x010C4000)], w := #v[0, 5, 7, 0x800000, 0x7FFFFF, 9, 2, 3, 0, 0, 0, 0, 0, 0, 0, 0] } }, ?_⟩,
    ⟨2, { s0 with ce := s0.ce.set 2 { s0.ce[2] with state := .running, run := true, pc := 40, pstart := 16000000, cycles := 4, pmem := [(40, 0x050C4005)], w := #v[0, 5, 7, 0x800000, 0x7FFFFF, 9, 2, 3, 0, 0, 0, 0, 0, 0, 0, 0] } }, ?_⟩,
    ⟨2, { s0 with ce := s0.ce.set 2 { s0.ce[2] with state := .running, run := true, pc := 40, pstart := 16000000, cycles := 4, pmem := [(40, 0x0D0C4005)], w := #v[0, 5, 7, 0x800000, 0x7FFFFF, 9, 2, 3, 0, 0, 0, 0, 0, 0, 0, 0] } }, ?_⟩,
    ⟨2, { s0 with ce := s0.ce.set 2 { s0.ce[2] with state := .running, run := true, pc := 40, pstart := 16000000, cycles := 4, pmem := [(40, 0x110C4005)], w := #v[0, 5, 7, 0x800000, 0x7FFFFF, 9, 2, 3, 0, 0, 0, 0, 0, 0, 0, 0] } }, ?_⟩,
    ⟨2, { s0 with ce := s0.ce.set 2 { s0.ce[2] with state := .running, run := true, pc := 40, pstart := 16000000, cycles := 4, pmem := [(40, 0x150C4005)], w := #v[0, 5, 7, 0x800000, 0x7FFFFF, 9, 2, 3, 0, 0, 0, 0, 0, 0, 0, 0] } }, ?_⟩,
    ⟨2, { s0 with ce := s0.ce.set 2 { s0.ce[2] with state := .running, run := true, pc := 40, pstart := 16000000, cycles := 4, pmem := [(40, 0x210C4000)], w := #v[0, 5, 7, 0x800000, 0x7FFFFF, 9, 2, 3, 0, 0, 0, 0, 0, 0, 0, 0] } }, ?_⟩,
    ⟨2, { s0 with ce := s0.ce.set 2 { s0.ce[2] with state := .running, run := true, pc := 40, pstart := 16000000, cycles := 4, pmem := [(40, 0x250C4000)], w := #v[0, 5, 7, 0x800000, 0x7FFFFF, 9, 2, 3, 0, 0, 0, 0, 0, 0, 0, 0] } }, ?_⟩,
    ⟨2, { s0 with ce := s0.ce.set 2 { s0.ce[2] with state := .running, run := true, pc := 40, pstart := 16000000, cycles := 4, pmem := [(40, 0x290C4000)], w := #v[0, 5, 7, 0x800000, 0x7FFFFF, 9, 2, 3, 0, 0, 0, 0, 0, 0, 0, 0] } }, ?_⟩,
    ⟨2, { s0 with ce := s0.ce.set 2 { s0.ce[2] with state := .running, run := true, pc := 40, pstart := 16000000, cycles := 4, pmem := [(40, 0x2D0C4005)], w := #v[0, 5, 7, 0x800000, 0x7FFFFF, 9, 2, 3, 0, 0, 0, 0, 0, 0, 0, 0] } }, ?_⟩,
    ⟨2, { s0 with ce := s0.ce.set 2 { s0.ce[2] with state := .running, run := true, pc := 40, pstart := 16000000, cycles := 4, pmem := [(40, 0x310C4000)], w := #v[0, 5, 7, 0x800000, 0x7FFFFF, 9, 2, 3, 0, 0, 0, 0, 0, 0, 0, 0] } }, ?_⟩⟩
  all_goals first | decide +kernel | (dsimp only [Canonical, OnTime, Issues, Offered, Quiet]; decide +kernel)

theorem witness_EngineAccumulators :
    (∃ (e : Fin 8) (s : State), Issues s e 0x0D) ∧
    (∃ (e : Fin 8) (s : State), Issues s e 0x0E) ∧
    (∃ (e : Fin 8) (s : State), Issues s e 0x0F) ∧
    (∃ (e : Fin 8) (s : State), Issues s e 0x10) := by
  refine ⟨
    ⟨2, { s0 with ce := s0.ce.set 2 { s0.ce[2] with state := .running, run := true, pc := 40, pstart := 16000000, cycles := 4, pmem := [(40, 0x350C4000)], w := #v[0, 5, 7, 0x800000, 0x7FFFFF, 9, 2, 3, 0, 0, 0, 0, 0, 0, 0, 0] } }, ?_⟩,
    ⟨2, { s0 with ce := s0.ce.set 2 { s0.ce[2] with state := .running, run := true, pc := 40, pstart := 16000000, cycles := 4, pmem := [(40, 0x390C4000)], w := #v[0, 5, 7, 0x800000, 0x7FFFFF, 9, 2, 3, 0, 0, 0, 0, 0, 0, 0, 0] } }, ?_⟩,
    ⟨2, { s0 with ce := s0.ce.set 2 { s0.ce[2] with state := .running, run := true, pc := 40, pstart := 16000000, cycles := 4, pmem := [(40, 0x3D0C4000)], w := #v[0, 5, 7, 0x800000, 0x7FFFFF, 9, 2, 3, 0, 0, 0, 0, 0, 0, 0, 0] } }, ?_⟩,
    ⟨2, { s0 with ce := s0.ce.set 2 { s0.ce[2] with state := .running, run := true, pc := 40, pstart := 16000000, cycles := 4, pmem := [(40, 0x410C4000)], w := #v[0, 5, 7, 0x800000, 0x7FFFFF, 9, 2, 3, 0, 0, 0, 0, 0, 0, 0, 0] } }, ?_⟩⟩
  all_goals first | decide +kernel | (dsimp only [Canonical, OnTime, Issues, Offered, Quiet]; decide +kernel)

theorem witness_EngineVectors :
    (∃ (e : Fin 8) (s : State), Issues s e 0x14) ∧
    (∃ (e : Fin 8) (s : State), let k := s.ce[e]; let w := fetchWord k; Issues s e 0x15 ∧ fX w =
      true) ∧
    (∃ (e : Fin 8) (s : State), let k := s.ce[e]; let w := fetchWord k; Issues s e 0x15 ∧ fX w =
      false) ∧
    (∃ (e : Fin 8) (s : State), Issues s e 0x16) ∧
    (∃ (e : Fin 8) (s : State), Issues s e 0x18) := by
  refine ⟨
    ⟨2, { s0 with ce := s0.ce.set 2 { s0.ce[2] with state := .running, run := true, pc := 40, pstart := 16000000, cycles := 4, pmem := [(40, 0x510C0000)], w := #v[0, 5, 7, 0x800000, 0x7FFFFF, 9, 2, 3, 0, 0, 0, 0, 0, 0, 0, 0] } }, ?_⟩,
    ⟨2, { s0 with ce := s0.ce.set 2 { s0.ce[2] with state := .running, run := true, pc := 40, pstart := 16000000, cycles := 4, pmem := [(40, 0x55040800)], w := #v[0, 5, 7, 0x800000, 0x7FFFFF, 9, 2, 3, 0, 0, 0, 0, 0, 0, 0, 0] } }, ?_⟩,
    ⟨2, { s0 with ce := s0.ce.set 2 { s0.ce[2] with state := .running, run := true, pc := 40, pstart := 16000000, cycles := 4, pmem := [(40, 0x55040000)], w := #v[0, 5, 7, 0x800000, 0x7FFFFF, 9, 2, 3, 0, 0, 0, 0, 0, 0, 0, 0] } }, ?_⟩,
    ⟨2, { s0 with ce := s0.ce.set 2 { s0.ce[2] with state := .running, run := true, pc := 40, pstart := 16000000, cycles := 4, pmem := [(40, 0x59054000)], w := #v[0, 5, 7, 0x800000, 0x7FFFFF, 9, 2, 3, 0, 0, 0, 0, 0, 0, 0, 0] } }, ?_⟩,
    ⟨2, { s0 with ce := s0.ce.set 2 { s0.ce[2] with state := .running, run := true, pc := 40, pstart := 16000000, cycles := 4, pmem := [(40, 0x61040000)], w := #v[0, 5, 7, 0x800000, 0x7FFFFF, 9, 2, 3, 0, 0, 0, 0, 0, 0, 0, 0] } }, ?_⟩⟩
  all_goals first | decide +kernel | (dsimp only [Canonical, OnTime, Issues, Offered, Quiet]; decide +kernel)

theorem witness_EngineChoices :
    (∃ (e : Fin 8) (s : State), Issues s e 0x19) ∧
    (∃ (e : Fin 8) (s : State), Issues s e 0x1A) ∧
    (∃ (e : Fin 8) (s : State), Issues s e 0x1B) ∧
    (∃ (e : Fin 8) (s : State), Issues s e 0x1C) ∧
    (∃ (e : Fin 8) (s : State), Issues s e 0x17) := by
  refine ⟨
    ⟨2, { s0 with ce := s0.ce.set 2 { s0.ce[2] with state := .running, run := true, pc := 40, pstart := 16000000, cycles := 4, pmem := [(40, 0x65040014)], w := #v[0, 5, 7, 0x800000, 0x7FFFFF, 9, 2, 3, 0, 0, 0, 0, 0, 0, 0, 0] } }, ?_⟩,
    ⟨2, { s0 with ce := s0.ce.set 2 { s0.ce[2] with state := .running, run := true, pc := 40, pstart := 16000000, cycles := 4, pmem := [(40, 0x69041000)], w := #v[0, 5, 7, 0x800000, 0x7FFFFF, 9, 2, 3, 0, 0, 0, 0, 0, 0, 0, 0] } }, ?_⟩,
    ⟨2, { s0 with ce := s0.ce.set 2 { s0.ce[2] with state := .running, run := true, pc := 40, pstart := 16000000, cycles := 4, pmem := [(40, 0x6D041000)], w := #v[0, 5, 7, 0x800000, 0x7FFFFF, 9, 2, 3, 0, 0, 0, 0, 0, 0, 0, 0] } }, ?_⟩,
    ⟨2, { s0 with ce := s0.ce.set 2 { s0.ce[2] with state := .running, run := true, pc := 40, pstart := 16000000, cycles := 4, pmem := [(40, 0x71040014)], w := #v[0, 5, 7, 0x800000, 0x7FFFFF, 9, 2, 3, 0, 0, 0, 0, 0, 0, 0, 0], dmem := [(20, 0x020002), (21, 0), (23, 5), (24, 9), (25, 7)] } }, ?_⟩,
    ⟨2, { s0 with ce := s0.ce.set 2 { s0.ce[2] with state := .running, run := true, pc := 40, pstart := 16000000, cycles := 4, pmem := [(40, 0x5D040014)], w := #v[0, 5, 7, 0x800000, 0x7FFFFF, 9, 2, 3, 0, 0, 0, 0, 0, 0, 0, 0] } }, ?_⟩⟩
  all_goals first | decide +kernel | (dsimp only [Canonical, OnTime, Issues, Offered, Quiet]; decide +kernel)

theorem witness_EngineFlow :
    (∃ (e : Fin 8) (s : State), Issues s e 0x20) ∧
    (∃ (e : Fin 8) (s : State), let k := s.ce[e]; Issues s e 0x21 ∧ k.stack.length < 4) ∧
    (∃ (e : Fin 8) (s : State) (a : Nat) (l : List Nat), let k := s.ce[e]; Issues s e 0x22 ∧ k.stack
      = a :: l ∧ a ≤ 4095) ∧
    (∃ (e : Fin 8) (s : State), let k := s.ce[e]; Issues s e 0x23 ∧ k.run = true ∧ k.anyPend = false
      ∧ k.hold = [] ∧ k.rose = 0) ∧
    (∃ (e : Fin 8) (s : State), let k := s.ce[e]; Issues s e 0x23 ∧ k.run = true ∧ k.anyPend = true
      ∧ k.hold = []) ∧
    (∃ (e : Fin 8) (s : State), let k := s.ce[e]; Issues s e 0x23 ∧ k.run = false) ∧
    (∃ (e : Fin 8) (s : State), Issues s e 0x2C) ∧
    (∃ (e : Fin 8) (s : State) (j : Nat), let k := s.ce[e]; let w := fetchWord k; Issues s e 0x02 ∧
      (j = (fAddr w + if fX w then (k.reg (fA w)).toNat % 1024 else 0) % 1024) ∧ k.dataFlips j = []) ∧
    (∃ (e : Fin 8) (s : State) (j : Nat), let k := s.ce[e]; let w := fetchWord k; Issues s e 0x02 ∧
      (j = (fAddr w + if fX w then (k.reg (fA w)).toNat % 1024 else 0) % 1024) ∧ k.rowBad j = true) ∧
    (∃ (e : Fin 8) (s : State), let k := s.ce[e]; let w := fetchWord k; k.state = .running ∧
      issueFault s e = 0 ∧ opcode w = 0x00 ∧ (pcFlips k).length = 1 ∧ k.pc < 4095 ∧ s.boot.act.busy
      = false ∧ Quiet s (issueTick k)) ∧
    (∃ (e : Fin 8) (s : State), let k := s.ce[e]; OnTime s (issueTick k) ∧ k.state = .running ∧
      k.cycles < passLimit s e ∧ 2 ≤ (pcFlips k).length ∧ s.boot.act.busy = false) ∧
    (∃ (e : Fin 8) (s : State) (j : Nat), let k := s.ce[e]; let w := fetchWord k; j ∈ readsOf k w ∧
      OnTime s (issueTick k) ∧ k.state = .running ∧ issueFault s e = 0 ∧ opcode w = 0x01 ∧ pcFlips k
      = [] ∧ k.rowBad j = true ∧ s.boot.act.busy = false) ∧
    (∃ (e : Fin 8) (s : State), let k := s.ce[e]; OnTime s (issueTick k) ∧ k.state = .running ∧
      issueFault s e = 1 ∧ s.boot.act.busy = false) ∧
    (∃ (e : Fin 8) (s : State), let k := s.ce[e]; OnTime s (k.pstart + 4 * passLimit s e) ∧ k.state
      = .running ∧ issueFault s e = 4 ∧ s.boot.act.busy = false) := by
  refine ⟨
    ⟨2, { s0 with ce := s0.ce.set 2 { s0.ce[2] with state := .running, run := true, pc := 40, pstart := 16000000, cycles := 4, pmem := [(40, 0x8004004D)], w := #v[0, 5, 7, 0x800000, 0x7FFFFF, 9, 2, 3, 0, 0, 0, 0, 0, 0, 0, 0] } }, ?_⟩,
    ⟨2, { s0 with ce := s0.ce.set 2 { s0.ce[2] with state := .running, run := true, pc := 40, pstart := 16000000, cycles := 4, pmem := [(40, 0x8400004D)], stack := [1, 2, 3] } }, ?_⟩,
    ⟨2, { s0 with ce := s0.ce.set 2 { s0.ce[2] with state := .running, run := true, pc := 40, pstart := 16000000, cycles := 4, pmem := [(40, 0x88000000)], stack := [4095, 2] } }, 4095, [2], ?_⟩,
    ⟨2, { s0 with ce := s0.ce.set 2 { s0.ce[2] with state := .running, run := true, pc := 40, pstart := 16000000, cycles := 4, pmem := [(40, 0x8C000000)] } }, ?_⟩,
    ⟨2, { s0 with ce := s0.ce.set 2 { s0.ce[2] with state := .running, run := true, pc := 40, pstart := 16000000, cycles := 4, pmem := [(40, 0x8C000000)], timerPend := true, raised := 16000000, entryTimer := 9 } }, ?_⟩,
    ⟨2, { s0 with ce := s0.ce.set 2 { s0.ce[2] with state := .running, pc := 40, pstart := 16000000, cycles := 4, pmem := [(40, 0x8C000000)], run := false } }, ?_⟩,
    ⟨2, { s0 with ce := s0.ce.set 2 { s0.ce[2] with state := .running, run := true, pc := 40, pstart := 16000000, cycles := 4, pmem := [(40, 0xB0000005)], flags := 7 } }, ?_⟩,
    ⟨2, { s0 with ce := s0.ce.set 2 { s0.ce[2] with state := .running, run := true, pc := 40, pstart := 16000000, cycles := 4, pmem := [(40, 0x09040014)], w := #v[0, 5, 7, 0x800000, 0x7FFFFF, 9, 2, 3, 0, 0, 0, 0, 0, 0, 0, 0] } }, 20, ?_⟩,
    ⟨2, { s0 with ce := s0.ce.set 2 { s0.ce[2] with state := .running, run := true, pc := 40, pstart := 16000000, cycles := 4, pmem := [(40, 0x09040014)], w := #v[0, 5, 7, 0x800000, 0x7FFFFF, 9, 2, 3, 0, 0, 0, 0, 0, 0, 0, 0], dflips := [(2, [165, 166])] } }, 20, ?_⟩,
    ⟨2, { s0 with ce := s0.ce.set 2 { s0.ce[2] with state := .running, run := true, pc := 40, pstart := 16000000, cycles := 4, pmem := [(40, 0x00000000)], pflips := [(5, [3])] } }, ?_⟩,
    ⟨2, { s0 with ce := s0.ce.set 2 { s0.ce[2] with state := .running, run := true, pc := 40, pstart := 16000000, cycles := 4, pmem := [(40, 0x00000000)], pflips := [(5, [3, 4])] } }, ?_⟩,
    ⟨2, { s0 with ce := s0.ce.set 2 { s0.ce[2] with state := .running, run := true, pc := 40, pstart := 16000000, cycles := 4, pmem := [(40, 0x05040014)], w := #v[0, 5, 7, 0x800000, 0x7FFFFF, 9, 2, 3, 0, 0, 0, 0, 0, 0, 0, 0], dflips := [(2, [165, 166])] } }, 20, ?_⟩,
    ⟨2, { s0 with ce := s0.ce.set 2 { s0.ce[2] with state := .running, run := true, pc := 40, pstart := 16000000, cycles := 4, pmem := [(40, 0xFC000000)] } }, ?_⟩,
    ⟨2, { s0 with ce := s0.ce.set 2 { s0.ce[2] with state := .running, run := true, pc := 40, pstart := 16000000, cycles := 4095, pmem := [(40, 0x00000000)] } }, ?_⟩⟩
  all_goals first | decide +kernel | (dsimp only [Canonical, OnTime, Issues, Offered, Quiet]; decide +kernel)

theorem witness_EngineCommits :
    (∃ (e : Fin 8) (s : State), let k := s.ce[e]; let w := fetchWord k; Issues s e 0x28 ∧ ceHas s e
      (fGroup w) = true) ∧
    (∃ (e : Fin 8) (s : State) (g : Fin 3), let k := s.ce[e]; let w := fetchWord k;
      let r := issueTick k; Issues s e 0x29 ∧ w.getLsbD 0 = false ∧ fGroup w = g.val ∧ ceHas s e g =
      true ∧ s.gsc.cfgBad = false ∧ redStbyEn s g = false ∧ s.red.tok[g.val].state = .held ∧
      s.red.tok[g.val].holder = some e ∧ r + 8 < s.red.tok[g.val].leaseEnd) ∧
    (∃ (e : Fin 8) (s : State) (g : Fin 3), let k := s.ce[e]; let w := fetchWord k;
      let r := issueTick k; Issues s e 0x29 ∧ w.getLsbD 0 = true ∧ fGroup w = g.val ∧ ceHas s e g =
      true ∧ s.gsc.cfgBad = false ∧ redStbyEn s g = false ∧ s.red.tok[g.val].state = .held ∧
      s.red.tok[g.val].holder = some e ∧ r + 8 < s.red.tok[g.val].leaseEnd ∧ k.run = true ∧
      k.anyPend = false ∧ k.hold = [] ∧ s.boot.act.tasks = []) ∧
    (∃ (e : Fin 8) (s : State) (b : Fin 3), let k := s.ce[e]; let w := fetchWord k; Issues s e 0x29
      ∧ w.getLsbD 0 = false ∧ fGroup w = 4 + b.val ∧ ceHas s e (4 + b.val) = true ∧ e = 6 ∧
      redStbyEn s (4 + b.val) = false ∧ s.sys.dom[(8 : Fin 10)] = .on ∧ s.axb.b[b].state = .stopped) ∧
    (∃ (e : Fin 8) (s : State) (g : Fin 4), let k := s.ce[e]; let w := fetchWord k;
      let r := issueTick k; Issues s e 0x2A ∧ fGroup w = g.val ∧ eligible s g e = true ∧
      s.red.tok[g].state = .held ∧ s.red.tok[g].holder = some e ∧ r < s.red.tok[g].leaseEnd ∧
      s.red.tok[g].fresh = false) ∧
    (∃ (e : Fin 8) (s : State) (g : Fin 4), let k := s.ce[e]; let w := fetchWord k;
      let r := issueTick k; Issues s e 0x2A ∧ fGroup w = g.val ∧ eligible s g e = true ∧
      s.red.tok[g].state = .free ∧ winner s g r = some e) ∧
    (∃ (e : Fin 8) (s : State), Issues s e 0x2B) := by
  refine ⟨
    ⟨2, { (wr s0 [(0x40084008, 0x20000)]) with ce := s0.ce.set 2 { s0.ce[2] with state := .running, run := true, pc := 40, pstart := 16000000, cycles := 4, pmem := [(40, 0xA0049800)], w := #v[0, 5, 7, 0x800000, 0x7FFFFF, 9, 2, 3, 0, 0, 0, 0, 0, 0, 0, 0] } }, ?_⟩,
    ⟨2, { (wr s0 [(0x40084008, 0x20000)]) with ce := s0.ce.set 2 { s0.ce[2] with state := .running, run := true, pc := 40, pstart := 16000000, cycles := 4, pmem := [(40, 0xA4008000)], staged := [(17, 9), (3, 5)] }, red := { s0.red with tok := s0.red.tok.set 1 { s0.red.tok[1] with state := .held, holder := some 2, epoch := 7, leaseEnd := 17000000 } } }, 1, ?_⟩,
    ⟨2, { (wr s0 [(0x40084008, 0x20000)]) with ce := s0.ce.set 2 { s0.ce[2] with state := .running, run := true, pc := 40, pstart := 16000000, cycles := 4, pmem := [(40, 0xA4008001)], staged := [(17, 9), (3, 5)] }, red := { s0.red with tok := s0.red.tok.set 1 { s0.red.tok[1] with state := .held, holder := some 2, epoch := 7, leaseEnd := 17000000 } } }, 1, ?_⟩,
    ⟨6, { (wr s0 [(0x4008C008, 0x200000)]) with ce := s0.ce.set 6 { s0.ce[6] with state := .running, run := true, pc := 40, pstart := 16000000, cycles := 4, pmem := [(40, 0xA4028000)], staged := [(81, 9), (3, 5)] }, sys := { s0.sys with dom := Vector.replicate 10 .on } }, 1, ?_⟩,
    ⟨2, { (wr s0 [(0x40084008, 0x20000), (0x400E0120, 0xFF000000)]) with ce := s0.ce.set 2 { s0.ce[2] with state := .running, run := true, pc := 40, pstart := 16000000, cycles := 4, pmem := [(40, 0xA8008000)] }, red := { s0.red with tok := s0.red.tok.set 1 { s0.red.tok[1] with state := .held, holder := some 2, epoch := 7, leaseEnd := 17000000 } } }, 1, ?_⟩,
    ⟨2, { (wr s0 [(0x40084008, 0x20000), (0x400E0120, 0xFF200000)]) with ce := s0.ce.set 2 { s0.ce[2] with state := .running, run := true, pc := 40, pstart := 16000000, cycles := 4, pmem := [(40, 0xA8008000)] }, red := { s0.red with tok := s0.red.tok.set 1 { s0.red.tok[1] with state := .free, epoch := 7 } } }, 1, ?_⟩,
    ⟨2, { s0 with ce := s0.ce.set 2 { s0.ce[2] with state := .running, run := true, pc := 40, pstart := 16000000, cycles := 4, pmem := [(40, 0xAC0463FF)], w := #v[0, 5, 7, 0x800000, 0x7FFFFF, 9, 2, 3, 0, 0, 0, 0, 0, 0, 0, 0] } }, ?_⟩⟩
  all_goals first | decide +kernel | (dsimp only [Canonical, OnTime, Issues, Offered, Quiet]; decide +kernel)

theorem witness_TractionMachines :
    (∃ (t : Tick) (m : Fin 2) (s : State), OnTime s t ∧ machOn s m = true ∧ ((t % 160000 ≠ 0 ∧
      s.trx.m[m].dirty = true) ∨ (t % 160000 = 0 ∧ s.trx.m[m].state ≠ .fly ∧ ∀ k : Fin 2,
      s.trx.m[k].state ≠ .exit))) ∧
    (∃ (t : Tick) (m : Fin 2) (s : State), OnTime s t ∧ t % 160000 = 0 ∧ machOn s m = true ∧
      s.trx.m[m].state = .fly ∧ s.trx.m[m].flyAt ≠ t ∧ ((∀ k : Fin 2, s.trx.m[k].state ≠ .exit))) ∧
    (∃ (t : Tick) (m : Fin 2) (s : State), OnTime s t ∧ t % 160000 = 0 ∧ machOn s m = true ∧
      s.trx.m[m].state = .exit ∧ rampTo s.trx.m[m].tdem 0 (max (trxTrateExit s m) 1) ≠ 0) ∧
    (∃ (t : Tick) (m : Fin 2) (s : State), OnTime s t ∧ s.trx.m[m].restart = true ∧
      ((s.rng.active.filter fun a => rowGroup s a.row (groupOf m)) ≠ []) ∧ ((∀ a ∈ s.rng.active,
      rowGroup s a.row (groupOf m) = true → flies s a = true)) ∧ s.rng.failed = false ∧
      s.rng.brakeHold = false ∧ s.rng.shutdown = false) ∧
    (∃ (t : Tick) (m : Fin 2) (s : State), OnTime s t ∧ s.trx.m[m].restart = true ∧
      ((s.rng.active.filter fun a => rowGroup s a.row (groupOf m)) = [] ∨ (∃ a ∈ s.rng.active,
      rowGroup s a.row (groupOf m) = true ∧ flies s a = false) ∨ s.rng.failed = true ∨
      s.rng.brakeHold = true ∨ s.rng.shutdown = true)) ∧
    (∃ (t : Tick) (m : Fin 2) (x : Tick) (s : State), OnTime s t ∧ s.trx.m[m].slowSince = some x ∧
      isSlow s m = true ∧ x + 160000000 ≤ t) ∧
    (∃ (t : Tick) (m : Fin 2) (s : State), OnTime s t ∧ t % 160000 = 0 ∧ machOn s m = true ∧
      s.trx.m[m].state = .exit ∧ rampTo s.trx.m[m].tdem 0 (max (trxTrateExit s m) 1) = 0 ∧ ((∀ k ∈
      machines s, k ≠ m → s.trx.m[k].tdem = 0 ∧ s.trx.m[k].state ≠ .run ∧ s.trx.m[k].state ≠ .fly))
      ∧ s.pba.mode = .drive) := by
  refine ⟨
    ⟨16000100, 1, { (wr s0 [(0x40090000, 0x2), (0x40090194, 0x3FE00000)]) with trx := { s0.trx with m := s0.trx.m.set 1 { s0.trx.m[1] with dirty := true, treq := 55 } } }, ?_⟩,
    ⟨17600000, 1, { (wr s0 [(0x40090000, 0x2), (0x40090190, 0x5)]) with trx := { s0.trx with m := s0.trx.m.set 1 { s0.trx.m[1] with state := .fly, tdem := 3, treq := -100 } } }, ?_⟩,
    ⟨17600000, 1, { (wr s0 [(0x40090000, 0x2), (0x40090184, 0x32)]) with trx := { s0.trx with m := s0.trx.m.set 1 { s0.trx.m[1] with state := .exit, tdem := -3000, treq := -100 } } }, ?_⟩,
    ⟨17600000, 1, { (wr s0 [(0x40090000, 0x2), (0x70000434, 0x20000000), (0x70000438, 0x40100000)]) with trx := { s0.trx with m := s0.trx.m.set 1 { s0.trx.m[1] with state := .fly, restart := true } }, rng := { s0.rng with active := [⟨3, [], none⟩], pattern := Vector.replicate 4 .allOpen } }, ?_⟩,
    ⟨17600000, 1, { (wr s0 [(0x40090000, 0x2)]) with trx := { s0.trx with m := s0.trx.m.set 1 { s0.trx.m[1] with state := .fly, restart := true } } }, ?_⟩,
    ⟨176000000, 1, 15000000, { (wr s0 [(0x40090000, 0x2), (0x40090008, 0x64), (0x40090180, 0x0), (0x400A0100, 0x80000000)]) with trx := { s0.trx with m := s0.trx.m.set 1 { s0.trx.m[1] with slowSince := some 15000000 } }, pos := { s0.pos with enc := s0.pos.enc.set 0 { s0.pos.enc[0] with state := .referenced } } }, ?_⟩,
    ⟨17600000, 1, { (wr s0 [(0x40090000, 0x2), (0x40090184, 0x32)]) with trx := { s0.trx with m := s0.trx.m.set 1 { s0.trx.m[1] with state := .exit, tdem := -50 } }, pba := { s0.pba with mode := .drive } }, ?_⟩⟩
  all_goals first | decide +kernel | (dsimp only [Canonical, OnTime, Issues, Offered, Quiet]; decide +kernel)

theorem witness_Encoders :
    (∃ (t : Tick) (e : Fin 2) (a : Bool) (b : Bool) (z : Bool) (s : State), OnTime s t ∧ posEncEn s
      e = true ∧ ((quadIndex a b + 4 - quadIndex s.pos.enc[e].a s.pos.enc[e].b) % 4 = 1 ∨ (quadIndex
      a b + 4 - quadIndex s.pos.enc[e].a s.pos.enc[e].b) % 4 = 3) ∧ (z = false ∨ s.pos.enc[e].z =
      true ∨ abCode a b ≠ posIdxQual s e)) ∧
    (∃ (t : Tick) (e : Fin 2) (a : Bool) (b : Bool) (z : Bool) (s : State), OnTime s t ∧ posEncEn s
      e = true ∧ (quadIndex a b + 4 - quadIndex s.pos.enc[e].a s.pos.enc[e].b) % 4 = 2 ∧ (z = false
      ∨ s.pos.enc[e].z = true ∨ abCode a b ≠ posIdxQual s e)) ∧
    (∃ (t : Tick) (e : Fin 2) (s : State), OnTime s t ∧ posEncEn s e = true ∧ (posIdxMode s e = 1 ∨
      (posIdxMode s e = 2 ∧ s.pos.enc[e].armed = true) ∨ posIdxMode s e = 3) ∧ s.pos.enc[e].state =
      .unreferenced ∧ s.pos.enc[e].z = false ∧ abCode s.pos.enc[e].a s.pos.enc[e].b = posIdxQual s e
      ∧ s.pos.enc[e].cnt < countsOf s e) ∧
    (∃ (t : Tick) (s : State), OnTime s t ∧ t % 160 = 0) ∧
    (∃ (t : Tick) (e : Fin 2) (s : State), OnTime s t ∧ s.pos.enc[e].state = .unreferenced ∧
      posRefcntCount s e < countsOf s e) ∧
    (∃ (t : Tick) (e : Fin 2) (s : State), OnTime s t ∧ s.pos.enc[e].state = .fault ∧ encCause (s.at
      t) e = false) ∧
    (∃ (t : Tick) (s : State), Quiet s t) ∧
    (∃ (t : Tick) (s : State), Quiet s t) ∧
    (∃ (t : Tick) (s : State), Quiet s t ∧ OnTime s t) ∧
    (∃ (t : Tick) (e : Fin 2) (s : State), OnTime s t ∧ isDelivery s e t = true) := by
  refine ⟨
    ⟨17600000, 1, true, false, false, { (wr s0 [(0x400A0180, 0x80000400)]) with pos := { s0.pos with enc := s0.pos.enc.set 1 { s0.pos.enc[1] with cnt := 4095, rev := 3 } } }, ?_⟩,
    ⟨17600000, 1, true, true, false, { (wr s0 [(0x400A0180, 0x80000400)]) with pos := { s0.pos with enc := s0.pos.enc.set 1 { s0.pos.enc[1] with cnt := 7, rev := 3 } } }, ?_⟩,
    ⟨17600000, 1, { (wr s0 [(0x400A0180, 0x80000400), (0x400A0184, 0x48000000)]) with pos := { s0.pos with enc := s0.pos.enc.set 1 { s0.pos.enc[1] with cnt := 7, a := true } } }, ?_⟩,
    ⟨17600000, { (wr s0 [(0x400A0180, 0x80000400), (0x400A018C, 0x12C0000)]) with pos := { s0.pos with enc := s0.pos.enc.set 1 { s0.pos.enc[1] with cnt := 7, theta := 12345, stepTick := 17599840 } } }, ?_⟩,
    ⟨17600000, 1, { (wr s0 [(0x400A0180, 0x80000400), (0x400A01A0, 0xFA0)]) with pos := { s0.pos with enc := s0.pos.enc.set 1 { s0.pos.enc[1] with cnt := 7, theta := 12345, omega := 5 } } }, ?_⟩,
    ⟨17600000, 1, { (wr s0 [(0x400A0180, 0x80000400)]) with pos := { s0.pos with enc := s0.pos.enc.set 1 { s0.pos.enc[1] with cnt := 7, rev := -3, theta := 12345, omega := 5, state := .fault, cause := 2 } } }, ?_⟩,
    ⟨17600000, { (wr s0 [(0x400A0180, 0x80000400)]) with pos := { s0.pos with enc := s0.pos.enc.set 1 { s0.pos.enc[1] with cnt := 7, rev := -3, theta := 12345, latch := { cnt := 4 } } } }, ?_⟩,
    ⟨17600000, { (wr s0 [(0x400A0180, 0x80000400)]) with pos := { s0.pos with enc := s0.pos.enc.set 1 { s0.pos.enc[1] with cnt := 7, rev := -3, theta := 12345, latch := { cnt := 4 } } } }, ?_⟩,
    ⟨17600000, { (wr s0 [(0x400A0180, 0x80000400)]) with pos := { s0.pos with enc := s0.pos.enc.set 1 { s0.pos.enc[1] with cnt := 7, rev := -3, theta := 12345, latch := { cnt := 4 } } } }, ?_⟩,
    ⟨16016000, 1, { (wr s0 [(0x400A0180, 0x80000400), (0x400A0194, 0x48FFC00)]) with gsc := { s0.gsc with g := s0.gsc.g.set 0 { s0.gsc.g[0] with started := true, pstart := 16000000, period := 16000, phase := 0 } }, pos := { s0.pos with enc := s0.pos.enc.set 1 { s0.pos.enc[1] with due := [16016000], cnt := 100, theta := 6553600 } } }, ?_⟩⟩
  all_goals first | decide +kernel | (dsimp only [Canonical, OnTime, Issues, Offered, Quiet]; decide +kernel)

theorem witness_GateScheduler :
    (∃ (t : Tick) (g : Fin 4) (s : State), OnTime s t ∧ periodDue (s.at t) g = true) ∧
    (∃ (t : Tick) (g : Fin 4) (c : Commit) (cs : List Commit) (s : State), OnTime s t ∧
      s.gsc.g[g].commits = c :: cs ∧ c.tick + 64 ≤ t ∧ (s.red.tok[g].state = .revoked ∨
      s.red.tok[g].epoch ≠ c.epoch)) ∧
    (∃ (t : Tick) (g : Fin 4) (c : Commit) (cs : List Commit) (s : State), OnTime s t ∧
      s.gsc.g[g].commits = c :: cs ∧ c.tick + 64 ≤ t ∧ s.red.tok[g].state ≠ .revoked ∧
      s.red.tok[g].epoch = c.epoch ∧ firstFull s g c.epoch (commitTarget s g c).start (legsRetaken s
      g c) (commitEdges s g c) = none) ∧
    (∃ (t : Tick) (g : Fin 4) (s : State), OnTime s t ∧ s.red.tok[g].state = .held ∧
      s.red.tok[g].leaseEnd ≤ t ∧ s.red.tok[g].handing = none) ∧
    (∃ (t : Tick) (g : Fin 4) (s : State), OnTime s t ∧ s.red.tok[g].state = .expired ∧
      s.red.tok[g].unclaimed = false ∧ s.red.tok[g].expiredAt + gscClaimWait s g ≤ t ∧
      s.gsc.g[g].state = .driven) ∧
    (∃ (t : Tick) (g : Fin 4) (c : Commit) (cs : List Commit) (l : Fin 12) (s : State), OnTime s t ∧
      s.gsc.g[g].commits = c :: cs ∧ c.tick + 64 ≤ t ∧ s.red.tok[g].state ≠ .revoked ∧
      s.red.tok[g].epoch = c.epoch ∧ firstFull s g c.epoch (commitTarget s g c).start (legsRetaken s
      g c) (commitEdges s g c) = some l) := by
  refine ⟨
    ⟨16000160, 1, { (wr s0 [(0x400B0060, 0x80000000)]) with gsc := { s0.gsc with g := s0.gsc.g.set 1 { s0.gsc.g[1] with periodW := 20000, phaseW := 160, started := true, pstart := 15900000, period := 16000, phase := 160 } } }, ?_⟩,
    ⟨17600000, 1, (⟨16000000, 3, 7, [(2, 0x400000), (15, 5)]⟩), ([⟨16000100, 2, 7, []⟩]), { s0 with gsc := { s0.gsc with g := s0.gsc.g.set 1 { s0.gsc.g[1] with commits := [⟨16000000, 3, 7, [(2, 0x400000), (15, 5)]⟩, ⟨16000100, 2, 7, []⟩] } } }, ?_⟩,
    ⟨17600000, 1, (⟨16000000, 3, 7, [(2, 0x400000), (15, 5)]⟩), ([⟨16000100, 2, 7, []⟩]), { s0 with gsc := { s0.gsc with g := s0.gsc.g.set 1 { s0.gsc.g[1] with commits := [⟨16000000, 3, 7, [(2, 0x400000), (15, 5)]⟩, ⟨16000100, 2, 7, []⟩], period := 16000 } }, red := { s0.red with tok := s0.red.tok.set 1 { s0.red.tok[1] with state := .held, holder := some 3, epoch := 7 } } }, ?_⟩,
    ⟨17600000, 1, { s0 with red := { s0.red with tok := s0.red.tok.set 1 { s0.red.tok[1] with state := .held, holder := some 3, epoch := 7, leaseEnd := 17000000 } } }, ?_⟩,
    ⟨17600000, 1, { (wr s0 [(0x400B007C, 0x5)]) with red := { s0.red with tok := s0.red.tok.set 1 { s0.red.tok[1] with state := .expired, expiredAt := 16000000 } }, gsc := { s0.gsc with g := s0.gsc.g.set 1 { s0.gsc.g[1] with state := .driven } } }, ?_⟩,
    ⟨17600000, 1, (⟨16000000, 3, 7, [(2, 0x400000), (15, 5)]⟩), ([⟨16000100, 2, 7, []⟩]), 3, { (wr s0 [(0x400B0068, 0x28C8000), (0x400B0230, 0x87CC3400), (0x400B0238, 0x878E3C00), (0x400B0240, 0x84904400)]) with gsc := { s0.gsc with g := s0.gsc.g.set 1 { s0.gsc.g[1] with commits := [⟨16000000, 3, 7, [(2, 0x400000), (15, 5)]⟩, ⟨16000100, 2, 7, []⟩], period := 16000, periodW := 16000, started := true, pstart := 15999000, phase := 14200, phaseW := 14200 } }, red := { s0.red with tok := s0.red.tok.set 1 { s0.red.tok[1] with state := .held, holder := some 3, epoch := 7 } }, glk := s0.glk.set 3 { s0.glk[3] with queue := (List.range 64).map fun i => ⟨17000000 + i, 1, 6, [⟨30, 5, 1, 1⟩]⟩ } }, ?_⟩⟩
  all_goals first | decide +kernel | (dsimp only [Canonical, OnTime, Issues, Offered, Quiet]; decide +kernel)

theorem witness_GateLinkFrames :
    (∃ (t : Tick) (l : Fin 12) (e : Entry) (s : State), OnTime s t ∧ s.glk[l].state = .up ∧
      s.glk[l].queue = [e] ∧ e.stamp ≤ t + horizonOf s ∧ staleEntry s e = false ∧ s.glk[l].busyTo ≤
      t ∧ s.glk[l].armDue = false) ∧
    (∃ (t : Tick) (l : Fin 12) (s : State), OnTime s t ∧ linkCarries s.glk[l] = true ∧ t % 1600 = 0
      ∧ s.glk[l].busyTo ≤ t ∧ s.glk[l].armDue = false ∧ edgeReady (s.at t) l = false ∧
      s.glk[l].lossDue = false ∧ s.glk[l].cmdDue = none) ∧
    (∃ (t : Tick) (l : Fin 12) (s : State), OnTime s t ∧ linkCarries s.glk[l] = true ∧
      s.glk[l].busyTo ≤ t ∧ s.glk[l].armDue = false ∧ edgeReady (s.at t) l = false ∧
      s.glk[l].lossDue = true) ∧
    (∃ (t : Tick) (l : Fin 12) (b : Byte) (s : State), OnTime s t ∧ linkHears s.glk[l] = true ∧
      b.toNat / 16 % 8 < 5) ∧
    (∃ (t : Tick) (l : Fin 12) (b : Byte) (c : Byte) (s : State), OnTime s t ∧ linkHears s.glk[l] =
      true ∧ (c ≠ ~~~b ∨ 5 ≤ b.toNat / 16 % 8)) ∧
    (∃ (t : Tick) (l : Fin 12) (s : State), OnTime s t ∧ linkHears s.glk[l] = true ∧ s.glk[l].state
      ≠ .sync ∧ s.glk[l].good < 16) ∧
    (∃ (t : Tick) (l : Fin 12) (s : State), OnTime s t ∧ s.glk[l].state = .sync ∧ s.glk[l].good =
      15) ∧
    (∃ (t : Tick) (l : Fin 12) (e : Entry) (d : Entry) (es : List Entry) (s : State), OnTime s t ∧
      s.glk[l].state = .up ∧ s.glk[l].queue = e :: d :: es ∧ staleEntry s e = false ∧ staleEntry s d
      = false ∧ t + 640 ≤ e.stamp ∧ e.stamp ≤ t + horizonOf s ∧ d.stamp ≤ t + horizonOf s ∧
      s.glk[l].busyTo ≤ t ∧ s.glk[l].armDue = false) ∧
    (∃ (t : Tick) (l : Fin 12) (cs : List LinkChar) (s : State), OnTime s t ∧ linkHears s.glk[l] =
      true ∧ heardOf cs = .discarded) ∧
    (∃ (t : Tick) (l : Fin 12) (cs : List LinkChar) (s : State), OnTime s t ∧ linkHears s.glk[l] =
      true ∧ heardOf cs = .discarded) ∧
    (∃ (t : Tick) (l : Fin 12) (cs : List LinkChar) (s : State), OnTime s t ∧ linkHears s.glk[l] =
      true ∧ heardOf cs = .discarded) ∧
    (∃ (t : Tick) (l : Fin 12) (cs : List LinkChar) (s : State), OnTime s t ∧ linkHears s.glk[l] =
      true ∧ heardOf cs = .discarded) ∧
    (∃ (t : Tick) (l : Fin 12) (s : State), OnTime s t ∧ edgeReady (s.at t) l = true ∧
      s.glk[l].busyTo ≤ t ∧ s.glk[l].armDue = true) := by
  refine ⟨
    ⟨16000500, 3, (⟨16001000, 1, 7, [⟨2, 16000000, 3, 1⟩]⟩), { s0 with glk := s0.glk.set 3 { s0.glk[3] with state := .up, queue := [⟨16001000, 1, 7, [⟨2, 16000000, 3, 1⟩]⟩], beaconOut := true }, red := { s0.red with tok := s0.red.tok.set 1 { s0.red.tok[1] with state := .held, epoch := 7 } } }, ?_⟩,
    ⟨17600000, 3, { (wr s0 [(0x400C01C0, 0x88000000)]) with glk := s0.glk.set 3 { s0.glk[3] with state := .up, beaconDue := true }, red := { s0.red with ax := s0.red.ax.set 1 { s0.red.ax[1] with state := 3, aepoch := 0x12345 } } }, ?_⟩,
    ⟨17600000, 3, { s0 with glk := s0.glk.set 3 { s0.glk[3] with state := .sync, lossDue := true, lossP := 9 } }, ?_⟩,
    ⟨17600000, 3, 0x21, { (wr s0 [(0x400C01C0, 0x38000000)]) with glk := s0.glk.set 3 { s0.glk[3] with state := .up } }, ?_⟩,
    ⟨17600000, 3, 0x21, 0x21, { (wr s0 [(0x400C01C0, 0x38000000)]) with glk := s0.glk.set 3 { s0.glk[3] with state := .up } }, ?_⟩,
    ⟨17600000, 3, { s0 with glk := s0.glk.set 3 { s0.glk[3] with state := .up, hLate := 254, hErr := 1, hDrop := 0, good := 3 } }, ?_⟩,
    ⟨17600000, 3, { s0 with glk := s0.glk.set 3 { s0.glk[3] with state := .sync, good := 15 } }, ?_⟩,
    ⟨16000500, 3, (⟨16001200, 1, 7, [⟨2, 16000000, 3, 1⟩]⟩), (⟨16001210, 1, 7, [⟨2, 16000000, 3, 1⟩]⟩), ([⟨16001220, 1, 7, []⟩]), { s0 with glk := s0.glk.set 3 { s0.glk[3] with state := .up, queue := [⟨16001200, 1, 7, [⟨2, 16000000, 3, 1⟩]⟩, ⟨16001210, 1, 7, [⟨2, 16000000, 3, 1⟩]⟩, ⟨16001220, 1, 7, []⟩] }, red := { s0.red with tok := s0.red.tok.set 1 { s0.red.tok[1] with state := .held, epoch := 7 } } }, ?_⟩,
    ⟨17600000, 3, ([.ctl 0xFB, .data 0x80, .data 5, .ctl 0xFD]), { s0 with glk := s0.glk.set 3 { s0.glk[3] with state := .up } }, ?_⟩,
    ⟨17600000, 3, ([.ctl 0xFB, .data 0x80, .data 5, .ctl 0xFD]), { s0 with glk := s0.glk.set 3 { s0.glk[3] with state := .up } }, ?_⟩,
    ⟨17600000, 3, ([.ctl 0xFB, .data 0x80, .data 5, .ctl 0xFD]), { s0 with glk := s0.glk.set 3 { s0.glk[3] with state := .up } }, ?_⟩,
    ⟨17600000, 3, ([.ctl 0xFB, .data 0x80, .data 5, .ctl 0xFD]), { s0 with glk := s0.glk.set 3 { s0.glk[3] with state := .up } }, ?_⟩,
    ⟨16000500, 3, { s0 with glk := s0.glk.set 3 { s0.glk[3] with state := .up, armDue := true, queue := [⟨16001000, 1, 7, [⟨2, 16000000, 3, 1⟩]⟩] } }, ?_⟩⟩
  all_goals first | decide +kernel | (dsimp only [Canonical, OnTime, Issues, Offered, Quiet]; decide +kernel)

theorem witness_GateLinkBringUp :
    (∃ (t : Tick) (l : Fin 12) (s : State), OnTime s t ∧ s.glk[l].state = .align ∧ t <
      s.glk[l].since + 1600000) ∧
    (∃ (t : Tick) (l : Fin 12) (token : Byte) (s : State), OnTime s t ∧ s.glk[l].state = .measure ∧
      1 ≤ s.glk[l].step ∧ s.glk[l].step < 8 ∧ token.toNat = s.glk[l].step ∧ t < s.glk[l].sent +
      16000) ∧
    (∃ (t : Tick) (l : Fin 12) (q : Fin 16) (s : State), OnTime s t ∧ s.glk[l].state = .measure ∧
      s.glk[l].step = 0 ∧ s.glk[l].cmdSeq = (q.val + 1) % 16 ∧ t < s.glk[l].sent + 16000) ∧
    (∃ (t : Tick) (l : Fin 12) (q : Fin 16) (s : State), OnTime s t ∧ s.glk[l].state = .identify ∧
      s.glk[l].step = 1 ∧ s.glk[l].cmdSeq = (q.val + 1) % 16 ∧ t < s.glk[l].sent + 16000) ∧
    (∃ (t : Tick) (l : Fin 12) (q : Fin 16) (s : State), OnTime s t ∧ linkCarries s.glk[l] = true ∧
      s.glk[l].cmdBusy = true ∧ s.glk[l].cmdDue = none ∧ s.glk[l].cmdSeq = (q.val + 1) % 16 ∧ t <
      s.glk[l].cmdSent + 16000) ∧
    (∃ (t : Tick) (l : Fin 12) (s : State), OnTime s t ∧ s.glk[l].since + 1600000 ≤ t ∧
      s.glk[l].state = .align) ∧
    (∃ (t : Tick) (l : Fin 12) (s : State), OnTime s t ∧ s.glk[l].since + 1600000 ≤ t ∧
      s.glk[l].state = .sync) ∧
    (∃ (t : Tick) (l : Fin 12) (s : State), OnTime s t ∧ (s.glk[l].state = .measure ∨ s.glk[l].state
      = .identify ∨ s.glk[l].state = .configure) ∧ s.glk[l].sent + 16000 ≤ t) ∧
    (∃ (t : Tick) (l : Fin 12) (s : State), OnTime s t ∧ linkCarries s.glk[l] = true ∧
      s.glk[l].cmdBusy = true ∧ s.glk[l].cmdDue = none ∧ s.glk[l].cmdSent + 16000 ≤ t) ∧
    (∃ (t : Tick) (l : Fin 12) (s : State), OnTime s t ∧ s.glk[l].state = .up ∧ s.glk[l].lastStatus
      + 48000 ≤ t) ∧
    (∃ (t : Tick) (l : Fin 12) (s : State), OnTime s t ∧ s.glk[l].state = .up) ∧
    (∃ (t : Tick) (l : Fin 12) (s : State), OnTime s t ∧ s.glk[l].state = .up) ∧
    (∃ (t : Tick) (l : Fin 12) (g : Fin 4) (s : State), OnTime s t ∧ linkGroup s l = some g) := by
  refine ⟨
    ⟨17600000, 3, { s0 with glk := s0.glk.set 3 { s0.glk[3] with state := .align, cmdSeq := 15, since := 17000000 } }, ?_⟩,
    ⟨16001000, 3, 3, { s0 with glk := s0.glk.set 3 { s0.glk[3] with state := .measure, step := 3, sent := 16000000, trips := [5] } }, ?_⟩,
    ⟨17600000, 3, 15, { s0 with glk := s0.glk.set 3 { s0.glk[3] with state := .measure, step := 0, cmdSeq := 0, sent := 17599000 } }, ?_⟩,
    ⟨17600000, 3, 1, { (wr s0 [(0x400C01C0, 0x4000000), (0x400C01C4, 0x5)]) with glk := s0.glk.set 3 { s0.glk[3] with state := .identify, hubId := 5, step := 1, cmdSeq := 2, sent := 17599000 } }, ?_⟩,
    ⟨17600000, 3, 1, { s0 with glk := s0.glk.set 3 { s0.glk[3] with state := .up, cmdBusy := true, cmdFly := true, cmdSeq := 2, cmdSent := 17599000 } }, ?_⟩,
    ⟨17600000, 3, { s0 with glk := s0.glk.set 3 { s0.glk[3] with state := .align, since := 16000000 } }, ?_⟩,
    ⟨17600000, 3, { s0 with glk := s0.glk.set 3 { s0.glk[3] with state := .sync, since := 16000000 } }, ?_⟩,
    ⟨17600000, 3, { s0 with glk := s0.glk.set 3 { s0.glk[3] with state := .configure, sent := 16000000 } }, ?_⟩,
    ⟨17600000, 3, { s0 with glk := s0.glk.set 3 { s0.glk[3] with state := .up, cmdBusy := true, cmdSent := 16000000 } }, ?_⟩,
    ⟨17600000, 3, { s0 with glk := s0.glk.set 3 { s0.glk[3] with state := .up, queue := [⟨16001000, 1, 7, []⟩], lastStatus := 16000000 } }, ?_⟩,
    ⟨17600000, 3, { s0 with glk := s0.glk.set 3 { s0.glk[3] with state := .up, queue := [⟨16001000, 1, 7, []⟩], lastStatus := 16000000 } }, ?_⟩,
    ⟨17600000, 3, { s0 with glk := s0.glk.set 3 { s0.glk[3] with state := .up, queue := [⟨16001000, 1, 7, []⟩], lastStatus := 16000000 } }, ?_⟩,
    ⟨17600000, 3, 1, { (wr s0 [(0x400C01C0, 0x88000000)]) with glk := s0.glk.set 3 { s0.glk[3] with state := .failed } }, ?_⟩⟩
  all_goals first | decide +kernel | (dsimp only [Canonical, OnTime, Issues, Offered, Quiet]; decide +kernel)

theorem witness_GateLinkExchange :
    (∃ (t : Tick) (l : Fin 12) (v : Word32) (s : State), OnTime s t ∧ v.getLsbD 31 = true ∧
      s.glk[l].cmdBusy = false ∧ linkCarries s.glk[l] = true ∧ s.glk[l].busyTo ≤ t ∧ (v.getLsbD 7 =
      true ∨ s.boot.locked = false ∨ 0x20 ≤ v.toNat % 128) ∧ s.glk[l].armDue = false ∧ edgeReady
      (s.at t) l = false ∧ s.glk[l].lossDue = false) ∧
    (∃ (t : Tick) (l : Fin 12) (v : Word32) (s : State), Quiet s t ∧ v.getLsbD 31 = true ∧
      s.glk[l].cmdBusy = true) ∧
    (∃ (t : Tick) (l : Fin 12) (v : Word32) (s : State), Quiet s t ∧ v.getLsbD 31 = true ∧ v.getLsbD
      7 = false ∧ v.toNat % 128 < 0x20 ∧ s.glk[l].cmdBusy = false ∧ s.boot.locked = true) ∧
    (∃ (t : Tick) (l : Fin 12) (v : Word32) (s : State), Quiet s t ∧ v.getLsbD 31 = true ∧
      linkCarries s.glk[l] = false ∧ s.glk[l].cmdBusy = false) ∧
    (∃ (t : Tick) (v : Word32) (s : State), Quiet s t ∧ v.getLsbD 31 = false) := by
  refine ⟨
    ⟨17600000, 3, 0x80000025, { s0 with glk := s0.glk.set 3 { s0.glk[3] with state := .up, cmdSeq := 15, cmdData := 0x12345 } }, ?_⟩,
    ⟨17600000, 3, 0x800000A5, { s0 with glk := s0.glk.set 3 { s0.glk[3] with state := .up, cmdSeq := 15, cmdBusy := true } }, ?_⟩,
    ⟨17600000, 3, 0x80000015, { s0 with glk := s0.glk.set 3 { s0.glk[3] with state := .up, cmdSeq := 15 }, boot := { s0.boot with locked := true } }, ?_⟩,
    ⟨17600000, 3, 0x80000025, { s0 with glk := s0.glk.set 3 { s0.glk[3] with state := .align, cmdSeq := 15, cmdData := 0x12345 } }, ?_⟩,
    ⟨17600000, 0x00000025, { s0 with glk := s0.glk.set 3 { s0.glk[3] with state := .up, cmdSeq := 15, cmdData := 0x12345 } }, ?_⟩⟩
  all_goals first | decide +kernel | (dsimp only [Canonical, OnTime, Issues, Offered, Quiet]; decide +kernel)

theorem witness_GateModes :
    (∃ (t : Tick) (c : Cmd) (s : State), OnTime s t ∧ Offered s c 0x01 ∧ c.target = 0 ∧ 0 ≤ c.arg 1
      ∧ c.arg 1 ≤ 4 ∧ ((c.arg 1 = 2 → c.path.blaze.isSome = true)) ∧ s.pba.mode ≠ .drive ∧
      s.pba.mode ≠ .charge ∧ reachable s.pba.mode (modeOf (c.arg 1)) = true ∧ modeCond s (modeOf
      (c.arg 1)) = true ∧ (modeOf (c.arg 1) = .standby ∨ modeOf (c.arg 1) = .off ∨ domainsReady s =
      true)) ∧
    (∃ (t : Tick) (c : Cmd) (s : State), OnTime s t ∧ Offered s c 0x01 ∧ c.target = 0 ∧ 0 ≤ c.arg 1
      ∧ c.arg 1 ≤ 4 ∧ ((c.arg 1 = 2 → c.path.blaze.isSome = true)) ∧ reachable s.pba.mode (modeOf
      (c.arg 1)) = false) ∧
    (∃ (t : Tick) (c : Cmd) (s : State), OnTime s t ∧ Offered s c 0x01 ∧ c.arg 1 = 2 ∧ c.path.blaze
      = none) ∧
    (∃ (t : Tick) (m : Fin 2) (c : Cmd) (s : State), OnTime s t ∧ Offered s c 0x01 ∧ c.target = 0 ∧
      c.arg 1 = 1 ∧ s.pba.mode = .drive ∧ modeCond s .standby = true ∧ machOn s m = true ∧
      (s.trx.m[m].state = .run ∨ s.trx.m[m].state = .fly)) ∧
    (∃ (t : Tick) (c : Cmd) (s : State), OnTime s t ∧ Offered s c 0x60 ∧ c.path.blaze.isSome = true
      ∧ c.target = 0 ∧ c.arg 1 = 1 ∧ s.pba.mode = .safeHold ∧ s.rng.failed = false ∧ allGone s =
      true ∧ axleStill s = true) ∧
    (∃ (t : Tick) (i : Fin 64) (c : Cmd) (s : State), OnTime s t ∧ Offered s c 0x60 ∧ c.path.blaze =
      some i ∧ blzCpeerPeer s i = rngResetauthId s ∧ c.target = 0 ∧ c.arg 1 = 2 ∧ s.pba.mode =
      .lockout ∧ s.rng.lock = .locked ∧ s.rng.failed = false ∧ allGone s = true ∧ axleStill s = true
      ∧ s.rng.safeReset = false) ∧
    (∃ (t : Tick) (c : Cmd) (s : State), OnTime s t ∧ Offered s c 0x50 ∧ c.path.blaze.isSome = true
      ∧ c.target = 0 ∧ 1 ≤ c.arg 1 ∧ c.arg 1 ≤ 3 ∧ modeIn s [.standby, .drive, .service] = true ∧
      s.rng.failed = false ∧ ((∀ a ∈ s.rng.active, rngActBrake s a.row = 0))) ∧
    (∃ (t : Tick) (c : Cmd) (s : State), OnTime s t ∧ Offered s c 0x51 ∧ c.path.blaze.isSome = true
      ∧ c.target = 0 ∧ s.pba.mode = .service ∧ s.rng.failed = false ∧ axleStill s = true ∧
      brakesSound s = true ∧ torqueOk s (machines s) (c.arg 1) = true) ∧
    (∃ (t : Tick) (c : Cmd) (s : State), OnTime s t ∧ Offered s c 0x01 ∧ c.target = 0 ∧ 2 ≤ c.arg 1
      ∧ c.arg 1 ≤ 4 ∧ ((c.arg 1 = 2 → c.path.blaze.isSome = true)) ∧ s.pba.mode = .standby ∧
      modeCond s (modeOf (c.arg 1)) = true ∧ domainsReady s = false) ∧
    (∃ (t : Tick) (c : Cmd) (s : State), OnTime s t ∧ Offered s c 0x01 ∧ c.target = 0 ∧ c.arg 1 = 1
      ∧ s.pba.mode = .drive ∧ modeCond s .standby = true ∧ ((∀ m ∈ machines s, s.trx.m[m].state ≠
      .run ∧ s.trx.m[m].state ≠ .fly ∧ s.trx.m[m].state ≠ .exit))) ∧
    (∃ (t : Tick) (c : Cmd) (s : State), OnTime s t ∧ Offered s c 0x01 ∧ c.target = 0 ∧ c.arg 1 = 1
      ∧ s.pba.mode = .charge) ∧
    (∃ (t : Tick) (c : Cmd) (s : State), OnTime s t ∧ Offered s c 0x51 ∧ c.path.blaze.isSome = true
      ∧ c.target = 0 ∧ s.pba.mode = .service ∧ s.rng.failed = false ∧ axleStill s = true ∧ ((∀ n :
      Fin 2, s.sbc.ch[n].energised = false)) ∧ (∃ n : Fin 2, s.sbc.ch[n].faults ≠ 0) ∧ torqueOk s
      (machines s) (c.arg 1) = true) := by
  refine ⟨
    ⟨17600000, (⟨⟨false, 2, 0x123, none⟩, 16000000, [1, 0, 52, 18, 1, 0, 0, 0, 0, 0, 0, 0, 0, 0, 0, 0]⟩), { (wr s0 [(0x400F0004, 0x320000), (0x400F0200, 0x8212307F)]) with pba := { s0.pba with queue := [⟨⟨false, 2, 0x123, none⟩, 16000000, [1, 0, 52, 18, 1, 0, 0, 0, 0, 0, 0, 0, 0, 0, 0, 0]⟩, ⟨⟨true, 1, 9, none⟩, 16000001, [0x10, 0, 0]⟩], volts := 60 } }, ?_⟩,
    ⟨17600000, (⟨⟨false, 2, 0x123, none⟩, 16000000, [1, 0, 52, 18, 3, 0, 0, 0, 0, 0, 0, 0, 0, 0, 0, 0]⟩), { (wr s0 [(0x400F0200, 0x8212307F)]) with pba := { s0.pba with queue := [⟨⟨false, 2, 0x123, none⟩, 16000000, [1, 0, 52, 18, 3, 0, 0, 0, 0, 0, 0, 0, 0, 0, 0, 0]⟩, ⟨⟨true, 1, 9, none⟩, 16000001, [0x10, 0, 0]⟩], mode := .drive } }, ?_⟩,
    ⟨17600000, (⟨⟨false, 2, 0x123, none⟩, 16000000, [1, 0, 52, 18, 2, 0, 0, 0, 0, 0, 0, 0, 0, 0, 0, 0]⟩), { (wr s0 [(0x400F0200, 0x8212307F)]) with pba := { s0.pba with queue := [⟨⟨false, 2, 0x123, none⟩, 16000000, [1, 0, 52, 18, 2, 0, 0, 0, 0, 0, 0, 0, 0, 0, 0, 0]⟩, ⟨⟨true, 1, 9, none⟩, 16000001, [0x10, 0, 0]⟩], mode := .standby } }, ?_⟩,
    ⟨17600000, 1, (⟨⟨false, 2, 0x123, none⟩, 16000000, [1, 0, 52, 18, 1, 0, 0, 0, 0, 0, 0, 0, 0, 0, 0, 0]⟩), { (wr s0 [(0x40090000, 0x2), (0x40090108, 0x640000), (0x40090188, 0x640000), (0x400F0200, 0x8212307F)]) with pba := { s0.pba with queue := [⟨⟨false, 2, 0x123, none⟩, 16000000, [1, 0, 52, 18, 1, 0, 0, 0, 0, 0, 0, 0, 0, 0, 0, 0]⟩, ⟨⟨true, 1, 9, none⟩, 16000001, [0x10, 0, 0]⟩], mode := .drive }, trx := { s0.trx with m := s0.trx.m.set 1 { s0.trx.m[1] with state := .fly, speedMode := true, tdem := 50 } } }, ?_⟩,
    ⟨17600000, (⟨⟨false, 2, 0x123, some 5⟩, 16000000, [96, 0, 52, 18, 1, 0, 0, 0, 0, 0, 0, 0, 0, 0, 0, 0]⟩), { (wr s0 [(0x400F0004, 0x32), (0x400F0200, 0x8212307F)]) with pba := { s0.pba with queue := [⟨⟨false, 2, 0x123, some 5⟩, 16000000, [96, 0, 52, 18, 1, 0, 0, 0, 0, 0, 0, 0, 0, 0, 0, 0]⟩, ⟨⟨true, 1, 9, none⟩, 16000001, [0x10, 0, 0]⟩], mode := .safeHold, volts := 60 } }, ?_⟩,
    ⟨17600000, 5, (⟨⟨false, 2, 0x123, some 5⟩, 16000000, [96, 0, 52, 18, 2, 0, 0, 0, 0, 0, 0, 0, 0, 0, 0, 0]⟩), { (wr s0 [(0x400F0200, 0x8212307F), (0x70000008, 0x4D), (0x700101A4, 0x4D)]) with pba := { s0.pba with queue := [⟨⟨false, 2, 0x123, some 5⟩, 16000000, [96, 0, 52, 18, 2, 0, 0, 0, 0, 0, 0, 0, 0, 0, 0, 0]⟩, ⟨⟨true, 1, 9, none⟩, 16000001, [0x10, 0, 0]⟩], mode := .lockout }, rng := { s0.rng with lock := .locked } }, ?_⟩,
    ⟨17600000, (⟨⟨false, 2, 0x123, some 5⟩, 16000000, [80, 0, 52, 18, 2, 0, 0, 0, 0, 0, 0, 0, 0, 0, 0, 0]⟩), { (wr s0 [(0x400F0200, 0x8212307F)]) with pba := { s0.pba with queue := [⟨⟨false, 2, 0x123, some 5⟩, 16000000, [80, 0, 52, 18, 2, 0, 0, 0, 0, 0, 0, 0, 0, 0, 0, 0]⟩, ⟨⟨true, 1, 9, none⟩, 16000001, [0x10, 0, 0]⟩], mode := .standby } }, ?_⟩,
    ⟨17600000, (⟨⟨false, 2, 0x123, some 5⟩, 16000000, [81, 0, 52, 18, 0, 0, 0, 0, 0, 0, 0, 0, 0, 0, 0, 0]⟩), { (wr s0 [(0x40090000, 0x1), (0x4009000C, 0x9), (0x40090104, 0x12C0000), (0x400F0200, 0x8212307F)]) with pba := { s0.pba with queue := [⟨⟨false, 2, 0x123, some 5⟩, 16000000, [81, 0, 52, 18, 0, 0, 0, 0, 0, 0, 0, 0, 0, 0, 0, 0]⟩, ⟨⟨true, 1, 9, none⟩, 16000001, [0x10, 0, 0]⟩], mode := .service }, trx := { s0.trx with m := s0.trx.m.set 0 { s0.trx.m[0] with standstill := true } } }, ?_⟩,
    ⟨17600000, (⟨⟨false, 2, 0x123, none⟩, 16000000, [1, 0, 52, 18, 4, 0, 0, 0, 0, 0, 0, 0, 0, 0, 0, 0]⟩), { (wr s0 [(0x40070000, 0x80000000), (0x400F0200, 0x8212307F)]) with pba := { s0.pba with queue := [⟨⟨false, 2, 0x123, none⟩, 16000000, [1, 0, 52, 18, 4, 0, 0, 0, 0, 0, 0, 0, 0, 0, 0, 0]⟩, ⟨⟨true, 1, 9, none⟩, 16000001, [0x10, 0, 0]⟩], mode := .standby }, sys := { s0.sys with dom := Vector.replicate 10 .off } }, ?_⟩,
    ⟨17600000, (⟨⟨false, 2, 0x123, none⟩, 16000000, [1, 0, 52, 18, 1, 0, 0, 0, 0, 0, 0, 0, 0, 0, 0, 0]⟩), { (wr s0 [(0x400F0200, 0x8212307F)]) with pba := { s0.pba with queue := [⟨⟨false, 2, 0x123, none⟩, 16000000, [1, 0, 52, 18, 1, 0, 0, 0, 0, 0, 0, 0, 0, 0, 0, 0]⟩, ⟨⟨true, 1, 9, none⟩, 16000001, [0x10, 0, 0]⟩], mode := .drive } }, ?_⟩,
    ⟨17600000, (⟨⟨false, 2, 0x123, none⟩, 16000000, [1, 0, 52, 18, 1, 0, 0, 0, 0, 0, 0, 0, 0, 0, 0, 0]⟩), { (wr s0 [(0x400F0200, 0x8212307F)]) with pba := { s0.pba with queue := [⟨⟨false, 2, 0x123, none⟩, 16000000, [1, 0, 52, 18, 1, 0, 0, 0, 0, 0, 0, 0, 0, 0, 0, 0]⟩, ⟨⟨true, 1, 9, none⟩, 16000001, [0x10, 0, 0]⟩], mode := .charge } }, ?_⟩,
    ⟨17600000, (⟨⟨false, 2, 0x123, some 5⟩, 16000000, [81, 0, 52, 18, 0, 0, 0, 0, 0, 0, 0, 0, 0, 0, 0, 0]⟩), { (wr s0 [(0x400F0200, 0x8212307F)]) with pba := { s0.pba with queue := [⟨⟨false, 2, 0x123, some 5⟩, 16000000, [81, 0, 52, 18, 0, 0, 0, 0, 0, 0, 0, 0, 0, 0, 0, 0]⟩, ⟨⟨true, 1, 9, none⟩, 16000001, [0x10, 0, 0]⟩], mode := .service }, trx := { s0.trx with m := Vector.replicate 2 { standstill := true } }, sbc := { s0.sbc with ch := s0.sbc.ch.set 1 { s0.sbc.ch[1] with faults := 4 } } }, ?_⟩⟩
  all_goals first | decide +kernel | (dsimp only [Canonical, OnTime, Issues, Offered, Quiet]; decide +kernel)

theorem witness_GateRequests :
    (∃ (t : Tick) (m : Fin 2) (ms : List (Fin 2)) (c : Cmd) (s : State), OnTime s t ∧ Offered s c
      0x10 ∧ s.pba.mode = .drive ∧ reach s c.target = m :: ms ∧ torqueOk s (m :: ms) (c.arg 1) =
      true) ∧
    (∃ (t : Tick) (m : Fin 2) (ms : List (Fin 2)) (c : Cmd) (s : State), OnTime s t ∧ Offered s c
      0x11 ∧ s.pba.mode = .drive ∧ reach s c.target = m :: ms ∧ (c.arg 1).natAbs ≤ 240000) ∧
    (∃ (t : Tick) (c : Cmd) (s : State), Quiet s t ∧ s.pba.mode ≠ .drive ∧ Offered s c 0x10) ∧
    (∃ (t : Tick) (c : Cmd) (s : State), Quiet s t ∧ s.pba.mode ≠ .drive ∧ Offered s c 0x11) ∧
    (∃ (t : Tick) (c : Cmd) (s : State), OnTime s t ∧ Offered s c 0x20 ∧ c.target = 0 ∧ s.pba.mode =
      .charge ∧ s.chg.state = .idle) ∧
    (∃ (t : Tick) (c : Cmd) (s : State), OnTime s t ∧ Offered s c 0x21 ∧ c.target = 0 ∧ s.pba.mode =
      .charge ∧ s.chg.state.session = true) ∧
    (∃ (t : Tick) (c : Cmd) (s : State), Quiet s t ∧ Offered s c 0x22 ∧ c.target = 0 ∧ modeIn s
      [.standby, .charge] = true ∧ 0 ≤ c.arg 1 ∧ c.arg 1 ≤ (chgMaxImax s : Nat) ∧ (chgVminVmin s :
      Nat) ≤ c.arg 2 ∧ c.arg 2 ≤ (chgMaxVmax s : Nat)) ∧
    (∃ (t : Tick) (c : Cmd) (s : State), OnTime s t ∧ Offered s c 0x30 ∧ c.target = 0 ∧ modeIn s
      [.standby, .drive, .charge, .service, .safeHold] = true ∧ s.dcc.state = .idle ∧ 0 < c.arg 1 ∧
      (dccLimitsVminMv s : Nat) ≤ c.arg 1 ∧ c.arg 1 ≤ (dccLimitsVmaxMv s : Nat) ∧ 0 ≤ c.arg 2 ∧
      c.arg 2 ≤ 65535) ∧
    (∃ (t : Tick) (b : Fin 3) (c : Cmd) (s : State), Quiet s t ∧ Offered s c 0x40 ∧ c.target = 0 ∧
      bridgeOf s 2 = some b ∧ 0 ≤ c.arg 1 ∧ c.arg 1 ≤ 7 ∧ c.arg 1 ≤ (axbMotorTopGear s b : Nat) ∧
      (modeIn s [.standby, .service] = true ∨ (s.pba.mode = .drive ∧ ∀ m : Fin 2, s.trx.m[m].treq =
      0))) ∧
    (∃ (t : Tick) (b : Fin 3) (c : Cmd) (s : State), Quiet s t ∧ Offered s c 0x41 ∧ c.target = 0 ∧
      bridgeOf s 3 = some b ∧ s.pba.mode ≠ .lockout ∧ ((c.arg 1 = 1 ∧ (s.pba.mode = .drive →
      axleStill s = true)) ∨ (c.arg 1 = 0 ∧ s.pba.mode ≠ .safeHold))) ∧
    (∃ (t : Tick) (b : Fin 3) (c : Cmd) (s : State), Quiet s t ∧ Offered s c 0x42 ∧ c.target = b.val
      ∧ s.pba.mode ≠ .lockout ∧ axbCtlRole s b = 1 ∧ 0 ≤ c.arg 1 ∧ c.arg 1 ≤ (axbMotorMaxRpm s b :
      Nat)) ∧
    (∃ (t : Tick) (c : Cmd) (s : State), OnTime s t ∧ Offered s c 0x30 ∧ c.target = 0 ∧ modeIn s
      [.standby, .drive, .charge, .service, .safeHold] = true ∧ 0 ≤ c.arg 2 ∧ c.arg 2 ≤ 65535 ∧
      c.arg 1 = 0 ∧ (s.dcc.state = .run ∨ s.dcc.state = .softStart)) ∧
    (∃ (t : Tick) (c : Cmd) (s : State), OnTime s t ∧ Offered s c 0x30 ∧ c.target = 0 ∧ modeIn s
      [.standby, .drive, .charge, .service, .safeHold] = true ∧ 0 ≤ c.arg 2 ∧ c.arg 2 ≤ 65535 ∧
      (dccLimitsVminMv s : Nat) ≤ c.arg 1 ∧ c.arg 1 ≤ (dccLimitsVmaxMv s : Nat) ∧ 0 < c.arg 1 ∧
      s.dcc.state = .run ∧ c.arg 1 ≠ ((s.dcc.vref + 500) / 1000 : Nat)) := by
  refine ⟨
    ⟨17600000, 0, [1], (⟨⟨false, 2, 0x123, none⟩, 16000000, [16, 0, 52, 18, 201, 255, 255, 255, 0, 0, 0, 0, 0, 0, 0, 0]⟩), { (wr s0 [(0x40090000, 0x2), (0x40090104, 0x12C0000), (0x40090184, 0x12C0000), (0x400F0200, 0x8212307F)]) with pba := { s0.pba with queue := [⟨⟨false, 2, 0x123, none⟩, 16000000, [16, 0, 52, 18, 201, 255, 255, 255, 0, 0, 0, 0, 0, 0, 0, 0]⟩, ⟨⟨true, 1, 9, none⟩, 16000001, [0x10, 0, 0]⟩], mode := .drive }, trx := { s0.trx with m := s0.trx.m.set 1 { s0.trx.m[1] with state := .run, tdem := 50, speedMode := true } } }, ?_⟩,
    ⟨17600000, 0, [1], (⟨⟨false, 2, 0x123, none⟩, 16000000, [17, 0, 52, 18, 201, 255, 255, 255, 0, 0, 0, 0, 0, 0, 0, 0]⟩), { (wr s0 [(0x40090000, 0x2), (0x40090104, 0x12C0000), (0x40090184, 0x12C0000), (0x400F0200, 0x8212307F)]) with pba := { s0.pba with queue := [⟨⟨false, 2, 0x123, none⟩, 16000000, [17, 0, 52, 18, 201, 255, 255, 255, 0, 0, 0, 0, 0, 0, 0, 0]⟩, ⟨⟨true, 1, 9, none⟩, 16000001, [0x10, 0, 0]⟩], mode := .drive }, trx := { s0.trx with m := s0.trx.m.set 1 { s0.trx.m[1] with state := .run, tdem := 50 } } }, ?_⟩,
    ⟨17600000, (⟨⟨false, 2, 0x123, none⟩, 16000000, [16, 0, 52, 18, 201, 255, 255, 255, 0, 0, 0, 0, 0, 0, 0, 0]⟩), { (wr s0 [(0x400F0200, 0x8212307F)]) with pba := { s0.pba with queue := [⟨⟨false, 2, 0x123, none⟩, 16000000, [16, 0, 52, 18, 201, 255, 255, 255, 0, 0, 0, 0, 0, 0, 0, 0]⟩, ⟨⟨true, 1, 9, none⟩, 16000001, [0x10, 0, 0]⟩], mode := .standby } }, ?_⟩,
    ⟨17600000, (⟨⟨false, 2, 0x123, none⟩, 16000000, [17, 0, 52, 18, 201, 255, 255, 255, 0, 0, 0, 0, 0, 0, 0, 0]⟩), { (wr s0 [(0x400F0200, 0x8212307F)]) with pba := { s0.pba with queue := [⟨⟨false, 2, 0x123, none⟩, 16000000, [17, 0, 52, 18, 201, 255, 255, 255, 0, 0, 0, 0, 0, 0, 0, 0]⟩, ⟨⟨true, 1, 9, none⟩, 16000001, [0x10, 0, 0]⟩], mode := .standby } }, ?_⟩,
    ⟨17600000, (⟨⟨false, 2, 0x123, none⟩, 16000000, [32, 0, 52, 18, 0, 0, 0, 0, 0, 0, 0, 0, 0, 0, 0, 0]⟩), { (wr s0 [(0x400F0200, 0x8212307F)]) with pba := { s0.pba with queue := [⟨⟨false, 2, 0x123, none⟩, 16000000, [32, 0, 52, 18, 0, 0, 0, 0, 0, 0, 0, 0, 0, 0, 0, 0]⟩, ⟨⟨true, 1, 9, none⟩, 16000001, [0x10, 0, 0]⟩], mode := .charge }, chg := { s0.chg with ilim := 5, term := 4 } }, ?_⟩,
    ⟨17600000, (⟨⟨false, 2, 0x123, none⟩, 16000000, [33, 0, 52, 18, 0, 0, 0, 0, 0, 0, 0, 0, 0, 0, 0, 0]⟩), { (wr s0 [(0x400F0200, 0x8212307F)]) with pba := { s0.pba with queue := [⟨⟨false, 2, 0x123, none⟩, 16000000, [33, 0, 52, 18, 0, 0, 0, 0, 0, 0, 0, 0, 0, 0, 0, 0]⟩, ⟨⟨true, 1, 9, none⟩, 16000001, [0x10, 0, 0]⟩], mode := .charge }, chg := { s0.chg with state := .cc } }, ?_⟩,
    ⟨17600000, (⟨⟨false, 2, 0x123, none⟩, 16000000, [34, 0, 52, 18, 244, 1, 0, 0, 160, 15, 0, 0, 0, 0, 0, 0]⟩), { (wr s0 [(0x400F0200, 0x8212307F), (0x6006001C, 0x1F40FA0), (0x60060020, 0xBB80000)]) with pba := { s0.pba with queue := [⟨⟨false, 2, 0x123, none⟩, 16000000, [34, 0, 52, 18, 244, 1, 0, 0, 160, 15, 0, 0, 0, 0, 0, 0]⟩, ⟨⟨true, 1, 9, none⟩, 16000001, [0x10, 0, 0]⟩], mode := .standby } }, ?_⟩,
    ⟨17600000, (⟨⟨false, 2, 0x123, none⟩, 16000000, [48, 0, 52, 18, 224, 46, 0, 0, 100, 0, 0, 0, 0, 0, 0, 0]⟩), { (wr s0 [(0x400F0200, 0x8212307F), (0x60040014, 0x3A982328)]) with pba := { s0.pba with queue := [⟨⟨false, 2, 0x123, none⟩, 16000000, [48, 0, 52, 18, 224, 46, 0, 0, 100, 0, 0, 0, 0, 0, 0, 0]⟩, ⟨⟨true, 1, 9, none⟩, 16000001, [0x10, 0, 0]⟩], mode := .standby } }, ?_⟩,
    ⟨17600000, 2, (⟨⟨false, 2, 0x123, none⟩, 16000000, [64, 0, 52, 18, 3, 0, 0, 0, 0, 0, 0, 0, 0, 0, 0, 0]⟩), { (wr s0 [(0x400F0200, 0x8212307F), (0x60030200, 0x40000000), (0x60030204, 0x500)]) with pba := { s0.pba with queue := [⟨⟨false, 2, 0x123, none⟩, 16000000, [64, 0, 52, 18, 3, 0, 0, 0, 0, 0, 0, 0, 0, 0, 0, 0]⟩, ⟨⟨true, 1, 9, none⟩, 16000001, [0x10, 0, 0]⟩], mode := .standby }, axb := { s0.axb with b := s0.axb.b.set 2 { s0.axb.b[2] with cmdCount := 15 } } }, ?_⟩,
    ⟨17600000, 1, (⟨⟨false, 2, 0x123, none⟩, 16000000, [65, 0, 52, 18, 0, 0, 0, 0, 0, 0, 0, 0, 0, 0, 0, 0]⟩), { (wr s0 [(0x400F0200, 0x8212307F), (0x60030180, 0x60000000)]) with pba := { s0.pba with queue := [⟨⟨false, 2, 0x123, none⟩, 16000000, [65, 0, 52, 18, 0, 0, 0, 0, 0, 0, 0, 0, 0, 0, 0, 0]⟩, ⟨⟨true, 1, 9, none⟩, 16000001, [0x10, 0, 0]⟩], mode := .standby }, axb := { s0.axb with b := s0.axb.b.set 1 { s0.axb.b[1] with cmdCount := 15 } } }, ?_⟩,
    ⟨17600000, 1, (⟨⟨false, 2, 0x123, none⟩, 16000000, [66, 1, 52, 18, 232, 3, 0, 0, 0, 0, 0, 0, 0, 0, 0, 0]⟩), { (wr s0 [(0x400F0200, 0x8212307F), (0x60030180, 0x20000000), (0x60030184, 0x3E80000)]) with pba := { s0.pba with queue := [⟨⟨false, 2, 0x123, none⟩, 16000000, [66, 1, 52, 18, 232, 3, 0, 0, 0, 0, 0, 0, 0, 0, 0, 0]⟩, ⟨⟨true, 1, 9, none⟩, 16000001, [0x10, 0, 0]⟩], mode := .safeHold }, axb := { s0.axb with b := s0.axb.b.set 1 { s0.axb.b[1] with cmdCount := 15 } } }, ?_⟩,
    ⟨17600000, (⟨⟨false, 2, 0x123, none⟩, 16000000, [48, 0, 52, 18, 0, 0, 0, 0, 100, 0, 0, 0, 0, 0, 0, 0]⟩), { (wr s0 [(0x400F0200, 0x8212307F), (0x60040014, 0x3A982328)]) with pba := { s0.pba with queue := [⟨⟨false, 2, 0x123, none⟩, 16000000, [48, 0, 52, 18, 0, 0, 0, 0, 100, 0, 0, 0, 0, 0, 0, 0]⟩, ⟨⟨true, 1, 9, none⟩, 16000001, [0x10, 0, 0]⟩], mode := .drive }, dcc := { s0.dcc with state := .run } }, ?_⟩,
    ⟨17600000, (⟨⟨false, 2, 0x123, none⟩, 16000000, [48, 0, 52, 18, 224, 46, 0, 0, 100, 0, 0, 0, 0, 0, 0, 0]⟩), { (wr s0 [(0x400F0200, 0x8212307F), (0x60040014, 0x3A982328)]) with pba := { s0.pba with queue := [⟨⟨false, 2, 0x123, none⟩, 16000000, [48, 0, 52, 18, 224, 46, 0, 0, 100, 0, 0, 0, 0, 0, 0, 0]⟩, ⟨⟨true, 1, 9, none⟩, 16000001, [0x10, 0, 0]⟩], mode := .drive }, dcc := { s0.dcc with state := .run } }, ?_⟩⟩
  all_goals first | decide +kernel | (dsimp only [Canonical, OnTime, Issues, Offered, Quiet]; decide +kernel)

theorem witness_PowerArbiter :
    (∃ (t : Tick) (s : State), OnTime s t ∧ t % 1600000 = 0 ∧ s.pba.cycle ≠ t ∧ s.pba.stale = false
      ∧ t < s.pba.limStamp + staleMs s * 1600000 ∧ s.pba.limStamp < t ∧ s.pba.mode ≠ .charge ∧ ((∀ n
      : Fin 7, 0 ≤ s.pba.req[n] ∧ heldOff s n = false))) ∧
    (∃ (t : Tick) (s : State), OnTime s t ∧ s.pba.stale = false ∧ s.pba.limStamp + staleMs s *
      1600000 ≤ t) ∧
    (∃ (t : Tick) (x : Tick) (s : State), OnTime s t ∧ s.pba.hvLow = some x ∧ s.pba.mode = .standby
      ∧ x + 16000000 ≤ t) ∧
    (∃ (t : Tick) (s : State), OnTime s t) ∧
    (∃ (t : Tick) (s : State), OnTime s t) ∧
    (∃ (t : Tick) (s : State), OnTime s t ∧ t % 1600000 = 0 ∧ s.pba.cycle ≠ t) := by
  refine ⟨
    ⟨17600000, { (wr s0 [(0x400F0008, 0x14000000), (0x400F0028, 0x64)]) with pba := { s0.pba with mode := .drive, req := #v[150, 1000, 333, 50, 60, 70, 9], limDis := 900, limStamp := 16000000 } }, ?_⟩,
    ⟨24000000, { (wr s0 [(0x400F0008, 0x5000000)]) with pba := { s0.pba with limStamp := 16000000 } }, ?_⟩,
    ⟨40000000, 16000000, { s0 with pba := { s0.pba with hvLow := some 16000000, mode := .standby }, sbc := { s0.sbc with ch := s0.sbc.ch.set 1 { s0.sbc.ch[1] with energised := true } } }, ?_⟩,
    ⟨17600000, { s0 with pba := { s0.pba with stale := true, limChg := 3, limDis := 4 } }, ?_⟩,
    ⟨17600000, { s0 with pba := { s0.pba with stale := true, limChg := 3, limDis := 4 } }, ?_⟩,
    ⟨17600000, { (wr s0 [(0x400F0008, 0x14000000), (0x400F0028, 0x64)]) with pba := { s0.pba with mode := .charge, req := #v[150, -1000, 333, 50, -60, 70, 9], limDis := 900, limChg := 300, limStamp := 16000000 } }, ?_⟩⟩
  all_goals first | decide +kernel | (dsimp only [Canonical, OnTime, Issues, Offered, Quiet]; decide +kernel)

theorem witness_DieTiming :
    (∃ (t : Tick) (s : State), OnTime s t ∧ t % 1600 = 96) ∧
    (∃ (t : Tick) (s : State), OnTime s t ∧ s.clk.stale = false ∧ s.clk.lastBeacon + 6400 ≤ t) ∧
    (∃ (t : Tick) (s : State), OnTime s t) ∧
    (∃ (t : Tick) (s : State), OnTime s t ∧ t % 1600 = 0) ∧
    (∃ (t : Tick) (s : State), OnTime s t ∧ t % 1600000 = 0 ∧ s.rng.failed = false) := by
  refine ⟨
    ⟨16001696, { s0 with clk := { s0.clk with stale := true, power := 16000040 } }, ?_⟩,
    ⟨17600000, (s0), ?_⟩,
    ⟨17600000, (s0), ?_⟩,
    ⟨17600000, { (wr s0 [(0x40090000, 0x1), (0x40090100, 0x8000000), (0x400A0180, 0x80000064)]) with pos := { s0.pos with enc := s0.pos.enc.set 1 { s0.pos.enc[1] with omega := 0x4010000000000000 } } }, ?_⟩,
    ⟨17600000, { (wr s0 [(0x400C01C0, 0x88000000), (0x400C0200, 0x90000000)]) with glk := s0.glk.set 3 { s0.glk[3] with state := .up, lossP := 5 } }, ?_⟩⟩
  all_goals first | decide +kernel | (dsimp only [Canonical, OnTime, Issues, Offered, Quiet]; decide +kernel)

theorem witness_IslandReports :
    (∃ (t : Tick) (q : Report) (s : State), OnTime s t ∧ oldestRx s.rng.net = some q.rx ∧ batchOf
      q.rx s.rng.net = [q] ∧ q.rx ≤ t ∧ batchWaits s [q] = false ∧ s.rng.failed = false ∧
      s.rng.powered = true ∧ s.rng.test.step ≠ 3 ∧ s.boot.act.busy = false ∧ ((s.rng.lock = .none ∨
      s.rng.lock = .locked))) ∧
    (∃ (t : Tick) (g : Fin 4) (s : State), OnTime s t ∧ s.psp.set[g].inForce = true ∧
      s.psp.set[g].decided = false ∧ s.rng.failed = false ∧ s.psp.set[g].opened + 200 ≤ t ∧
      s.boot.act.busy = false) ∧
    (∃ (t : Tick) (x : Nat) (a : ActiveRow) (r : Fin 128) (s : State), OnTime s t ∧
      ((s.rng.active.find? fun y => y.row = r.val) = some a) ∧ a.goneSince = some x ∧ x + 160000000
      ≤ t ∧ rowMode s r = 0 ∧ rngActAuto s r = true ∧ rowGone s a = true ∧ s.rng.failed = false) ∧
    (∃ (t : Tick) (s : State), OnTime s t ∧ s.rng.failed = false ∧ s.boot.act.busy = false) ∧
    (∃ (t : Tick) (s : State), OnTime s t ∧ s.rng.failed = false ∧ s.rng.shutdown = false ∧
      s.boot.act.busy = false) ∧
    (∃ (t : Tick) (s : State), OnTime s t ∧ s.rng.shutdown = true ∧ s.rng.shutAt + 1600000 ≤ t) := by
  refine ⟨
    ⟨17600000, (⟨16000040, 0x10, 0xFF, 3, 0, 0⟩), { (wr s0 [(0x70000430, 0x90FFFEFF), (0x70000438, 0x1200000)]) with rng := { s0.rng with net := [⟨16000050, 0x11, 0xFF, 3, 0, 0⟩, ⟨16000040, 0x10, 0xFF, 3, 0, 0⟩] } }, ?_⟩,
    ⟨17600000, 1, { s0 with psp := { s0.psp with set := s0.psp.set.set 1 { s0.psp.set[1] with inForce := true, opened := 16000000, ch := 3, reports := 1, low := true } } }, ?_⟩,
    ⟨192000000, 16000000, (⟨3, [], some 16000000⟩), 3, { (wr s0 [(0x70000438, 0x80000)]) with rng := { s0.rng with active := [⟨2, [], none⟩, ⟨3, [], some 16000000⟩] } }, ?_⟩,
    ⟨17600000, { s0 with sbc := { s0.sbc with ch := s0.sbc.ch.set 1 { s0.sbc.ch[1] with energised := true } }, axb := { s0.axb with b := s0.axb.b.set 1 { s0.axb.b[1] with state := .run } } }, ?_⟩,
    ⟨17600000, { s0 with pba := { s0.pba with mode := .drive }, sbc := { s0.sbc with ch := s0.sbc.ch.set 1 { s0.sbc.ch[1] with energised := true } } }, ?_⟩,
    ⟨17600000, { s0 with rng := { s0.rng with shutdown := true, shutAt := 16000000 }, mem := [(0x10000000, 7)], boot := { s0.boot with locked := true, phase := 7 } }, ?_⟩⟩
  all_goals first | decide +kernel | (dsimp only [Canonical, OnTime, Issues, Offered, Quiet]; decide +kernel)

theorem witness_IslandMonitors :
    (∃ (t : Tick) (s : State), OnTime s t) ∧
    (∃ (t : Tick) (c : Fin 5) (s : State), OnTime s t ∧ s.rng.clock[c].run < 2) ∧
    (∃ (t : Tick) (s : State), OnTime s t) ∧
    (∃ (t : Tick) (s : State), OnTime s t ∧ s.rng.failed = false ∧ s.rng.powered = true ∧
      s.rng.aliveAt + 1600000 ≤ t) ∧
    (∃ (t : Tick) (s : State), Quiet s t ∧ s.rng.powered = false ∧ s.boot.released = true ∧
      s.rng.shutdown = false) ∧
    (∃ (t : Tick) (w : Word256) (ws : List Word256) (s : State), Quiet s t ∧ s.flog.waiting = w ::
      ws) ∧
    (∃ (t : Tick) (s : State), Quiet s t) := by
  refine ⟨
    ⟨17600000, { s0 with rng := { s0.rng with clock := Vector.replicate 5 { run := 3 } } }, ?_⟩,
    ⟨17600000, 3, (s0), ?_⟩,
    ⟨17600000, { s0 with rng := { s0.rng with supply := Vector.replicate 6 { run := 4 } } }, ?_⟩,
    ⟨17600000, (s0), ?_⟩,
    ⟨17600000, { s0 with rng := { s0.rng with powered := false }, boot := { s0.boot with released := true } }, ?_⟩,
    ⟨17600000, 77, [3], { s0 with flog := { s0.flog with waiting := [77, 3] } }, ?_⟩,
    ⟨17600000, { s0 with flog := { s0.flog with recs := [(0, 5)], pinned := true }, pba := { s0.pba with mode := .service } }, ?_⟩⟩
  all_goals first | decide +kernel | (dsimp only [Canonical, OnTime, Issues, Offered, Quiet]; decide +kernel)

theorem witness_SafeBrake :
    (∃ (t : Tick) (n : Fin 2) (s : State), OnTime s t ∧ s.sbc.ch[n].energised = true ∧ nextPulse s n
      ≤ t ∧ pulseOn (s.at t) n = false) ∧
    (∃ (t : Tick) (n : Fin 2) (v : Int) (s : State),
      let good := if s.sbc.ch[n].pulseHigh then v ≤ 20 else (s.sbc.vbrk : Int) - 20 ≤ v; OnTime s t
      ∧ s.sbc.ch[n].pulse = true ∧ pulseOn (s.at t) n = true ∧ s.sbc.ch[n].pulseAt + 32000 ≤ t ∧
      good) ∧
    (∃ (t : Tick) (n : Fin 2) (v : Int) (s : State),
      let good := if s.sbc.ch[n].pulseHigh then v ≤ 20 else (s.sbc.vbrk : Int) - 20 ≤ v; OnTime s t
      ∧ s.sbc.ch[n].pulse = true ∧ pulseOn (s.at t) n = true ∧ s.sbc.ch[n].pulseAt + 32000 ≤ t ∧
      ¬good ∧ s.sbc.ch[n].pulseFails = 0) ∧
    (∃ (t : Tick) (n : Fin 2) (v : Int) (s : State),
      let good := if s.sbc.ch[n].pulseHigh then v ≤ 20 else (s.sbc.vbrk : Int) - 20 ≤ v; OnTime s t
      ∧ s.sbc.ch[n].pulse = true ∧ pulseOn (s.at t) n = true ∧ s.sbc.ch[n].pulseAt + 32000 ≤ t ∧
      ¬good ∧ s.sbc.ch[n].pulseFails ≠ 0 ∧ s.rng.failed = false ∧ s.boot.act.busy = false) ∧
    (∃ (t : Tick) (n : Fin 2) (vhs : Int) (vls : Int) (vfb : Int) (icoil : Nat) (vbrk : Nat) (s :
      State), OnTime s t ∧ t % 800000 = 0 ∧ s.sbc.ch[n].changed + 32000000 ≤ t ∧ pulseOn (s.at t) n
      = false ∧ ((if s.sbc.ch[n].energised then (vbrk : Int) - 20 ≤ vhs ∧ vls ≤ 20 ∧ sbcLimitsIOpen
      s ≤ icoil ∧ icoil < 3000 ∧ (vfb - vhs).natAbs ≤ sbcLimitsFbTol s else vhs ≤ 20 ∧ vfb ≤
      (sbcLimitsFbTol s : Nat)))) ∧
    (∃ (t : Tick) (n : Fin 2) (vhs : Int) (vfb : Int) (s : State), OnTime s t ∧ t % 800000 = 0 ∧
      s.sbc.ch[n].changed + 32000000 ≤ t ∧ s.sbc.ch[n].energised = false ∧ 20 < vhs ∧ vfb ≤
      (sbcLimitsFbTol s : Nat) ∧ s.sbc.ch[n].fails[(0 : Fin 7)] = 2 ∧ s.rng.failed = false ∧
      s.boot.act.busy = false) ∧
    (∃ (t : Tick) (s : State), OnTime s t ∧ s.rng.test.step = 3 ∧ s.rng.test.start < t ∧ (t -
      s.rng.test.start) % 1600000 = 0) ∧
    (∃ (t : Tick) (s : State), OnTime s t ∧ s.rng.test.step = 3 ∧ s.rng.test.first = none ∧
      s.rng.test.start + 160000000 ≤ t) ∧
    (∃ (t : Tick) (f : Tick) (s : State), OnTime s t ∧ s.rng.test.step = 3 ∧ s.rng.test.first = some
      f ∧ f + 3200000000 ≤ t) ∧
    (∃ (t : Tick) (n : Fin 2) (vhs : Int) (vls : Int) (vfb : Int) (icoil : Nat) (vbrk : Nat) (s :
      State), OnTime s t ∧ t % 800000 = 0 ∧ s.sbc.ch[n].changed + 32000000 ≤ t ∧
      s.sbc.ch[n].energised = true ∧ pulseOn (s.at t) n = false ∧ (vbrk : Int) - 20 ≤ vhs ∧ vls ≤ 20
      ∧ sbcLimitsIOpen s ≤ icoil ∧ 3000 ≤ icoil ∧ (vfb - vhs).natAbs ≤ sbcLimitsFbTol s ∧
      s.sbc.ch[n].fails[(5 : Fin 7)] = 2 ∧ s.rng.failed = false ∧ s.boot.act.busy = false) ∧
    (∃ (t : Tick) (f : Tick) (s : State), OnTime s t ∧ s.rng.test.step = 3 ∧ s.rng.test.first = some
      f ∧ f + 320000000 ≤ t ∧ (∃ m ∈ machines s, s.rng.test.torqueOk[m] = false)) := by
  refine ⟨
    ⟨2000000000, 1, { (wr s0 [(0x60070000, 0x1000A)]) with sbc := { s0.sbc with ch := s0.sbc.ch.set 1 { s0.sbc.ch[1] with energised := true } } }, ?_⟩,
    ⟨17000000, 1, 20, { (wr s0 [(0x60070000, 0x1000A)]) with sbc := { s0.sbc with ch := s0.sbc.ch.set 1 { s0.sbc.ch[1] with energised := true, pulse := true, pulseAt := 16900000, pulseFails := 2, passed := 0xFFFF } } }, ?_⟩,
    ⟨17000000, 1, 21, { (wr s0 [(0x60070000, 0x1000A)]) with sbc := { s0.sbc with ch := s0.sbc.ch.set 1 { s0.sbc.ch[1] with energised := true, pulse := true, pulseAt := 16900000 } } }, ?_⟩,
    ⟨17000000, 1, 21, { (wr s0 [(0x60070000, 0x1000A)]) with sbc := { s0.sbc with ch := s0.sbc.ch.set 1 { s0.sbc.ch[1] with energised := true, pulse := true, pulseAt := 16900000, pulseFails := 1 } } }, ?_⟩,
    ⟨48800000, 1, 20, 0, 5, 7, 240, { (wr s0 [(0x60070004, 0x30500)]) with sbc := { s0.sbc with ch := s0.sbc.ch.set 1 { s0.sbc.ch[1] with fails := Vector.replicate 7 2, faults := 3 } } }, ?_⟩,
    ⟨48800000, 1, 21, 5, { (wr s0 [(0x60070004, 0x30500)]) with sbc := { s0.sbc with ch := s0.sbc.ch.set 1 { s0.sbc.ch[1] with fails := Vector.replicate 7 2 } }, pba := { s0.pba with mode := .standby } }, ?_⟩,
    ⟨17600000, { (wr s0 [(0x40090000, 0x2), (0x40090180, 0x8000000), (0x400A0180, 0x64), (0x70000010, 0x140000)]) with rng := { s0.rng with test := { step := 3, start := 16000000, startCnt := #v[0, 50] } }, pos := { s0.pos with enc := s0.pos.enc.set 1 { s0.pos.enc[1] with cnt := 60, rev := 0 } } }, ?_⟩,
    ⟨176000000, { s0 with rng := { s0.rng with test := { step := 3, start := 16000000 } } }, ?_⟩,
    ⟨3300000000, 17000000, { (wr s0 [(0x40090000, 0x2)]) with rng := { s0.rng with test := { step := 3, start := 16000000, first := some 17000000, torqueOk := #v[true, false] } } }, ?_⟩,
    ⟨48800000, 1, 220, 20, 225, 3000, 240, { (wr s0 [(0x60070004, 0x30500)]) with sbc := { s0.sbc with ch := s0.sbc.ch.set 1 { s0.sbc.ch[1] with energised := true, changed := 16000000, pulseAt := 16000000, fails := Vector.replicate 7 2 } } }, ?_⟩,
    ⟨3300000000, 17000000, { (wr s0 [(0x40090000, 0x2)]) with rng := { s0.rng with test := { step := 3, start := 16000000, first := some 17000000, torqueOk := #v[true, false] } } }, ?_⟩⟩
  all_goals first | decide +kernel | (dsimp only [Canonical, OnTime, Issues, Offered, Quiet]; decide +kernel)

theorem witness_DeliberateReset :
    (∃ (t : Tick) (s : State), OnTime s t ∧ s.rng.failed = false ∧ s.rng.lock = .armed) ∧
    (∃ (t : Tick) (s : State), OnTime s t ∧ s.rng.failed = false ∧ s.rng.lock = .pressed ∧ axleStill
      s = true ∧ brakesSound s = true ∧ 160000000 ≤ t - 8000000 - s.rng.pressAt ∧ t - 8000000 -
      s.rng.pressAt < 800000000) ∧
    (∃ (t : Tick) (s : State), OnTime s t ∧ s.rng.failed = false ∧ s.rng.lock = .pressed ∧ 800000000
      ≤ t - 8000000 - s.rng.pressAt) ∧
    (∃ (t : Tick) (s : State), OnTime s t ∧ s.rng.failed = false ∧ s.rng.lock = .pressed ∧
      s.rng.safeReset = true ∧ s.rng.pressAt + 808000000 ≤ t) ∧
    (∃ (t : Tick) (s : State), OnTime s t ∧ s.rng.failed = false ∧ s.rng.lock = .armed ∧
      s.rng.armedAt + armTicks s + 8000000 ≤ t) := by
  refine ⟨
    ⟨17600000, { (wr s0 [(0x7000000C, 0x2000000)]) with rng := { s0.rng with lock := .armed, armedAt := 9000000 } }, ?_⟩,
    ⟨340000000, { (wr s0 [(0x40090000, 0x1), (0x4009000C, 0x9)]) with rng := { s0.rng with lock := .pressed, safeReset := true, pressAt := 160000000 }, trx := { s0.trx with m := s0.trx.m.set 0 { s0.trx.m[0] with standstill := true } } }, ?_⟩,
    ⟨1040000000, { s0 with rng := { s0.rng with lock := .pressed, safeReset := true, pressAt := 160000000 } }, ?_⟩,
    ⟨1040000000, { s0 with rng := { s0.rng with lock := .pressed, safeReset := true, pressAt := 160000000 } }, ?_⟩,
    ⟨4000000000, { (wr s0 [(0x7000000C, 0x1000000)]) with rng := { s0.rng with lock := .armed, armedAt := 16000000 } }, ?_⟩⟩
  all_goals first | decide +kernel | (dsimp only [Canonical, OnTime, Issues, Offered, Quiet]; decide +kernel)

theorem witness_BridgePeriods :
    (∃ (t : Tick) (x : Tick) (b : Fin 3) (s : State), OnTime s t ∧ axbDue (s.at t) b = some x ∧
      ((s.axb.b[b].commits.all fun c => x ≤ c.tick || c.slots.all fun y => y.1 != 4) = true)) ∧
    (∃ (t : Tick) (x : Tick) (b : Fin 3) (c : BCommit) (y : Nat × Word24) (s : State), OnTime s t ∧
      axbDue (s.at t) b = some x ∧ s.axb.b[b].commits = [c] ∧ c.tick < x ∧ s.axb.b[b].state =
      .stopped ∧ ((c.slots.find? fun z => z.1 = 4) = some y)) ∧
    (∃ (t : Tick) (x : Tick) (b : Fin 3) (s : State), OnTime s t ∧ axbOn s b = true ∧ axbCtlSample s
      b = true ∧ axbLattice s b ((s.at t).clk.power + 1600) = x ∧ (s.at t).clk.power + 1600 < x + 40
      ∧ ((∀ r ∈ s.hka.resv, r.aperture + 800 ≤ x ∨ x + 1600 ≤ r.aperture)) ∧ s.hka.busy = none) ∧
    (∃ (t : Tick) (b : Fin 3) (s : State), OnTime s t ∧ axbOn s b = true ∧ s.axb.b[b].started = true
      ∧ s.axb.b[b].written = false ∧ s.axb.b[b].pstart + 40 * swinOf s b + 160 ≤ (s.at t).clk.power) ∧
    (∃ (t : Tick) (b : Fin 3) (e : PEdge) (es : List PEdge) (s : State), OnTime s t ∧
      s.axb.b[b].edges = e :: es ∧ e.tick ≤ (s.at t).clk.power ∧ s.axb.b[b].phase[e.phase].gate
      e.high ≠ e.on ∧ ((e.on = true → interlocked s.axb.b[b].phase[e.phase] e.high e.tick (40 *
      deadOf s b) = false ∧ (e.high = true → s.axb.b[b].phase[e.phase].locked = false)))) ∧
    (∃ (t : Tick) (b : Fin 3) (e : PEdge) (es : List PEdge) (s : State), OnTime s t ∧
      s.axb.b[b].edges = e :: es ∧ e.tick ≤ (s.at t).clk.power ∧ e.on = true ∧ interlocked
      s.axb.b[b].phase[e.phase] e.high e.tick (40 * deadOf s b) = true) ∧
    (∃ (t : Tick) (b : Fin 3) (s : State), OnTime s t ∧ ((s.axb.b[b].state.running = true ∨
      s.axb.b[b].state = .stalled)) ∧ s.axb.b[b].lastCommit + max (axbCtlWatch s b) 1 * 1600000 ≤ t) ∧
    (∃ (t : Tick) (b : Fin 3) (s : State), OnTime s t ∧ s.axb.b[b].state = .run ∧ s.axb.b[b].since +
      1600000000 ≤ t) := by
  refine ⟨
    ⟨17610400, 17610400, 1, { (wr s0 [(0x60030180, 0x80000000), (0x60030188, 0x7530), (0x6003018C, 0x190)]) with axb := { s0.axb with b := s0.axb.b.set 1 { s0.axb.b[1] with period := 30000, cphase := 400, started := true, pstart := 16000000 } } }, ?_⟩,
    ⟨17610400, 17610400, 1, (⟨17000000, [(0, 9), (4, 6)], false⟩), ((4, 6)), { (wr s0 [(0x60030180, 0x80000000), (0x60030188, 0x7530), (0x6003018C, 0x190)]) with axb := { s0.axb with b := s0.axb.b.set 1 { s0.axb.b[1] with period := 30000, cphase := 400, started := true, pstart := 16000000, commits := [⟨17000000, [(0, 9), (4, 6)], false⟩] } } }, ?_⟩,
    ⟨17608800, 17610400, 1, { (wr s0 [(0x60030180, 0x90000506), (0x60030188, 0x7530), (0x6003018C, 0x190)]) with axb := { s0.axb with b := s0.axb.b.set 1 { s0.axb.b[1] with period := 30000, cphase := 400, started := true } } }, ?_⟩,
    ⟨17610400, 1, { (wr s0 [(0x60030180, 0x80000000), (0x60030188, 0x7530), (0x6003018C, 0x190), (0x600301B0, 0x3FD00000)]) with axb := { s0.axb with b := s0.axb.b.set 1 { s0.axb.b[1] with period := 30000, started := true, pstart := 17600000, written := false, iu := 5, cmdCount := 7, cmdArg := -4 } } }, ?_⟩,
    ⟨17600000, 1, (⟨17600000, 2, true, false⟩), ([⟨17600080, 2, false, true⟩]), { (wr s0 [(0x60030180, 0x80000000), (0x60030188, 0x7530), (0x6003018C, 0x190)]) with axb := { s0.axb with b := s0.axb.b.set 1 { s0.axb.b[1] with edges := [⟨17600000, 2, true, false⟩, ⟨17600080, 2, false, true⟩], phase := #v[{}, {}, { gh := true }] } } }, ?_⟩,
    ⟨17600000, 1, (⟨17600000, 2, true, true⟩), ([⟨17600080, 2, false, true⟩]), { (wr s0 [(0x60030180, 0x80000000), (0x60030188, 0x7530), (0x6003018C, 0x190)]) with axb := { s0.axb with b := s0.axb.b.set 1 { s0.axb.b[1] with edges := [⟨17600000, 2, true, true⟩, ⟨17600080, 2, false, true⟩], phase := #v[{}, {}, { gl := true }] } } }, ?_⟩,
    ⟨19200000, 1, { (wr s0 [(0x60030180, 0x80020000), (0x60030188, 0x7530), (0x6003018C, 0x190)]) with axb := { s0.axb with b := s0.axb.b.set 1 { s0.axb.b[1] with lastCommit := 16000000, state := .run } } }, ?_⟩,
    ⟨1619200000, 1, { (wr s0 [(0x60030180, 0x80000000), (0x60030188, 0x7530), (0x6003018C, 0x190)]) with axb := { s0.axb with b := s0.axb.b.set 1 { s0.axb.b[1] with since := 16000000, state := .run, restarts := 3 } } }, ?_⟩⟩
  all_goals first | decide +kernel | (dsimp only [Canonical, OnTime, Issues, Offered, Quiet]; decide +kernel)

theorem witness_BridgeSupplies :
    (∃ (t : Tick) (b : Fin 3) (v : Nat) (s : State), Quiet s t ∧ axbBootLowThr s b + axbBootHyst s b
      < v) ∧
    (∃ (t : Tick) (s : State), Quiet s t) ∧
    (∃ (t : Tick) (b : Fin 3) (p : Fin 3) (v : Nat) (s : State), Quiet s t ∧ v < axbBootLowThr s b ∧
      s.axb.b[b].phase[p].bootLow = false) ∧
    (∃ (t : Tick) (b : Fin 3) (p : Fin 3) (s : State), OnTime s t ∧ s.axb.b[b].phase[p].uvlo = false
      ∧ s.axb.b[b].phase[p].gh = true) ∧
    (∃ (t : Tick) (b : Fin 3) (v : Nat) (s : State), OnTime s t ∧ axbCtlEn s b = true ∧
      s.axb.b[b].vsBad = false ∧ (v < axbVsVsMin s b ∨ axbVsVsMax s b < v)) ∧
    (∃ (t : Tick) (b : Fin 3) (v : Nat) (s : State), OnTime s t ∧ axbCtlEn s b = true ∧
      s.axb.b[b].vsBad = true ∧ axbVsVsMin s b ≤ v ∧ v ≤ axbVsVsMax s b) ∧
    (∃ (t : Tick) (s : State), OnTime s t ∧ s.axb.vdrvLow = false) ∧
    (∃ (t : Tick) (s : State), OnTime s t ∧ s.axb.vdrvLow = true) := by
  refine ⟨
    ⟨17600000, 1, 5, { s0 with axb := { s0.axb with b := s0.axb.b.set 1 { s0.axb.b[1] with phase := #v[{}, {}, { gl := true, hold := true }] } } }, ?_⟩,
    ⟨17600000, { s0 with axb := { s0.axb with b := s0.axb.b.set 1 { s0.axb.b[1] with phase := #v[{}, {}, { gl := true, hold := true }] } } }, ?_⟩,
    ⟨17600000, 1, 2, 5, { (wr s0 [(0x60030194, 0x600)]) with axb := { s0.axb with b := s0.axb.b.set 1 { s0.axb.b[1] with phase := #v[{}, {}, { bootLow := false }] } } }, ?_⟩,
    ⟨17600000, 1, 2, { s0 with axb := { s0.axb with b := s0.axb.b.set 1 { s0.axb.b[1] with phase := #v[{}, {}, { bootLow := false, uvlo := false, gh := true }] } } }, ?_⟩,
    ⟨17600000, 1, 99, ((wr s0 [(0x60030180, 0x80000000), (0x60030188, 0x7530), (0x6003018C, 0x190), (0x600301AC, 0x6400C8)])), ?_⟩,
    ⟨17600000, 1, 200, { (wr s0 [(0x60030180, 0x80000000), (0x60030188, 0x7530), (0x6003018C, 0x190), (0x600301AC, 0x6400C8)]) with axb := { s0.axb with b := s0.axb.b.set 1 { s0.axb.b[1] with vsBad := true } } }, ?_⟩,
    ⟨17600000, (s0), ?_⟩,
    ⟨17600000, { s0 with axb := { s0.axb with vdrvLow := true } }, ?_⟩⟩
  all_goals first | decide +kernel | (dsimp only [Canonical, OnTime, Issues, Offered, Quiet]; decide +kernel)

theorem witness_BridgeSixStep :
    (∃ (t : Tick) (b : Fin 3) (s : State), OnTime s t ∧ s.axb.b[b].state = .precharge ∧
      s.axb.b[b].since + axbStartPrecharge s b * 16000 ≤ t) ∧
    (∃ (t : Tick) (b : Fin 3) (s : State), OnTime s t ∧ s.axb.b[b].state = .align ∧ s.axb.b[b].since
      + axbStartAlignMs s b * 1600000 ≤ t) ∧
    (∃ (t : Tick) (b : Fin 3) (s : State), OnTime s t ∧ s.axb.b[b].state = .ramp ∧ s.axb.b[b].stepAt
      + s.axb.b[b].stepLen ≤ t ∧ t < s.axb.b[b].rampFrom + rampTicks s b) ∧
    (∃ (t : Tick) (b : Fin 3) (s : State), OnTime s t ∧ s.axb.b[b].state = .ramp ∧
      s.axb.b[b].rampFrom + rampTicks s b ≤ t) ∧
    (∃ (t : Tick) (b : Fin 3) (s : State), OnTime s t ∧ s.axb.b[b].state = .run ∧ s.axb.b[b].crossed
      = false ∧ s.axb.b[b].stepAt + 2 * s.axb.b[b].t60 ≤ t) ∧
    (∃ (t : Tick) (b : Fin 3) (s : State), OnTime s t ∧ s.axb.b[b].state = .coast ∧ s.axb.b[b].since
      + axbRamp2CoastMs s b * 1600000 ≤ t) ∧
    (∃ (t : Tick) (x : Tick) (b : Fin 3) (s : State), OnTime s t ∧ s.axb.b[b].state = .run ∧
      s.axb.b[b].nextStep = some x ∧ x ≤ t) ∧
    (∃ (t : Tick) (b : Fin 3) (x : Nat × Bool) (xs : List (Nat × Bool)) (s : State), Quiet s t ∧
      s.axb.b[b].state = .run ∧ s.axb.b[b].crossed = false ∧ s.axb.b[b].nextStep = none ∧
      s.axb.b[b].filtRun = 0 ∧ (x :: xs).length = max (axbZcFilt s b) 1 ∧ ((∀ y ∈ x :: xs, counts s
      b y.1 = true ∧ y.2 = s.axb.b[b].expected)) ∧ (s.axb.b[b].filtSeen = true ∨ s.axb.b[b].earlyRun
      < 2)) ∧
    (∃ (t : Tick) (b : Fin 3) (x : Nat × Bool) (xs : List (Nat × Bool)) (s : State), Quiet s t ∧
      s.axb.b[b].state = .ramp ∧ s.axb.b[b].crossed = false ∧ s.axb.b[b].nextStep = none ∧
      s.axb.b[b].filtRun = 0 ∧ (x :: xs).length = max (axbZcFilt s b) 1 ∧ ((∀ y ∈ x :: xs, counts s
      b y.1 = true ∧ y.2 = s.axb.b[b].expected)) ∧ s.axb.b[b].stepAt ≤ x.1 - 80 ∧ s.axb.b[b].stepLen
      ≤ 4 * (x.1 - 80 - s.axb.b[b].stepAt) ∧ 4 * (x.1 - 80 - s.axb.b[b].stepAt) < 3 *
      s.axb.b[b].stepLen) ∧
    (∃ (t : Tick) (b : Fin 3) (x : Nat × Bool) (xs : List (Nat × Bool)) (s : State), Quiet s t ∧
      s.axb.b[b].state = .run ∧ s.axb.b[b].crossed = false ∧ s.axb.b[b].nextStep = none ∧
      s.axb.b[b].filtRun = 0 ∧ (x :: xs).length = max (axbZcFilt s b) 1 ∧ ((∀ y ∈ x :: xs, counts s
      b y.1 = true ∧ y.2 = s.axb.b[b].expected)) ∧ s.axb.b[b].filtSeen = false ∧ 2 ≤
      s.axb.b[b].earlyRun) := by
  refine ⟨
    ⟨17600000, 1, { (wr s0 [(0x60030180, 0x80000000), (0x60030188, 0x7530), (0x6003018C, 0x190), (0x60030198, 0x640000)]) with axb := { s0.axb with b := s0.axb.b.set 1 { s0.axb.b[1] with state := .precharge, since := 16000000, step := 3 } } }, ?_⟩,
    ⟨17600000, 1, { (wr s0 [(0x60030180, 0x80000000), (0x60030188, 0x7530), (0x6003018C, 0x190), (0x60030198, 0x1000000), (0x6003019C, 0x320000)]) with axb := { s0.axb with b := s0.axb.b.set 1 { s0.axb.b[1] with state := .align, since := 16000000, zcRun := 4, dir := true } } }, ?_⟩,
    ⟨17600000, 1, { (wr s0 [(0x60030180, 0x80000000), (0x60030188, 0x7530), (0x6003018C, 0x190), (0x6003019C, 0x320014), (0x600301A0, 0x640000)]) with axb := { s0.axb with b := s0.axb.b.set 1 { s0.axb.b[1] with state := .ramp, rampFrom := 16000000, stepAt := 16500000, stepLen := 800000, step := 5, steps := 7 } } }, ?_⟩,
    ⟨17600000, 1, { (wr s0 [(0x60030180, 0x80000000), (0x60030188, 0x7530), (0x6003018C, 0x190), (0x600301A0, 0x10000)]) with axb := { s0.axb with b := s0.axb.b.set 1 { s0.axb.b[1] with state := .ramp, rampFrom := 16000000 } } }, ?_⟩,
    ⟨17600000, 1, { (wr s0 [(0x60030180, 0x80000000), (0x60030188, 0x7530), (0x6003018C, 0x190)]) with axb := { s0.axb with b := s0.axb.b.set 1 { s0.axb.b[1] with state := .run, stepAt := 16000000, t60 := 800000 } } }, ?_⟩,
    ⟨17600000, 1, { (wr s0 [(0x60030180, 0x83000000), (0x60030188, 0x7530), (0x6003018C, 0x190), (0x600301A0, 0x1)]) with axb := { s0.axb with b := s0.axb.b.set 1 { s0.axb.b[1] with state := .coast, since := 16000000, restarts := 2, reqDir := true } } }, ?_⟩,
    ⟨17600000, 17000000, 1, { (wr s0 [(0x60030180, 0x80000000), (0x60030188, 0x7530), (0x6003018C, 0x190)]) with axb := { s0.axb with b := s0.axb.b.set 1 { s0.axb.b[1] with state := .run, stepAt := 16000000, t60 := 800000, nextStep := some 17000000, step := 5, crossed := true, runDuty := true } } }, ?_⟩,
    ⟨17600000, 1, ((17000000, true)), ([(17000040, true)]), { (wr s0 [(0x60030180, 0x80000000), (0x60030188, 0x7530), (0x6003018C, 0x190), (0x600301A4, 0x641E0200)]) with axb := { s0.axb with b := s0.axb.b.set 1 { s0.axb.b[1] with state := .run, stepAt := 16600000, step := 1, filtSeen := true, t60 := 800000, lastCross := 16200000, earlyRun := 2, period := 400, pa := 0, pb := 10 } } }, ?_⟩,
    ⟨17600000, 1, ((17000000, false)), [], { (wr s0 [(0x60030180, 0x80000000), (0x60030188, 0x7530), (0x6003018C, 0x190), (0x600301A0, 0x500), (0x600301A4, 0xA000000)]) with axb := { s0.axb with b := s0.axb.b.set 1 { s0.axb.b[1] with state := .ramp, stepAt := 16600000, stepLen := 800000, lastCross := 16200000, zcRun := 3, period := 400, pa := 0, pb := 10 } } }, ?_⟩,
    ⟨17600000, 1, ((17000000, true)), ([(17000040, true)]), { (wr s0 [(0x60030180, 0x80000000), (0x60030188, 0x7530), (0x6003018C, 0x190), (0x600301A4, 0x641E0200)]) with axb := { s0.axb with b := s0.axb.b.set 1 { s0.axb.b[1] with state := .run, stepAt := 16600000, step := 1, t60 := 800000, lastCross := 16200000, earlyRun := 2, period := 400, pa := 0, pb := 10 } } }, ?_⟩⟩
  all_goals first | decide +kernel | (dsimp only [Canonical, OnTime, Issues, Offered, Quiet]; decide +kernel)

theorem witness_Converter :
    (∃ (t : Tick) (x : Tick) (p : Fin 2) (cur : Word24) (s : State), OnTime s t ∧
      s.dcc.state.converting = true ∧ s.dcc.enable.getLsbD p = true ∧ s.dcc.since + leadOf s + 160 ≤
      x ∧ s.dcc.phase[p].lastOn ≠ some (t + leadOf s) ∧ (((p = 0 ∧ x = t + leadOf s ∧ isDccStart s x
      = true) ∨ (p = 1 ∧ s.gsc.g[(3 : Fin 4)].started = true ∧ x = s.gsc.g[(3 : Fin 4)].pstart ∧ x +
      dccLength s x / 2 = t + leadOf s))) ∧ peakAt s s.dcc.ipk < cur.toInt) ∧
    (∃ (t : Tick) (x : Tick) (p : Fin 2) (cur : Word24) (s : State), OnTime s t ∧
      s.dcc.state.converting = true ∧ s.dcc.enable.getLsbD p = true ∧ s.dcc.since + leadOf s + 160 ≤
      x ∧ s.dcc.phase[p].lastOn ≠ some (t + leadOf s) ∧ (((p = 0 ∧ x = t + leadOf s ∧ isDccStart s x
      = true) ∨ (p = 1 ∧ s.gsc.g[(3 : Fin 4)].started = true ∧ x = s.gsc.g[(3 : Fin 4)].pstart ∧ x +
      dccLength s x / 2 = t + leadOf s))) ∧ cur.toInt ≤ peakAt s s.dcc.ipk) ∧
    (∃ (t : Tick) (ton : Tick) (p : Fin 2) (s : State), OnTime s t ∧ s.dcc.phase[p].ton = some ton ∧
      40 ≤ t ∧ ton + 40 * dccTimingBlank s ≤ t - 40) ∧
    (∃ (t : Tick) (ton : Tick) (p : Fin 2) (s : State), OnTime s t ∧ s.dcc.phase[p].ton = some ton ∧
      ton + tmaxTicks s s.dcc.phase[p].period + 40 ≤ t + leadOf s) ∧
    (∃ (t : Tick) (prev : Tick) (s : State), OnTime s t ∧ dccCfgSyncEn s = true ∧ s.dcc.edge = some
      prev ∧ prev + 80 ≤ t ∧ t < prev + 2 * periodOf s 3) ∧
    (∃ (t : Tick) (e : Tick) (s : State), OnTime s t ∧ dccCfgSyncEn s = true ∧ s.dcc.edge = some e ∧
      e + 2 * periodOf s 3 ≤ t) ∧
    (∃ (t : Tick) (s : State), OnTime s t ∧ t % 1600 = 0 ∧ s.dcc.state.converting = true ∧
      s.dcc.slewAt ≠ some t) ∧
    (∃ (t : Tick) (s : State), OnTime s t ∧ s.dcc.state = .retryWait ∧ s.dcc.stopAt + 1600000000 ≤
      t) ∧
    (∃ (t : Tick) (v : Bool) (s : State), let p := dccLength s s.gsc.g[(3 : Fin 4)].pstart;
      let d := ((t : Int) - s.gsc.g[(3 : Fin 4)].pstart - (40 * dccSyncOutShift s : Nat)) % (p : Int);
      OnTime s t ∧ ((if v then s.dcc.state.converting = true ∧ d < 40 else s.dcc.state.converting =
      true → ((p / 2 : Nat) : Int) ≤ d ∧ d < ((p / 2 + 40 : Nat) : Int)))) ∧
    (∃ (t : Tick) (s : State), OnTime s t ∧ dccCfgSyncEn s = true ∧ ((∀ e ∈ s.dcc.edge, e + 2 *
      periodOf s 3 ≤ t))) := by
  refine ⟨
    ⟨17599200, 17600000, 0, 0x700000, { (wr s0 [(0x6004001C, 0x500000)]) with gsc := { s0.gsc with g := s0.gsc.g.set 3 { s0.gsc.g[3] with started := true, pstart := 17593600, period := 6400, phase := 0 } }, dcc := { s0.dcc with state := .run, enable := 3, ipk := 0x400000, since := 16000000 } }, ?_⟩,
    ⟨17599200, 17600000, 0, 0x100000, { (wr s0 [(0x400B0218, 0x8C041400), (0x400B0220, 0x8C061C00), (0x60040018, 0x7D0), (0x6004001C, 0x500000), (0x6004002C, 0x24601000)]) with gsc := { s0.gsc with g := s0.gsc.g.set 3 { s0.gsc.g[3] with started := true, pstart := 17593600, period := 6400, phase := 0 } }, dcc := { s0.dcc with state := .softStart, enable := 1, ipk := 0x400000, since := 16000000 }, red := { s0.red with tok := s0.red.tok.set 3 { s0.red.tok[3] with state := .held, holder := some 5, epoch := 4 } } }, ?_⟩,
    ⟨17600000, 17590000, 1, { (wr s0 [(0x60040018, 0xA7D0)]) with dcc := { s0.dcc with state := .run, phase := #v[{}, { ton := some 17590000, period := 6400 }] } }, ?_⟩,
    ⟨17600000, 17599000, 1, { (wr s0 [(0x60040018, 0xA190)]) with dcc := { s0.dcc with state := .run, phase := #v[{}, { ton := some 17599000, period := 6400, minOn := true }] } }, ?_⟩,
    ⟨17600000, 17593520, { (wr s0 [(0x60040000, 0x40000000)]) with dcc := { s0.dcc with edge := some 17593520, edges := 3 }, gsc := { s0.gsc with g := s0.gsc.g.set 3 { s0.gsc.g[3] with started := true, pstart := 17593600, period := 6400, phase := 0 } } }, ?_⟩,
    ⟨17600000, 17500000, { (wr s0 [(0x60040000, 0x40000000)]) with dcc := { s0.dcc with edge := some 17500000, edges := 9, locked := true }, gsc := { s0.gsc with g := s0.gsc.g.set 3 { s0.gsc.g[3] with started := true, pstart := 17593600, period := 6400, phase := 0 } } }, ?_⟩,
    ⟨17600000, { (wr s0 [(0x60040010, 0x1F40000)]) with dcc := { s0.dcc with state := .softStart, vref := 100000, target := 12000 } }, ?_⟩,
    ⟨1616000000, { (wr s0 [(0x60040030, 0x4E200000)]) with dcc := { s0.dcc with state := .retryWait, stopAt := 16000000, attempt := 1, target := 12000, vout := 0x1000 } }, ?_⟩,
    ⟨17593800, true, { (wr s0 [(0x60040034, 0x500000)]) with dcc := { s0.dcc with state := .run }, gsc := { s0.gsc with g := s0.gsc.g.set 3 { s0.gsc.g[3] with started := true, pstart := 17593600, period := 6400, phase := 0 } } }, ?_⟩,
    ⟨17600000, { (wr s0 [(0x60040000, 0x40000000)]) with dcc := { s0.dcc with edge := none } }, ?_⟩⟩
  all_goals first | decide +kernel | (dsimp only [Canonical, OnTime, Issues, Offered, Quiet]; decide +kernel)

theorem witness_ChargerInlet :
    (∃ (t : Tick) (s : State), OnTime s t ∧ s.chg.cable = 0) ∧
    (∃ (t : Tick) (vh : Int) (vl : Int) (period : Nat) (s : State), OnTime s t ∧ s.chg.cable ≠ 0 ∧
      s.chg.cand = pilotOf vh vl period ∧ 2 ≤ s.chg.candRun ∧ s.chg.pilot ≠ pilotOf vh vl period ∧
      ((pilotOf vh vl period = 4 → s.chg.candAt + 160000000 ≤ t))) ∧
    (∃ (t : Tick) (ohms : Nat) (s : State), OnTime s t ∧ s.chg.ccand = cableOf ohms ∧ 19 ≤
      s.chg.ccandRun ∧ s.chg.cable ≠ cableOf ohms) ∧
    (∃ (t : Tick) (s : State), OnTime s t ∧ t % 1600000 = 0) ∧
    (∃ (t : Tick) (s : State), OnTime s t ∧ s.chg.pilot = 1 ∧ goodCable s.chg.cable = true ∧
      s.chg.state ≠ .handover ∧ max (max s.chg.bAt s.chg.cableAt) s.chg.handAt + 3200000000 ≤ t) ∧
    (∃ (t : Tick) (s : State), OnTime s t ∧ (t % 1600000 = 0 ∨ s.obc.dirty = true)) ∧
    (∃ (t : Tick) (s : State), Quiet s t ∧ tempFresh (s.at t) = false) := by
  refine ⟨
    ⟨17600000, { s0 with chg := { s0.chg with cand := 1, candRun := 4 } }, ?_⟩,
    ⟨17600000, 90, (-120), 2000, { s0 with chg := { s0.chg with cable := 2, cand := 1, candRun := 2 } }, ?_⟩,
    ⟨17600000, 220, { s0 with chg := { s0.chg with cable := 2, ccand := 3, ccandRun := 19, pilot := 1 } }, ?_⟩,
    ⟨17600000, { (wr s0 [(0x60050000, 0xFA0000)]) with chg := { s0.chg with pilot := 2, pwm := true, duty := 300, cable := 3 } }, ?_⟩,
    ⟨4000000000, { s0 with chg := { s0.chg with pilot := 1, cable := 3, bAt := 16000000 } }, ?_⟩,
    ⟨17600000, { (wr s0 [(0x60050000, 0x64), (0x60050008, 0x3FD00000), (0x6005000C, 0x3201F4)]) with obc := { s0.obc with iset := 500, vset := 30, dirty := true } }, ?_⟩,
    ⟨17600000, { s0 with chg := { s0.chg with band := 2 } }, ?_⟩⟩
  all_goals first | decide +kernel | (dsimp only [Canonical, OnTime, Issues, Offered, Quiet]; decide +kernel)

theorem witness_ChargerStates :
    (∃ (t : Tick) (next : SState) (s : State), OnTime s t ∧ t % 1600000 = 0 ∧ s.chg.pilot ≠ 0 ∧
      inletBad s = false ∧ (((s.chg.state = .wait ∧ supplied s = true ∧ goodBand (bandNow (s.at t))
      = true ∧ next = .cc) ∨ (s.chg.state = .wait ∧ supplied s = true ∧ goodBand (bandNow (s.at t))
      = false ∧ chgCfgPrecondEn s = true ∧ next = .precond) ∨ (s.chg.state = .precond ∧ goodBand
      (bandNow (s.at t)) = true ∧ next = .cc)))) ∧
    (∃ (t : Tick) (s : State), OnTime s t ∧ t % 1600000 = 0 ∧ s.chg.pilot ≠ 0 ∧ inletBad s = false ∧
      s.chg.state.charging = true) ∧
    (∃ (t : Tick) (s : State), OnTime s t ∧ s.chg.state.charging = true ∧ chgTimerLimitMin s ≠ 0 ∧
      chgTimerLimitMin s * 120000 ≤ s.chg.elapsed) ∧
    (∃ (t : Tick) (s : State), OnTime s t ∧ s.chg.state = .wait ∧ 0 < chgCfgWaitS s ∧ s.chg.since +
      chgCfgWaitS s * 1600000000 ≤ t) ∧
    (∃ (t : Tick) (s : State), OnTime s t ∧ s.chg.state = .precond ∧ 0 < chgTimerPrecondMin s ∧
      s.chg.since + chgTimerPrecondMin s * 96000000000 ≤ t) ∧
    (∃ (t : Tick) (s : State), OnTime s t ∧ (s.chg.state = .cc ∨ s.chg.state = .precond) ∧
      ((s.chg.busSeen = false ∧ s.chg.s2At + obcGridSupplyWait s * 1600000000 ≤ t) ∨ (∃ x ∈
      s.chg.busLostAt, x + 1600000000 ≤ t))) ∧
    (∃ (t : Tick) (s : State), OnTime s t ∧ s.chg.state = .topoff ∧ s.chg.since + chgTermTopoffMin s
      * 96000000000 ≤ t) ∧
    (∃ (t : Tick) (s : State) (x : Nat), OnTime s t ∧ x ∈ s.chg.lowCurrent ∧ s.chg.state = .cv ∧ x +
      chgTermTermS s * 1600000000 ≤ t ∧ chgTermTopoffMin s = 0) ∧
    (∃ (t : Tick) (x : Tick) (s : State), OnTime s t ∧ s.chg.state = .cc ∧ s.chg.limSince = some x ∧
      max x s.chg.since + 1600000000 ≤ t) ∧
    (∃ (t : Tick) (x : Tick) (s : State), OnTime s t ∧ s.chg.state = .cv ∧ s.chg.lowCurrent = some x
      ∧ x + chgTermTermS s * 1600000000 ≤ t ∧ 0 < chgTermTopoffMin s) ∧
    (∃ (t : Tick) (x : Tick) (s : State), OnTime s t ∧ s.chg.state = .maintain ∧ s.chg.lowVoltage =
      some x ∧ supplied s = true ∧ goodBand s.chg.band = true ∧ x + 16000000000 ≤ t) ∧
    (∃ (t : Tick) (s : State), OnTime s t ∧ s.chg.state = .handover ∧ s.chg.step = 1 ∧ ((s.obc.iset
      = 0 ∧ currentGone s = true) ∨ s.chg.start + 160000000 ≤ t ∨ chargerOff s = true)) ∧
    (∃ (t : Tick) (s : State), OnTime s t ∧ s.chg.state = .handover ∧ s.chg.step = 3 ∧ (10 ≤
      s.chg.offRun ∨ s.chg.h3At + 144000000 ≤ t)) ∧
    (∃ (t : Tick) (s : State), OnTime s t ∧ t % 1600000 = 0 ∧ s.chg.state.session = true ∧
      (s.chg.pilot = 0 ∨ inletBad s = true)) := by
  refine ⟨
    ⟨17600000, (.cc), { (wr s0 [(0x60060024, 0xC8), (0x60060028, 0xFA0A2832), (0x6006002C, 0x32320002)]) with chg := { s0.chg with state := .wait, pilot := 1, cable := 2, qualified := true, tempAt := some 16000000, band := 2 }, obc := { s0.obc with iinLim := 60 } }, ?_⟩,
    ⟨17600000, { (wr s0 [(0x60060024, 0xC8), (0x60060028, 0xFA0A2832), (0x6006002C, 0x32320002)]) with chg := { s0.chg with state := .cv, pilot := 2, cable := 2, qualified := true, tempAt := some 16000000, band := 2, elapsed := 7 }, obc := { s0.obc with iinLim := 60, iset := 10, busOk := true } }, ?_⟩,
    ⟨200000000000, { (wr s0 [(0x60060034, 0x10000)]) with chg := { s0.chg with state := .cc, elapsed := 120000, busSeen := true } }, ?_⟩,
    ⟨200000000000, { (wr s0 [(0x60060000, 0x1)]) with chg := { s0.chg with state := .wait } }, ?_⟩,
    ⟨200000000000, { (wr s0 [(0x60060034, 0x1)]) with chg := { s0.chg with state := .precond } }, ?_⟩,
    ⟨200000000000, { (wr s0 [(0x60060034, 0x1)]) with chg := { s0.chg with state := .precond } }, ?_⟩,
    ⟨200000000000, { (wr s0 [(0x60060030, 0x1)]) with chg := { s0.chg with state := .topoff } }, ?_⟩,
    ⟨2000000000, { (wr s0 [(0x60060030, 0x100)]) with chg := { s0.chg with state := .cv, lowCurrent := some 17000000 } }, 17000000, ?_⟩,
    ⟨2000000000, 17000000, { s0 with chg := { s0.chg with state := .cc, limSince := some 17000000 } }, ?_⟩,
    ⟨2000000000, 17000000, { (wr s0 [(0x60060030, 0x101)]) with chg := { s0.chg with state := .cv, lowCurrent := some 17000000 } }, ?_⟩,
    ⟨20000000000, 17000000, { s0 with chg := { s0.chg with state := .maintain, lowVoltage := some 17000000, qualified := true, band := 3 }, obc := { s0.obc with iinLim := 60 } }, ?_⟩,
    ⟨200000000, { s0 with chg := { s0.chg with state := .handover, step := 1, start := 17000000, s2 := true }, obc := { s0.obc with run := true, iset := 5 } }, ?_⟩,
    ⟨600000000, { s0 with chg := { s0.chg with state := .handover, step := 3, h3At := 200000000, start := 17000000, term := 1 } }, ?_⟩,
    ⟨17600000, { s0 with chg := { s0.chg with state := .cc, pilot := 0, cable := 0 } }, ?_⟩⟩
  all_goals first | decide +kernel | (dsimp only [Canonical, OnTime, Issues, Offered, Quiet]; decide +kernel)

theorem witness_Blaze :
    (∃ (t : Tick) (i : Fin 64) (f : BlzFrame) (fs : List BlzFrame) (s : State), OnTime s t ∧
      s.rng.powered = true ∧ s.blz.rx = f :: fs ∧ ((all64.find? fun k => connTakes s f k) = some i)
      ∧ (s.blz.conn[i].state = .waiting ∨ s.blz.conn[i].state = .running) ∧ blazeTest s f i = some
      0) ∧
    (∃ (t : Tick) (i : Fin 64) (f : BlzFrame) (fs : List BlzFrame) (ev : Nat) (s : State), OnTime s
      t ∧ s.rng.powered = true ∧ s.blz.rx = f :: fs ∧ ((all64.find? fun k => connTakes s f k) = some
      i) ∧ (s.blz.conn[i].state = .waiting ∨ s.blz.conn[i].state = .running) ∧ blazeTest s f i =
      some ev ∧ ev ≠ 0) ∧
    (∃ (t : Tick) (f : BlzFrame) (fs : List BlzFrame) (s : State), Quiet s t ∧ s.rng.powered = true
      ∧ s.blz.rx = f :: fs ∧ ((∀ i, (all64.find? fun k => connTakes s f k) = some i →
      s.blz.conn[i].state = .failed ∨ s.blz.conn[i].state = .closed))) ∧
    (∃ (t : Tick) (c : Tick) (i : Fin 64) (s : State), OnTime s t ∧ t % 160000 = 0 ∧ s.rng.powered =
      true ∧ ((∀ f ∈ s.blz.rx.head?, t ≤ f.stamp)) ∧ closeTick s i = some c ∧ blzCdefEn s i = true ∧
      blzCdefDir s i = false ∧ c + 1600000 ≤ t) ∧
    (∃ (t : Tick) (i : Fin 64) (bs : List Byte) (q : List (List Byte)) (s : State), OnTime s t ∧
      s.blz.conn[i].txq = bs :: q ∧ mayTransmit (s.at t) i = true) ∧
    (∃ (t : Tick) (i : Fin 64) (s : State), OnTime s t ∧ s.blz.conn[i].txq = [] ∧ mayTransmit (s.at
      t) i = true ∧ blzCtimeMax s i ≠ 0 ∧ s.blz.conn[i].lastTx + blzCtimeMax s i * 160000 ≤ t) ∧
    (∃ (t : Tick) (i : Fin 64) (s : State), OnTime s t ∧ s.blz.conn[i].state = .failed) ∧
    (∃ (t : Tick) (i : Fin 64) (f : BlzFrame) (fs : List BlzFrame) (s : State), Quiet s t ∧
      s.rng.powered = true ∧ s.blz.rx = f :: fs ∧ ((all64.find? fun k => connTakes s f k) = some i)
      ∧ s.blz.conn[i].state = .running ∧ blazeTest s f i = none) := by
  refine ⟨
    ⟨17600000, 5, (⟨false, 2, 0x123, 17000000, [119, 0, 0, 0, 9, 3, 7, 0, 1, 2, 3, 8, 126, 215, 207]⟩), [], { (wr s0 [(0x70010004, 0x55), (0x700101A0, 0x82123009), (0x700101A4, 0x77), (0x700101A8, 0x66), (0x700101B0, 0x80000000)]) with blz := { s0.blz with rx := [⟨false, 2, 0x123, 17000000, [119, 0, 0, 0, 9, 3, 7, 0, 1, 2, 3, 8, 126, 215, 207]⟩], conn := s0.blz.conn.set 5 { state := .waiting } } }, ?_⟩,
    ⟨17600000, 5, (⟨false, 2, 0x123, 17000000, [119, 0, 0, 0, 9, 3, 7, 0, 1, 2, 3, 9, 126, 215, 207]⟩), [], 1, { (wr s0 [(0x70010004, 0x55), (0x700101A0, 0x82123009), (0x700101A4, 0x77), (0x700101A8, 0x66), (0x700101B0, 0x83000000)]) with blz := { s0.blz with rx := [⟨false, 2, 0x123, 17000000, [119, 0, 0, 0, 9, 3, 7, 0, 1, 2, 3, 9, 126, 215, 207]⟩], conn := s0.blz.conn.set 5 { state := .running, seq := 6 } } }, ?_⟩,
    ⟨17600000, (⟨false, 2, 0x123, 17000000, [119, 0, 0, 0, 9, 3, 7, 0, 1, 2, 3, 8, 126, 215, 207]⟩), [], { s0 with blz := { s0.blz with rx := [⟨false, 2, 0x123, 17000000, [119, 0, 0, 0, 9, 3, 7, 0, 1, 2, 3, 8, 126, 215, 207]⟩] } }, ?_⟩,
    ⟨1776000000, 176000000, 5, { (wr s0 [(0x70010004, 0x55), (0x700101A0, 0x82123009), (0x700101A4, 0x77), (0x700101A8, 0x66), (0x700101B0, 0x80000001)]) with blz := { s0.blz with conn := s0.blz.conn.set 5 { state := .waiting, since := 16000000 } } }, ?_⟩,
    ⟨17600000, 5, [1, 2, 3], ([[4]]), { (wr s0 [(0x700101A0, 0xE0000000), (0x700101AC, 0x20000)]) with blz := { s0.blz with conn := s0.blz.conn.set 5 { txq := [[1, 2, 3], [4]], got := true, seq := 65535, lastTx := 16000000 } }, red := { s0.red with started := some 9 } }, ?_⟩,
    ⟨17600000, 5, { (wr s0 [(0x700101A0, 0xE0000000), (0x700101AC, 0x2)]) with blz := { s0.blz with conn := s0.blz.conn.set 5 { got := true, seq := 5, lastTx := 16000000 } }, red := { s0.red with started := some 9 } }, ?_⟩,
    ⟨17600000, 5, { s0 with blz := { s0.blz with conn := s0.blz.conn.set 5 { state := .failed } } }, ?_⟩,
    ⟨17600000, 5, (⟨false, 2, 0x123, 17000000, [119, 0, 0, 0, 9, 3, 7, 0, 1, 2, 3, 8, 126, 215, 207]⟩), [], { (wr s0 [(0x70010004, 0x55), (0x700101A0, 0x82123009), (0x700101A4, 0x77), (0x700101A8, 0x66)]) with blz := { s0.blz with rx := [⟨false, 2, 0x123, 17000000, [119, 0, 0, 0, 9, 3, 7, 0, 1, 2, 3, 8, 126, 215, 207]⟩], conn := s0.blz.conn.set 5 { state := .running, seq := 7 } } }, ?_⟩⟩
  all_goals first | decide +kernel | (dsimp only [Canonical, OnTime, Issues, Offered, Quiet]; decide +kernel)

theorem witness_Redundancy :
    (∃ (t : Tick) (k : Fin 6) (s : State), OnTime s t ∧ s.red.pair[k].state = 0 ∧
      s.red.pair[k].released = true) ∧
    (∃ (t : Tick) (start : Tick) (s : State), OnTime s t ∧ s.red.started = some start ∧ start < t ∧
      (t - start) % 16000000 = 0) ∧
    (∃ (t : Tick) (g : Fin 4) (e : Fin 8) (v : Word32) (s : State), OnTime s t ∧ s.red.tok[g].state
      = .held ∧ t < s.red.tok[g].leaseEnd ∧ s.red.tok[g].holder ≠ some e ∧ eligible s g e = true ∧
      v.toNat / 2 ^ 8 % 16 = e.val ∧ v.getLsbD 15 = true ∧ s.ce[e].state ≠ .stopped ∧ (v.getLsbD 14
      = true ∨ s.red.step[stepGroup g].inStep = true)) ∧
    (∃ (t : Tick) (g : Fin 4) (e : Fin 8) (v : Word32) (s : State), OnTime s t ∧ s.red.tok[g].state
      = .held ∧ t < s.red.tok[g].leaseEnd ∧ s.red.tok[g].holder ≠ some e ∧ eligible s g e = true ∧
      v.toNat / 2 ^ 8 % 16 = e.val ∧ v.getLsbD 15 = true ∧ s.ce[e].state ≠ .stopped ∧ v.getLsbD 14 =
      false ∧ s.red.step[stepGroup g].inStep = false) ∧
    (∃ (t : Tick) (g : Fin 4) (e : Fin 8) (h : Fin 8) (s : State), OnTime s t ∧ s.red.tok[g].state =
      .held ∧ t < s.red.tok[g].leaseEnd ∧ s.red.tok[g].handing = some e ∧ s.red.tok[g].holder = some
      h ∧ s.ce[h].state = .running ∧ s.ce[h].trig.toNat % 65536 ≠ 0 ∧ s.red.tok[g].handAt ≤
      s.ce[h].pstart ∧ s.ce[h].pstart ≤ t) ∧
    (∃ (t : Tick) (start : Tick) (n : Nat) (s : State), OnTime s t ∧ s.red.started = some start ∧
      start < t ∧ redSwapPeriodS s = n ∧ 1 ≤ n ∧ n ≤ 3600 ∧ redAxcfgMode s ≤ 1 ∧ (t - start) % (n *
      1600000000) = 0) ∧
    (∃ (t : Tick) (v : Word32) (s : State), OnTime s t ∧ v.getLsbD 15 = false) ∧
    (∃ (t : Tick) (g : Fin 4) (v : Word32) (s : State), OnTime s t ∧ v.getLsbD 15 = true ∧
      (s.red.tok[g].state ≠ .held ∨ 8 ≤ v.toNat / 2 ^ 8 % 16) ∧ leaseOver s.red.tok[g] t = false) := by
  refine ⟨
    ⟨17600000, 4, { s0 with red := { s0.red with pair := s0.red.pair.set 4 { released := true } } }, ?_⟩,
    ⟨32000009, 16000009, { s0 with red := { s0.red with started := some 16000009, hcycle := 255 } }, ?_⟩,
    ⟨17600000, 1, 3, 0xC3FF, { (wr s0 [(0x40080008, 0xFF0000), (0x40082008, 0xFF0000), (0x40084008, 0xFF0000), (0x40086008, 0xFF0000), (0x40088008, 0xFF0000), (0x4008A008, 0xFF0000), (0x4008C008, 0xFF0000), (0x4008E008, 0xFF0000), (0x400E0100, 0xFF000000), (0x400E0120, 0xFF000000), (0x400E0140, 0xFF000000), (0x400E0160, 0xFF000000)]) with red := { s0.red with tok := s0.red.tok.set 1 { s0.red.tok[1] with state := .held, holder := some 2, leaseEnd := 18000000 } }, ce := s0.ce.set 3 { s0.ce[3] with state := .running } }, ?_⟩,
    ⟨17600000, 1, 3, 0x83FF, { (wr s0 [(0x40080008, 0xFF0000), (0x40082008, 0xFF0000), (0x40084008, 0xFF0000), (0x40086008, 0xFF0000), (0x40088008, 0xFF0000), (0x4008A008, 0xFF0000), (0x4008C008, 0xFF0000), (0x4008E008, 0xFF0000), (0x400E0100, 0xFF000000), (0x400E0120, 0xFF000000), (0x400E0140, 0xFF000000), (0x400E0160, 0xFF000000)]) with red := { s0.red with tok := s0.red.tok.set 1 { s0.red.tok[1] with state := .held, holder := some 2, leaseEnd := 18000000 } }, ce := s0.ce.set 3 { s0.ce[3] with state := .idle } }, ?_⟩,
    ⟨17600000, 1, 3, 2, { (wr s0 [(0x40080008, 0xFF0000), (0x40082008, 0xFF0000), (0x40084008, 0xFF0000), (0x40086008, 0xFF0000), (0x40088008, 0xFF0000), (0x4008A008, 0xFF0000), (0x4008C008, 0xFF0000), (0x4008E008, 0xFF0000), (0x400E0100, 0xFF000000), (0x400E0120, 0xFF000000), (0x400E0140, 0xFF000000), (0x400E0160, 0xFF000000)]) with red := { s0.red with tok := s0.red.tok.set 1 { s0.red.tok[1] with state := .held, holder := some 2, leaseEnd := 18000000, handing := some 3, target := 3, handAt := 16000000, result := 1 } }, ce := s0.ce.set 2 { s0.ce[2] with state := .running, trig := 5, pstart := 17000000 } }, ?_⟩,
    ⟨1616000000, 16000000, 1, { (wr s0 [(0x400E000C, 0x1)]) with red := { s0.red with started := some 16000000 } }, ?_⟩,
    ⟨17600000, 0x3FF, { s0 with red := { s0.red with tok := s0.red.tok.set 1 { s0.red.tok[1] with state := .held, holder := some 2, leaseEnd := 18000000 } } }, ?_⟩,
    ⟨17600000, 1, 0x8AFF, { s0 with red := { s0.red with tok := s0.red.tok.set 1 { s0.red.tok[1] with state := .held, holder := some 2, leaseEnd := 18000000 } } }, ?_⟩⟩
  all_goals first | decide +kernel | (dsimp only [Canonical, OnTime, Issues, Offered, Quiet]; decide +kernel)

theorem witness_AxleTokens :
    (∃ (t : Tick) (s : State), OnTime s t ∧ t % 800000 = 0 ∧ redAxcfgMode s ≠ 0 ∧
      s.red.started.isSome = true) ∧
    (∃ (t : Tick) (stamp : Tick) (p : Fin 4) (body : List Byte) (q : List (Fin 4 × Nat × List Byte))
      (s : State), OnTime s t ∧ s.red.inbox = (p, stamp, body) :: q ∧ body.length = 40 ∧
      redAxcfgMode s ≠ 0 ∧ (byteAt body 0 = 1 ∨ byteAt body 0 = 2)) ∧
    (∃ (t : Tick) (g : Fin 4) (s : State), OnTime s t ∧ redAxcfgMode s ≠ 0 ∧ axGroup s g = true ∧
      s.red.ax[g].state = 1 ∧ s.red.health = 0x1F ∧ freeFrom s g + redAxcfgRank s * 6400000 ≤ t) ∧
    (∃ (t : Tick) (g : Fin 4) (s : State), OnTime s t ∧ s.red.ax[g].state = 4 ∧ s.red.ax[g].yieldAt
      + 6400000 ≤ t) ∧
    (∃ (t : Tick) (p : Fin 4) (s : State), OnTime s t ∧ s.red.peer[p].healthy = true ∧ (redAxpeerEn
      s p = false ∨ s.red.peer[p].health ≠ 0x1F ∨ s.red.peer[p].hcycleAt + 48000000 ≤ t ∨ (∀ j : Fin
      64, j.val = redAxpeerRx s p % 64 → s.blz.conn[j].state ≠ .running))) := by
  refine ⟨
    ⟨17600000, { (wr s0 [(0x400E0010, 0x4260F000)]) with red := { s0.red with started := some 5, health := 7, ax := s0.red.ax.set 1 { state := 3, aepoch := 4, holderNode := 9 } } }, ?_⟩,
    ⟨17600000, 17000000, 2, [1, 7, 31, 0, 0, 0, 0, 0, 1, 0, 0, 0, 0, 0, 0, 0, 9, 0, 0, 0, 1, 0, 0, 0, 0, 0, 0, 0, 0, 0, 0, 0, 0, 0, 0, 0, 0, 0, 0, 0], [], { (wr s0 [(0x400E0010, 0x4260F000)]) with red := { s0.red with started := some 5, health := 31, inbox := [(2, 17000000, [1, 7, 31, 0, 0, 0, 0, 0, 1, 0, 0, 0, 0, 0, 0, 0, 9, 0, 0, 0, 1, 0, 0, 0, 0, 0, 0, 0, 0, 0, 0, 0, 0, 0, 0, 0, 0, 0, 0, 0])], ax := s0.red.ax.set 1 { state := 3, aepoch := 4, holderNode := 9 }, peer := s0.red.peer.set 2 { at1 := 555 } } }, ?_⟩,
    ⟨17600000, 1, { (wr s0 [(0x400E0010, 0x4260F000)]) with red := { s0.red with started := some 5, health := 31, ax := s0.red.ax.set 1 { state := 1, aepoch := 4, seen := 7, freeSince := 1000 } }, skd := { s0.skd with node := 12 } }, ?_⟩,
    ⟨24000000, 1, { (wr s0 [(0x400E0010, 0x4260F000)]) with red := { s0.red with ax := s0.red.ax.set 1 { state := 4, yieldAt := 17000000 } } }, ?_⟩,
    ⟨17600000, 1, { (wr s0 [(0x400E0010, 0x4260F000)]) with red := { s0.red with peer := s0.red.peer.set 1 { healthy := true, health := 3 } } }, ?_⟩⟩
  all_goals first | decide +kernel | (dsimp only [Canonical, OnTime, Issues, Offered, Quiet]; decide +kernel)

theorem witness_FabricPorts :
    (∃ (t : Tick) (p : Fin 8) (s : State), OnTime s t ∧ domOn s 6 = true ∧ s.skd.port[p].state =
      .align) ∧
    (∃ (t : Tick) (p : Fin 8) (bs : List Byte) (s : State), OnTime s t ∧ domOn s 6 = true ∧
      frameGood bs = true ∧ frKind bs = 10 ∧ (s.skd.port[p].state = .credit ∨ s.skd.port[p].state =
      .up)) ∧
    (∃ (t : Tick) (p : Fin 8) (s : State), OnTime s t ∧ (s.skd.port[p].state = .up ∨
      s.skd.port[p].state = .credit) ∧ (8 ≤ s.skd.port[p].untold ∨ s.skd.port[p].creditAt + 16000 ≤
      t)) ∧
    (∃ (t : Tick) (p : Fin 8) (s : State), OnTime s t ∧ (s.skd.port[p].state = .up ∨
      s.skd.port[p].state = .credit)) ∧
    (∃ (t : Tick) (p : Fin 8) (s : State), OnTime s t ∧ s.skd.port[p].state = .up ∧
      s.skd.port[p].infoAt + 4800000 ≤ t) ∧
    (∃ (t : Tick) (p : Fin 8) (bs : List Byte) (s : State), OnTime s t ∧ domOn s 6 = true ∧
      frameGood bs = true ∧ frKind bs = 1 ∧ s.skd.port[p].state = .up) ∧
    (∃ (t : Tick) (s : State), OnTime s t ∧ domOn s 6 = true ∧ t % 1600000 = 0) := by
  refine ⟨
    ⟨17600000, 3, { s0 with skd := { s0.skd with node := 9, port := s0.skd.port.set 3 { s0.skd.port[3] with state := .align, link := [⟨[1], 0, 1, 5, none, 3⟩] } } }, ?_⟩,
    ⟨17600000, 3, (buildFrame 255 8 0 0 10 0 [1, 2, 3, 4, 5, 6]), { s0 with skd := { s0.skd with node := 9, port := s0.skd.port.set 3 { s0.skd.port[3] with state := .credit } } }, ?_⟩,
    ⟨17600000, 3, { s0 with skd := { s0.skd with node := 9, port := s0.skd.port.set 3 { s0.skd.port[3] with state := .up, untold := 8, freed := #v[5, 300, 65535] } } }, ?_⟩,
    ⟨17600000, 3, { s0 with skd := { s0.skd with node := 9, offers := [(11, ⟨2, 5⟩), (12, ⟨3, 5⟩), (19, ⟨2, 5⟩)], port := s0.skd.port.set 3 { s0.skd.port[3] with state := .up, link := [⟨[1], 0, 1, 5, none, 3⟩] } } }, ?_⟩,
    ⟨20800000, 3, { s0 with skd := { s0.skd with node := 9, port := s0.skd.port.set 3 { s0.skd.port[3] with state := .up, infoAt := 16000000, out := [⟨[1], 0, 1, 5, none, 3⟩] } } }, ?_⟩,
    ⟨17600000, 3, (buildFrame 255 8 0 0 1 0 [1,2,3,4,5,6,7,8, 1,2,3,4,5,6,7,9, 5,0, 3, 4, 5, 2]), { s0 with skd := { s0.skd with node := 9, dieId := 99, port := s0.skd.port.set 3 { s0.skd.port[3] with state := .up } } }, ?_⟩,
    ⟨17600000, { s0 with skd := { s0.skd with node := 9, port := s0.skd.port.set 3 { s0.skd.port[3] with state := .up } } }, ?_⟩⟩
  all_goals first | decide +kernel | (dsimp only [Canonical, OnTime, Issues, Offered, Quiet]; decide +kernel)

theorem witness_FabricNumbers :
    (∃ (t : Tick) (q : Fin 8) (v : SkdView) (s : State), OnTime s t ∧ s.skd.cruise = .elect ∧
      s.skd.view = some v ∧ v.port = some q ∧ s.skd.viewAt + 4800000 ≤ t) ∧
    (∃ (t : Tick) (v : SkdView) (s : State), OnTime s t ∧ s.skd.cruise = .elect ∧ s.skd.view = some
      v ∧ v.port = none ∧ s.skd.viewAt + 4800000 ≤ t ∧ s.skd.isCoord = false) ∧
    (∃ (t : Tick) (p : Fin 8) (bs : List Byte) (n : Nat) (die : Nat) (req : Nat) (present : Nat) (s
      : State), OnTime s t ∧ domOn s 6 = true ∧ frameGood bs = true ∧ frKind bs = 3 ∧ frDest bs =
      254 ∧ frClass bs = 1 ∧ s.skd.port[p].state = .up ∧ s.skd.isCoord = true ∧ s.skd.node ≠ 254 ∧ 1
      ≤ n ∧ n ≤ 253 ∧ leAt (frPayload bs) 0 8 = die ∧ byteAt (frPayload bs) 8 = req ∧ byteAt
      (frPayload bs) 9 = present ∧ ((present = n ∧ (∀ e ∈ holderOf s n, e.die = die ∨ (die < e.die ∧
      e.die ≠ s.skd.dieId))) ∨ ((present = 0 ∨ 253 < present ∨ ∃ e ∈ holderOf s present, e.die <
      die) ∧ ((req = n ∧ ∀ e ∈ holderOf s n, e.die = die) ∨ ((req = 0 ∨ 253 < req ∨ ∃ e ∈ holderOf s
      req, e.die ≠ die ∧ e.lost = none) ∧ holderOf s n = none ∧ ∀ k < n, 1 ≤ k → (holderOf s
      k).isSome = true))))) ∧
    (∃ (t : Tick) (p : Fin 8) (bs : List Byte) (s : State), OnTime s t ∧ domOn s 6 = true ∧
      frameGood bs = true ∧ frKind bs = 4 ∧ frDest bs = 255 ∧ frSrc bs ≠ 0 ∧ s.skd.node ≠ 255 ∧
      s.skd.port[p].state = .up ∧ (treePorts s).contains p = true ∧ leAt (frPayload bs) 0 8 ≠
      s.skd.dieId) ∧
    (∃ (t : Tick) (p : Fin 8) (bs : List Byte) (s : State), OnTime s t ∧ domOn s 6 = true ∧
      frameGood bs = true ∧ frKind bs = 4 ∧ frDest bs = 255 ∧ frSrc bs ≠ 0 ∧ s.skd.node ≠ 255 ∧
      s.skd.port[p].state = .up ∧ (treePorts s).contains p = true ∧ leAt (frPayload bs) 0 8 =
      s.skd.dieId) ∧
    (∃ (t : Tick) (s : State), OnTime s t ∧ s.skd.cruise = .numbering ∧ s.skd.reqAt + 32000000 ≤ t) ∧
    (∃ (t : Tick) (s : State), OnTime s t ∧ s.skd.cruise = .unblazed ∧ s.skd.refusedAt + 1600000000
      ≤ t) ∧
    (∃ (t : Tick) (s : State), OnTime s t ∧ s.skd.isCoord = true ∧ ((∀ w ∈ s.skd.reqWait, ∀ e ∈
      s.skd.nums, e.num = w.2 → e.lost.any (fun x => decide (x + max (skdCruiseHoldMs s) 1 * 1600000
      ≤ t)) = false))) ∧
    (∃ (t : Tick) (die : Nat) (n : Nat) (e : NumEntry) (s : State), OnTime s t ∧ s.skd.isCoord =
      true ∧ s.skd.reqWait = [(die, n)] ∧ 1 ≤ n ∧ n ≤ 253 ∧ e ∈ s.skd.nums ∧ e.num = n ∧ ((∀ x ∈
      s.skd.nums, x.num = n → x.lost.any (fun y => decide (y + max (skdCruiseHoldMs s) 1 * 1600000 ≤
      t)) = true))) ∧
    (∃ (t : Tick) (p : Fin 8) (bs : List Byte) (die : Nat) (req : Nat) (s : State), OnTime s t ∧
      domOn s 6 = true ∧ frameGood bs = true ∧ frKind bs = 3 ∧ frDest bs = 254 ∧ frClass bs = 1 ∧
      s.skd.port[p].state = .up ∧ s.skd.isCoord = true ∧ s.skd.node ≠ 254 ∧ leAt (frPayload bs) 0 8
      = die ∧ byteAt (frPayload bs) 8 = req ∧ byteAt (frPayload bs) 9 = 0 ∧ 1 ≤ req ∧ req ≤ 253 ∧ (∃
      e ∈ holderOf s req, e.die ≠ die ∧ e.lost.isSome = true)) ∧
    (∃ (t : Tick) (p : Fin 8) (bs : List Byte) (die : Nat) (req : Nat) (s : State), OnTime s t ∧
      domOn s 6 = true ∧ frameGood bs = true ∧ frKind bs = 3 ∧ frDest bs = 254 ∧ frClass bs = 1 ∧
      s.skd.port[p].state = .up ∧ s.skd.isCoord = true ∧ s.skd.node ≠ 254 ∧ leAt (frPayload bs) 0 8
      = die ∧ byteAt (frPayload bs) 8 = req ∧ byteAt (frPayload bs) 9 = 0 ∧ req = 0 ∧ ((∀ k < 254, 1
      ≤ k → (holderOf s k).isSome = true))) := by
  refine ⟨
    ⟨20800000, 3, (⟨5, 2, some 3⟩), { s0 with skd := { s0.skd with cruise := .elect, view := some ⟨5, 2, some 3⟩, viewAt := 16000000, port := s0.skd.port.set 3 { s0.skd.port[3] with state := .up } } }, ?_⟩,
    ⟨20800000, (⟨5, 0, none⟩), { (wr s0 [(0x40060000, 0x7)]) with skd := { s0.skd with cruise := .elect, view := some ⟨5, 0, none⟩, viewAt := 16000000, port := s0.skd.port.set 3 { s0.skd.port[3] with state := .up } } }, ?_⟩,
    ⟨17600000, 3, (buildFrame 254 0 1 0 3 0 [1,2,3,4,5,6,7,8, 0, 33]), 33, 0x0807060504030201, 0, 33, { s0 with skd := { s0.skd with node := 9, isCoord := true, cruise := .numbered, nums := [⟨9, 5, none⟩, ⟨40, 0x0807060504030201, none⟩], port := s0.skd.port.set 3 { s0.skd.port[3] with state := .up } } }, ?_⟩,
    ⟨17600000, 3, (buildFrame 255 8 1 0 4 0 [1,2,3,4,5,6,7,8, 33, 0]), { s0 with skd := { s0.skd with cruise := .numbering, dieId := 0x1807060504030201, view := some ⟨5, 2, some 3⟩, port := s0.skd.port.set 3 { s0.skd.port[3] with state := .up } } }, ?_⟩,
    ⟨17600000, 3, (buildFrame 255 8 1 0 4 0 [1,2,3,4,5,6,7,8, 33, 0]), { s0 with skd := { s0.skd with cruise := .numbering, dieId := 0x0807060504030201, view := some ⟨5, 2, some 3⟩, port := s0.skd.port.set 3 { s0.skd.port[3] with state := .up } } }, ?_⟩,
    ⟨48000000, { s0 with skd := { s0.skd with cruise := .numbering, reqAt := 16000000, view := some ⟨5, 2, some 3⟩, port := s0.skd.port.set 3 { s0.skd.port[3] with state := .up } } }, ?_⟩,
    ⟨1648000000, { s0 with skd := { s0.skd with cruise := .unblazed, refusedAt := 16000000, view := some ⟨5, 2, some 3⟩, port := s0.skd.port.set 3 { s0.skd.port[3] with state := .up } } }, ?_⟩,
    ⟨17600000, { (wr s0 [(0x40060018, 0x10000)]) with skd := { s0.skd with isCoord := true, nums := [⟨9, 5, none⟩, ⟨40, 6, some 16000000⟩, ⟨41, 6, some 16000001⟩], owner := [(3, 40), (4, 9), (7, 41)] } }, ?_⟩,
    ⟨17600000, 77, 40, (⟨40, 6, some 16000000⟩), { (wr s0 [(0x40060018, 0x10000)]) with skd := { s0.skd with isCoord := true, node := 9, nums := [⟨9, 5, none⟩, ⟨40, 6, some 16000000⟩], reqWait := [(77, 40)], owner := [(3, 40), (4, 9), (7, 41)] } }, ?_⟩,
    ⟨17600000, 3, (buildFrame 254 0 1 0 3 0 [1,2,3,4,5,6,7,8, 40, 0]), 0x0807060504030201, 40, { s0 with skd := { s0.skd with node := 9, isCoord := true, cruise := .numbered, nums := [⟨9, 5, none⟩, ⟨40, 6, some 3⟩], port := s0.skd.port.set 3 { s0.skd.port[3] with state := .up } } }, ?_⟩,
    ⟨17600000, 3, (buildFrame 254 0 1 0 3 0 [1,2,3,4,5,6,7,8, 0, 0]), 0x0807060504030201, 0, { s0 with skd := { s0.skd with node := 9, isCoord := true, cruise := .numbered, nums := (List.range 254).map fun n => ⟨n, n, none⟩, port := s0.skd.port.set 3 { s0.skd.port[3] with state := .up } } }, ?_⟩⟩
  all_goals first | decide +kernel | (dsimp only [Canonical, OnTime, Issues, Offered, Quiet]; decide +kernel)

theorem witness_FabricRoutes :
    (∃ (t : Tick) (p : Fin 8) (bs : List Byte) (es : List (Byte × Byte)) (s : State), OnTime s t ∧
      domOn s 6 = true ∧ frameGood bs = true ∧ frKind bs = 2 ∧ s.skd.port[p].state = .up ∧
      (frPayload bs = es.flatMap (fun e => [e.1, e.2])) ∧ ((∀ e ∈ es, 1 ≤ e.1.toNat ∧ e.1.toNat ≤
      253 ∧ e.1.toNat ≠ s.skd.node ∧ (e.2.toNat ≤ 16 ∨ e.2.toNat = 255)))) ∧
    (∃ (t : Tick) (p : Fin 8) (s : State), OnTime s t ∧ s.skd.port[p].state = .up ∧
      s.skd.port[p].advertAt + 16000000 ≤ t) ∧
    (∃ (t : Tick) (p : Fin 8) (s : State), OnTime s t ∧ s.skd.port[p].state = .up ∧
      s.skd.port[p].changed ≠ [] ∧ s.skd.port[p].updateAt + 160000 ≤ t) ∧
    (∃ (t : Tick) (s : State), OnTime s t) ∧
    (∃ (t : Tick) (p : Fin 8) (bs : List Byte) (st : Nat) (s : State), OnTime s t ∧ domOn s 6 = true
      ∧ frameGood bs = true ∧ frKind bs = 5 ∧ frDest bs = 254 ∧ frSrc bs ≠ 0 ∧ s.skd.port[p].state =
      .up ∧ s.skd.isCoord = true ∧ s.skd.node ≠ 254 ∧ leAt (frPayload bs) 0 2 % 4096 = st ∧
      s.skd.owner.length < 4096 ∧ sget 0 s.skd.owner st = 0) ∧
    (∃ (t : Tick) (p : Fin 8) (bs : List Byte) (st : Nat) (s : State), OnTime s t ∧ domOn s 6 = true
      ∧ frameGood bs = true ∧ frKind bs = 5 ∧ frDest bs = 254 ∧ frSrc bs ≠ 0 ∧ s.skd.port[p].state =
      .up ∧ s.skd.isCoord = true ∧ s.skd.node ≠ 254 ∧ leAt (frPayload bs) 0 2 % 4096 = st ∧ (sget 0
      s.skd.owner st ≠ 0 ∨ 4096 ≤ s.skd.owner.length)) ∧
    (∃ (t : Tick) (p : Fin 8) (bs : List Byte) (s : State), OnTime s t ∧ domOn s 6 = true ∧
      frameGood bs = true ∧ frKind bs = 6 ∧ frDest bs = s.skd.node ∧ s.skd.node ≠ 0 ∧ frSrc bs ≠ 0 ∧
      s.skd.port[p].state = .up ∧ s.skd.isCoord = false ∧ (s.skd.regWait.any (fun w => w.1 == leAt
      (frPayload bs) 0 2 % 4096) = true)) ∧
    (∃ (t : Tick) (s : State), OnTime s t) ∧
    (∃ (t : Tick) (p : Fin 8) (bs : List Byte) (s : State), OnTime s t ∧ domOn s 6 = true ∧
      frameGood bs = true ∧ frKind bs = 7 ∧ frDest bs = s.skd.node ∧ s.skd.node ≠ 0 ∧ frSrc bs ≠ 0 ∧
      s.skd.port[p].state = .up) := by
  refine ⟨
    ⟨17600000, 3, (buildFrame 255 8 0 0 2 0 [33, 4]), ([(33, 4)]), { s0 with skd := { s0.skd with node := 9, offers := [(266, ⟨6, 5⟩)], routes := [(33, ⟨1, 6, 2⟩)], port := s0.skd.port.set 3 { s0.skd.port[3] with state := .up } } }, ?_⟩,
    ⟨32000000, 3, { s0 with skd := { s0.skd with node := 9, port := s0.skd.port.set 3 { s0.skd.port[3] with state := .up, advertAt := 16000000 } } }, ?_⟩,
    ⟨17600000, 3, { s0 with skd := { s0.skd with node := 9, routes := [(33, ⟨1, 6, 2⟩)], port := s0.skd.port.set 3 { s0.skd.port[3] with state := .up, changed := [33], updateAt := 16000000 } } }, ?_⟩,
    ⟨72000000, { s0 with skd := { s0.skd with offers := [(266, ⟨6, 16000000⟩), (267, ⟨6, 16000001⟩)], routes := [(33, ⟨1, 6, 2⟩)] } }, ?_⟩,
    ⟨17600000, 3, (buildFrame 254 33 1 0 5 0 [0x34, 0x12]), 0x234, { s0 with skd := { s0.skd with node := 9, isCoord := true, cruise := .numbered, owner := [(3, 40)], port := s0.skd.port.set 3 { s0.skd.port[3] with state := .up } } }, ?_⟩,
    ⟨17600000, 3, (buildFrame 254 33 1 0 5 0 [0x34, 0x12]), 0x234, { s0 with skd := { s0.skd with node := 9, isCoord := true, cruise := .numbered, owner := [(0x234, 40)], port := s0.skd.port.set 3 { s0.skd.port[3] with state := .up } } }, ?_⟩,
    ⟨17600000, 3, (buildFrame 9 8 1 0 6 0 [0x34, 0x02, 1]), { s0 with skd := { s0.skd with node := 9, regWait := [(0x234, 5)], port := s0.skd.port.set 3 { s0.skd.port[3] with state := .up } } }, ?_⟩,
    ⟨48000000, { s0 with skd := { s0.skd with node := 9, regWait := [(5, 16000000)], port := s0.skd.port.set 3 { s0.skd.port[3] with state := .up } } }, ?_⟩,
    ⟨17600000, 3, (buildFrame 9 8 1 0 7 0 [0x34, 0x02, 3, 0, 7, 0]), { s0 with skd := { s0.skd with node := 9, port := s0.skd.port.set 3 { s0.skd.port[3] with state := .up } } }, ?_⟩⟩
  · dsimp only [OnTime, Quiet]
    refine ⟨?_, ?_, ?_, ?_, ?_, ?_, fun e h => ?one⟩
    case one => obtain rfl := List.mem_singleton.mp h; decide
    all_goals decide +kernel
  all_goals first | decide +kernel | (dsimp only [Canonical, OnTime, Issues, Offered, Quiet]; decide +kernel)

theorem witness_FabricData :
    (∃ (t : Tick) (p : Fin 8) (bs : List Byte) (s : State), OnTime s t ∧ domOn s 6 = true ∧
      frameGood bs = true ∧ frKind bs = 0 ∧ frDest bs = s.skd.node ∧ s.skd.node ≠ 0 ∧ frSrc bs ≠ 0 ∧
      s.skd.port[p].state = .up ∧ blzStream s (frStream bs) = true) ∧
    (∃ (t : Tick) (p : Fin 8) (bs : List Byte) (s : State), OnTime s t ∧ domOn s 6 = true ∧
      frameGood bs = true ∧ frKind bs = 0 ∧ frDest bs ≠ s.skd.node ∧ frDest bs < 254 ∧
      s.skd.port[p].state = .up ∧ reachOf s (frDest bs) = 0) ∧
    (∃ (t : Tick) (p : Fin 8) (f : SkdFrame) (s : State), OnTime s t ∧ (s.skd.port[p].state = .up ∨
      s.skd.port[p].state = .credit) ∧ nextLink s.skd.port[p] = some f ∧ s.skd.port[p].busy ≤ 5 * t) ∧
    (∃ (t : Tick) (s : State), OnTime s t) ∧
    (∃ (t : Tick) (p : Fin 8) (s : State), OnTime s t ∧ parentPort s = some p ∧ s.skd.port[p].state
      = .up ∧ t % 1600000 = 0) ∧
    (∃ (t : Tick) (p : Fin 8) (bs : List Byte) (s : State), OnTime s t ∧ domOn s 6 = true ∧
      frameGood bs = true ∧ frKind bs = 8 ∧ s.skd.port[p].state = .up) ∧
    (∃ (t : Tick) (t1 : Tick) (t4 : Tick) (p : Fin 8) (bs : List Byte) (s : State), OnTime s t ∧
      domOn s 6 = true ∧ frameGood bs = true ∧ frKind bs = 9 ∧ s.skd.port[p].state = .up ∧
      parentPort s = some p ∧ s.skd.exchange = true ∧ s.skd.t1 = some t1 ∧ t4 < t1 + 32000) ∧
    (∃ (t : Tick) (x : Tick) (s : State), OnTime s t ∧ s.skd.exchange = true ∧ s.skd.t1 = some x ∧ x
      + 32000 ≤ t) ∧
    (∃ (t : Tick) (s : State), OnTime s t ∧ s.skd.isCoord = false ∧ s.skd.exchangedAt + 8000000 ≤ t) ∧
    (∃ (t : Tick) (s : State), Quiet s t ∧ domOn s 6 = true ∧ s.skd.post.length < 64) ∧
    (∃ (t : Tick) (s : State), Quiet s t ∧ domOn s 6 = true ∧ 64 ≤ s.skd.post.length) ∧
    (∃ (t : Tick) (a : Nat) (q : List Nat) (s : State), OnTime s t ∧ s.skd.post = a :: q ∧ domOn s 6
      = true ∧ inSram a = true ∧ (streamSends s (leNat (memBytes s a 4) % 4096) = false ∨ 256 <
      leNat (memBytes s a 4) / 2 ^ 16 % 512)) ∧
    (∃ (t : Tick) (a : Nat) (st : Nat) (len : Nat) (b : List Byte) (r : Fin 8) (q : List Nat) (s :
      State), OnTime s t ∧ s.skd.post = a :: q ∧ domOn s 6 = true ∧ inSram a = true ∧ s.sys.flips =
      [] ∧ leNat (memBytes s a 4) % 4096 = st ∧ leNat (memBytes s a 4) / 2 ^ 16 % 512 = len ∧
      buildFrame (skdStrDest s st) s.skd.node (skdStrClass s st) 0 0 st (memBytes s (a + 4) len) = b
      ∧ streamSends s st = true ∧ len ≤ 256 ∧ skdStrDest s st ≠ s.skd.node ∧ ((skdStrClass s st = 0
      → s.skd.shaped = [] ∧ tokensOf b ≤ s.skd.tokens ∧ s.skd.tokens ≤ 131072000)) ∧ ((skdStrClass s
      st = 2 → ownC2 s = false)) ∧ c3Refused s b = false ∧ 1 ≤ skdStrDest s st ∧ skdStrDest s st ≤
      253 ∧ reachOf s (skdStrDest s st) = 1 ∧ (routeOf s (skdStrDest s st)).port = r.val ∧ inSram (a
      + 288) = true) ∧
    (∃ (t : Tick) (p : Fin 8) (bs : List Byte) (s : State), OnTime s t ∧ domOn s 6 = true ∧
      frameGood bs = true ∧ frKind bs = 0 ∧ frDest bs = s.skd.node ∧ s.skd.node ≠ 0 ∧ frSrc bs ≠ 0 ∧
      s.skd.port[p].state = .up ∧ blzStream s (frStream bs) = false ∧ limStream s (frStream bs) =
      false ∧ srcStream s (frStream bs) = false ∧ skdStrRx s (frStream bs) = false) ∧
    (∃ (t : Tick) (p : Fin 8) (q : Fin 8) (bs : List Byte) (s : State), OnTime s t ∧ domOn s 6 =
      true ∧ frameGood bs = true ∧ frKind bs = 0 ∧ frDest bs ≠ s.skd.node ∧ frDest bs < 254 ∧ frDest
      bs ≠ 0 ∧ frSrc bs ≠ 0 ∧ s.skd.port[p].state = .up ∧ reachOf s (frDest bs) = 1 ∧ (routeOf s
      (frDest bs)).port = q.val ∧ frHops bs < 14 ∧ c3Refused s (withHops bs (frHops bs + 1)) =
      false) ∧
    (∃ (t : Tick) (p : Fin 8) (f : SkdFrame) (s : State), OnTime s t ∧ s.skd.port[p].state = .up ∧
      nextLink s.skd.port[p] = none ∧ nextOut s s.skd.port[p] = some f ∧ s.skd.shaped = [] ∧
      ((s.skd.port[p].out.all fun x => !c1Old (s.at t) x) = true) ∧ s.skd.port[p].busy ≤ 5 * t) := by
  refine ⟨
    ⟨17600000, 3, (buildFrame 9 8 1 0 0 77 [1, 2, 3, 4, 5]), { (wr s0 [(0x700101A0, 0xA004D000)]) with skd := { s0.skd with node := 9, port := s0.skd.port.set 3 { s0.skd.port[3] with state := .up } } }, ?_⟩,
    ⟨17600000, 3, (buildFrame 9 8 1 0 0 77 [1, 2, 3, 4, 5]), { s0 with skd := { s0.skd with node := 10, port := s0.skd.port.set 3 { s0.skd.port[3] with state := .up } } }, ?_⟩,
    ⟨17600000, 3, (⟨[1, 2, 3], 0, 1, 5, none, 3⟩), { s0 with skd := { s0.skd with node := 9, port := s0.skd.port.set 3 { s0.skd.port[3] with state := .up, link := [⟨[1, 2, 3], 0, 1, 5, none, 3⟩] } } }, ?_⟩,
    ⟨17600000, { (wr s0 [(0x4006001C, 0xA000000)]) with skd := { s0.skd with node := 9, port := s0.skd.port.set 3 { s0.skd.port[3] with state := .up, out := [⟨[1, 2, 3], 1, 6, 5, some 2, 3⟩] } } }, ?_⟩,
    ⟨17600000, 3, { s0 with skd := { s0.skd with node := 9, view := some ⟨5, 2, some 3⟩, t1 := some 5, port := s0.skd.port.set 3 { s0.skd.port[3] with state := .up } } }, ?_⟩,
    ⟨17600000, 3, (buildFrame 255 8 0 0 8 0 []), { s0 with skd := { s0.skd with node := 9, port := s0.skd.port.set 3 { s0.skd.port[3] with state := .up } } }, ?_⟩,
    ⟨17600000, 17000000, 17001000, 3, (buildFrame 255 8 0 0 9 0 (leBytes 8 17000500 ++ leBytes 8 17000900)), { s0 with skd := { s0.skd with node := 9, view := some ⟨5, 2, some 3⟩, t1 := some 17000000, exchange := true, port := s0.skd.port.set 3 { s0.skd.port[3] with state := .up } }, pba := { s0.pba with mode := .drive } }, ?_⟩,
    ⟨17600000, 17000000, { s0 with skd := { s0.skd with t1 := some 17000000, exchange := true } }, ?_⟩,
    ⟨24000000, { s0 with skd := { s0.skd with exchangedAt := 16000000, aligned := true, close := 3 } }, ?_⟩,
    ⟨17600000, { s0 with skd := { s0.skd with post := [64] } }, ?_⟩,
    ⟨17600000, { s0 with skd := { s0.skd with post := List.replicate 64 64 } }, ?_⟩,
    ⟨17600000, 0x10000100, [64], { s0 with skd := { s0.skd with post := [0x10000100, 64] } }, ?_⟩,
    ⟨17600000, 0x10000100, 0x234, 3, (buildFrame 33 9 1 0 0 0x234 [9, 0, 7]), 4, [64], { (wr s0 [(0x400691A0, 0x92100000)]) with skd := { s0.skd with node := 9, post := [0x10000100, 64], result := [(0x234, 1)], routes := [(33, ⟨1, 6, 4⟩)], port := s0.skd.port.set 4 { s0.skd.port[4] with state := .up } }, mem := [(0x10000100, 0x34), (0x10000101, 2), (0x10000102, 3), (0x10000104, 9), (0x10000106, 7)] }, ?_⟩,
    ⟨17600000, 3, (buildFrame 9 8 1 0 0 77 [1, 2, 3, 4, 5]), { s0 with skd := { s0.skd with node := 9, port := s0.skd.port.set 3 { s0.skd.port[3] with state := .up } } }, ?_⟩,
    ⟨17600000, 3, 4, (buildFrame 9 8 1 0 0 77 [1, 2, 3, 4, 5]), { s0 with skd := { s0.skd with node := 10, routes := [(9, ⟨1, 2, 4⟩)], port := s0.skd.port.set 3 { s0.skd.port[3] with state := .up } } }, ?_⟩,
    ⟨17600000, 3, (⟨buildFrame 4 9 3 0 0 77 [1], 3, 0, 5, some 2, 3⟩), { s0 with skd := { s0.skd with node := 9, port := s0.skd.port.set 3 { s0.skd.port[3] with state := .up, out := [⟨buildFrame 4 9 3 0 0 77 [1], 3, 0, 5, some 2, 3⟩] } } }, ?_⟩⟩
  all_goals first | decide +kernel | (dsimp only [Canonical, OnTime, Issues, Offered, Quiet]; decide +kernel)

theorem witness_CanReception :
    (∃ (t : Tick) (ch : Fin 6) (f : CanFrame) (s : State), Quiet s t ∧ canRuns s ch = true ∧ ((f.fdf
      = true → canCfgFd s ch = true ∧ f.res = false)) ∧ s.can[ch].tecCount ≤ 255 ∧ f.ide = false ∧
      blzCan s ch f.ident = true) ∧
    (∃ (t : Tick) (ch : Fin 6) (f : CanFrame) (i : Nat) (b : Fin 64) (s : State), Quiet s t ∧
      canRuns s ch = true ∧ ((f.fdf = true → canCfgFd s ch = true ∧ f.res = false)) ∧
      s.can[ch].tecCount ≤ 255 ∧ ((f.ide = true ∨ (blzCan s ch f.ident = false ∧ limCan s ch f.ident
      = false ∧ srcCan s ch f.ident = false))) ∧ (((List.range 128).find? fun j => filterHits s ch f
      j) = some i) ∧ canFltActAction s ch i = 0 ∧ canFltActBuf s ch i = b.val ∧ canBufEn s ch b =
      true ∧ canBufDir s ch b = false) ∧
    (∃ (t : Tick) (s : State), Quiet s t ∧ domOn s 7 = true) ∧
    (∃ (t : Tick) (s : State), Quiet s t ∧ domOn s 7 = false) ∧
    (∃ (t : Tick) (ch : Fin 6) (f : CanFrame) (s : State), Quiet s t ∧ canRuns s ch = true ∧ ((f.fdf
      = true → canCfgFd s ch = true)) ∧ s.can[ch].tecCount ≤ 255) ∧
    (∃ (t : Tick) (ch : Fin 6) (f : CanFrame) (s : State), Quiet s t ∧ canRuns s ch = true ∧ ((f.fdf
      = true → canCfgFd s ch = true ∧ f.res = false)) ∧ s.can[ch].tecCount ≤ 255 ∧ ((f.ide = true ∨
      (blzCan s ch f.ident = false ∧ limCan s ch f.ident = false ∧ srcCan s ch f.ident = false))) ∧
      ((∀ i, ((List.range 128).find? fun j => filterHits s ch f j) = some i → 2 ≤ canFltActAction s
      ch i))) := by
  refine ⟨
    ⟨17600000, 2, { ident := 0x123, fdf := true, dlc := 9, data := [1,2,3,4,5,6,7,8,9,10,11,12] }, { (wr s0 [(0x40072000, 0xC0000000), (0x700101A0, 0x82123000)]) with can := s0.can.set 2 { s0.can[2] with st := 0, tecCount := 5, recCount := 3 } }, ?_⟩,
    ⟨17600000, 2, { ide := true, ident := 0x123, fdf := true, dlc := 9, data := [1,2,3,4,5,6,7,8,9,10,11,12] }, 4, 9, { (wr s0 [(0x40072000, 0xC0000000), (0x40072224, 0x80000000), (0x40072440, 0xC0000120), (0x40072444, 0xFF0), (0x40072448, 0x9000000)]) with can := s0.can.set 2 { s0.can[2] with st := 1, tecCount := 5, recCount := 130 } }, ?_⟩,
    ⟨17600000, { s0 with can := s0.can.set 2 { s0.can[2] with st := 0, buf := s0.can[2].buf.set 9 { new := true, stamp := 6 } } }, ?_⟩,
    ⟨17600000, { s0 with sys := { s0.sys with dom := s0.sys.dom.set 7 .off } }, ?_⟩,
    ⟨17600000, 2, { ident := 0x123, fdf := true, dlc := 9, data := [1,2,3,4,5,6,7,8,9,10,11,12] }, { (wr s0 [(0x40072000, 0xC0000000)]) with can := s0.can.set 2 { s0.can[2] with st := 1, tecCount := 5, recCount := 130 } }, ?_⟩,
    ⟨17600000, 2, { ident := 0x123, fdf := true, dlc := 9, data := [1,2,3,4,5,6,7,8,9,10,11,12] }, { (wr s0 [(0x40072000, 0xC0000000)]) with can := s0.can.set 2 { s0.can[2] with st := 0, tecCount := 5, recCount := 3 } }, ?_⟩⟩
  all_goals first | decide +kernel | (dsimp only [Canonical, OnTime, Issues, Offered, Quiet]; decide +kernel)

theorem witness_CanSending :
    (∃ (t : Tick) (ch : Fin 6) (b : Fin 64) (s : State), Quiet s t ∧ domOn s 7 = true ∧ canBufEn s
      ch b = true ∧ canBufDir s ch b = true ∧ s.can[ch].buf[b].pend = false) ∧
    (∃ (t : Tick) (ch : Fin 6) (b : Fin 64) (s : State), Quiet s t ∧ domOn s 7 = true ∧ ((canBufEn s
      ch b = false ∨ canBufDir s ch b = false ∨ s.can[ch].buf[b].pend = true))) ∧
    (∃ (t : Tick) (s : State), Quiet s t ∧ domOn s 7 = false) ∧
    (∃ (t : Tick) (ch : Fin 6) (b : Fin 64) (s : State), Quiet s t ∧ domOn s 7 = true ∧
      s.can[ch].buf[b].pend = true ∧ (s.can[ch].offer ≠ .buffer b ∨ (t < s.can[ch].sofAt ∧ s.clk.now
      < s.can[ch].sofAt))) ∧
    (∃ (t : Tick) (ch : Fin 6) (b : Fin 64) (s : State), Quiet s t ∧ domOn s 7 = true ∧
      s.can[ch].buf[b].pend = true ∧ s.can[ch].offer = .buffer b ∧ s.can[ch].sofAt ≤ s.clk.now) ∧
    (∃ (t : Tick) (ch : Fin 6) (b : Fin 64) (s : State), Quiet s t ∧ canSends s ch = true ∧
      s.can[ch].offer = .buffer b ∧ s.can[ch].tecCount ≤ 255) ∧
    (∃ (t : Tick) (ch : Fin 6) (s : State), Quiet s t ∧ canRuns s ch = true ∧ canCfgListen s ch =
      false) ∧
    (∃ (t : Tick) (ch : Fin 6) (k : CanFault) (s : State), Quiet s t ∧ canRuns s ch = true ∧
      canCfgListen s ch = false ∧ s.can[ch].tecCount ≤ 255 ∧ k ≠ .transmit) ∧
    (∃ (t : Tick) (ch : Fin 6) (s : State), Quiet s t ∧ domOn s 7 = true ∧ s.can[ch].st = 2) ∧
    (∃ (t : Tick) (ch : Fin 6) (s : State), Quiet s t ∧ domOn s 7 = true ∧ s.can[ch].st ≠ 2) ∧
    (∃ (t : Tick) (ch : Fin 6) (s : State), Quiet s t ∧ s.can[ch].st = 2 ∧ s.can[ch].recovering =
      true) ∧
    (∃ (t : Tick) (ch : Fin 6) (b : Fin 64) (res : CanResult) (s : State), Quiet s t ∧ canSends s ch
      = true ∧ s.can[ch].offer = .buffer b ∧ (res = .arbLost ∨ res = .error)) ∧
    (∃ (t : Tick) (ch : Fin 6) (f : CanFrame) (q : List CanFrame) (s : State), Quiet s t ∧ canSends
      s ch = true ∧ s.can[ch].offer = .queue ∧ s.can[ch].queue = f :: q ∧ s.can[ch].tecCount ≤ 255) := by
  refine ⟨
    ⟨17600000, 2, 9, { (wr s0 [(0x40072000, 0x80000000), (0x40072080, 0x1FFF), (0x40072084, 0xC0100), (0x400720C0, 0x12345678), (0x40072224, 0xC0000000)]) with can := s0.can.set 2 { s0.can[2] with st := 0, buf := s0.can[2].buf.set 9 { new := true, abort := true, txres := 3 } } }, ?_⟩,
    ⟨17600000, 2, 9, { (wr s0 [(0x40072224, 0xC0000000)]) with can := s0.can.set 2 { s0.can[2] with st := 0, buf := s0.can[2].buf.set 9 { pend := true } } }, ?_⟩,
    ⟨17600000, { s0 with sys := { s0.sys with dom := s0.sys.dom.set 7 .off } }, ?_⟩,
    ⟨17600000, 2, 9, { s0 with can := s0.can.set 2 { s0.can[2] with st := 0, buf := s0.can[2].buf.set 9 { pend := true }, offer := .buffer 8 } }, ?_⟩,
    ⟨17600000, 2, 9, { s0 with can := s0.can.set 2 { s0.can[2] with st := 0, buf := s0.can[2].buf.set 9 { pend := true }, offer := .buffer 9, sofAt := 5 } }, ?_⟩,
    ⟨17600000, 2, 9, { (wr s0 [(0x40072000, 0xC0000000)]) with can := s0.can.set 2 { s0.can[2] with st := 0, buf := s0.can[2].buf.set 9 { pend := true, abort := true }, offer := .buffer 9, tecCount := 0 } }, ?_⟩,
    ⟨17600000, 2, { (wr s0 [(0x40072000, 0xC0000000)]) with can := s0.can.set 2 { s0.can[2] with st := 0, tecCount := 3, recCount := 7 } }, ?_⟩,
    ⟨17600000, 2, (.receive), { (wr s0 [(0x40072000, 0xC0000000)]) with can := s0.can.set 2 { s0.can[2] with st := 0, tecCount := 3, recCount := 127 } }, ?_⟩,
    ⟨17600000, 2, { s0 with can := s0.can.set 2 { s0.can[2] with st := 2, tecCount := 256 } }, ?_⟩,
    ⟨17600000, 2, { s0 with can := s0.can.set 2 { s0.can[2] with st := 1, tecCount := 256 } }, ?_⟩,
    ⟨17600000, 2, { (wr s0 [(0x40072000, 0xC0000000)]) with can := s0.can.set 2 { s0.can[2] with st := 2, tecCount := 256, recCount := 9, recovering := true } }, ?_⟩,
    ⟨17600000, 2, 9, (.error), { (wr s0 [(0x40072000, 0xC0000000)]) with can := s0.can.set 2 { s0.can[2] with st := 0, buf := s0.can[2].buf.set 9 { pend := true, oneshot := true }, offer := .buffer 9, tecCount := 0 } }, ?_⟩,
    ⟨17600000, 2, { ident := 5, fdf := true }, [], { (wr s0 [(0x40072000, 0xC0000000)]) with can := s0.can.set 2 { s0.can[2] with st := 0, queue := [{ ident := 5, fdf := true }], esi := true, offer := .queue, tecCount := 0 } }, ?_⟩⟩
  all_goals first | decide +kernel | (dsimp only [Canonical, OnTime, Issues, Offered, Quiet]; decide +kernel)

theorem witness_StartUp :
    (∃ (t : Tick) (s : State), Quiet s t ∧ s.boot.released = false) ∧
    (∃ (t : Tick) (s : State), Quiet s t ∧ s.boot.phase = 1 ∧ s.boot.strapTest = false) ∧
    (∃ (t : Tick) (s : State), Quiet s t ∧ s.boot.phase = 1 ∧ s.boot.strapTest = true) ∧
    (∃ (t : Tick) (s : State), Quiet s t ∧ s.boot.phase = 2) ∧
    (∃ (t : Tick) (silent : Bool) (s : State), Quiet s t ∧ s.boot.phase = 3 ∧ ((∀ b : Bool, silent =
      true ∨ causeOf s b ≠ 0 ∨ headerCause s b ≠ 0))) ∧
    (∃ (t : Tick) (s : State), Quiet s t ∧ s.boot.phase = 4 ∧ s.boot.failed = false ∧ imageCause s
      s.boot.slot = 0) ∧
    (∃ (t : Tick) (s : State), Quiet s t ∧ s.boot.phase = 4 ∧ s.boot.failed = false ∧ imageCause s
      s.boot.slot ≠ 0) ∧
    (∃ (t : Tick) (s : State), OnTime s t ∧ s.boot.phase = 5) := by
  refine ⟨
    ⟨17600000, { s0 with boot := { s0.boot with phase := 0 } }, ?_⟩,
    ⟨17600000, { s0 with boot := { s0.boot with phase := 1 }, clk := {} }, ?_⟩,
    ⟨17600000, { s0 with boot := { s0.boot with phase := 1, strapTest := true }, clk := {} }, ?_⟩,
    ⟨17600000, { s0 with boot := { s0.boot with phase := 2 }, flog := { s0.flog with die := 77, capTrim := s0.flog.capTrim.set 3 0x80010005 } }, ?_⟩,
    ⟨17600000, false, { s0 with boot := { s0.boot with phase := 3 }, flog := { s0.flog with waiting := [8] } }, ?_⟩,
    ⟨17600000, { s0 with boot := { s0.boot with phase := 4 }, nor := [(0x1008, 3), (0x1009, 2), (0x100A, 0), (0x1010, 7)] }, ?_⟩,
    ⟨17600000, { s0 with boot := { s0.boot with phase := 4 }, nor := [(0x100A, 1), (0x1020, 5), (0x1024, 0), (0x1025, 4), (0x1026, 0), (0x1027, 0), (0x1028, 4), (0x1029, 0), (0x102A, 0), (0x102B, 0)] }, ?_⟩,
    ⟨17600000, { (wr s0 [(0x40084008, 0x30000), (0x40090000, 0x1), (0x400F0004, 0x32)]) with boot := { s0.boot with phase := 5 }, ce := s0.ce.set 2 { s0.ce[2] with run := true } }, ?_⟩⟩
  all_goals first | decide +kernel | (dsimp only [Canonical, OnTime, Issues, Offered, Quiet]; decide +kernel)

theorem witness_NorOperations :
    (∃ (t : Tick) (s : State), Quiet s t ∧ Canonical s ∧ s.boot.nvBusy = false ∧ inOther s
      (bootNvaddrAddr s / 0x10000 * 0x10000) 0x10000 = true) ∧
    (∃ (t : Tick) (s : State), Quiet s t ∧ Canonical s ∧ s.boot.nvBusy = false ∧ inOther s
      (bootNvaddrAddr s / 0x10000 * 0x10000) 0x10000 = false) ∧
    (∃ (t : Tick) (s : State), Quiet s t ∧ Canonical s ∧ s.boot.nvBusy = false ∧ inOther s
      (bootNvaddrAddr s) (32 * bootNvlenLen32 s) = true ∧ sramBase ≤ 32 * bootNvsramAddr s ∧ 32 *
      bootNvsramAddr s + 32 * bootNvlenLen32 s ≤ sramEnd ∧ ((∀ i, i < bootNvlenLen32 s → flipsAt s
      (32 * (bootNvsramAddr s + i)) = []))) ∧
    (∃ (t : Tick) (s : State), Quiet s t ∧ s.boot.nvBusy = false) ∧
    (∃ (t : Tick) (s : State), Quiet s t ∧ Canonical s ∧ s.boot.nvBusy = true ∧ s.boot.nvOp = 0) ∧
    (∃ (t : Tick) (s : State), Quiet s t ∧ Canonical s ∧ s.boot.nvBusy = true ∧ s.boot.nvOp = 1) ∧
    (∃ (t : Tick) (s : State), Quiet s t ∧ s.boot.nvBusy = true ∧ s.boot.nvOp = 2) ∧
    (∃ (t : Tick) (s : State), Quiet s t ∧ Canonical s ∧ s.boot.nvBusy = true ∧ (s.boot.nvOp = 0 ∨
      s.boot.nvOp = 1)) ∧
    (∃ (t : Tick) (s : State), Quiet s t ∧ s.boot.nvBusy = true ∧ s.boot.nvOp = 2) ∧
    (∃ (t : Tick) (s : State), Quiet s t ∧ s.boot.nvBusy = false ∧ (inOther s (bootNvaddrAddr s) (32
      * bootNvlenLen32 s) = false ∨ 32 * bootNvsramAddr s < sramBase ∨ sramEnd < 32 * bootNvsramAddr
      s + 32 * bootNvlenLen32 s)) := by
  refine ⟨
    ⟨17600000, { (wr s0 [(0x4001001C, 0x2051234)]) with boot := { s0.boot with other := 1, nvData := [7], nvResult := 2 } }, ?_⟩,
    ⟨17600000, { (wr s0 [(0x4001001C, 0x1FFFFFF)]) with boot := { s0.boot with other := 1, nvResult := 2 } }, ?_⟩,
    ⟨17600000, { (wr s0 [(0x4001001C, 0x2051234), (0x40010020, 0x10000020), (0x40010024, 0x2)]) with boot := { s0.boot with other := 1, nvResult := 2 }, mem := [(0x10000021, 5), (0x1000005F, 7)] }, ?_⟩,
    ⟨17600000, { s0 with boot := { s0.boot with other := 1, nvResult := 2 } }, ?_⟩,
    ⟨17600000, { s0 with boot := { s0.boot with nvBusy := true, nvAddr := 0x2010000 }, nor := [(5, 3), (0x200FFFF, 4), (0x2010000, 5), (0x201FFFF, 4), (0x2020000, 7)] }, ?_⟩,
    ⟨17600000, { s0 with boot := { s0.boot with nvBusy := true, nvOp := 1, nvAddr := 0x2010000, nvData := [1, 0x55, 3] }, nor := [(5, 3), (0x200FFFF, 4), (0x2010000, 5), (0x201FFFF, 4), (0x2020000, 7)] }, ?_⟩,
    ⟨17600000, { s0 with boot := { s0.boot with nvBusy := true, nvOp := 2, slot := true } }, ?_⟩,
    ⟨17600000, { s0 with boot := { s0.boot with nvBusy := true, nvOp := 1, nvAddr := 0x2010000, nvData := [1, 0x55, 3] }, nor := [(5, 3), (0x2010000, 5)] }, ?_⟩,
    ⟨17600000, { s0 with boot := { s0.boot with nvBusy := true, nvOp := 2 }, nor := [(0x200100A, 0)] }, ?_⟩,
    ⟨17600000, { (wr s0 [(0x4001001C, 0x51234), (0x40010020, 0x10000020), (0x40010024, 0x2)]) with boot := { s0.boot with other := 1, nvResult := 2 } }, ?_⟩⟩
  all_goals first | decide +kernel | (dsimp only [Canonical, OnTime, Issues, Offered, Quiet]; decide +kernel)

theorem witness_SelectWritesGeneration :
    (∃ (t : Tick) (s : State), Quiet s t ∧ s.boot.nvBusy = false ∧ s.boot.other = 1) ∧
    (∃ (t : Tick) (s : State), Quiet s t ∧ s.boot.nvBusy = false ∧ s.boot.other ≠ 1) ∧
    (∃ (t : Tick) (s : State), Quiet s t ∧ Canonical s ∧ s.boot.nvBusy = true ∧ s.boot.nvOp = 3) := by
  refine ⟨
    ⟨17600000, { s0 with boot := { s0.boot with other := 1 } }, ?_⟩,
    ⟨17600000, { s0 with boot := { s0.boot with other := 2 } }, ?_⟩,
    ⟨17600000, { s0 with boot := { s0.boot with nvBusy := true, nvOp := 3 }, nor := [(0x200100A, 0)] }, ?_⟩⟩
  all_goals first | decide +kernel | (dsimp only [Canonical, OnTime, Issues, Offered, Quiet]; decide +kernel)

theorem witness_Activations :
    (∃ (t : Tick) (v : Word32) (s : State), Quiet s t ∧ v.getLsbD 31 = true ∧ s.boot.act.busy =
      false ∧ (partEngines (bits v.toNat 3 0)).isEmpty = false ∧ s.boot.other = 1) ∧
    (∃ (t : Tick) (v : Word32) (s : State), Quiet s t ∧ v.getLsbD 31 = true ∧ s.boot.act.busy =
      false ∧ (((partEngines (bits v.toNat 3 0)).isEmpty = true ∨ s.boot.other ≠ 1))) ∧
    (∃ (t : Tick) (s : State), Quiet s t ∧ s.boot.act.busy = true ∧ s.boot.act.staged = false ∧
      partEntry s (!s.boot.slot) s.boot.act.part = none) ∧
    (∃ (t : Tick) (p : PartEntry) (s : State), Quiet s t ∧ s.boot.act.busy = true ∧
      s.boot.act.staged = false ∧ partEntry s (!s.boot.slot) s.boot.act.part = some p ∧ 1024 *
      bootStageszStageKib s < p.length) ∧
    (∃ (t : Tick) (p : PartEntry) (s : State), Quiet s t ∧ s.boot.act.busy = true ∧
      s.boot.act.staged = false ∧ partEntry s (!s.boot.slot) s.boot.act.part = some p ∧ p.length ≤
      1024 * bootStageszStageKib s ∧ digestOk s (!s.boot.slot) p = false) ∧
    (∃ (t : Tick) (p : PartEntry) (e : Fin 8) (ts : List BootTask) (s : State), Quiet s t ∧
      s.boot.act.busy = true ∧ s.boot.act.staged = false ∧ partEntry s (!s.boot.slot)
      s.boot.act.part = some p ∧ p.length ≤ 1024 * bootStageszStageKib s ∧ digestOk s (!s.boot.slot)
      p = true ∧ (itemsOf s (!s.boot.slot) s.boot.act.part).all (sameReg s) = true ∧ actTasks s
      s.boot.act.part = .stop e :: ts) ∧
    (∃ (t : Tick) (c : Fin 7) (e : Fin 8) (ts : List BootTask) (s : State), OnTime s t ∧
      s.boot.act.busy = true ∧ s.boot.act.staged = true ∧ s.boot.act.begun = true ∧ s.boot.act.tasks
      = .inStep c e :: ts ∧ s.boot.act.since + msTk * max (bootCfgStepWait s) 1 ≤ t ∧
      (s.boot.act.force = false ∨ s.ce[e].state = .fault)) ∧
    (∃ (t : Tick) (c : Fin 7) (e : Fin 8) (ts : List BootTask) (s : State) (g : Fin 4) (x : Fin 8),
      OnTime s t ∧ s.boot.act.busy = true ∧ s.boot.act.staged = true ∧ s.boot.act.begun = true ∧
      s.boot.act.tasks = .inStep c e :: ts ∧ s.boot.act.since + msTk * max (bootCfgStepWait s) 1 ≤ t
      ∧ s.boot.act.force = true ∧ s.ce[e].state ≠ .fault ∧ ts.head? = some (.handOver g x) ∧
      s.red.tok[g].state = .held ∧ s.red.tok[g].holder ≠ some x ∧ eligible s g x = true ∧
      s.ce[x].state ≠ .stopped) ∧
    (∃ (t : Tick) (s : State), Quiet s t ∧ (s.pba.mode = .off ∨ s.pba.mode = .standby)) ∧
    (∃ (t : Tick) (s : State), Quiet s t ∧ s.pba.mode ≠ .off ∧ s.pba.mode ≠ .standby) ∧
    (∃ (t : Tick) (v : BitVec 16) (s : State), Quiet s t ∧ v ≠ 0x5EC1) := by
  refine ⟨
    ⟨17600000, 0xA0000005, { s0 with boot := { s0.boot with other := 1 } }, ?_⟩,
    ⟨17600000, 0x80000005, { s0 with boot := { s0.boot with other := 2 } }, ?_⟩,
    ⟨17600000, { s0 with boot := { s0.boot with act := { busy := true, result := 1, part := 2 } }, nor := [(0x200100A, 0)] }, ?_⟩,
    ⟨17600000, (⟨5, 0x400, 1025, [227, 176, 196, 66, 152, 252, 28, 20, 154, 251, 244, 200, 153, 111, 185, 36, 39, 174, 65, 228, 100, 155, 147, 76, 164, 149, 153, 27, 120, 82, 184, 85]⟩), { (wr s0 [(0x40010034, 0x1)]) with boot := { s0.boot with act := { busy := true, result := 1, part := 5 } }, nor := [(0x200100A, 1), (0x2001020, 5), (0x2001024, 0), (0x2001025, 4), (0x2001026, 0), (0x2001027, 0), (0x2001028, 1), (0x2001029, 4), (0x200102A, 0), (0x200102B, 0), (0x2001030, 227), (0x2001031, 176), (0x2001032, 196), (0x2001033, 66), (0x2001034, 152), (0x2001035, 252), (0x2001036, 28), (0x2001037, 20), (0x2001038, 154), (0x2001039, 251), (0x200103A, 244), (0x200103B, 200), (0x200103C, 153), (0x200103D, 111), (0x200103E, 185), (0x200103F, 36), (0x2001040, 39), (0x2001041, 174), (0x2001042, 65), (0x2001043, 228), (0x2001044, 100), (0x2001045, 155), (0x2001046, 147), (0x2001047, 76), (0x2001048, 164), (0x2001049, 149), (0x200104A, 153), (0x200104B, 27), (0x200104C, 120), (0x200104D, 82), (0x200104E, 184), (0x200104F, 85)] }, ?_⟩,
    ⟨17600000, (⟨5, 0x400, 4, [227, 176, 196, 66, 152, 252, 28, 20, 154, 251, 244, 200, 153, 111, 185, 36, 39, 174, 65, 228, 100, 155, 147, 76, 164, 149, 153, 27, 120, 82, 184, 85]⟩), { (wr s0 [(0x40010034, 0x1)]) with boot := { s0.boot with act := { busy := true, result := 1, part := 5 } }, nor := [(0x200100A, 1), (0x2001020, 5), (0x2001024, 0), (0x2001025, 4), (0x2001026, 0), (0x2001027, 0), (0x2001028, 4), (0x2001029, 0), (0x200102A, 0), (0x200102B, 0), (0x2001030, 227), (0x2001031, 176), (0x2001032, 196), (0x2001033, 66), (0x2001034, 152), (0x2001035, 252), (0x2001036, 28), (0x2001037, 20), (0x2001038, 154), (0x2001039, 251), (0x200103A, 244), (0x200103B, 200), (0x200103C, 153), (0x200103D, 111), (0x200103E, 185), (0x200103F, 36), (0x2001040, 39), (0x2001041, 174), (0x2001042, 65), (0x2001043, 228), (0x2001044, 100), (0x2001045, 155), (0x2001046, 147), (0x2001047, 76), (0x2001048, 164), (0x2001049, 149), (0x200104A, 153), (0x200104B, 27), (0x200104C, 120), (0x200104D, 82), (0x200104E, 184), (0x200104F, 85)] }, ?_⟩,
    ⟨17600000, (⟨5, 0x400, 0, [227, 176, 196, 66, 152, 252, 28, 20, 154, 251, 244, 200, 153, 111, 185, 36, 39, 174, 65, 228, 100, 155, 147, 76, 164, 149, 153, 27, 120, 82, 184, 85]⟩), 7, ([.mirror 6, .load 7 true, .run 7, .inStep 6 7, .stop 6, .load 6 true, .runAtCommit 6]), { (wr s0 [(0x40010034, 0x1)]) with boot := { s0.boot with act := { busy := true, result := 1, part := 5 } }, nor := [(0x200100A, 1), (0x2001020, 5), (0x2001024, 0), (0x2001025, 4), (0x2001026, 0), (0x2001027, 0), (0x2001028, 0), (0x2001029, 0), (0x200102A, 0), (0x200102B, 0), (0x2001030, 227), (0x2001031, 176), (0x2001032, 196), (0x2001033, 66), (0x2001034, 152), (0x2001035, 252), (0x2001036, 28), (0x2001037, 20), (0x2001038, 154), (0x2001039, 251), (0x200103A, 244), (0x200103B, 200), (0x200103C, 153), (0x200103D, 111), (0x200103E, 185), (0x200103F, 36), (0x2001040, 39), (0x2001041, 174), (0x2001042, 65), (0x2001043, 228), (0x2001044, 100), (0x2001045, 155), (0x2001046, 147), (0x2001047, 76), (0x2001048, 164), (0x2001049, 149), (0x200104A, 153), (0x200104B, 27), (0x200104C, 120), (0x200104D, 82), (0x200104E, 184), (0x200104F, 85)], ce := s0.ce.set 7 { s0.ce[7] with state := .running, run := true } }, ?_⟩,
    ⟨17600000, 6, 7, ([.stop 6]), { s0 with boot := { s0.boot with act := { busy := true, result := 1, part := 5, staged := true, begun := true, since := 16000000, tasks := [.inStep 6 7, .stop 6] } }, ce := s0.ce.set 7 { s0.ce[7] with state := .running, run := true } }, ?_⟩,
    ⟨17600000, 2, 7, ([.handOver 2 7, .stop 4]), { (wr s0 [(0x40080008, 0xFF0000), (0x40082008, 0xFF0000), (0x40084008, 0xFF0000), (0x40086008, 0xFF0000), (0x40088008, 0xFF0000), (0x4008A008, 0xFF0000), (0x4008C008, 0xFF0000), (0x4008E008, 0xFF0000), (0x400E0100, 0xFF000000), (0x400E0120, 0xFF000000), (0x400E0140, 0xFF000000), (0x400E0160, 0xFF000000)]) with boot := { s0.boot with act := { busy := true, result := 1, part := 3, force := true, staged := true, begun := true, since := 16000000, tasks := [.inStep 2 7, .handOver 2 7, .stop 4] } }, ce := s0.ce.set 7 { s0.ce[7] with state := .idle, run := true }, red := { s0.red with tok := s0.red.tok.set 2 { state := .held, holder := some 4, leaseEnd := 18000000 } } }, 2, 7, ?_⟩,
    ⟨17600000, { s0 with boot := { s0.boot with secver := 5 }, flog := { s0.flog with steps := 3 } }, ?_⟩,
    ⟨17600000, { s0 with boot := { s0.boot with secver := 5 }, flog := { s0.flog with steps := 3 }, pba := { s0.pba with mode := .drive } }, ?_⟩,
    ⟨17600000, 7, { s0 with boot := { s0.boot with secver := 5 }, flog := { s0.flog with steps := 3 } }, ?_⟩⟩
  all_goals first | decide +kernel | (dsimp only [Canonical, OnTime, Issues, Offered, Quiet]; decide +kernel)

theorem witness_PairRestarts :
    (∃ (t : Tick) (k : Fin 6) (v : Word32) (s : State), OnTime s t ∧ v.getLsbD 31 = true ∧
      s.boot.pair[k].step = 0 ∧ domOn s (pairDom k) = true ∧ s.red.pair[k].state ≠ 2) ∧
    (∃ (t : Tick) (k : Fin 6) (v : Word32) (s : State), OnTime s t ∧ v.getLsbD 31 = true ∧
      s.boot.pair[k].step = 0 ∧ domOn s (pairDom k) = true ∧ s.red.pair[k].state = 2) ∧
    (∃ (t : Tick) (k : Fin 6) (s : State), OnTime s t ∧ s.boot.pair[k].step = 1) ∧
    (∃ (t : Tick) (k : Fin 6) (s : State), OnTime s t ∧ s.boot.pair[k].step = 1 ∧
      s.boot.pair[k].since + msTk * max (bootCfgHoldWait s) 1 ≤ t) ∧
    (∃ (t : Tick) (k : Fin 6) (s : State), Quiet s t ∧ s.boot.pair[k].step = 3) ∧
    (∃ (t : Tick) (k : Fin 6) (v : Word32) (s : State), OnTime s t ∧ (v.getLsbD 31 = false ∨
      s.boot.pair[k].step ≠ 0 ∨ domOn s (pairDom k) = false)) := by
  refine ⟨
    ⟨17600000, 4, 0xA0000000, { s0 with boot := { s0.boot with pair := s0.boot.pair.set 4 { restarts := 7 } } }, ?_⟩,
    ⟨17600000, 4, 0x80000000, { s0 with boot := { s0.boot with pair := s0.boot.pair.set 4 { restarts := 7 } }, red := { s0.red with pair := s0.red.pair.set 4 { state := 2, released := true } } }, ?_⟩,
    ⟨17600000, 4, { s0 with boot := { s0.boot with pair := s0.boot.pair.set 4 { step := 1, restarts := 7 } }, red := { s0.red with pair := s0.red.pair.set 4 { released := true } } }, ?_⟩,
    ⟨17600000, 4, { (wr s0 [(0x40010000, 0x1)]) with boot := { s0.boot with pair := s0.boot.pair.set 4 { step := 1, restarts := 7, since := 16000000 } }, red := { s0.red with pair := s0.red.pair.set 4 { released := true } } }, ?_⟩,
    ⟨17600000, 4, { s0 with boot := { s0.boot with pair := s0.boot.pair.set 4 { step := 3, restarts := 255, other := true } }, red := { s0.red with pair := s0.red.pair.set 4 { released := false, state := 2 } }, nor := [(0x200100A, 0), (0x100A, 0)] }, ?_⟩,
    ⟨17600000, 4, 0xA0000000, { s0 with boot := { s0.boot with pair := s0.boot.pair.set 4 { step := 1, restarts := 7 } } }, ?_⟩⟩
  all_goals first | decide +kernel | (dsimp only [Canonical, OnTime, Issues, Offered, Quiet]; decide +kernel)

theorem witness_Housekeeping :
    (∃ (t : Tick) (o : Option (Fin 64)) (s : State), Quiet s t ∧ hkaCfgRun s = true ∧ s.hka.looping
      = false ∧ (loopTick (s.at t) = true ∨ loopTicks s = 0) ∧ (((all64.find? fun i => decide (i.val
      ≤ hkaSeqLast s) && entEn (BitVec.ofNat 32 (rd s (0x60010100 + 4 * i.val)))) = o))) ∧
    (∃ (t : Tick) (s : State), Quiet s t ∧ hkaCfgRun s = true ∧ s.hka.looping = true ∧ loopTick
      (s.at t) = true) ∧
    (∃ (t : Tick) (r : Reservation) (s : State), Quiet s t ∧ s.hka.busy = none ∧ reservedNow (s.at
      t) = some r) ∧
    (∃ (t : Tick) (s : State), Quiet s t ∧ s.hka.busy = none ∧ reservedNow (s.at t) = none ∧
      beforeReserved (s.at t) = true ∧ 16 ≤ s.hka.since) ∧
    (∃ (t : Tick) (s : State), Quiet s t ∧ s.hka.busy = none ∧ reservedNow (s.at t) = none ∧
      beforeReserved (s.at t) = true ∧ s.hka.since < 16 ∧ s.hka.looping = true ∧ (0 < s.hka.done ∨
      s.hka.ended + 40 * entDelay s.hka.ent[s.hka.entry] ≤ (s.at t).clk.power)) ∧
    (∃ (t : Tick) (s : State), Quiet s t ∧ s.hka.busy = none ∧ reservedNow (s.at t) = none ∧
      beforeReserved (s.at t) = true ∧ s.hka.ended + 8000 ≤ (s.at t).clk.power) ∧
    (∃ (t : Tick) (e : Fin 64) (c : HkConv) (s : State), Quiet s t ∧ s.hka.busy = some c ∧ c.kind =
      .entry e ∧ c.aperture + 800 ≤ (s.at t).clk.power ∧ s.hka.done + 1 ≤ entRepeat s.hka.ent[e]) ∧
    (∃ (t : Tick) (e : Fin 64) (i : Fin 48) (c : HkConv) (s : State), Quiet s t ∧ s.hka.busy = some
      c ∧ c.kind = .entry e ∧ c.aperture + 800 ≤ (s.at t).clk.power ∧ s.hka.done = entRepeat
      s.hka.ent[e] ∧ c.input = i.val) ∧
    (∃ (t : Tick) (b : Fin 3) (v : Bool) (c : HkConv) (s : State), Quiet s t ∧ s.hka.busy = some c ∧
      c.kind = .urgent b v ∧ c.aperture + 800 ≤ (s.at t).clk.power) ∧
    (∃ (t : Tick) (i : Fin 14) (c : HkConv) (s : State), Quiet s t ∧ s.hka.busy = some c ∧ c.kind =
      .sensor i ∧ c.aperture + 800 ≤ (s.at t).clk.power) ∧
    (∃ (t : Tick) (s : State), Quiet s t) := by
  refine ⟨
    ⟨17600000, (some 5), { (wr s0 [(0x60010000, 0x80000000), (0x60010008, 0x3E80009), (0x60010114, 0x83200000)]) with hka := { s0.hka with ended := 6 } }, ?_⟩,
    ⟨17600000, { (wr s0 [(0x60010000, 0x80000000), (0x60010008, 0x3E80009), (0x60010114, 0x83200000)]) with hka := { s0.hka with begun := true, looping := true, period := 400, loopFrom := 17584000 } }, ?_⟩,
    ⟨17600000, (⟨17600000, 2, true, 7⟩), { s0 with hka := { s0.hka with resv := [⟨17600000, 2, true, 7⟩, ⟨17600800, 1, true, 7⟩] } }, ?_⟩,
    ⟨17600000, { s0 with hka := { s0.hka with since := 16, next := 13 } }, ?_⟩,
    ⟨17600000, { s0 with hka := { s0.hka with since := 15, looping := true, entry := 5, ended := 17599840, ent := s0.hka.ent.set 5 0xC3200004 } }, ?_⟩,
    ⟨17600000, { s0 with hka := { s0.hka with since := 15, next := 4 } }, ?_⟩,
    ⟨17600000, 5, (⟨.entry 5, 3, true, 17599200, true⟩), { s0 with hka := { s0.hka with busy := some ⟨.entry 5, 3, true, 17599200, true⟩, done := 1, sum := 9, looping := true, ent := s0.hka.ent.set 5 0xC3200004 } }, ?_⟩,
    ⟨17600000, 5, 3, (⟨.entry 5, 3, true, 17599200, true⟩), { (wr s0 [(0x60010000, 0x80000000), (0x60010008, 0x3E80009), (0x60010114, 0x83200000)]) with hka := { s0.hka with busy := some ⟨.entry 5, 3, true, 17599200, true⟩, done := 2, sum := 9, looping := true, last := 9, ent := s0.hka.ent.set 5 0xC3200004 } }, ?_⟩,
    ⟨17600000, 2, true, (⟨.urgent 2 true, 3, true, 17599200, true⟩), { (wr s0 [(0x60030244, 0x7D0)]) with hka := { s0.hka with busy := some ⟨.urgent 2 true, 3, true, 17599200, true⟩ } }, ?_⟩,
    ⟨17600000, 13, (⟨.sensor 13, 45, true, 17599200, true⟩), { s0 with hka := { s0.hka with busy := some ⟨.sensor 13, 45, true, 17599200, true⟩, since := 17 } }, ?_⟩,
    ⟨17600000, { s0 with hka := { s0.hka with res := s0.hka.res.set 7 { stamp := 5, mean := 4 } } }, ?_⟩⟩
  all_goals first | decide +kernel | (dsimp only [Canonical, OnTime, Issues, Offered, Quiet]; decide +kernel)

theorem witness_ThermalModels :
    (∃ (t : Tick) (m : Fin 3) (s : State), OnTime s t ∧ t % msTk = 0 ∧ thmMsrcEn s m = true) ∧
    (∃ (t : Tick) (m : Fin 3) (s : State), OnTime s t ∧ t % msTk = 0 ∧ thmMsrcEn s m = false) ∧
    (∃ (t : Tick) (m : Fin 3) (s : State), Quiet s t ∧ coolOld (s.at t) m = true ∧
      s.thm.model[m].stale = false) := by
  refine ⟨
    ⟨17600000, 2, { (wr s0 [(0x60020010, 0x320), (0x60020140, 0x800001F4), (0x60020144, 0x1388012C), (0x60020148, 0x640032), (0x6002014C, 0x1401F4), (0x60020150, 0x6496A028)]) with thm := { s0.thm with model := s0.thm.model.set 2 { s0.thm.model[2] with n := 10, sumSq := 123456789012345, sumAbs := 30000000, nv := 4, sumV := 20000000, dt1 := ⟨5, 2⟩, dt2 := ⟨-1, 3⟩ } } }, ?_⟩,
    ⟨17600000, 2, { s0 with thm := { s0.thm with model := s0.thm.model.set 2 { s0.thm.model[2] with n := 10, sumSq := 123456789012345, sumAbs := 30000000, nv := 4, sumV := 20000000, dt1 := ⟨5, 2⟩, dt2 := ⟨-1, 3⟩, hot := true } } }, ?_⟩,
    ⟨1616000000, 2, { s0 with thm := { s0.thm with model := s0.thm.model.set 2 { s0.thm.model[2] with coolAt := some 16000000 } } }, ?_⟩⟩
  all_goals first | decide +kernel | (dsimp only [Canonical, OnTime, Issues, Offered, Quiet]; decide +kernel)

theorem witness_TracePort :
    (∃ (t : Tick) (s : State), OnTime s t ∧ t % msTk = 0 ∧ trcCfgEn s = true) ∧
    (∃ (t : Tick) (s : State), OnTime s t ∧ trcCfgEn s = true ∧ traceLevel s + 13 ≤ 16384 - 64) ∧
    (∃ (t : Tick) (s : State), OnTime s t ∧ trcCfgEn s = true ∧ 16384 - 64 < traceLevel s + 13) ∧
    (∃ (t : Tick) (lane : Fin 4) (k : Fin 24) (qs : List Sample) (s : State), OnTime s t ∧ trcCfgEn
      s = true ∧ capTraceEn s = true ∧ capTraceCh3Ch0 s / 64 ^ lane.val % 64 = k.val ∧
      s.trc.lostSamples + s.trc.lostEvents + s.trc.lostMessages = 0 ∧ ((∀ q ∈ qs, (feedAt (s.at t) k
      q.stamp).isSome = true)) ∧ traceLevel s + 42 * qs.length ≤ 16384 - 64) ∧
    (∃ (t : Tick) (p : TracePacket) (s : State), OnTime s t ∧ trcCfgEn s = true ∧ s.trc.busy ≤ 5 * t
      ∧ nextPacket s.trc.buf = some p) := by
  refine ⟨
    ⟨17600000, ((wr s0 [(0x40050000, 0x1)])), ?_⟩,
    ⟨17600000, ((wr s0 [(0x40050000, 0x1)])), ?_⟩,
    ⟨17600000, { (wr s0 [(0x40050000, 0x1)]) with trc := { s0.trc with buf := [⟨.event, List.replicate 16305 0⟩] } }, ?_⟩,
    ⟨17600000, 1, 6, ([⟨17000000, -5⟩, ⟨17000040, 5⟩, ⟨17000080, 6⟩]), ((wr s0 [(0x40050000, 0x1), (0x60000040, 0x90000180)])), ?_⟩,
    ⟨17600000, (⟨.time, [1, 2]⟩), { (wr s0 [(0x40050000, 0x1)]) with trc := { s0.trc with buf := [⟨.sample, [2, 7]⟩, ⟨.time, [1, 2]⟩, ⟨.event, [3]⟩] } }, ?_⟩⟩
  all_goals first | decide +kernel | (dsimp only [Canonical, OnTime, Issues, Offered, Quiet]; decide +kernel)

theorem witness_TallyIncrement :
    (∃ (t : Tick) (v : Word32) (n : Fin 256) (s : State), Quiet s t ∧ bits v.toNat 7 0 = n.val ∧
      (n.val < 16 ∨ 192 ≤ n.val)) ∧
    (∃ (t : Tick) (v : Word32) (s : State), Quiet s t ∧ 16 ≤ bits v.toNat 7 0 ∧ bits v.toNat 7 0 <
      192) := by
  refine ⟨
    ⟨17600000, 0x00000503, 3, (s0), ?_⟩,
    ⟨17600000, 0x00000510, (s0), ?_⟩⟩
  all_goals first | decide +kernel | (dsimp only [Canonical, OnTime, Issues, Offered, Quiet]; decide +kernel)

theorem witness_StepRunsFront :
    (∃ (c : Instr) (q : List Instr) (s : State), s.pending = c :: q) ∧
    (∃ s : State, s.pending = []) :=
  ⟨⟨.nop 0, [.ld 1], s0.withPending [.nop 0, .ld 1], rfl⟩, ⟨s0, rfl⟩⟩

/-- A locked device that is out of reset. -/
def sLock : State := { s0 with boot := { s0.boot with locked := true, phase := 7, released := true } }

theorem witness_steps :
    (∃ s t : State, Canonical s ∧ BootSound s ∧ s.boot.locked = true ∧ step s = .next t) ∧
    (∃ (c : Instr) (s t : State), BootSound s ∧ s.boot.locked = true ∧ resets c = false ∧ Canonical s ∧
      exec c s = .next t) ∧
    (∃ (c : Instr) (s t : State), setsTime c = false ∧ exec c s = .next t) ∧
    (∃ (c : Instr) (t : Tick) (s : State), c.tick = some t ∧ s.skd.slew = 0 ∧ Quiet s t ∧
      s.clk.locked = true) ∧
    (∃ (c : Instr) (s : State), c.tick = none ∧ s.flights = [] ∧ s.skd.slew = 0) := by
  refine ⟨⟨sLock.withPending [.nop 0], _, ?_, fun _ => ⟨rfl, rfl⟩, rfl, rfl⟩,
    ⟨.registerWrite 17600000 3 0x400F0004 4 5, sLock, _, fun _ => ⟨rfl, rfl⟩, rfl, rfl, ?_, rfl⟩,
    ⟨.nop 0, s0, _, rfl, rfl⟩, ⟨.correctedWriteback 17600000, 17600000, s0, rfl, rfl, ?_, rfl⟩,
    ⟨.nop 0, s0, rfl, rfl, rfl⟩⟩
  all_goals first | decide +kernel | (dsimp only [Canonical, Quiet]; decide +kernel)

theorem witness_NorOperations_busy : ∃ (t : Tick) (id : Fin 64) (c : Instr) (s : State),
    s.boot.nvBusy = true ∧ (c = .erase t id ∨ c = .program t id ∨ c = .verify t id ∨ c = .select t id) :=
  ⟨17600000, 3, .verify 17600000 3, { s0 with boot := { s0.boot with nvBusy := true } }, rfl,
    .inr (.inr (.inl rfl))⟩

theorem witness_SelectWritesGeneration_done : ∃ s v : State, Canonical s ∧ s.boot.nvBusy = true ∧
    s.boot.nvOp = 3 ∧ v.boot.bootSlot = false := by
  refine ⟨{ s0 with boot := { s0.boot with nvBusy := true, nvOp := 3 } }, s0, ?_⟩
  dsimp only [Canonical]; decide +kernel

/-! ### Known answers -/

/-- The published check values of "123456789" for CRC-8 with polynomial 0x2F (R175), CRC-32C (R294) and
CRC-32 (R318), and of "abc" for SHA-256 (R396). -/
theorem test_check_values :
    crc8 ((List.range 9).map fun i => BitVec.ofNat 8 (0x31 + i)) = 0xDF ∧
    crc32c ((List.range 9).map fun i => BitVec.ofNat 8 (0x31 + i)) = 0xE3069283 ∧
    crcIeee ((List.range 9).map fun i => BitVec.ofNat 8 (0x31 + i)) = 0xCBF43926 ∧
    sha256 [0x61, 0x62, 0x63] =
      beBytes 32 0xBA7816BF8F01CFEA414140DE5DAE2223B00361A396177A9CB410FF61F20015AD := by decide +kernel

/-- The duties of the pump of chapter 9's worked example. -/
theorem test_placement :
    (let s := wr s0 [(0x60030110, 0x0A322819)]
     placement s 0 2000 838912 false = (900, 1100) ∧ placement s 0 2000 8053064 false = (40, 1960) ∧
     (placement s 0 2000 8136950 true).1 = 60) := by decide +kernel

/-- LIMIT at 131.9814 °C of chapter 19's worked example. -/
theorem test_limit :
    limitOf (wr s0 [(0x60020110, 0x7D960000)]) 0 (Frac.of 1319814 10000) = 0x5C4156 := by
  decide +kernel

/-- The grants of an arbiter cycle in mode DRIVE with given requests, with the limits of chapter 2's
worked example. -/
def granted (req : Vector Int 7) : List Int :=
  match execArbiterCycle 17600000 { wr s0 [(0x400F0008, 0x14000000), (0x400F0028, 0x1B58)] with
      pba := { s0.pba with
        mode := .drive, req := req, limDis := 150000, limChg := 40000, limStamp := 16000000 } } with
  | .next u => u.pba.grant.toList
  | _ => []

theorem test_grants : granted #v[4200, 180000, 0, 600, 1200, 0, 0] = [4200, 145800, 0, 0, 0, 0, 0] ∧
    granted #v[4200, -60000, 0, 600, 1200, 0, 0] = [4200, -44200, 0, 600, 1200, 0, 0] := by
  decide +kernel

/-- The commit of chapter 7's worked example. -/
def sCommit : State :=
  { wr s0 [(0x400B0008, 0x7D00), (0x400B0040, 0x80000000), (0x400B0048, 0x14050002), (0x400B0200, 0x80000400), (0x400B0208, 0x80420C00)] with
    clk := { locked := true, now := 1600009216, power := 1600009216 }
    gsc := { s0.gsc with
      g := s0.gsc.g.set 0 { s0.gsc.g[0] with
        started := true, pstart := 1600000000, period := 16000, state := .driven
        commits := [⟨1600009216, 0, 7, [(0, 0x6CCCCD), (1, 3355443)]⟩] }
      leg := (s0.gsc.leg.set 0 { s0.gsc.leg[0] with tracked := 2 }).set 1
        { s0.gsc.leg[1] with tracked := 2 } }
    glk := s0.glk.set 0 { s0.glk[0] with state := .up }
    red := { s0.red with tok := s0.red.tok.set 0 { s0.red.tok[0] with
      state := .held, holder := some 0, epoch := 7, leaseEnd := 1700000000 } } }

/-- Its four entries with their bytes, and its lateness. -/
theorem test_conversion :
    (match execCommitConversion 1600009280 0 sCommit with
      | .next u => (u.glk[0].queue.map (fun e : Entry => (e.stamp - 1600000000, entryBytes e)),
          u.gsc.g[0].lateLast)
      | _ => ([], 0)) =
    ([(9760, [0x20, 0x36, 0x20]), (10080, [0x60, 0x37, 0x11]), (12800, [0x00, 0x42, 0x80]),
      (13120, [0x40, 0x43, 0x44])], 560) := by decide +kernel

/-- The ball map covers the package: 258 signal balls and 226 supply balls, every ball exactly one of the
two, and the signal balls alone have a row of R440 (R436, R438, R440, R442). -/
theorem test_balls :
    allBalls.length = 484 ∧ signalBalls.length = 258 ∧
    (allBalls.filter fun b => (supplyOf b).isSome).length = 226 ∧
    (allBalls.all fun b =>
      (signalBalls.filter fun x => x.2 = b).length + (supplyOf b).toList.length == 1) = true ∧
    (allBalls.all fun b => (kindOf b).isSome != (supplyOf b).isSome) = true := by
  decide +kernel

/-! ### Terms that no device can meet: one for each check of `Instr.wellFormed` -/

theorem test_ill_formed_sizes :
    (Instr.registerWrite 0 0 0x400F0004 0 5).wellFormed = false ∧
    (Instr.memoryWrite 0 0 0x1000001F [1, 2] [] []).wellFormed = false ∧
    (Instr.memoryRead 0 0 0x10000000 33 [] []).wellFormed = false ∧
    (Instr.mailboxWrite 0 0 3 33 0).wellFormed = false ∧
    (Instr.mailboxRead 0 0 3 0 0).wellFormed = false := by decide

/-- IDs that no initiator carries (R35). -/
theorem test_ill_formed_initiators :
    ([13, 15, 32, 35, 63].all fun id =>
      [Instr.registerWrite 0 id 0x400F0004 4 5, .memoryWrite 0 id 0x10000000 [1] [] [],
        .memoryRead 0 id 0x10000000 4 [] [], .mailboxWrite 0 id 3 4 0, .mailboxRead 0 id 3 4 0,
        .configExchange 0 id 0 0, .txpost 0 id 0, .shsel 0 id 0 0, .txcmdGo 0 id 0 0, .abort 0 id 0 0,
        .recover 0 id 0, .erase 0 id, .program 0 id, .verify 0 id, .select 0 id, .message 0 id 0,
        .talInc 0 id 0].all fun c => !c.wellFormed) = true := by decide +kernel

theorem test_ill_formed_frames :
    (Instr.canFrameReceived 0 0 0 { ident := 0x800 }).wellFormed = false ∧
    (Instr.canFrameReceived 0 0 0 { dlc := 3, data := [1, 2] }).wellFormed = false ∧
    (Instr.canFrameReceived 0 0 0 { rtr := true, fdf := true }).wellFormed = false ∧
    (Instr.canFrameReceived 0 0 0 { brs := true }).wellFormed = false := by decide

theorem test_ill_formed_samples :
    (Instr.windowSeal 0 0 0 [⟨5, 1⟩, ⟨32, 2⟩]).wellFormed = false ∧
    (Instr.windowSeal 0 0 0 [⟨5, 1⟩, ⟨40, 2⟩, ⟨75, 2⟩]).wellFormed = false ∧
    (Instr.samplePacket 0 0 [⟨7, 1⟩, ⟨5, 2⟩]).wellFormed = false ∧
    (Instr.zeroCrossing 0 0 [(7, true), (34, true)]).wellFormed = false := by decide +kernel

theorem test_ill_formed_measurements :
    (Instr.pilotCycle 0 9000 (-12000) 1600000 1001).wellFormed = false ∧
    (Instr.ppMeasurement 0 65536).wellFormed = false ∧
    (Instr.brakeCheck 0 0 0 0 0 65536 12).wellFormed = false ∧
    (Instr.brakeCheck 0 0 0 0 0 12 65536).wellFormed = false ∧
    (Instr.resetAssert 0 [(0x4000000, 5)]).wellFormed = false := by decide

theorem test_ill_formed_fabric :
    (let bs : List Byte := List.replicate 269 0
     [Instr.credit 0 0 bs, .cruise 0 0 bs, .assignReq 0 0 bs, .assign 0 0 bs, .route 0 0 bs,
      .register 0 0 bs, .registerReply 0 0 bs, .refusal 0 0 bs, .data 0 0 0 bs, .timeReq 0 0 0 bs,
      .timeResp 0 0 0 bs].all fun c => !c.wellFormed) = true := by
  decide +kernel

/-- Queues out of order: by tick, and on one tick by encoder cause (R147) and by initiator (R379). -/
theorem test_ill_formed_queues :
    inOrder [.observerStep 9, .observerStep 8] = false ∧
    inOrder [.observerStep 9, .encoderInputChange 9 0 true true false] = false ∧
    inOrder [.encoderInputChange 9 0 true true false, .observerStep 9] = true ∧
    inOrder [.mailboxWrite 9 4 3 4 0, .mailboxWrite 9 2 3 4 0] = false ∧
    queueFormed [.registerWrite 9 13 0x400F0004 4 5] = false := by decide +kernel

/-! ### The signed header -/

/-- The signed header is good. ECDSA and SHA-256 are those of R396; the header was signed by another
program. -/
theorem test_signed_header :
    headerCause { s0 with nor := hdrCells, flog := { s0.flog with keyHash := hdrKey } } false = 0 := by
  decide +kernel

/-- The judgement of a header rests on the NOR and the fault log's flash alone. -/
theorem headerCause_congr {s u : State} (hn : s.nor = u.nor) (hf : s.flog = u.flog) (b : Bool) :
    headerCause s b = headerCause u b := by
  unfold headerCause hdrEntries hdrEntry hdrParts hdrSecver hdrBytes norNat norBytes norByte
  rw [hn, hf]

theorem witness_StartUp_slot :
    (∃ s : State, s.boot.phase = 3 ∧ causeOf s (firstSlot s) = 0 ∧ headerCause s (firstSlot s) = 0) ∧
    (∃ s : State, s.boot.phase = 3 ∧ s.boot.causeA = 0 ∧ s.boot.causeB = 0 ∧
      headerCause s (firstSlot s) ≠ 0 ∧ headerCause s (!firstSlot s) = 0) := by
  refine ⟨
    ⟨{ s0 with boot := { s0.boot with phase := 3 }, nor := hdrCells, flog := { s0.flog with keyHash := hdrKey } },
      rfl, by decide +kernel, ?_⟩,
    ⟨{ s0 with boot := { s0.boot with phase := 3, bootSlot := true }, nor := hdrCells, flog := { s0.flog with keyHash := hdrKey } },
      rfl, rfl, rfl, by decide +kernel, ?_⟩⟩
  · rw [show firstSlot _ = false from by decide +kernel]
    exact (headerCause_congr rfl rfl false).trans test_signed_header
  · rw [show firstSlot _ = true from by decide +kernel]
    exact (headerCause_congr rfl rfl false).trans test_signed_header

end Sys2Proof.Tests
end

section
/-!
PROOFS. Which areas of the state each command leaves as they were.
-/

namespace Sys2Proof.Machine

open Sys2Proof

/-- The state that a command acts on: the one at its tick, if it brings one. -/
def startOf (c : Instr) (s : State) : State := c.tick.elim s s.at

/-- An area outside a list is outside every part of it. -/
theorem untouched {p : Area} {l m : List Area} (h : p ∉ m)
    (d : (l.all fun a => decide (a ∈ m)) = true) : p ∉ l := fun x =>
  h (of_decide_eq_true (List.all_eq_true.1 d p x))

/-- What the answered state holds in an area. -/
theorem next_area {x u : State} {p : Area} {v : p.type}
    (h : (.next x : Host.Outcome State Fault Refusal) = .next u) (hx : area x p = v) : area u p = v := by
  cases h
  exact hx

/-- A row of an engine, and the watch over causes that follows it. -/
theorem engineRow_next {s u : State} {e : Fin 8} {op : Nat} {f : State → Word32 → State} {p : Area}
    (h : (.next (s.engineRow e op f).watchRows : Host.Outcome State Fault Refusal) = .next u)
    (hp : p ∉ [Area.clk, .sys, .lrg, .trc, .tal, .pba, .ce, .glk, .psp, .rng, .red, .skd, .boot,
      .flights, .draws])
    (hf : ∀ x w, area (f x w) p = area x p) : area u p = area s p :=
  next_area h ((State.watchRows_area _ (untouched hp rfl)).trans (State.engineRow_area _ _ _ _ hp hf))

/-- A row of an engine whose effect lies within the engine. -/
theorem plainRow_next {s u : State} {e : Fin 8} {op : Nat} {f : Engine → Word32 → Engine} {p : Area}
    (h : (.next (s.engineRow e op fun s w => s.plain e f w).watchRows :
      Host.Outcome State Fault Refusal) = .next u)
    (hp : p ∉ [Area.clk, .sys, .lrg, .trc, .tal, .pba, .ce, .glk, .psp, .rng, .red, .skd, .boot,
      .flights, .draws]) : area u p = area s p :=
  engineRow_next h hp fun _ _ => State.plain_area _ _ _ _ (untouched hp rfl)

/-- A command leaves the areas that `touches` does not name as they were at its tick; an instruction of an
engine, which brings no tick, lets time pass as well. -/
theorem exec_area {c : Instr} {s u : State} {p : Area} (h : exec c s = .next u) (hp : p ∉ touches c)
    (hq : c.tick = none → p ∉ arrivals) : area u p = area (startOf c s) p := by
  have ha : c.tick = none → p ∉ touches c ++ arrivals := fun k =>
    List.not_mem_append hp (hq k)
  cases c with
  | registerWrite => exact next_area h (doRegWrite_area _ _ _ _ _ (untouched hp rfl))
  | memoryWrite =>
    dsimp only [exec, execMemoryWrite] at h
    split at h
    · exact next_area h (State.busError_area _ _ _ _ (untouched hp rfl))
    · exact next_area h (doBusWrite_area _ _ _ _ _ _ (untouched hp rfl))
  | memoryRead =>
    dsimp only [exec, execMemoryRead] at h
    split at h
    · exact next_area h (State.busError_area _ _ _ _ (untouched hp rfl))
    · exact next_area h (doBusRead_area _ _ _ _ _ _ (untouched hp rfl))
  | correctedWriteback => exact next_area h (doWriteback_area _ (untouched hp rfl))
  | scrub => exact next_area h (doScrub_area _ _ (untouched hp rfl))
  | timeBeacon => exact next_area h (doTimeBeacon_area _ (untouched hp rfl))
  | powerTbStale => exact next_area h (doTbStale_area _ (untouched hp rfl))
  | d2dInterfaceLoss => exact next_area h (State.d2dFault_area _ _ (untouched hp rfl))
  | speedReport => exact next_area h (doSpeedReport_area _ (untouched hp rfl))
  | lossPatternRefresh => exact next_area h (doLossRefresh_area _ (untouched hp rfl))
  | canFrameReceived => exact next_area h (doReceived_area _ _ _ _ (untouched hp rfl))
  | limitRegisterWrite => exact next_area h (doLimitWrite_area _ _ _ (untouched hp rfl))
  | modeReq =>
    exact next_area h (State.take_area _ _ _ (untouched hp rfl) (fun _ _ => doModeReq_area _ _
      (untouched hp rfl)))
  | torqueReq =>
    exact next_area h (State.take_area _ _ _ (untouched hp rfl) (fun _ _ => doTorqueReq_area _ _
      (untouched hp rfl)))
  | speedReq =>
    exact next_area h (State.take_area _ _ _ (untouched hp rfl) (fun _ _ => doSpeedReq_area _ _
      (untouched hp rfl)))
  | chargeStart =>
    exact next_area h (State.take_area _ _ _ (untouched hp rfl) (fun _ _ => doChargeStart_area _ _
      (untouched hp rfl)))
  | chargeStop =>
    exact next_area h (State.take_area _ _ _ (untouched hp rfl) (fun _ _ => doChargeStop_area _ _
      (untouched hp rfl)))
  | chargeLimits =>
    exact next_area h (State.take_area _ _ _ (untouched hp rfl) (fun _ _ => doChargeLimits_area _ _
      (untouched hp rfl)))
  | convSetpoint =>
    exact next_area h (State.take_area _ _ _ (untouched hp rfl) (fun _ _ => doConvSetpoint_area _ _
      (untouched hp rfl)))
  | gearShift =>
    exact next_area h (State.take_area _ _ _ (untouched hp rfl) (fun _ _ => doGearShift_area _ _
      (untouched hp rfl)))
  | parkLock =>
    exact next_area h (State.take_area _ _ _ (untouched hp rfl) (fun _ _ => doParkLock_area _ _
      (untouched hp rfl)))
  | pumpSpeed =>
    exact next_area h (State.take_area _ _ _ (untouched hp rfl) (fun _ _ => doPumpSpeed_area _ _
      (untouched hp rfl)))
  | brakeRelease =>
    exact next_area h (State.take_area _ _ _ (untouched hp rfl) (fun _ _ => doBrakeRelease_area _ _
      (untouched hp rfl)))
  | brakeTest =>
    exact next_area h (State.take_area _ _ _ (untouched hp rfl) (fun _ _ => doBrakeTest_area _ _
      (untouched hp rfl)))
  | reset =>
    exact next_area h (State.take_area _ _ _ (untouched hp rfl) (fun _ _ => doReset_area _ _
      (untouched hp rfl)))
  | arbiterCycle => exact next_area h (doArbiter_area _ (untouched hp rfl))
  | limitsStale => exact next_area h (State.watchLimits_area _ (untouched hp rfl))
  | dcLinkLowTimeout => exact next_area h (doLinkLow_area _ (untouched hp rfl))
  | windowSeal => exact next_area h (doSeal_area _ _ _ _ (untouched hp rfl))
  | resultCapture => exact next_area h (doResultCapture_area _ _ _ (untouched hp rfl))
  | refSettled => exact next_area h (doRefSettled_area _ _ _ (untouched hp rfl))
  | refExtBad => exact next_area h (doRefBad_area _ _ (untouched hp rfl))
  | refExtReturn => exact next_area h (doRefReturn_area _ (untouched hp rfl))
  | calibrationStart => exact next_area h (doCalStart_area _ (untouched hp rfl))
  | calOverlapEnd => exact next_area h (doOverlapEnd_area _ _ _ (untouched hp rfl))
  | channelSwitchover => exact next_area h (doSwitchover_area _ (untouched hp rfl))
  | calLevelsDone => exact next_area h (doLevels_area _ _ _ _ (untouched hp rfl))
  | calReturnOverlapEnd => exact next_area h (doReturnOverlap_area _ _ _ (untouched hp rfl))
  | engineTimerTrigger => exact next_area h (doTimer_area _ _ (untouched hp rfl))
  | swtrig => exact next_area h (State.trigger_area _ _ _ (untouched hp rfl))
  | run =>
    exact next_area h ((State.watchRows_area _ (untouched hp rfl)).trans ((State.bootPoll_area _
      (untouched hp rfl)).trans (State.writeRun_area _ _ _ (untouched hp rfl))))
  | passStart => exact next_area h (doPassStart_area _ _ _ _ (untouched hp rfl))
  | dmemWrite => exact next_area h (State.ceWrite_area _ _ _ _ (untouched hp rfl))
  | nop => exact plainRow_next h (untouched (ha rfl) rfl)
  | ld => exact plainRow_next h (untouched (ha rfl) rfl)
  | st =>
    exact engineRow_next h (untouched (ha rfl) rfl) fun _ _ => doSt_area _ _ _ (untouched (ha rfl)
      rfl)
  | ldi => exact plainRow_next h (untouched (ha rfl) rfl)
  | mov => exact plainRow_next h (untouched (ha rfl) rfl)
  | movs => exact plainRow_next h (untouched (ha rfl) rfl)
  | add => exact plainRow_next h (untouched (ha rfl) rfl)
  | sub => exact plainRow_next h (untouched (ha rfl) rfl)
  | abs => exact plainRow_next h (untouched (ha rfl) rfl)
  | shf => exact plainRow_next h (untouched (ha rfl) rfl)
  | mul => exact plainRow_next h (untouched (ha rfl) rfl)
  | mac => exact plainRow_next h (untouched (ha rfl) rfl)
  | msu => exact plainRow_next h (untouched (ha rfl) rfl)
  | mva => exact plainRow_next h (untouched (ha rfl) rfl)
  | div => exact plainRow_next h (untouched (ha rfl) rfl)
  | sincos => exact plainRow_next h (untouched (ha rfl) rfl)
  | clarke => exact plainRow_next h (untouched (ha rfl) rfl)
  | park => exact plainRow_next h (untouched (ha rfl) rfl)
  | pi => exact plainRow_next h (untouched (ha rfl) rfl)
  | svm => exact plainRow_next h (untouched (ha rfl) rfl)
  | lim => exact plainRow_next h (untouched (ha rfl) rfl)
  | mins =>
    exact engineRow_next h (untouched (ha rfl) rfl) fun _ _ => doBest_area _ _ _ _ (untouched (ha rfl)
      rfl)
  | maxs =>
    exact engineRow_next h (untouched (ha rfl) rfl) fun _ _ => doBest_area _ _ _ _ (untouched (ha rfl)
      rfl)
  | lut => exact plainRow_next h (untouched (ha rfl) rfl)
  | br =>
    exact engineRow_next h (untouched (ha rfl) rfl) fun _ _ => doBr_area _ _ _ (untouched (ha rfl)
      rfl)
  | call =>
    exact engineRow_next h (untouched (ha rfl) rfl) fun _ _ => doCall_area _ _ _ (untouched (ha rfl)
      rfl)
  | ret =>
    exact engineRow_next h (untouched (ha rfl) rfl) fun _ _ => doRet_area _ _ _ (untouched (ha rfl)
      rfl)
  | endPass =>
    exact engineRow_next h (untouched (ha rfl) rfl) fun _ _ => doEnd_area _ _ _ (untouched (ha rfl)
      rfl)
  | duty =>
    exact engineRow_next h (untouched (ha rfl) rfl) fun _ _ => doDuty_area _ _ _ (untouched (ha rfl)
      rfl)
  | commit =>
    exact engineRow_next h (untouched (ha rfl) rfl) fun _ _ => doCommit_area _ _ _ (untouched (ha rfl)
      rfl)
  | renew =>
    exact engineRow_next h (untouched (ha rfl) rfl) fun _ _ => doRenew_area _ _ _ (untouched (ha rfl)
      rfl)
  | post =>
    exact engineRow_next h (untouched (ha rfl) rfl) fun _ _ => doPost_area _ _ _ (untouched (ha rfl)
      rfl)
  | fclr =>
    exact engineRow_next h (untouched (ha rfl) rfl) fun _ _ => doFclr_area _ _ _ (untouched (ha rfl)
      rfl)
  | illegalOp =>
    exact next_area h ((State.watchRows_area _ (untouched (ha rfl) rfl)).trans (onlyFault_area _ _ _
      (untouched (ha rfl) rfl)))
  | overtime =>
    exact next_area h ((State.watchRows_area _ (untouched (ha rfl) rfl)).trans (onlyFault_area _ _ _
      (untouched (ha rfl) rfl)))
  | programLoad => exact next_area h (doLoad_area _ _ _ (untouched hp rfl))
  | programLoaded => exact next_area h (doLoaded_area _ _ (untouched hp rfl))
  | trxInputWrite => exact next_area h (doInputWrite_area _ _ (untouched hp rfl))
  | restartRequest => exact next_area h (doRestart_area _ _ (untouched hp rfl))
  | standstill => exact next_area h (doStandstill_area _ _ (untouched hp rfl))
  | encoderInputChange =>
    exact next_area h ((State.watchRows_area _ (untouched hp rfl)).trans (doInputs_area _ _ _ _ _
      (untouched hp rfl)))
  | observerStep =>
    exact next_area h ((State.watchRows_area _ (untouched hp rfl)).trans (doObserve_area _ (untouched
      hp rfl)))
  | setref => exact next_area h (doSetref_area _ _ (untouched hp rfl))
  | clear =>
    exact next_area h ((State.watchRows_area _ (untouched hp rfl)).trans (doClear_area _ _ (untouched
      hp rfl)))
  | arm => exact next_area h (State.modEnc_area _ _ _ (untouched hp rfl))
  | latch => exact next_area h (State.latchEnc_area _ _ _ (untouched hp rfl))
  | deliveryTick => exact next_area h (doDelivery_area _ _ (untouched hp rfl))
  | lposCapture => exact next_area h (State.modEnc_area _ _ _ (untouched hp rfl))
  | carrierPeriodStart => exact next_area h (doCarrier_area _ _ (untouched hp rfl))
  | commitConversion => exact next_area h (doConversion_area _ _ (untouched hp rfl))
  | edgeFrame => exact next_area h (State.edgeFrame_area _ _ (untouched hp rfl))
  | beacon => exact next_area h (State.beaconFrame_area _ _ (untouched hp rfl))
  | lossFrame => exact next_area h (State.lossFrame_area _ _ (untouched hp rfl))
  | faultComma => exact next_area h (area_ite (State.faultComma_area _ _ _ _ (untouched hp rfl)) rfl)
  | status => exact next_area h (State.heardFrom_area _ _ _ (untouched hp rfl))
  | configReply => exact next_area h (State.heardFrom_area _ _ _ (untouched hp rfl))
  | echoReply => exact next_area h (State.heardFrom_area _ _ _ (untouched hp rfl))
  | alignmentAchieved => exact next_area h (area_ite (State.bringTo_area _ _ _ (untouched hp rfl)) rfl)
  | alignTimeout => exact next_area h (area_ite (State.linkFails_area _ _ _ (untouched hp rfl)) rfl)
  | replyTimeout => exact next_area h (State.replyMissing_area _ _ (untouched hp rfl))
  | syncTimeout => exact next_area h (area_ite (State.linkFails_area _ _ _ (untouched hp rfl)) rfl)
  | statusSilence =>
    exact next_area h (area_ite ((State.watchRows_area _ (untouched hp rfl)).trans
      (State.linkLost_area _ _ _ (untouched hp rfl))) rfl)
  | alignmentLost =>
    exact next_area h ((State.watchRows_area _ (untouched hp rfl)).trans (State.linkLost_area _ _ _
      (untouched hp rfl)))
  | codeErrors =>
    exact next_area h ((State.watchRows_area _ (untouched hp rfl)).trans (State.linkLost_area _ _ _
      (untouched hp rfl)))
  | retrain =>
    exact next_area h ((State.watchRows_area _ (untouched hp rfl)).trans (State.retrain_area _ _
      (untouched hp rfl)))
  | configExchange => exact next_area h (State.cmdWrite_area _ _ _ _ (untouched hp rfl))
  | leaseExpiry => exact next_area h (State.lapse_area _ _ _ (untouched hp rfl))
  | tokenUnclaimed => exact next_area h (doUnclaimed_area _ _ (untouched hp rfl))
  | faultReport => exact next_area h (doFaultReport_area _ (untouched hp rfl))
  | setDecided => exact next_area h (doSetDecided_area _ _ (untouched hp rfl))
  | axbPeriodStart => exact next_area h (doAxbPeriod_area _ _ (untouched hp rfl))
  | urgentRequest => exact next_area h (doUrgent_area _ _ (untouched hp rfl))
  | axbInputWrite => exact next_area h (doAxbInput_area _ _ (untouched hp rfl))
  | bootLowCleared => exact next_area h (doBootHigh_area _ _ _ _ (untouched hp rfl))
  | bootUvlo => exact next_area h (doUvlo_area _ _ _ (untouched hp rfl))
  | bootLowEntered => exact next_area h (doBootLow_area _ _ _ _ (untouched hp rfl))
  | vsBad => exact next_area h (doVs_area _ _ _ _ (untouched hp rfl))
  | vsGood => exact next_area h (doVs_area _ _ _ _ (untouched hp rfl))
  | vdrvLow => exact next_area h (doVdrv_area _ _ _ (untouched hp rfl))
  | vdrvGood => exact next_area h (doVdrv_area _ _ _ (untouched hp rfl))
  | prechargeElapsed =>
    exact next_area h (area_ite (State.enterSix_area _ _ _ _ (untouched hp rfl)) rfl)
  | alignElapsed => exact next_area h (doAlignEnd_area _ _ (untouched hp rfl))
  | rampStep => exact next_area h (doRampStep_area _ _ (untouched hp rfl))
  | rampTimeout => exact next_area h (doRampTimeout_area _ _ (untouched hp rfl))
  | stepChange => exact next_area h (doStepChange_area _ _ (untouched hp rfl))
  | lossOfSynchronism => exact next_area h (doSyncLoss_area _ _ (untouched hp rfl))
  | coastElapsed => exact next_area h (doCoastEnd_area _ _ (untouched hp rfl))
  | commitTimeout => exact next_area h (State.axbLapse_area _ _ (untouched hp rfl))
  | restartCountReset => exact next_area h (area_ite (State.modAxb_area _ _ _ (untouched hp rfl)) rfl)
  | zeroCrossing => exact next_area h (doCrossing_area _ _ _ (untouched hp rfl))
  | turnOnEntry => exact next_area h (doTurnOn_area _ _ _ (untouched hp rfl))
  | peakTrip => exact next_area h (doPeakTrip_area _ _ (untouched hp rfl))
  | syncInEdge => exact next_area h (doSyncIn_area _ (untouched hp rfl))
  | syncLost => exact next_area h (doSyncLost_area _ (untouched hp rfl))
  | vrefSlew => exact next_area h (doVrefSlew_area _ (untouched hp rfl))
  | retryWaitExpiry => exact next_area h (doRetryExpiry_area _ (untouched hp rfl))
  | pilotCycle => exact next_area h (doPilotCycle_area _ _ _ _ _ (untouched hp rfl))
  | ppMeasurement => exact next_area h (doPp_area _ _ (untouched hp rfl))
  | iinLimitUpdate => exact next_area h (doIinLimit_area _ (untouched hp rfl))
  | qualified => exact next_area h (doQualified_area _ (untouched hp rfl))
  | supervisorEvaluation => exact next_area h (doEvaluation_area _ (untouched hp rfl))
  | tempStale => exact next_area h (doTempStale_area _ (untouched hp rfl))
  | obcInputWrite => exact next_area h (doObcInput_area _ (untouched hp rfl))
  | safetyTimerExpiry => exact next_area h (doTimerExpiry_area _ (untouched hp rfl))
  | waitTimeout => exact next_area h (doWaitTimeout_area _ (untouched hp rfl))
  | precondTimeout => exact next_area h (doPrecondTimeout_area _ (untouched hp rfl))
  | noSupply => exact next_area h (doNoSupply_area _ (untouched hp rfl))
  | cvEntry => exact next_area h (doCvEntry_area _ (untouched hp rfl))
  | terminationCurrentHold => exact next_area h (doTermHold_area _ (untouched hp rfl))
  | topoffElapsed => exact next_area h (doTopoff_area _ (untouched hp rfl))
  | recharge => exact next_area h (doRecharge_area _ (untouched hp rfl))
  | rampEnd => exact next_area h (doRampEnd_area _ (untouched hp rfl))
  | handoverDone => exact next_area h (doHandoverDone_area _ (untouched hp rfl))
  | clockMeasurement =>
    exact next_area h ((State.watchRows_area _ (untouched hp rfl)).trans
      (area_foldl _ (fun _ _ => State.clockSeen_area _ _ _ _ (untouched hp rfl)) _ _))
  | supplyComparison =>
    exact next_area h ((State.watchRows_area _ (untouched hp rfl)).trans
      (area_foldl _ (fun _ _ => State.supplySeen_area _ _ _ (untouched hp rfl)) _ _))
  | islandFailure =>
    exact next_area h ((State.bootReact_area _ (untouched hp rfl)).trans (State.failIsland_area _
      (untouched hp rfl)))
  | vddSafeLow => exact next_area h (State.unpowered_area _ (untouched hp rfl))
  | aliveToggle => exact next_area h (doAlive_area _ _ (untouched hp rfl))
  | autoRelease => exact next_area h (doAutoRelease_area _ _ (untouched hp rfl))
  | testPulse => exact next_area h (doTestPulse_area _ _ (untouched hp rfl))
  | pulseCheck => exact next_area h (doPulseCheck_area _ _ _ (untouched hp rfl))
  | brakeCheck => exact next_area h (doBrakeCheck_area _ _ _ _ _ _ _ (untouched hp rfl))
  | moveCheck => exact next_area h (doMoveCheck_area _ (untouched hp rfl))
  | torqueCheck => exact next_area h (doTorqueCheck_area _ (untouched hp rfl))
  | brakeTestTorqueEnd => exact next_area h (doTorqueEnd_area _ (untouched hp rfl))
  | safeResetRise => exact next_area h (doSafeRise_area _ (untouched hp rfl))
  | safeResetFall => exact next_area h (doSafeFall_area _ (untouched hp rfl))
  | pressTimeout => exact next_area h (doPressTimeout_area _ (untouched hp rfl))
  | armTimeout => exact next_area h (doArmTimeout_area _ (untouched hp rfl))
  | flogStore => exact next_area h (doFlogStore_area _ (untouched hp rfl))
  | flogClear => exact next_area h (doFlogClear_area _ _ (untouched hp rfl))
  | shutdownTrip => exact next_area h (doShutdown_area _ _ (untouched hp rfl))
  | shutdownResetHold => exact next_area h (doShutdownHold_area _ (untouched hp rfl))
  | blazeFrame => exact next_area h (doBlazeFrame_area _ (untouched hp rfl))
  | silenceTest => exact next_area h (doSilenceTest_area _ (untouched hp rfl))
  | blazeTransmit => exact next_area h (doBlazeTransmit_area _ _ (untouched hp rfl))
  | heartbeat => exact next_area h (doHeartbeat_area _ _ (untouched hp rfl))
  | restart => exact next_area h (State.blzRestart_area _ _ (untouched hp rfl))
  | lockstepMismatch => exact next_area h (doMismatch_area _ _ _ (untouched hp rfl))
  | selfTestCycle => exact next_area h (doSelfTest_area _ _ (untouched hp rfl))
  | roleSwap => exact next_area h (doRoleSwap_area _ (untouched hp rfl))
  | handOverRequest => exact next_area h (doHandOver_area _ _ _ (untouched hp rfl))
  | tokenHanded => exact next_area h (doHanded_area _ _ (untouched hp rfl))
  | axleStateTick => exact next_area h (doAxTick_area _ (untouched hp rfl))
  | axleTokenFrame => exact next_area h (doAxFrame_area _ (untouched hp rfl))
  | axleClaim => exact next_area h (doClaim_area _ _ (untouched hp rfl))
  | yieldTimeout => exact next_area h (doYieldTimeout_area _ _ (untouched hp rfl))
  | peerUnhealthy => exact next_area h (State.peerCheck_area _ _ (untouched hp rfl))
  | portAligned => exact next_area h (doAligned_area _ _ (untouched hp rfl))
  | credit =>
    exact next_area h (State.heard_area _ _ _ _ _ (untouched hp rfl) (fun _ => State.creditIn_area _ _
      _ (untouched hp rfl)))
  | creditUpdate => exact next_area h (doCreditUpdate_area _ _ (untouched hp rfl))
  | portSilence => exact next_area h (doSilence_area _ _ _ (untouched hp rfl))
  | cruiseTimeout => exact next_area h (doCruiseTimeout_area _ _ (untouched hp rfl))
  | cruise =>
    exact next_area h (State.heard_area _ _ _ _ _ (untouched hp rfl) (fun _ => State.cruiseIn_area _ _
      _ (untouched hp rfl)))
  | cruiseTick => exact next_area h (doCruiseTick_area _ (untouched hp rfl))
  | viewStable => exact next_area h (doViewStable_area _ (untouched hp rfl))
  | assignReq =>
    exact next_area h (State.heard_area _ _ _ _ _ (untouched hp rfl) (fun _ => State.routed_area _ _ _
      _ (untouched hp rfl) (fun _ _ => State.assignReq_area _ _ _ _ (untouched hp rfl))))
  | assign =>
    exact next_area h (State.heard_area _ _ _ _ _ (untouched hp rfl) (fun _ => State.routed_area _ _ _
      _ (untouched hp rfl) (fun _ _ => State.assignIn_area _ _ (untouched hp rfl))))
  | assignRetry => exact next_area h (doAssignRetry_area _ (untouched hp rfl))
  | unblazedRetry => exact next_area h (doUnblazedRetry_area _ (untouched hp rfl))
  | holdExpiry => exact next_area h (doHoldExpiry_area _ (untouched hp rfl))
  | route =>
    exact next_area h (State.heard_area _ _ _ _ _ (untouched hp rfl) (fun _ => State.offersIn_area _ _
      _ (untouched hp rfl)))
  | routeAdvertisement => exact next_area h (doAdvertise_area _ _ (untouched hp rfl))
  | routeUpdate => exact next_area h (doRouteUpdate_area _ _ (untouched hp rfl))
  | routeWithdrawal => exact next_area h (doRouteWithdrawal_area _ (untouched hp rfl))
  | register =>
    exact next_area h (State.heard_area _ _ _ _ _ (untouched hp rfl) (fun _ => State.routed_area _ _ _
      _ (untouched hp rfl) (fun _ _ => State.registerIn_area _ _ (untouched hp rfl))))
  | registerReply =>
    exact next_area h (State.heard_area _ _ _ _ _ (untouched hp rfl) (fun _ => State.routed_area _ _ _
      _ (untouched hp rfl) (fun _ _ => State.replyIn_area _ _ (untouched hp rfl))))
  | registerRetry => exact next_area h (doRegisterRetry_area _ (untouched hp rfl))
  | refusal =>
    exact next_area h (State.heard_area _ _ _ _ _ (untouched hp rfl) (fun _ => State.routed_area _ _ _
      _ (untouched hp rfl) (fun _ _ => State.refusalIn_area _ _ (untouched hp rfl))))
  | data =>
    exact next_area h (State.heard_area _ _ _ _ _ (untouched hp rfl) (fun _ => State.routed_area _ _ _
      _ (untouched hp rfl) (fun _ _ => State.dataIn_area _ _ _ _ (untouched hp rfl))))
  | outputFrame => exact next_area h (doOutput_area _ _ (untouched hp rfl))
  | c1AgeDrop => exact next_area h (State.dropOld_area _ _ (untouched hp rfl))
  | timeExchange => exact next_area h (doExchange_area _ (untouched hp rfl))
  | timeReq =>
    exact next_area h (State.heard_area _ _ _ _ _ (untouched hp rfl) (fun _ => State.timeReqIn_area _
      _ _ (untouched hp rfl)))
  | timeResp =>
    exact next_area h (State.heard_area _ _ _ _ _ (untouched hp rfl) (fun _ => State.timeRespIn_area _
      _ _ _ (untouched hp rfl)))
  | timeExchangeTimeout => exact next_area h (doExchangeTimeout_area _ (untouched hp rfl))
  | tbAlignTimeout => exact next_area h (doAlignTimeout_area _ (untouched hp rfl))
  | txpost => exact next_area h (doTxpost_area _ _ _ (untouched hp rfl))
  | recordFetch => exact next_area h (doRecordFetch_area _ (untouched hp rfl))
  | shsel =>
    exact next_area h (State.canAccess_area _ _ _ _ (untouched hp rfl) (fun _ => doShsel_area _ _ _
      (untouched hp rfl)))
  | txcmdGo => exact next_area h (doGo_area _ _ _ _ (untouched hp rfl))
  | abort =>
    exact next_area h (State.canAccess_area _ _ _ _ (untouched hp rfl) (fun _ => doAbort_area _ _ _
      (untouched hp rfl)))
  | transmissionEnd => exact next_area h (doSendEnd_area _ _ _ _ (untouched hp rfl))
  | canError => exact next_area h (doCanError_area _ _ _ _ (untouched hp rfl))
  | recover =>
    exact next_area h (State.canAccess_area _ _ _ _ (untouched hp rfl) (fun _ => doRecover_area _ _
      (untouched hp rfl)))
  | busOn => exact next_area h (doBusOn_area _ _ (untouched hp rfl))
  | mailboxWrite => exact next_area h (doMbxWrite_area _ _ _ _ _ (untouched hp rfl))
  | mailboxRead => exact next_area h (doMbxRead_area _ _ _ _ _ (untouched hp rfl))
  | ringEntryWrite => exact next_area h (doRingWrite_area _ (untouched hp rfl))
  | ringRelease => exact next_area h (doRelease_area _ _ _ (untouched hp rfl))
  | powerDomainRequest =>
    exact next_area h (area_each _ _ _ fun _ _ =>
      State.requestDomain_area _ _ _ (untouched hp rfl))
  | domainTransitionEnd => exact next_area h (doDomainEnd_area _ _ (untouched hp rfl))
  | resetAssert => exact next_area h (doResetAssert_area _ _ (untouched hp rfl))
  | resetRelease => exact next_area h (doResetRelease_area _ _ _ _ (untouched hp rfl))
  | pllLock => exact next_area h (doPllLock_area _ (untouched hp rfl))
  | flogRead => exact next_area h (doFlogRead_area _ (untouched hp rfl))
  | slotSelect => exact next_area h (doSlotSelect_area _ _ (untouched hp rfl))
  | imageReadDone => exact next_area h (doImageRead_area _ (untouched hp rfl))
  | startLock => exact next_area h (doStartLock_area _ (untouched hp rfl))
  | erase => exact next_area h (doNv_area _ _ _ (untouched hp rfl))
  | program => exact next_area h (doNv_area _ _ _ (untouched hp rfl))
  | verify => exact next_area h (doNv_area _ _ _ (untouched hp rfl))
  | select => exact next_area h (doNv_area _ _ _ (untouched hp rfl))
  | nvOperationDone => exact next_area h (doNvDone_area _ _ (untouched hp rfl))
  | activate => exact next_area h (doActivate_area _ _ (untouched hp rfl))
  | activationReadDone =>
    exact next_area h ((State.watchRows_area _ (untouched hp rfl)).trans (doActivationRead_area _
      (untouched hp rfl)))
  | stepWaitExpiry =>
    exact next_area h ((State.watchRows_area _ (untouched hp rfl)).trans (doStepWait_area _ (untouched
      hp rfl)))
  | raise => exact next_area h (doRaise_area _ _ (untouched hp rfl))
  | hold => exact next_area h (doHold_area _ _ _ (untouched hp rfl))
  | checkpoint => exact next_area h (doCheckpoint_area _ _ (untouched hp rfl))
  | holdWaitExpiry => exact next_area h (doHoldWait_area _ _ (untouched hp rfl))
  | pairLoadDone =>
    exact next_area h ((State.watchRows_area _ (untouched hp rfl)).trans (doPairLoad_area _ _
      (untouched hp rfl)))
  | sequenceLoopStart => exact next_area h (doLoopStart_area _ (untouched hp rfl))
  | conversionEnd => exact next_area h (doConversionEnd_area _ _ (untouched hp rfl))
  | idleSensorConversion => exact next_area h (doIdleSensor_area _ (untouched hp rfl))
  | hkaResultCapture => exact next_area h (doHkaCapture_area _ _ (untouched hp rfl))
  | modelStep => exact next_area h (doModelStep_area _ (untouched hp rfl))
  | coolantStale => exact next_area h (doCoolStale_area _ _ (untouched hp rfl))
  | traceTime => exact next_area h (doTraceTime_area _ (untouched hp rfl))
  | packetSend => exact next_area h (doPacketSend_area _ (untouched hp rfl))
  | message => exact next_area h (doMessage_area _ _ _ (untouched hp rfl))
  | talInc => exact next_area h (doTalInc_area _ _ _ (untouched hp rfl))
  | tmaxTurnOff => exact next_area h (doTmax_area _ _ (untouched hp rfl))
  | bootUvloRecovered => exact next_area h (State.modPh_area _ _ _ _ (untouched hp rfl))
  | vddSafePowerOn => exact next_area h (area_ite rfl (State.repowered_area _ (untouched hp rfl)))
  | clockNoEdge =>
    exact next_area h ((State.watchRows_area _ (untouched hp rfl)).trans (State.clockSeen_area _ _ _ _
      (untouched hp rfl)))
  | conversionAperture => exact next_area h (doAperture_area _ (untouched hp rfl))
  | samplePacket => exact next_area h (doSamplePacket_area _ _ _ (untouched hp rfl))
  | syncOutTransition => exact next_area h (doSyncOut_area _ _ (untouched hp rfl))
  | pulseEdge => exact next_area h (doPulse_area _ _ (untouched hp rfl))

end Sys2Proof.Machine
end

section
/-!
PROOFS. A locked device keeps its RWL bits (R9, R463).
-/

namespace Sys2Proof.Machine

open Sys2Proof

/-! ### Registers and their RWL bits -/

/-- The RWL bits of the register at an address; none where no register is implemented. -/
def lockBits (a : Nat) : Nat := (regAt a).elim 0 (·.rwl)

theorem rwlBits_eq (s : State) (a : Nat) : rwlBits s a = (rd s a).land (lockBits a) := by
  unfold rwlBits lockBits
  cases regAt a with
  | none => exact (Nat.and_zero _).symm
  | some r => rfl

theorem rwlBits_of_regs {s t : State} (h : t.regs = s.regs) (a : Nat) : rwlBits t a = rwlBits s a := by
  rw [rwlBits_eq, rwlBits_eq, rd, rd, h]

/-- Registers in canonical form stay so, with every RWL bit as it was. -/
def KeepsRwl (s t : State) : Prop := swf 0 s.regs = true → swf 0 t.regs = true ∧ SameRwl s t

theorem keepsRwl_of_regs {s t : State} (h : t.regs = s.regs) : KeepsRwl s t := fun hw =>
  ⟨h ▸ hw, rwlBits_of_regs h⟩

theorem KeepsRwl.trans {s t u : State} (h : KeepsRwl s t) (k : KeepsRwl t u) : KeepsRwl s u := fun hw =>
  have ⟨ht, hs⟩ := h hw
  have ⟨hu, hk⟩ := k ht
  ⟨hu, fun a => (hk a).trans (hs a)⟩

/-- Steps that leave the registers, before and after one that keeps the RWL bits. -/
theorem KeepsRwl.between {s s' t t' : State} (h : KeepsRwl s' t') (hs : s'.regs = s.regs)
    (ht : t.regs = t'.regs) : KeepsRwl s t :=
  ((keepsRwl_of_regs hs).trans h).trans (keepsRwl_of_regs ht)

theorem keepsRwl_ite {c : Prop} [Decidable c] {s a b : State} (ha : c → KeepsRwl s a)
    (hb : ¬c → KeepsRwl s b) : KeepsRwl s (if c then a else b) := by
  split
  · exact ha ‹_›
  · exact hb ‹_›

theorem rd_sput {s t : State} {a : Nat} {v : Word32} (hw : swf 0 s.regs = true)
    (ht : t.regs = sput 0 s.regs a v) (b : Nat) : rd t b = if b = a then v.toNat else rd s b := by
  rw [rd, ht, sget_sput hw]
  split <;> rfl

/-- A register written with its RWL bits as they are. -/
theorem keepsRwl_sput {s t : State} {a : Nat} {v : Word32} (ht : t.regs = sput 0 s.regs a v)
    (hv : v.toNat.land (lockBits a) = rwlBits s a) : KeepsRwl s t := fun hw => by
  refine ⟨ht ▸ swf_sput hw, fun b => ?_⟩
  rw [rwlBits_eq, rd_sput hw ht]
  split
  · next hb => rw [hb, hv]
  · exact (rwlBits_eq s b).symm

/-- A register without RWL bits written. -/
theorem keepsRwl_open {s t : State} {a : Nat} {v : Word32} (ho : lockBits a = 0)
    (ht : t.regs = sput 0 s.regs a v) : KeepsRwl s t :=
  keepsRwl_sput ht (by rw [rwlBits_eq, ho]; exact (Nat.and_zero _).trans (Nat.and_zero _).symm)

/-! ### The operations that write registers -/

theorem txcmd_open : ∀ ch : Fin 6, lockBits (txcmdAddr ch) = 0 := by decide

theorem bootPair_open : ∀ k : Fin 6, lockBits (0x40010040 + 4 * k.val) = 0 := by decide

theorem setTxcmd_keepsRwl (s : State) (ch : Fin 6) (b : Fin 64) : KeepsRwl s (s.setTxcmd ch b) :=
  keepsRwl_open (txcmd_open ch) rfl

theorem doGo_keepsRwl (s : State) (id : Fin 64) (ch : Fin 6) (b : Fin 64) : KeepsRwl s (doGo s id ch b) := by
  unfold doGo
  refine keepsRwl_ite (fun _ => keepsRwl_of_regs (busError_regs _ _ _ _)) fun _ =>
    keepsRwl_ite (fun _ => keepsRwl_of_regs (busError_regs _ _ _ _)) fun _ => ?_
  exact (setTxcmd_keepsRwl _ ch b).between (State.modBuf_area s ch b _ (p := .regs) (by decide))
    (State.offerIdle_area _ ch (p := .regs) (by decide))

theorem doAbort_regs (s : State) (ch : Fin 6) (b : Fin 64) :
    (doAbort s ch b).regs = (s.setTxcmd ch b).regs := by
  unfold doAbort
  dsimp only
  split
  · rfl
  split
  · exact State.modBuf_area _ ch b _ (p := .regs) (by decide)
  · exact (State.offerIdle_area _ ch (p := .regs) (by decide)).trans
      (State.bufFailed_area _ ch b _ (p := .regs) (by decide))

theorem doAbort_keepsRwl (s : State) (ch : Fin 6) (b : Fin 64) : KeepsRwl s (doAbort s ch b) :=
  keepsRwl_open (txcmd_open ch) (doAbort_regs s ch b)

theorem writeCan_keepsRwl (s : State) (id : Fin 64) (o v : Nat) : KeepsRwl s (s.writeCan id o v) := by
  unfold State.writeCan State.onFam
  split
  · dsimp only
    split
    · exact keepsRwl_ite (fun _ => keepsRwl_of_regs (doRecover_area _ _ (p := .regs) (by decide)))
        fun _ => keepsRwl_of_regs rfl
    · exact keepsRwl_of_regs (doShsel_area _ _ _ (p := .regs) (by decide))
    · refine KeepsRwl.trans (keepsRwl_ite (fun _ => doGo_keepsRwl _ _ _ _) fun _ => keepsRwl_of_regs rfl)
        (keepsRwl_ite (fun _ => doAbort_keepsRwl _ _ _) fun _ => keepsRwl_of_regs rfl)
    · exact keepsRwl_of_regs rfl
  · exact keepsRwl_of_regs rfl


theorem doActivate_regs (s : State) (v : Word32) : (doActivate s v).regs =
    sput 0 s.regs 0x40010028 (BitVec.ofNat 32 (bits v.toNat 3 0)) := by
  unfold doActivate
  dsimp only
  split
  · rfl
  split
  · exact State.endAct_area _ _ (p := .regs) (by decide)
  split
  · exact State.endAct_area _ _ (p := .regs) (by decide)
  · rfl

theorem doHold_regs (s : State) (k : Fin 6) (v : Word32) : (doHold s k v).regs =
    sput 0 s.regs (0x40010040 + 4 * k.val) (BitVec.ofNat 32 (put (b2n (bit v.toNat 29)) 29)) := by
  unfold doHold
  dsimp only
  split
  · rfl
  split
  · exact State.pairStop_area _ k (p := .regs) (by decide)
  · rfl

theorem doNv_regs (s : State) (id : Fin 64) (op : Nat) (h : s.boot.nvBusy = false) :
    (doNv s id op).regs = sput 0 s.regs nvAddrReg (BitVec.ofNat 32 op) := by
  unfold doNv
  rw [if_neg (by simp [h])]
  dsimp only
  generalize hx : State.modBoot (State.busDone { s with
    regs := sput 0 s.regs nvAddrReg (BitVec.ofNat 32 op) } []) _ = x
  have hr : x.regs = sput 0 s.regs nvAddrReg (BitVec.ofNat 32 op) := by rw [← hx]; rfl
  split
  · split <;> exact hr
  · split
    · split
      · exact ((State.busError_area _ _ _ _ (p := .regs) (by decide)).trans
          (State.readRows_area _ _ _ _ (p := .regs) (by decide))).trans hr
      · exact (State.readRows_area _ _ _ _ (p := .regs) (by decide)).trans hr
    · exact hr
  · exact hr
  · split <;> exact hr

theorem doNv_keepsRwl (s : State) (id : Fin 64) (op : Nat) : KeepsRwl s (doNv s id op) := by
  cases h : s.boot.nvBusy with
  | true =>
    refine keepsRwl_of_regs ?_
    unfold doNv
    rw [if_pos h, busError_regs]
  | false => exact keepsRwl_open (by decide) (doNv_regs s id op h)

theorem doActivate_keepsRwl (s : State) (v : Word32) : KeepsRwl s (doActivate s v) :=
  keepsRwl_open (by decide) (doActivate_regs s v)

theorem doHold_keepsRwl (s : State) (k : Fin 6) (v : Word32) : KeepsRwl s (doHold s k v) :=
  keepsRwl_open (bootPair_open k) (doHold_regs s k v)

theorem writeBoot_keepsRwl (s : State) (id : Fin 64) (o v : Nat) : KeepsRwl s (s.writeBoot id o v) := by
  unfold State.writeBoot
  dsimp only
  split
  · exact keepsRwl_ite (fun _ => doNv_keepsRwl _ _ _) fun _ => keepsRwl_of_regs rfl
  · exact doActivate_keepsRwl _ _
  · exact keepsRwl_of_regs (doRaise_area _ _ (p := .regs) (by decide))
  · unfold State.onFam
    split
    · refine (doHold_keepsRwl s _ _).trans (keepsRwl_ite (fun _ => keepsRwl_of_regs ?_) fun _ =>
        keepsRwl_of_regs rfl)
      exact doCheckpoint_area _ _ (p := .regs) (by decide)
    · exact keepsRwl_of_regs rfl

/-! ### Register writes -/

/-- The operations that a register write starts, but those of CAN, leave the registers. -/
theorem regEffect_regs (s : State) (id : Fin 64) (boot : Bool) (a v : Nat) (h : a / 0x10000 ≠ 0x4007) :
    (s.regEffect id boot a v).regs = s.regs := by
  show area _ .regs = area _ .regs
  unfold State.regEffect
  dsimp only
  split
  · exact area_ite (area_each _ _ _ fun _ _ => State.requestDomain_area _ _ _ (by decide)) rfl
  · exact State.onFam_area _ _ _ _ _ _ fun _ _ => area_ite (doRelease_area _ _ _ (by decide)) rfl
  · exact area_ite (doTalInc_area _ _ _ (by decide)) rfl
  · exact area_ite (doMessage_area _ _ _ (by decide)) rfl
  · exact area_ite (doTxpost_area _ _ _ (by decide)) rfl
  · next hb => exact absurd hb h
  · exact State.onFam_area _ _ _ _ _ _ fun _ _ => State.writeCe_area _ _ _ _ _ (by decide)
  · exact State.writePos_area _ _ _ (by decide)
  · exact State.writeGsc_area _ _ _ (by decide)
  · exact State.writeGlk_area _ _ _ _ (by decide)
  · exact area_ite rfl (State.onFam_area _ _ _ _ _ _ fun _ _ => area_ite (doHandOver_area _ _ _ (by decide)) rfl)
  · exact State.writePba_area _ _ _ (by decide)
  · exact State.writeThm_area _ _ _ (by decide)
  · exact area_ite (State.modChg_area _ _ (by decide)) rfl
  · exact area_ite (doFlogClear_area _ _ (by decide)) rfl
  · exact State.onFam_area _ _ _ _ _ _ fun _ _ => area_ite (State.blzRestart_area _ _ (by decide)) rfl
  · rfl

theorem regEffect_can (s : State) (id : Fin 64) (boot : Bool) (a v : Nat) (h : a / 0x10000 = 0x4007) :
    s.regEffect id boot a v = s.writeCan id (a % 0x10000) v := by
  unfold State.regEffect
  dsimp only
  rw [h]
  rfl

theorem regEffect_keepsRwl (s : State) (id : Fin 64) (boot : Bool) (a v : Nat) :
    KeepsRwl s (s.regEffect id boot a v) := by
  by_cases h : a / 0x10000 = 0x4007
  · rw [regEffect_can s id boot a v h]
    exact writeCan_keepsRwl _ _ _ _
  · exact keepsRwl_of_regs (regEffect_regs s id boot a v h)

theorem storeReg_regs {s : State} {a v : Nat} {r : RegRow} (h : regAt a = some r) :
    (s.storeReg a v).regs = sput 0 s.regs a (BitVec.ofNat 32 (v.land (r.rw.lor r.rwl))) := by
  unfold State.storeReg
  rw [h]

theorem storeReg_none {s : State} {a v : Nat} (h : regAt a = none) : s.storeReg a v = s := by
  unfold State.storeReg
  rw [h]

/-- Of a value cut to the RW and RWL bits, the RWL bits are those of the value. -/
theorem stored_lockBits (v w m : Nat) (x : Word32) (h : v.land m = x.toNat.land m) :
    (BitVec.ofNat 32 (v.land (w.lor m))).toNat.land m = x.toNat.land m := by
  have hx : x.toNat.land m < 2 ^ 32 := Nat.lt_of_le_of_lt Nat.and_le_left x.isLt
  refine Eq.trans ?_ (Nat.mod_eq_of_lt hx)
  rw [← h, BitVec.toNat_ofNat]
  show (v &&& (w ||| m)) % 2 ^ 32 &&& m = (v &&& m) % 2 ^ 32
  refine Nat.eq_of_testBit_eq fun i => ?_
  simp only [Nat.testBit_and, Nat.testBit_or, Nat.testBit_mod_two_pow]
  cases v.testBit i <;> cases m.testBit i <;> simp

/-- A write that R463 does not refuse on a locked device keeps every RWL bit. -/
theorem storeReg_keepsRwl {s : State} {a v : Nat} (hl : s.boot.locked = true)
    (h : lockedOut s a v = false) : KeepsRwl s (s.storeReg a v) := by
  cases hr : regAt a with
  | none => exact keepsRwl_of_regs (by rw [storeReg_none hr])
  | some r =>
    have hv : v.land r.rwl = (rd s a).land r.rwl := by
      simpa [lockedOut, hr, hl] using h
    refine keepsRwl_sput (storeReg_regs hr) ?_
    rw [rwlBits_eq, lockBits, hr]
    exact stored_lockBits v r.rw r.rwl _ hv

theorem lockedOut_congr {s t : State} (hr : t.regs = s.regs) (hb : t.boot = s.boot) (a v : Nat) :
    lockedOut t a v = lockedOut s a v := by
  unfold lockedOut rd
  rw [hr, hb]

theorem doRegWrite_keepsRwl (s : State) (id : Fin 64) (a n v : Nat) (hl : s.boot.locked = true) :
    KeepsRwl s (doRegWrite s id a n v) := by
  have hr : (s.regRow id true a).1.regs = s.regs := State.regRow_area s id true a (p := .regs) (by decide)
  have hb : (s.regRow id true a).1.boot = s.boot := State.regRow_area s id true a (p := .boot) (by decide)
  unfold doRegWrite
  split
  · dsimp only
    split
    · exact keepsRwl_of_regs (busError_regs _ _ _ _)
    split
    · exact keepsRwl_of_regs ((busError_regs _ _ _ _).trans hr)
    next hlo _ =>
    let x := (s.regRow id true a).1.busDone []
    have hx : lockedOut x a v = false := by
      rw [lockedOut_congr (s := s) (t := x) hr hb]
      simpa using hlo
    have hs : KeepsRwl x (x.putReg id false a v) :=
      (storeReg_keepsRwl (s := x) (by rw [← hl]; exact congrArg Boot.locked hb) hx).trans
        (regEffect_keepsRwl _ id false a v)
    have hw := hs.trans (keepsRwl_ite (c := a / 0x10000 = 0x4001)
      (fun _ => writeBoot_keepsRwl _ id (a % 0x10000) v) fun _ => keepsRwl_of_regs rfl)
    exact hw.between hr ((watchRows_regs _).trans (State.bootPoll_area _ (p := .regs) (by decide)))
  · exact keepsRwl_of_regs (busError_regs _ _ _ _)

theorem onWire_keepsRwl {s : State} {id : Fin 64} {a : Nat} {wire : List (Fin 266)} {f : State → State}
    (hl : s.boot.locked = true) (hf : ∀ x : State, x.boot.locked = true → KeepsRwl x (f x)) :
    KeepsRwl s (s.onWire id a wire f) := by
  have hr := State.eccNote_area s (some id) (wordOf (busAddr id a)) wire (p := .regs) (by decide)
  have hb := State.eccNote_area s (some id) (wordOf (busAddr id a)) wire (p := .boot) (by decide)
  unfold State.onWire
  refine keepsRwl_ite (fun _ => keepsRwl_of_regs ((busError_regs _ _ _ _).trans hr)) fun _ => ?_
  exact (keepsRwl_of_regs hr).trans (hf _ (by rw [← hl]; exact congrArg Boot.locked hb))

theorem doBusWrite_keepsRwl (s : State) (id : Fin 64) (a : Nat) (bs : List Byte)
    (up wire : List (Fin 266)) (hl : s.boot.locked = true) :
    KeepsRwl s (doBusWrite s id a bs up wire) := by
  unfold doBusWrite
  dsimp only
  split
  · refine keepsRwl_of_regs (area_ite (p := .regs) ?_ (busError_regs _ _ _ _))
    split
    · exact State.onWire_area _ _ _ _ _ (by decide) fun _ => doMbxWrite_area _ _ _ _ _ (by decide)
    · exact busError_regs _ _ _ _
  split
  · refine keepsRwl_of_regs ?_
    split
    · exact (State.onWire_area _ _ _ _ _ (p := .regs) (by decide) fun _ =>
        State.memWrite_area _ _ _ _ _ (by decide)).trans (State.upset_area _ _ _ (by decide))
    · exact busError_regs _ _ _ _
  split
  · exact onWire_keepsRwl hl fun x hx => doRegWrite_keepsRwl x id a bs.length (leNat bs) hx
  · exact keepsRwl_of_regs (busError_regs _ _ _ _)


/-! ### Start-up after lock -/

/-- The steps of start-up that write registers come before phase 7. -/
theorem slotSelect_running {s : State} (silent : Bool) (h : s.boot.phase = 7) : doSlotSelect s silent = s := by
  unfold doSlotSelect
  rw [if_neg (by omega)]

theorem imageRead_running {s : State} (h : s.boot.phase = 7) : doImageRead s = s := by
  unfold doImageRead
  rw [if_neg (by omega)]

theorem startLock_running {s : State} (h : s.boot.phase = 7) : doStartLock s = s := by
  unfold doStartLock
  rw [if_neg (by omega)]

/-! ### Commands -/

theorem startOf_area (c : Instr) (s : State) {p : Area} (h : p ∉ arrivals) :
    area (startOf c s) p = area s p := by
  unfold startOf
  cases c.tick with
  | none => rfl
  | some t => exact State.at_area s t h

/-- A command whose areas do not hold the registers leaves them. -/
theorem exec_regs {c : Instr} {s u : State} (h : exec c s = .next u) (hr : Area.regs ∉ touches c) :
    u.regs = s.regs :=
  (exec_area h hr fun _ => by decide).trans (startOf_area c s (p := .regs) (by decide))

theorem next_keepsRwl {s x u : State} {k : Tick}
    (h : (.next x : Host.Outcome State Fault Refusal) = .next u) (hx : KeepsRwl (s.at k) x) :
    KeepsRwl s u := by
  cases h
  exact (keepsRwl_of_regs (State.at_area s k (p := .regs) (by decide))).trans hx

/-- On a locked device every command but a reset keeps the RWL bits: a register write tests them, an
operation that stores a register of its own meets none there, and the steps of start-up are over. -/
theorem exec_keepsRwl {c : Instr} {s u : State} (hb : BootSound s) (hl : s.boot.locked = true)
    (hc : resets c = false) (h : exec c s = .next u) : KeepsRwl s u := by
  have boot : ∀ k, (s.at k).boot = s.boot := fun k => State.at_area s k (p := .boot) (by decide)
  have locked : ∀ k, (s.at k).boot.locked = true := fun k => by rw [boot, hl]
  have phase : ∀ k, (s.at k).boot.phase = 7 := fun k => by rw [boot, (hb hl).1]
  cases c
  case registerWrite t _ _ _ _ => exact next_keepsRwl h (doRegWrite_keepsRwl _ _ _ _ _ (locked t))
  case memoryWrite t _ _ _ _ _ =>
    dsimp only [exec, execMemoryWrite] at h
    split at h
    · exact next_keepsRwl h (keepsRwl_of_regs (busError_regs _ _ _ _))
    · exact next_keepsRwl h (doBusWrite_keepsRwl _ _ _ _ _ _ (locked t))
  case txcmdGo => exact next_keepsRwl h (doGo_keepsRwl _ _ _ _)
  case abort =>
    refine next_keepsRwl h (keepsRwl_ite (fun _ => ?_) fun _ => keepsRwl_of_regs (busError_regs _ _ _ _))
    exact (doAbort_keepsRwl _ _ _).trans (keepsRwl_of_regs rfl)
  case erase => exact next_keepsRwl h (doNv_keepsRwl _ _ _)
  case program => exact next_keepsRwl h (doNv_keepsRwl _ _ _)
  case verify => exact next_keepsRwl h (doNv_keepsRwl _ _ _)
  case select => exact next_keepsRwl h (doNv_keepsRwl _ _ _)
  case activate => exact next_keepsRwl h (doActivate_keepsRwl _ _)
  case hold => exact next_keepsRwl h (doHold_keepsRwl _ _ _)
  case slotSelect t silent =>
    exact next_keepsRwl h (keepsRwl_of_regs (by rw [slotSelect_running silent (phase t)]))
  case imageReadDone t => exact next_keepsRwl h (keepsRwl_of_regs (by rw [imageRead_running (phase t)]))
  case startLock t => exact next_keepsRwl h (keepsRwl_of_regs (by rw [startLock_running (phase t)]))
  case resetAssert => cases hc
  case vddSafeLow => cases hc
  case shutdownResetHold => cases hc
  all_goals exact keepsRwl_of_regs (exec_regs h (of_decide_eq_false rfl))

/-- Settles O6: the cases of `exec_keepsRwl` over all commands. -/
theorem lockedFieldsStay : Obligations.LockedFieldsStay := by
  unfold Obligations.LockedFieldsStay
  intro c s t hb hl hc hs h
  exact (exec_keepsRwl hb hl hc h hs.2.1).2

end Sys2Proof.Machine
end

section
/-!
PROOFS. What reset leaves (R8).
-/

namespace Sys2Proof.Machine

open Sys2Proof

theorem canonical_reset : Canonical State.reset := ⟨memory_wf_reset, by decide, rfl⟩

/-- Reset leaves the device unlocked. -/
theorem bootSound_reset : BootSound State.reset := fun h => absurd h (by decide)

/-- Settles O2. -/
theorem resetValues : Obligations.ResetValues := by
  unfold Obligations.ResetValues
  refine ⟨canonical_reset, bootSound_reset, rfl, rfl, rfl, rfl, rfl, ?engines, ?machines, ?encoders,
    ?groups, ?bridges, rfl, rfl, rfl, ?brakes, ?tokens, ?tallies, ?channels, rfl, ?trace, ?ident, rfl⟩
  case engines => decide
  case machines => decide
  case encoders => decide
  case groups => decide
  case bridges => decide
  case brakes => decide
  case tokens => decide
  case tallies => exact fun n => Vector.getElem_replicate n.isLt
  case channels => decide
  case trace => decide
  case ident => decide

end Sys2Proof.Machine
end

section
/-!
PROOFS. Register writes and the rows of engine memory (R371, R373).
-/

namespace Sys2Proof.Machine

open Sys2Proof

/-- A stopped engine 0 whose first data row holds a double-bit error, and a register table that lists a value
at the address of that row, 0x40081000 (CE_DMEM, R116). -/
def badRow : State := { State.reset with
  regs := [(0x40081000, 1)]
  ce := State.reset.ce.set 0 { State.reset.ce[0] with dflips := [(0, [0, 1])] } }

theorem badRow_canonical : Canonical badRow := ⟨memory_wf_reset, by decide, rfl⟩

theorem badRow_quiet : Quiet badRow 0 := ⟨rfl, fun _ h => absurd h List.not_mem_nil⟩

/-- A write to a register whose row in engine memory holds a double-bit error leaves the registers. -/
theorem doRegWrite_badRow {s : State} {id : Fin 64} {a n v : Nat} (h : (s.regRow id true a).2 = true) :
    (doRegWrite s id a n v).regs = s.regs := by
  unfold doRegWrite
  split
  · dsimp only
    split
    · exact busError_regs _ _ _ _
    · rw [busError_regs]
      exact State.regRow_area s id true a (p := .regs) (by decide)
  · exact busError_regs _ _ _ _

/-- Refutes O9: a write to CE_DMEM is accepted by its address, its size and its RWL bits, but ends with a bus
error where its row of engine memory holds a double-bit error (R371), so that what the register table lists
there is not replaced by the stored bits, which are none. -/
theorem not_registerWrites : ¬ Obligations.RegisterWrites := by
  unfold Obligations.RegisterWrites
  intro ⟨_, _, accepted⟩
  obtain ⟨u, hu, hv, _⟩ := accepted 0 0 0x40081000 0 ⟨0x40081000, 0x2000, 8, 0x4, 1024, 0x0, 0x0, 0xFFFFFF⟩
    badRow badRow_quiet badRow_canonical (by decide) (by decide) (by decide) (by decide) (by decide)
  have hr : u.regs = [(0x40081000, 1)] := by
    have hu' : u = doRegWrite (badRow.at 0) 0 0x40081000 4 0 := by cases hu; rfl
    rw [hu', doRegWrite_badRow (by decide +kernel)]
    exact at_regs badRow_quiet
  rw [rd, hr] at hv
  exact absurd hv (by decide)

end Sys2Proof.Machine
end

section
/-!
PROOFS. Frames of the gate links (R169 to R182).
-/

namespace Sys2Proof.Machine

open Sys2Proof

/-! ### Links: what an update leaves in each of them -/

theorem vupd_fin {α : Type} {n : Nat} (v : Vector α n) (i : Fin n) (f : α → α) : (vupd v i f)[i] = f v[i] :=
  vupd_same v i f

theorem vupd_vupd {α : Type} {n : Nat} (v : Vector α n) (i : Fin n) (f g : α → α) :
    vupd (vupd v i f) i g = vupd v i fun k => g (f k) := by
  show (vupd v i f).set i (g (vupd v i f)[i]) = _
  rw [vupd_fin]
  exact Vector.set_set _ i.isLt

theorem modLink_glk (s : State) (l : Fin 12) (f : Link → Link) : (s.modLink l f).glk = vupd s.glk l f := rfl

theorem modLink_link (s : State) (l : Fin 12) (f : Link → Link) : (s.modLink l f).glk[l] = f s.glk[l] :=
  vupd_fin _ _ _

/-- A link is changed twice. -/
theorem modLink_glk_of {s u : State} {l : Fin 12} {f : Link → Link} (h : u.glk = vupd s.glk l f)
    (g : Link → Link) : (u.modLink l g).glk = vupd s.glk l fun k => g (f k) := by
  rw [modLink_glk, h, vupd_vupd]

/-! ### The port: character boundaries and frames sent (R171, R173) -/

theorem charTick_spec (s : State) (l : Fin 12) :
    s.clk.now ≤ charTick s l ∧ charTick s l < s.clk.now + 40 ∧
      (charTick s l : Int) % 40 = s.glk[l].busyTo % 40 := by
  unfold charTick
  omega

theorem charTick_congr {s u : State} {l : Fin 12} (hc : u.clk = s.clk)
    (hb : u.glk[l].busyTo = s.glk[l].busyTo) : charTick u l = charTick s l := by
  unfold charTick
  rw [hc, hb]

/-- A free port can start a frame at its next character boundary. -/
theorem frameTick_free {s : State} {l : Fin 12} (h : portFree s l = true) : frameTick s l = charTick s l := by
  have hb : s.glk[l].busyTo ≤ s.clk.now := of_decide_eq_true h
  exact Nat.max_eq_left (Nat.le_trans hb (charTick_spec s l).1)

theorem sendFrom_glk (s : State) (l : Fin 12) (t : Nat) (bs : List Byte) : (s.sendFrom l t bs).glk =
    vupd s.glk l fun k => { k with busyTo := t + 40 * bs.length, beaconOut := false } := rfl

theorem sendFrom_emitted (s : State) (l : Fin 12) (t : Nat) (bs : List Byte) :
    (s.sendFrom l t bs).emitted = ⟨14 + l.val, t, bs⟩ :: s.emitted.filterMap (cutAt (14 + l.val) t) := rfl

theorem sendNext_free {s : State} {l : Fin 12} (h : portFree s l = true) (bs : List Byte) :
    s.sendNext l bs = s.sendFrom l (charTick s l) bs := by
  unfold State.sendNext
  rw [frameTick_free h]

theorem length_leBytes : ∀ (n x : Nat), (leBytes n x).length = n
  | 0, _ => rfl
  | n + 1, x => congrArg (· + 1) (length_leBytes n (x / 256))

/-- SOF, header, CRC-8 and EOF around the payload (R175). -/
theorem length_linkFrame (typ low : Nat) (p : List Byte) : (linkFrame typ low p).length = p.length + 4 := by
  simp [linkFrame]

theorem length_beaconBytes (s : State) (l : Fin 12) (t : Nat) : (beaconBytes s l t).length = 7 := by
  unfold beaconBytes
  split <;> simp [length_leBytes]

/-- ARM leaves a free port of a link that carries it (R172). -/
theorem serveArm_sends {s : State} {l : Fin 12} (ha : s.glk[l].armDue = true)
    (hc : linkCarries s.glk[l] = true) (hf : portFree s l = true) :
    (s.serveArm l).glk = vupd s.glk l (fun k => { k with
      busyTo := charTick s l + 160, armDue := false, beaconOut := false }) ∧
    (s.serveArm l).emitted = ⟨14 + l.val, charTick s l, linkFrame 4 0 []⟩ ::
      s.emitted.filterMap (cutAt (14 + l.val) (charTick s l)) := by
  unfold State.serveArm
  rw [if_pos (by simp [-Fin.getElem_fin, ha, hc, hf]), sendNext_free hf]
  exact ⟨modLink_glk_of (sendFrom_glk _ _ _ _) _, rfl⟩

/-! ### Edge frames (R169, R170, R176) -/

theorem edgeReady_up {s : State} {l : Fin 12} (h : edgeReady s l = true) : s.glk[l].state = .up := by
  simp only [edgeReady, Bool.and_eq_true, beq_iff_eq] at h
  exact h.1

theorem linkCarries_up {k : Link} (h : k.state = .up) : linkCarries k = true := by
  simp [linkCarries, h]

theorem edgeReady_cons {s : State} {l : Fin 12} {e : Entry} {q : List Entry} (hu : s.glk[l].state = .up)
    (hq : s.glk[l].queue = e :: q) (he : sendable s e = true) : edgeReady s l = true := by
  simp [-Fin.getElem_fin, edgeReady, hu, hq, he]

/-- The oldest entry goes if it is sendable and live. -/
theorem nextEntry_live {s : State} {e : Entry} {q : List Entry} (he : sendable s e = true)
    (hs : staleEntry s e = false) : nextEntry s (e :: q) = (some e, q, 0) := by
  simp [nextEntry, he, hs]

theorem edgeFrame_arm {s : State} {l : Fin 12} (hr : edgeReady s l = true) (hf : portFree s l = true)
    (ha : s.glk[l].armDue = true) : s.edgeFrame l = s.serveArm l := by
  simp [-Fin.getElem_fin, State.edgeFrame, hr, hf, ha]

theorem edgeFrame_sends {s : State} {l : Fin 12} (hr : edgeReady s l = true) (hf : portFree s l = true)
    (ha : s.glk[l].armDue = false) : s.edgeFrame l = s.sendEdges l [] := by
  simp [-Fin.getElem_fin, State.edgeFrame, hr, hf, ha]

/-- The sending of a frame's entries is noted in their legs alone. -/
theorem entriesSent_area (s : State) (es : List Entry) {p : Area} (h : p ∉ [Area.gsc]) :
    area (s.each es State.entrySent) p = area s p :=
  area_each _ _ _ fun x e => State.entrySent_area x e h

/-- Two entries at most leave in one frame: `e`, and the next one, if any, where `e` is stamped 600 tk or more
after the start of the frame. -/
theorem sendEdges_sends {s : State} {l : Fin 12} {e : Entry} {o : Option Entry} {q q' : List Entry} {n n' : Nat}
    (h1 : nextEntry s s.glk[l].queue = (some e, q, n))
    (h2 : (if e.stamp < charTick s l + 600 then (none, q, 0) else nextEntry s q) = (o, q', n')) :
    let f := linkFrame 1 (e :: o.toList).length ((e :: o.toList).flatMap entryBytes)
    (s.sendEdges l []).glk = vupd s.glk l (fun k => { k with
      queue := q', busyTo := charTick s l + 40 * f.length, beaconOut := false }) ∧
    (s.sendEdges l []).emitted = ⟨14 + l.val, charTick s l, f⟩ ::
      s.emitted.filterMap (cutAt (14 + l.val) (charTick s l)) := by
  unfold State.sendEdges
  simp only [h1, List.length_nil, Nat.mul_zero, Nat.add_zero, h2, List.nil_append, List.isEmpty_nil, if_true]
  generalize hy : (s.tallyBy 59 (n + n')).modLink l (fun k => { k with queue := q' }) = y
  have yg : y.glk = vupd s.glk l fun k => { k with queue := q' } := by
    rw [← hy, modLink_glk, tallyBy_glk]
  have ye : y.emitted = s.emitted := by rw [← hy]; exact tallyBy_emitted _ _ _
  constructor
  · exact (entriesSent_area _ _ (p := .glk) (by decide)).trans (modLink_glk_of yg _)
  · refine (entriesSent_area _ _ (p := .emitted) (by decide)).trans ?_
    show (y.sendFrom l _ _).emitted = _
    rw [sendFrom_emitted, ye]

/-! ### Beacons and LOSS frames (R171, R177, R178) -/

theorem sendable_congr {s u : State} (hc : u.clk = s.clk) (hr : u.regs = s.regs) :
    sendable u = sendable s := by
  have hh : horizonOf u = horizonOf s := by unfold horizonOf gscHorizonTicks rd; rw [hr]
  funext e
  unfold sendable
  rw [hc, hh]

theorem edgeReady_congr {s u : State} {l : Fin 12} (hc : u.clk = s.clk) (hr : u.regs = s.regs)
    (hs : u.glk[l].state = s.glk[l].state) (hq : u.glk[l].queue = s.glk[l].queue) :
    edgeReady u l = edgeReady s l := by
  unfold edgeReady
  rw [sendable_congr hc hr, hs, hq]

theorem linkGroup_congr {s u : State} (hr : u.regs = s.regs) (l : Fin 12) :
    linkGroup u l = linkGroup s l := by
  have hg : glkCfgGroup u l = glkCfgGroup s l := by unfold glkCfgGroup rd; rw [hr]
  unfold linkGroup
  rw [hg]

theorem beaconBytes_congr {s u : State} (hr : u.regs = s.regs) (hd : u.red = s.red) (l : Fin 12) (t : Nat) :
    beaconBytes u l t = beaconBytes s l t := by
  unfold beaconBytes axHeld
  rw [linkGroup_congr hr, hd]

/-- A beacon that falls due leaves a free port on which nothing goes before it. -/
theorem beaconFrame_sends {s : State} {l : Fin 12} (hc : linkCarries s.glk[l] = true)
    (ht : s.clk.now % 1600 = 0) (hf : portFree s l = true) (ha : s.glk[l].armDue = false)
    (he : edgeReady s l = false) (hl : s.glk[l].lossDue = false) (hd : s.glk[l].cmdDue = none) :
    (s.beaconFrame l).glk = vupd s.glk l (fun k => { k with
      busyTo := charTick s l + 440, beaconDue := false, beaconOut := true }) ∧
    (s.beaconFrame l).emitted = ⟨14 + l.val, charTick s l, linkFrame 2 0 (beaconBytes s l (charTick s l))⟩ ::
      s.emitted.filterMap (cutAt (14 + l.val) (charTick s l)) := by
  have hk : (s.modLink l fun k => { k with beaconDue := true }).glk[l] = { s.glk[l] with beaconDue := true } :=
    vupd_fin _ _ _
  generalize hy : (s.modLink l fun k => { k with beaconDue := true }) = y at hk
  have yc : y.clk = s.clk := by rw [← hy]; rfl
  have yr : y.regs = s.regs := by rw [← hy]; rfl
  have yd : y.red = s.red := by rw [← hy]; rfl
  have yf : portFree y l = true := by simpa [-Fin.getElem_fin, portFree, hk, yc] using hf
  have ye : edgeReady y l = false := by rw [← he]; exact edgeReady_congr yc yr (by rw [hk]) (by rw [hk])
  have yt : charTick y l = charTick s l := charTick_congr yc (by rw [hk])
  have hs : s.beaconFrame l = (y.sendFrom l (charTick s l)
      (linkFrame 2 0 (beaconBytes s l (charTick s l)))).modLink l fun k => { k with
        beaconDue := false, beaconOut := true } := by
    unfold State.beaconFrame
    simp [-Fin.getElem_fin, hc, ht, hy, hk, yf, ye, ha, hl, hd, sendNext_free yf, frameTick_free yf, yt, beaconBytes_congr yr yd]
  rw [hs]
  have yg : y.glk = vupd s.glk l fun k => { k with beaconDue := true } := by rw [← hy]; rfl
  constructor
  · refine (modLink_glk_of (modLink_glk_of yg _) _).trans ?_
    rw [length_linkFrame, length_beaconBytes]
  · rw [← hy]; rfl

theorem lossFrame_sends {s : State} {l : Fin 12} (hc : linkCarries s.glk[l] = true) (hf : portFree s l = true)
    (ha : s.glk[l].armDue = false) (he : edgeReady s l = false) (hl : s.glk[l].lossDue = true) :
    (s.lossFrame l).glk = vupd s.glk l (fun k => { k with
      busyTo := charTick s l + 240, lossDue := false, beaconOut := false }) ∧
    (s.lossFrame l).emitted = ⟨14 + l.val, charTick s l, linkFrame 5 0 (patternBytes s.glk[l].lossP)⟩ ::
      s.emitted.filterMap (cutAt (14 + l.val) (charTick s l)) := by
  have hs : s.lossFrame l = (s.sendFrom l (charTick s l) (linkFrame 5 0 (patternBytes s.glk[l].lossP))).modLink l
      fun k => { k with lossDue := false } := by
    unfold State.lossFrame
    simp [-Fin.getElem_fin, hc, hf, ha, he, hl, sendNext_free hf]
  rw [hs]
  exact ⟨modLink_glk_of (sendFrom_glk _ _ _ _) _, rfl⟩

/-! ### Tally counters (R431) -/

theorem tallyBy_same (s : State) {n : Nat} (k : Nat) (h : n < 256) :
    (s.tallyBy n k).tal[n] = s.tal[n] + BitVec.ofNat 64 k := by
  unfold State.tallyBy
  rw [dif_pos h]
  exact vupd_same s.tal ⟨n, h⟩ _

/-- A counter that another event's number does not name. -/
theorem tallyBy_other (s : State) {n k m : Nat} (h : n ≠ m) (hm : m < 256) :
    (s.tallyBy n k).tal[m] = s.tal[m] := by
  unfold State.tallyBy
  split
  · exact (vupd_getElem _ _ _ _ _).trans (if_neg h)
  · rfl

/-! Offers to the trace port and to a landing ring count in counters from 137 on. -/

theorem traceLoss_tal (s : State) : s.traceLoss.tal = s.tal := State.traceLoss_area s (p := .tal) (by decide)

theorem traceOffer_tal (s : State) (k : TraceKind) (b : List Byte) {m : Nat} (hm : m < 137) :
    (s.traceOffer k b).tal[m] = s.tal[m] := by
  unfold State.traceOffer
  split
  · rfl
  split
  · simp only [traceLoss_tal]; rfl
  · split
    · exact tallyBy_other _ (by omega) _
    · exact tallyBy_other _ (by omega) _
    · exact tallyBy_other _ (by omega) _
    · rfl

theorem foldl_tal {α : Type} (f : State → α → State) {m : Nat} (hm : m < 256)
    (hf : ∀ s x, (f s x).tal[m] = s.tal[m]) : ∀ (l : List α) (s : State), (l.foldl f s).tal[m] = s.tal[m]
  | [], _ => rfl
  | x :: l, s => (foldl_tal f hm hf l (f s x)).trans (hf s x)

theorem mirrorOffer_tal (s : State) (r : Fin 32) (f : Byte) (ws : List Word256) {m : Nat} (hm : m < 137) :
    (s.mirrorOffer r f ws).tal[m] = s.tal[m] := by
  unfold State.mirrorOffer
  split
  · exact foldl_tal _ (by omega) (fun x w => traceOffer_tal _ _ _ hm) _ _
  · rfl

theorem offer_tal (s : State) (r : Fin 32) (ws : List Word256) {m : Nat} (hm : m < 137) :
    (s.offer r ws).1.tal[m] = s.tal[m] := by
  unfold State.offer
  dsimp only
  split
  · exact (mirrorOffer_tal _ _ _ _ hm).trans (tallyBy_other _ (by omega) _)
  · refine (mirrorOffer_tal _ _ _ _ hm).trans ?_
    split
    · rfl
    · exact tallyBy_other _ (by omega) _

theorem record_tal (s : State) (b u e d p : Nat) {m : Nat} (hm : m < 137) :
    (s.record b u e d p).tal[m] = s.tal[m] := offer_tal _ _ _ hm

/-! ### What the port makes of characters (R173, R175) -/

theorem takeWhile_data (bs : List Byte) (c : LinkChar) (hc : dataByte c = none) (cs : List LinkChar) :
    (bs.map LinkChar.data ++ c :: cs).takeWhile (fun c => (dataByte c).isSome) = bs.map .data := by
  rw [List.takeWhile_append_of_pos (by simp [dataByte]), List.takeWhile_cons_of_neg (by simp [hc]),
    List.append_nil]

theorem dropWhile_data (bs : List Byte) (c : LinkChar) (hc : dataByte c = none) (cs : List LinkChar) :
    (bs.map LinkChar.data ++ c :: cs).dropWhile (fun c => (dataByte c).isSome) = c :: cs := by
  rw [List.dropWhile_append_of_pos (by simp [dataByte]), List.dropWhile_cons_of_neg (by simp [hc])]

theorem filterMap_data (bs : List Byte) : (bs.map LinkChar.data).filterMap dataByte = bs := by
  induction bs with
  | nil => rfl
  | cons b bs ih => exact congrArg (b :: ·) ih

/-- A frame as a hub sends it is taken for what it is. -/
theorem heardOf_hubFrame {typ low : Nat} {p : List Byte} (ht : typ < 16) (hl : low < 16)
    (hp : hubLength typ = some p.length) : heardOf (hubFrame typ low p) = .frame typ low p := by
  have hh : (BitVec.ofNat 8 (put typ 4 + low)).toNat = 16 * typ + low := by
    simp only [put, BitVec.toNat_ofNat]; omega
  have h1 : (16 * typ + low) / 16 = typ := by omega
  have h2 : (16 * typ + low) % 16 = low := by omega
  unfold heardOf hubFrame
  generalize BitVec.ofNat 8 (put typ 4 + low) = h at hh
  simp only [List.drop_one, List.tail_cons, takeWhile_data _ (.ctl 0xFD) rfl, dropWhile_data _ (.ctl 0xFD) rfl,
    filterMap_data, List.head?_cons, List.dropLast_concat, List.getLast?_concat]
  simp [hh, h1, h2, hp]

theorem heardFrom_status {s : State} {l : Fin 12} (h : linkHears s.glk[l] = true) (q : Fin 16)
    (st gates supply late err drop : Byte) :
    s.heardFrom l (hubFrame 8 q [st, gates, supply, late, err, drop]) =
      (s.statusFrame l st gates supply late err drop).watchRows := by
  unfold State.heardFrom
  rw [h, heardOf_hubFrame (by decide) q.isLt rfl]
  rfl

theorem heardFrom_discarded {s : State} {l : Fin 12} {cs : List LinkChar} (h : linkHears s.glk[l] = true)
    (hc : heardOf cs = .discarded) : s.heardFrom l cs = s.tally 62 := by
  unfold State.heardFrom
  rw [h, hc]
  rfl

/-! ### STATUS (R175, R179, R182) -/

theorem linkHears_sync {k : Link} (h : k.state = .sync) : linkHears k = true := by
  simp [linkHears, h]

/-- A link as a STATUS frame received on tick t leaves it before SYNC may end. -/
def Link.withStatus (k : Link) (t : Nat) (st gates supply late err drop : Byte) : Link := { k with
  hState := st, hGates := gates, hSupply := supply, hLate := late, hErr := err, hDrop := drop
  lastStatus := t
  good := if k.state = .sync ∧ (st.getLsbD 2 && st.toNat % 4 = 0) then k.good + 1 else 0 }

/-- STATUS counted and kept. -/
def State.statusKept (s : State) (l : Fin 12) (st gates supply late err drop : Byte) : State :=
  (((s.tallyBy 64 (rise8 s.glk[l].hLate late)).tallyBy 62 (rise8 s.glk[l].hErr err)).tallyBy 66
    (rise8 s.glk[l].hDrop drop)).modLink l fun k => k.withStatus s.clk.now st gates supply late err drop

theorem statusFrame_eq (s : State) (l : Fin 12) (st gates supply late err drop : Byte) :
    s.statusFrame l st gates supply late err drop =
      let u := s.statusKept l st gates supply late err drop
      if 16 ≤ u.glk[l].good then
        (u.linkTo l .up |>.modLink l fun q => { q with
          lossDue := s.glk[l].lossDue, beaconDue := s.glk[l].beaconDue }).record bGLK (14 + l) 1
            (s.glk[l].delay % 65536)
      else u := rfl

theorem withStatus_outside {k : Link} (h : k.state ≠ .sync) (t : Nat) (st gates supply late err drop : Byte) :
    k.withStatus t st gates supply late err drop = { k with
      hState := st, hGates := gates, hSupply := supply, hLate := late, hErr := err, hDrop := drop
      lastStatus := t, good := 0 } := by
  unfold Link.withStatus
  rw [if_neg fun x => h x.1]

theorem statusKept_glk (s : State) (l : Fin 12) (st gates supply late err drop : Byte) :
    (s.statusKept l st gates supply late err drop).glk =
      vupd s.glk l fun k => k.withStatus s.clk.now st gates supply late err drop := by
  unfold State.statusKept
  rw [modLink_glk, tallyBy_glk, tallyBy_glk, tallyBy_glk]

theorem statusKept_tal (s : State) (l : Fin 12) (st gates supply late err drop : Byte) :
    (s.statusKept l st gates supply late err drop).tal[64] =
      s.tal[64] + BitVec.ofNat 64 (rise8 s.glk[l].hLate late) ∧
    (s.statusKept l st gates supply late err drop).tal[62] =
      s.tal[62] + BitVec.ofNat 64 (rise8 s.glk[l].hErr err) ∧
    (s.statusKept l st gates supply late err drop).tal[66] =
      s.tal[66] + BitVec.ofNat 64 (rise8 s.glk[l].hDrop drop) := by
  refine ⟨?_, ?_, ?_⟩
  · exact (tallyBy_other _ (by decide) _).trans ((tallyBy_other _ (by decide) _).trans (tallyBy_same _ _ _))
  · refine (tallyBy_other _ (by decide) _).trans ((tallyBy_same _ _ _).trans ?_)
    rw [tallyBy_other _ (by decide)]
  · refine (tallyBy_same _ _ _).trans ?_
    rw [tallyBy_other _ (by decide), tallyBy_other _ (by decide)]

/-- STATUS that does not end SYNC is kept and counted. -/
theorem statusFrame_stays {s : State} {l : Fin 12} {st : Byte} (h : s.glk[l].state ≠ .sync)
    (gates supply late err drop : Byte) : s.statusFrame l st gates supply late err drop =
      s.statusKept l st gates supply late err drop := by
  rw [statusFrame_eq]
  refine if_neg ?_
  rw [statusKept_glk, vupd_fin, withStatus_outside h]
  exact Nat.not_succ_le_zero _

/-- The 16th good STATUS in a row ends SYNC: the link is UP, with the LOSS frame and the queue that it had. -/
theorem statusFrame_up {s : State} {l : Fin 12} (h : s.glk[l].state = .sync) (hg : s.glk[l].good = 15)
    (gates supply late err drop : Byte) :
    let k := (s.statusFrame l 4 gates supply late err drop).glk[l]
    k.state = .up ∧ k.since = s.clk.now ∧ k.lossDue = s.glk[l].lossDue ∧ k.queue = s.glk[l].queue := by
  have kept : (s.statusKept l 4 gates supply late err drop).glk[l] =
      s.glk[l].withStatus s.clk.now 4 gates supply late err drop := by
    rw [statusKept_glk, vupd_fin]
  have good : (s.glk[l].withStatus s.clk.now 4 gates supply late err drop).good = 16 := by
    unfold Link.withStatus
    dsimp only
    rw [if_pos ⟨h, by decide⟩, hg]
  rw [statusFrame_eq]
  dsimp only
  rw [if_pos (Nat.le_of_eq (by rw [kept, good])), record_glk, modLink_link, State.linkTo, modLink_link, kept]
  exact ⟨rfl, rfl, rfl, rfl⟩

/-! ### Fault commas (R174) -/

theorem mem_insFlight (t : Nat) (f : Flight) : ∀ q : List (Nat × Flight), (t, f) ∈ insFlight t f q
  | [] => List.mem_singleton_self _
  | x :: xs => by
    exact iteInduction (motive := fun q => (t, f) ∈ q) (fun _ => List.mem_cons_self)
      fun _ => List.mem_cons_of_mem _ (mem_insFlight t f xs)

theorem commaByte_valid {b : Byte} (h : b.toNat / 16 % 8 < 5) : commaByte b (~~~b) = (b, false) := by
  unfold commaByte
  refine if_neg ?_
  have : bits b.toNat 6 4 = b.toNat / 16 % 8 := rfl
  rintro (hc | hc)
  · exact hc rfl
  · omega

theorem commaByte_invalid {b c : Byte} (h : c ≠ ~~~b ∨ 5 ≤ b.toNat / 16 % 8) :
    commaByte b c = (0x2F, true) := if_pos h

/-- A fault comma counted and recorded. -/
def State.commaCounted (s : State) (l : Fin 12) (b c : Byte) : State :=
  let f := commaByte b c
  let v := (s.tally 65).record bGLK (14 + l) 4
    (f.1.toNat + put b.toNat 8 + put c.toNat 16 + put (b2n f.2) 24)
  if bits f.1.toNat 6 4 = 1 then v.tally 71 else v

theorem faultComma_eq (s : State) (l : Fin 12) (b c : Byte) : s.faultComma l b c =
    ((s.commaCounted l b c).report bGLK (14 + l) 4 (commaByte b c).1 0).launch
      ((s.commaCounted l b c).clk.now + 40) (.comma l (commaByte b c).1) := rfl

theorem commaCounted_area (s : State) (l : Fin 12) (b c : Byte) {p : Area} (h : p ∉ [Area.lrg, .trc, .tal]) :
    area (s.commaCounted l b c) p = area s p :=
  have hv := (State.record_area (s.tally 65) bGLK (14 + l) 4 _ 0 h).trans
    (State.tallyBy_area s 65 1 (untouched h rfl))
  area_ite ((State.tallyBy_area _ 71 1 (untouched h rfl)).trans hv) hv

theorem commaCounted_tal (s : State) (l : Fin 12) (b c : Byte) :
    (s.commaCounted l b c).tal[65] = s.tal[65] + 1 ∧
    (s.commaCounted l b c).tal[71] =
      if (commaByte b c).1.toNat / 16 % 8 = 1 then s.tal[71] + 1 else s.tal[71] := by
  unfold State.commaCounted
  dsimp only
  generalize hv : (s.tally 65).record _ _ _ _ = v
  have h65 : v.tal[65] = s.tal[65] + 1 := by
    rw [← hv, record_tal _ _ _ _ _ _ (by decide)]; exact tallyBy_same _ _ _
  have h71 : v.tal[71] = s.tal[71] := by
    rw [← hv, record_tal _ _ _ _ _ _ (by decide)]; exact tallyBy_other _ (by decide) _
  refine ⟨?_, ?_⟩
  · split
    · exact (tallyBy_other _ (by decide) _).trans h65
    · exact h65
  · show _ = if bits (commaByte b c).1.toNat 6 4 = 1 then _ else _
    split
    · rw [← h71]; exact tallyBy_same _ _ _
    · exact h71

/-- A fault comma with byte F is counted, under its cause 1 once more, reported with F and sent to the island. -/
theorem faultComma_spec (s : State) (l : Fin 12) {b c f : Byte} {x : Bool} (hf : commaByte b c = (f, x)) :
    (s.faultComma l b c).rng.net = s.rng.net ++ [⟨s.clk.now + 40, bGLK, 14 + l.val, 4, f, 0⟩] ∧
    (s.faultComma l b c).tal[65] = s.tal[65] + 1 ∧
    (s.faultComma l b c).tal[71] = (if f.toNat / 16 % 8 = 1 then s.tal[71] + 1 else s.tal[71]) ∧
    (s.clk.now + 40, .comma l f) ∈ (s.faultComma l b c).flights ∧
    (s.faultComma l b c).psp = s.psp ∧ (s.faultComma l b c).glk = s.glk := by
  have clk : (s.commaCounted l b c).clk = s.clk := commaCounted_area s l b c (p := .clk) (by decide)
  have rng : (s.commaCounted l b c).rng = s.rng := commaCounted_area s l b c (p := .rng) (by decide)
  have tal := commaCounted_tal s l b c
  refine ⟨?net, ?commas, ?shorts, ?flight, State.faultComma_area s l b c (p := .psp) (by decide),
    State.faultComma_area s l b c (p := .glk) (by decide)⟩
  all_goals rw [faultComma_eq, hf]
  case net =>
    show (s.commaCounted l b c).rng.net ++ [⟨(s.commaCounted l b c).clk.now + 40, bGLK, 14 + l.val, 4, f, 0⟩] = _
    rw [clk, rng]
  case commas => exact tal.1
  case shorts => rw [hf] at tal; exact tal.2
  case flight => rw [clk]; exact mem_insFlight _ _ _

/-! ### What a row of the links finds at its tick -/

section
variable {s : State} {t : Tick}

theorem portFree_at {l : Fin 12} (h : OnTime s t) (hb : s.glk[l].busyTo ≤ t) : portFree (s.at t) l = true := by
  unfold portFree
  rw [at_now h, at_glk h.2.2]
  exact decide_eq_true hb

theorem sendable_at {e : Entry} (h : OnTime s t) (he : e.stamp ≤ t + horizonOf s) :
    sendable (s.at t) e = true := by
  have hh : horizonOf (s.at t) = horizonOf s := by unfold horizonOf gscHorizonTicks rd; rw [at_regs h.2.2]
  unfold sendable
  rw [at_now h, hh]
  exact decide_eq_true he

theorem staleEntry_at {e : Entry} (h : OnTime s t) : staleEntry (s.at t) e = staleEntry s e := by
  unfold staleEntry
  rw [at_red h.2.2]

/-- A frame that has changed link l and the emissions at tick t, told of the state before t. -/
theorem sent_at {u : State} {l : Fin 12} {f : Link → Link} {x : Emission} {c : Emission → Option Emission}
    (h : OnTime s t)
    (hs : u.glk = vupd (s.at t).glk l f ∧ u.emitted = x :: (s.at t).emitted.filterMap c) :
    u.glk[l] = f s.glk[l] ∧ u.emitted = x :: s.emitted.filterMap c ∧ ∀ k, k ≠ l → u.glk[k] = s.glk[k] := by
  obtain ⟨hg, he⟩ := hs
  rw [at_glk h.2.2] at hg
  rw [at_emitted h.2.2] at he
  refine ⟨?_, he, fun k hk => ?_⟩
  · rw [hg, vupd_fin]
  · rw [hg]; exact vupd_other _ _ _ _ hk

end

/-- Settles O26: each row by what its frame leaves of the state at the tick of the row. -/
theorem gateLinkFrames : Obligations.GateLinkFrames := by
  unfold Obligations.GateLinkFrames
  refine ⟨?edge, ?beacon, ?loss, ?comma, ?badComma, ?status, ?sync, ?pair, ?discarded, ?arm⟩
  case edge =>
    intro t l e s h hu hq he hst hb ha
    have hf := portFree_at h hb
    have hse := sendable_at h he
    rw [← staleEntry_at h] at hst
    rw [← at_glk h.2.2] at hu hq ha
    have sent := sendEdges_sends (o := none) (q' := []) (n' := 0)
      (by rw [hq]; exact nextEntry_live hse hst) (by split <;> rfl)
    rw [← edgeFrame_sends (edgeReady_cons hu hq hse) hf ha] at sent
    obtain ⟨hl, hem, ho⟩ := sent_at h sent
    have hx := charTick_spec (s.at t) l
    rw [at_now h, at_glk h.2.2] at hx
    exact ⟨_, rfl, hl, hem, hx.1, hx.2.1, hx.2.2, ho⟩
  case beacon =>
    intro t l s h hc ht hb ha he hl hd
    have hf := portFree_at h hb
    rw [← at_glk h.2.2] at hc ha hl hd
    obtain ⟨hk, hem, ho⟩ := sent_at h (beaconFrame_sends hc (by rw [at_now h, ht]) hf ha he hl hd)
    rw [beaconBytes_congr (at_regs h.2.2) (at_red h.2.2)] at hem
    refine ⟨_, rfl, hk, hem, fun g hg => ?_, ho⟩
    unfold beaconBytes axHeld
    rw [hg]
    simp
  case loss =>
    intro t l s h hc hb ha he hl
    have hf := portFree_at h hb
    have hp : s.glk[l].lossP = (s.at t).glk[l].lossP := by rw [at_glk h.2.2]
    rw [← at_glk h.2.2] at hc ha hl
    rw [hp]
    exact ⟨_, rfl, sent_at h (lossFrame_sends hc hf ha he hl)⟩
  case comma =>
    intro t l b s h hh hb
    obtain ⟨net, commas, shorts, flight, psp, glk⟩ := faultComma_spec (s.at t) l (commaByte_valid hb)
    rw [← at_glk h.2.2] at hh
    rw [at_now h, at_rng h.2.2] at net
    rw [at_now h] at flight
    rw [at_tal h.2.2] at commas shorts
    rw [at_psp h.2.2] at psp
    rw [at_glk h.2.2] at glk
    exact ⟨_, congrArg Host.Outcome.next (if_pos hh), net, commas, shorts, flight, psp, glk⟩
  case badComma =>
    intro t l b c s h hh hb
    obtain ⟨net, commas, -, flight, psp, glk⟩ := faultComma_spec (s.at t) l (commaByte_invalid hb)
    rw [← at_glk h.2.2] at hh
    rw [at_now h, at_rng h.2.2] at net
    rw [at_now h] at flight
    rw [at_tal h.2.2] at commas
    rw [at_psp h.2.2] at psp
    rw [at_glk h.2.2] at glk
    exact ⟨_, congrArg Host.Outcome.next (if_pos hh), net, commas, flight, psp, glk⟩
  case status =>
    rintro t l q st gates supply late err drop s h hh ⟨hs, -⟩
    obtain ⟨t64, t62, t66⟩ := statusKept_tal (s.at t) l st gates supply late err drop
    have glk := statusKept_glk (s.at t) l st gates supply late err drop
    rw [← at_glk h.2.2] at hh hs
    rw [at_tal h.2.2, at_glk h.2.2] at t64 t62 t66
    rw [at_now h, at_glk h.2.2] at glk
    refine ⟨_, congrArg Host.Outcome.next ((heardFrom_status hh ..).trans
      (congrArg State.watchRows (statusFrame_stays hs ..))), ?_, t64, t62, t66, fun k hk => ?_⟩
    · rw [at_glk h.2.2] at hs
      rw [watchRows_glk, glk, vupd_fin, withStatus_outside hs]
    · rw [watchRows_glk, glk]
      exact vupd_other _ _ _ _ hk
  case sync =>
    intro t l q supply late err drop s h hs hg
    rw [← at_glk h.2.2] at hs hg
    have up := statusFrame_up hs hg 0 supply late err drop
    rw [at_now h, at_glk h.2.2] at up
    exact ⟨_, congrArg Host.Outcome.next (heardFrom_status (linkHears_sync hs) ..), up⟩
  case pair =>
    intro t l e d es s h hu hq he hd ht hse hsd hb ha
    have hf := portFree_at h hb
    have hse := sendable_at h hse
    have hsd := sendable_at h hsd
    rw [← staleEntry_at h] at he hd
    rw [← at_glk h.2.2] at hu hq ha
    have hx := (charTick_spec (s.at t) l).2.1
    rw [at_now h] at hx
    have far : ¬e.stamp < charTick (s.at t) l + 600 :=
      Nat.not_lt.2 (Nat.le_trans (Nat.le_of_lt (Nat.add_lt_add_right hx 600)) ht)
    have sent := sendEdges_sends (o := some d) (q' := es) (n' := 0)
      (by rw [hq]; exact nextEntry_live hse he) (by rw [if_neg far]; exact nextEntry_live hsd hd)
    rw [← edgeFrame_sends (edgeReady_cons hu hq hse) hf ha] at sent
    obtain ⟨hl, hem, ho⟩ := sent_at h sent
    refine ⟨_, rfl, ?_, hem, ho⟩
    rw [hl]
  case discarded =>
    intro t l cs s h hh hc
    rw [← at_glk h.2.2] at hh
    have heard : (s.at t).heardFrom l cs = (s.at t).tally 62 := heardFrom_discarded hh hc
    have counted : ((s.at t).tally 62).tal[62] = s.tal[62] + 1 := by
      rw [← at_tal h.2.2]
      exact tallyBy_same _ _ _
    have glk : ((s.at t).tally 62).glk = s.glk := by rw [tally_glk, at_glk h.2.2]
    have next : Host.Outcome.next ((s.at t).heardFrom l cs) =
        (Host.Outcome.next ((s.at t).tally 62) : Host.Outcome State Fault Refusal) := by rw [heard]
    exact ⟨⟨_, next, counted, glk⟩, ⟨_, next, counted, glk⟩, _, next, counted, glk⟩
  case arm =>
    intro t l s h hr hb ha
    have hf := portFree_at h hb
    rw [← at_glk h.2.2] at ha
    have sent := serveArm_sends ha (linkCarries_up (edgeReady_up hr)) hf
    rw [← edgeFrame_arm hr hf ha] at sent
    exact ⟨_, rfl, sent_at h sent⟩

end Sys2Proof.Machine
end

section
/-!
PROOFS. The power die's copy of the time base and the island's speeds and link-loss patterns (R17, R22, R29,
R31).
-/

namespace Sys2Proof.Machine

open Sys2Proof

/-! ### The clock at the tick of a command -/

theorem clockTo_eq (s : State) (t : Tick) : s.clockTo t = { s with clk := (s.clockTo t).clk } := by
  unfold State.clockTo
  split <;> rfl

/-- With nothing to arrive, a command finds at its tick the state that it had before, but for the clock. -/
theorem at_eq {s : State} {t : Tick} (h : Quiet s t) : s.at t = { s with clk := (s.at t).clk } := by
  rw [at_quiet h]
  exact clockTo_eq s t

/-- Time that runs leaves the rest of the clock: its lock, and what is known of the latest beacon. -/
theorem at_clk {s : State} {t : Tick} (h : Quiet s t) : (s.at t).clk.locked = s.clk.locked ∧
    (s.at t).clk.stale = s.clk.stale ∧ (s.at t).clk.lastBeacon = s.clk.lastBeacon := by
  rw [at_quiet h]
  unfold State.clockTo
  split <;> exact ⟨rfl, rfl, rfl⟩

/-! ### The copy of the time base (R29, R31) and reports of the island (R17) -/

theorem doTimeBeacon_loads {s : State} (h : s.clk.now % 1600 = 96) :
    doTimeBeacon s = { s with clk := { s.clk with
      power := s.clk.now, lastBeacon := s.clk.now, stale := false } } :=
  if_neg (by omega)

/-- The island receives a report of one of its own blocks at once (log 74). -/
theorem d2dFault_rng (s : State) (cause : Nat) : (s.d2dFault cause).rng =
    { s.rng with net := s.rng.net ++ [⟨s.clk.now, bRNG, 0xFF, 3, 0, 0⟩] } := by
  show ((s.record bRNG 0xFF 3 cause).report bRNG 0xFF 3 0 0).rng = _
  unfold State.report
  rw [if_pos (.inl rfl), record_clk, record_rng]

theorem d2dFault_clk (s : State) (cause : Nat) : (s.d2dFault cause).clk = s.clk :=
  State.d2dFault_area s cause (p := .clk) (by decide)

theorem doTbStale_fires {s : State} (hs : s.clk.stale = false) (hl : s.clk.locked = true)
    (hb : s.clk.lastBeacon + 6400 ≤ s.clk.now) :
    (doTbStale s).clk = { s.clk with stale := true } ∧ (doTbStale s).rng =
      { s.rng with net := s.rng.net ++ [⟨s.clk.now, bRNG, 0xFF, 3, 0, 0⟩] } := by
  have fires : doTbStale s = State.d2dFault { s with clk := { s.clk with stale := true } } 1 :=
    if_pos (by simp [hs, hl, hb])
  rw [fires]
  exact ⟨d2dFault_clk _ _, d2dFault_rng _ _⟩

/-! ### The speed that the island takes (R22, R133)

Of all that a change of speed can lead to, the taking of a speed alone writes it. -/

/-- The speed of each machine as the island has taken it. -/
def State.encSpeeds (s : State) (m : Fin 2) : Int := s.trx.m[m].encSpeed

theorem encSpeeds_of_trx {s u : State} (h : u.trx = s.trx) : u.encSpeeds = s.encSpeeds := by
  unfold State.encSpeeds
  rw [h]

theorem ite_encSpeeds {c : Prop} [Decidable c] {a b : State} {v : Fin 2 → Int} (ha : a.encSpeeds = v)
    (hb : b.encSpeeds = v) : (if c then a else b).encSpeeds = v :=
  iteInduction (motive := fun x : State => x.encSpeeds = v) (fun _ => ha) fun _ => hb

theorem each_encSpeeds {ι : Type} {f : State → ι → State} (h : ∀ s x, (f s x).encSpeeds = s.encSpeeds) :
    ∀ (s : State) (l : List ι), (s.each l f).encSpeeds = s.encSpeeds
  | _, [] => rfl
  | s, x :: l => (each_encSpeeds h (f s x) l).trans (h s x)

theorem modTrx_encSpeeds {s : State} {m : Fin 2} {f : Traction → Traction}
    (h : ∀ k, (f k).encSpeed = k.encSpeed) : (s.modTrx m f).encSpeeds = s.encSpeeds := by
  funext j
  show (vupd s.trx.m m f)[j.val].encSpeed = _
  rw [vupd_getElem]
  split
  · rename_i e
    rw [h, Fin.ext e]
    rfl
  · rfl

theorem speedChanged_encSpeeds (s : State) (m : Fin 2) : (s.speedChanged m).encSpeeds = s.encSpeeds :=
  ite_encSpeeds (modTrx_encSpeeds fun _ => rfl) (modTrx_encSpeeds fun _ => rfl)

/-! A pattern is put on a group. -/

theorem trxSafe_encSpeeds (s : State) (m : Fin 2) : (s.trxSafe m).encSpeeds = s.encSpeeds := by
  unfold State.trxSafe
  split
  case h_1 | h_2 | h_3 => rfl
  case h_4 => exact modTrx_encSpeeds fun _ => rfl

theorem trxPattern_encSpeeds (s : State) (m : Fin 2) : (s.trxPattern m).encSpeeds = s.encSpeeds :=
  ite_encSpeeds (modTrx_encSpeeds fun _ => rfl) (modTrx_encSpeeds fun _ => rfl)

theorem dispatch_encSpeeds (s : State) (g : Fin 4) (p : Pattern) (trac : Nat) :
    (s.dispatch g p trac).encSpeeds = s.encSpeeds := by
  unfold State.dispatch
  dsimp only
  generalize hy : State.modGroup _ g _ = y
  have hyt : y.trx = s.trx := by
    rw [← hy]
    refine (State.modGroup_area _ _ _ (p := .trx) (by decide)).trans ?_
    refine (State.legsFrom_area _ _ _ (p := .trx) (by decide)).trans ?_
    refine (State.supplyLoss_area _ _ _ (p := .trx) (by decide)).trans ?_
    refine (area_each (p := .trx) _ _ _ fun _ _ =>
      area_ite rfl (State.sendPattern_area _ _ _ (by decide))).trans ?_
    refine (State.flush_area _ _ (p := .trx) (by decide)).trans ?_
    exact State.dropTok_area _ _ _ (p := .trx) (by decide)
  split
  · exact (trxPattern_encSpeeds _ _).trans ((trxSafe_encSpeeds _ _).trans (encSpeeds_of_trx hyt))
  · exact encSpeeds_of_trx hyt

theorem rechoose_encSpeeds (s : State) (g : Fin 4) : (s.rechoose g).encSpeeds = s.encSpeeds := by
  unfold State.rechoose
  split
  · rfl
  · exact ite_encSpeeds (ite_encSpeeds rfl (dispatch_encSpeeds _ _ _ _)) rfl

/-! A machine that moves ends a brake test, and with it the reset of the island's latches. -/

theorem toIdle_encSpeeds (s : State) (m : Fin 2) : (s.toIdle m).encSpeeds = s.encSpeeds :=
  (encSpeeds_of_trx (State.refreshTok_area _ _ (p := .trx) (by decide))).trans
    (modTrx_encSpeeds fun _ => rfl)

theorem trxMode_encSpeeds (s : State) (new : Mode) (m : Fin 2) :
    (s.trxMode new m).encSpeeds = s.encSpeeds := by
  unfold State.trxMode
  generalize hy : s.modTrx m _ = y
  have hyv : y.encSpeeds = s.encSpeeds := by
    rw [← hy]
    exact modTrx_encSpeeds fun _ => rfl
  refine Eq.trans ?_ hyv
  dsimp only
  split
  case h_1 =>
    exact (encSpeeds_of_trx (State.refreshTok_area _ _ (p := .trx) (by decide))).trans
      (modTrx_encSpeeds fun _ => rfl)
  case h_2 | h_3 | h_10 => rfl
  case h_4 | h_5 => exact modTrx_encSpeeds fun _ => rfl
  case h_6 | h_7 | h_8 | h_9 => exact toIdle_encSpeeds y m

theorem setMode_encSpeeds (s : State) (new : Mode) (cause : Nat) :
    (s.setMode new cause).encSpeeds = s.encSpeeds := by
  unfold State.setMode
  dsimp only
  refine ite_encSpeeds rfl ?_
  generalize hy : State.each _ _ (fun (u : State) m => u.trxMode new m) = y
  have hyv : y.encSpeeds = s.encSpeeds := by
    rw [← hy]
    refine (each_encSpeeds (fun u m => trxMode_encSpeeds u new m) _ _).trans (encSpeeds_of_trx ?_)
    exact (State.record_area _ _ _ _ _ _ (p := .trx) (by decide)).trans
      (State.modPba_area _ _ (p := .trx) (by decide))
  refine Eq.trans (encSpeeds_of_trx ?_) hyv
  generalize hz : State.modeSupply _ _ new = z
  have hzt : z.trx = y.trx := by
    rw [← hz]
    refine (State.modeSupply_area _ _ _ (p := .trx) (by decide)).trans ?_
    refine (State.modeLock_area _ _ _ (p := .trx) (by decide)).trans ?_
    have idled : area (if y.chg.state = .wait then y.chgTo .idle else y) .trx = y.trx :=
      area_ite (State.chgTo_area _ _ (by decide)) rfl
    exact area_ite (p := .trx) ((State.applyBrakes_area _ (by decide)).trans idled) idled
  exact area_ite (p := .trx) ((State.releaseRows_area _ _ (by decide)).trans hzt) hzt

theorem completeReset_encSpeeds (s : State) : s.completeReset.encSpeeds = s.encSpeeds := by
  unfold State.completeReset
  dsimp only
  refine (setMode_encSpeeds _ _ _).trans (encSpeeds_of_trx ?_)
  refine (area_each (p := .trx) _ _ _ fun _ _ => State.blzRestart_area _ _ (by decide)).trans ?_
  refine (area_each (p := .trx) _ _ _ fun _ _ => State.freeGroup_area _ _ (by decide)).trans ?_
  refine (area_each (p := .trx) _ _ _ fun _ _ => State.clearSet_area _ _ (by decide)).trans ?_
  refine (State.modRng_area _ _ (p := .trx) (by decide)).trans ?_
  refine (State.releaseRows_area _ _ (p := .trx) (by decide)).trans ?_
  exact State.lockTo_area _ _ (p := .trx) (by decide)

theorem testB4_encSpeeds (s : State) : s.testB4.encSpeeds = s.encSpeeds := by
  unfold State.testB4
  dsimp only
  refine Eq.trans (each_encSpeeds ?marked _ _) <| (each_encSpeeds ?freed _ _).trans <|
    encSpeeds_of_trx (State.modRng_area _ _ (p := .trx) (by decide))
  case marked => exact fun _ _ => modTrx_encSpeeds fun _ => rfl
  case freed =>
    intro u g
    have released : (u.releaseGroup g).encSpeeds = u.encSpeeds :=
      encSpeeds_of_trx (State.releaseGroup_area _ _ (p := .trx) (by decide))
    exact ite_encSpeeds ((dispatch_encSpeeds _ _ _ _).trans released) released

theorem endTest_encSpeeds (s : State) (result : Nat) : (s.endTest result).encSpeeds = s.encSpeeds := by
  unfold State.endTest
  dsimp only
  generalize hy : State.testB4 _ = y
  have hyv : y.encSpeeds = s.encSpeeds := by
    rw [← hy]
    exact (testB4_encSpeeds _).trans (encSpeeds_of_trx (State.modTest_area _ _ (p := .trx) (by decide)))
  refine Eq.trans ?_ hyv
  have ended : ∀ z : State, z.encSpeeds = y.encSpeeds →
      (if s.rng.test.reset && z.rng.lock == .testing then
        (if result = testPass then z.completeReset else z.lockTo .locked)
      else z).encSpeeds = y.encSpeeds := fun z hz =>
    ite_encSpeeds (ite_encSpeeds ((completeReset_encSpeeds z).trans hz)
      ((encSpeeds_of_trx (State.lockTo_area _ _ (p := .trx) (by decide))).trans hz)) hz
  refine ended _ ?_
  refine ite_encSpeeds (encSpeeds_of_trx ?_) (encSpeeds_of_trx ?_)
  · rw [recordReport_trx, tally_trx, tally_trx]
  · rw [record_trx, tally_trx]

theorem haltTest_encSpeeds (s : State) : s.haltTest.encSpeeds = s.encSpeeds := by
  have ended : ∀ y : State, y.encSpeeds = s.encSpeeds →
      (if y.rng.test.step = 3 then y.endTest testAborted else y).encSpeeds = s.encSpeeds := fun y hy =>
    ite_encSpeeds ((endTest_encSpeeds y testAborted).trans hy) hy
  unfold State.haltTest
  refine ended _ ?_
  split
  case h_1 | h_2 | h_3 => exact encSpeeds_of_trx (State.abandonReset_area s (p := .trx) (by decide))
  case h_4 => rfl

theorem watchStill_encSpeeds (s : State) : s.watchStill.encSpeeds = s.encSpeeds :=
  ite_encSpeeds rfl (haltTest_encSpeeds s)

/-! The speeds of the configured machines are taken. -/

/-- The island takes the speed of machine m. -/
def State.takeSpeed (s : State) (m : Fin 2) : State :=
  (s.modTrx m fun k => { k with encSpeed := speedOf s (encOf s m) }).speedChanged m

theorem takeSpeed_area (s : State) (m : Fin 2) {p : Area} (h : p ∉ [Area.trx]) :
    area (s.takeSpeed m) p = area s p :=
  (State.speedChanged_area _ m h).trans (State.modTrx_area s m _ h)

theorem takeSpeed_encSpeeds (s : State) (m j : Fin 2) : (s.takeSpeed m).encSpeeds j =
    if j = m then speedOf s (encOf s j) else s.encSpeeds j := by
  unfold State.takeSpeed
  rw [speedChanged_encSpeeds]
  show (vupd s.trx.m m _)[j.val].encSpeed = _
  rw [vupd_getElem]
  by_cases e : j = m
  · rw [if_pos e, if_pos (congrArg Fin.val e.symm), e]
  · rw [if_neg e, if_neg fun x => e (Fin.ext x.symm)]
    rfl

/-- The speed of an encoder and the encoder of a machine follow from the observers and the registers. -/
theorem speedOf_congr {s u : State} (hp : u.pos = s.pos) (hr : u.regs = s.regs) (m : Fin 2) :
    speedOf u (encOf u m) = speedOf s (encOf s m) := by
  unfold speedOf encOf countsOf linesOf posEncLines trxMachEnc rd
  rw [hp, hr]

theorem takeSpeeds_encSpeeds (j : Fin 2) : ∀ (ms : List (Fin 2)) (s : State),
    (s.each ms State.takeSpeed).encSpeeds j = if j ∈ ms then speedOf s (encOf s j) else s.encSpeeds j
  | [], _ => (if_neg List.not_mem_nil).symm
  | m :: ms, s => by
    have ih := takeSpeeds_encSpeeds j ms (s.takeSpeed m)
    rw [speedOf_congr (takeSpeed_area s m (p := .pos) (by decide))
      (takeSpeed_area s m (p := .regs) (by decide)), takeSpeed_encSpeeds] at ih
    refine ih.trans ?_
    by_cases hm : j ∈ ms
    · rw [if_pos hm, if_pos (List.mem_cons_of_mem _ hm)]
    · simp [hm]

theorem mem_machines {s : State} {m : Fin 2} : m ∈ machines s ↔ machOn s m = true := by
  unfold machines
  rw [List.mem_filter]
  exact and_iff_right (by revert m; decide)

theorem doSpeedReport_encSpeeds {s : State} (h : s.clk.now % 1600 = 0) (m : Fin 2) :
    (doSpeedReport s).encSpeeds m =
      if machOn s m then speedOf s (encOf s m) else s.encSpeeds m := by
  have run : doSpeedReport s = (s.each (machines s) State.takeSpeed).watchStill.each all4 State.rechoose :=
    if_neg (not_not_intro h)
  rw [run, each_encSpeeds rechoose_encSpeeds, watchStill_encSpeeds, takeSpeeds_encSpeeds]
  simp only [mem_machines]

/-! ### Link-loss patterns (R22, R178, R192) -/

/-- A link with a link-loss pattern supplied to it. -/
def Link.supplied (k : Link) (b : BitVec 4) : Link := { k with lossP := b, lossDue := linkCarries k }

/-- A change of every entry of a list that is the same when it is made twice. -/
theorem foldl_vupd {α : Type} {n : Nat} (f : Fin n → α → α) (h : ∀ i x, f i (f i x) = f i x) (j : Fin n) :
    ∀ (l : List (Fin n)) (v : Vector α n),
      (l.foldl (fun v i => vupd v i (f i)) v)[j] = if j ∈ l then f j v[j] else v[j]
  | [], _ => (if_neg List.not_mem_nil).symm
  | i :: l, v => by
    refine (foldl_vupd f h j l _).trans ?_
    by_cases e : j = i
    · subst e
      rw [vupd_fin, h, ite_self, if_pos List.mem_cons_self]
    · have other : (vupd v i (f i))[j] = v[j] := vupd_other v i j _ e
      rw [other]
      simp only [List.mem_cons, e, false_or]

/-- The links of a group take the pattern, and nothing else changes. -/
theorem supplyLoss_eq (s : State) (g : Fin 4) (p : Pattern) : s.supplyLoss g p = { s with
    glk := (linksOf s g).foldl (fun v l => vupd v l fun k => k.supplied (patternBits s l p)) s.glk } := by
  unfold State.supplyLoss
  generalize linksOf s g = ls
  induction ls generalizing s with
  | nil => rfl
  | cons l ls ih => exact ih _

theorem mem_linksOf {s : State} {g : Fin 4} {l : Fin 12} : l ∈ linksOf s g ↔ linkGroup s l = some g := by
  unfold linksOf
  rw [List.mem_filter, decide_eq_true_iff]
  exact and_iff_right (by revert l; decide)

theorem supplyLoss_link (s : State) (g : Fin 4) (p : Pattern) (l : Fin 12) : (s.supplyLoss g p).glk[l] =
    if linkGroup s l = some g then s.glk[l].supplied (patternBits s l p) else s.glk[l] := by
  rw [supplyLoss_eq]
  refine (foldl_vupd (fun i (k : Link) => k.supplied (patternBits s i p)) (fun _ _ => rfl) l _ _).trans ?_
  simp only [mem_linksOf]

theorem patternBits_supplyLoss (s : State) (g : Fin 4) (p q : Pattern) (l : Fin 12) :
    patternBits (s.supplyLoss g p) l q = patternBits s l q := by
  rw [supplyLoss_eq]
  rfl

theorem lossPattern_supplyLoss (s : State) (g i : Fin 4) (p : Pattern) :
    lossPattern (s.supplyLoss g p) i = lossPattern s i := by
  rw [supplyLoss_eq]
  rfl

/-- A link whose group is among those that the island supplies takes the pattern of its group. -/
theorem supplyLosses_link {l : Fin 12} {g : Fin 4} : ∀ (gs : List (Fin 4)) (s : State),
    linkGroup s l = some g → (s.each gs fun u i => u.supplyLoss i (lossPattern u i)).glk[l] =
      if g ∈ gs then s.glk[l].supplied (patternBits s l (lossPattern s g)) else s.glk[l]
  | [], _, _ => (if_neg List.not_mem_nil).symm
  | i :: gs, s, h => by
    have group := linkGroup_congr (State.supplyLoss_area s i (lossPattern s i) (p := .regs) (by decide)) l
    have ih := supplyLosses_link gs (s.supplyLoss i (lossPattern s i)) (group.trans h)
    rw [lossPattern_supplyLoss, patternBits_supplyLoss, supplyLoss_link, h] at ih
    refine ih.trans ?_
    by_cases e : g = i
    · subst e
      rw [if_pos rfl, if_pos List.mem_cons_self]
      exact ite_self _
    · rw [if_neg fun x => e (Option.some.inj x)]
      simp only [List.mem_cons, e, false_or]

theorem doLossRefresh_link {s : State} {l : Fin 12} {g : Fin 4} (ht : s.clk.now % 1600000 = 0)
    (hf : s.rng.failed = false) (h : linkGroup s l = some g) :
    (doLossRefresh s).glk[l] = s.glk[l].supplied (patternBits s l (lossPattern s g)) := by
  have run : doLossRefresh s = s.each all4 fun u i => u.supplyLoss i (lossPattern u i) :=
    if_neg (by simp [hf, ht, msTk])
  have all : ∀ g : Fin 4, g ∈ all4 := by decide
  rw [run, supplyLosses_link all4 s h, if_pos (all g)]

/-- Settles O32: each row by what its operation makes of the state at the tick of the row. -/
theorem dieTiming : Obligations.DieTiming := by
  unfold Obligations.DieTiming
  refine ⟨?beacon, ?stale, ?interface, ?speeds, ?patterns⟩
  case beacon =>
    intro t s h ht
    refine ⟨_, rfl, ?_⟩
    rw [doTimeBeacon_loads (by rw [at_now h, ht])]
    exact ⟨at_now h, at_now h, at_now h, rfl⟩
  case stale =>
    intro t s h hs hb
    obtain ⟨locked, stale, beacon⟩ := at_clk h.2.2
    obtain ⟨clk, rng⟩ := doTbStale_fires (stale.trans hs) (locked.trans h.1)
      (by rw [beacon, at_now h]; exact hb)
    rw [at_rng h.2.2, at_now h] at rng
    exact ⟨_, rfl, congrArg Clk.stale clk, (congrArg Clk.lastBeacon clk).trans beacon, congrArg Rng.net rng⟩
  case interface =>
    intro t s h
    have rng := d2dFault_rng (s.at t) 0
    rw [at_rng h.2.2, at_now h] at rng
    exact ⟨_, rfl, by rw [rng], by rw [rng]⟩
  case speeds =>
    intro t s h ht
    refine ⟨_, rfl, fun m => ?_⟩
    refine (doSpeedReport_encSpeeds (by rw [at_now h, ht]) m).trans ?_
    rw [at_eq h.2.2]
    rfl
  case patterns =>
    intro t s h ht hf
    refine ⟨_, rfl, fun l g _ hg => ?_⟩
    have link := doLossRefresh_link (s := s.at t) (l := l) (g := g) (by rw [at_now h, ht])
      (by rw [at_rng h.2.2, hf]) ((linkGroup_congr (at_regs h.2.2) l).trans hg)
    refine link.trans ?_
    rw [at_eq h.2.2]
    rfl

end Sys2Proof.Machine
end

section
/-!
PROOFS. Capture windows and the count of their samples (R66, R72).
-/

namespace Sys2Proof.Machine

open Sys2Proof

/-- A window with OPEN 0 and CLOSE 100, owed the seal that falls on the end of its period. -/
def earlyWin : Win := { en := true, close := 100, owed := true }

/-- The time base runs from tick 0, where a period of group TA starts; the one before it was 100 ticks long and
has `earlyWin` as window 0 of channel 0, valid in set 0 (R69, R87), which would have opened before tick 0. -/
def earlyState : State := { State.reset with
  clk := { State.reset.clk with locked := true }
  regs := [(0x60000040, 0xFFFFFF), (0x60000080, 0x800000)]
  cap := { State.reset.cap with
    prior := vupd State.reset.cap.prior 0 fun v => v.set 0 earlyWin
    priorPeriod := State.reset.cap.priorPeriod.set 0 100
    pstart := State.reset.cap.pstart.set 0 (some 0) } }

theorem earlyState_onTime : OnTime earlyState 0 :=
  ⟨rfl, Nat.le_refl 0, rfl, fun _ h => absurd h List.not_mem_nil⟩

theorem earlyState_seals : sealTick earlyState 0 0 = some (0, true) := by decide

theorem earlyState_valid : winValid earlyState (capView earlyState true).1 (capView earlyState true).2
    (0, 0) = true := by decide +kernel

/-- Sealed on tick 0 with no samples, the window has COUNT 0. -/
theorem earlyState_count : (doSeal (earlyState.at 0) 0 0 []).cap.res[0][0].count = 0 := by decide +kernel

/-- Refutes O13: its clause on the length of a window (R72) does not ask that the close tick is CLOSE or later
(`x.close ≤ close`), so that the open tick, reckoned back from it, can lie before tick 0, where the subtraction
of natural numbers stops. In
`earlyState` a window 100 ticks long seals on tick 0. No edge of CLK_ADC lies between the open tick, taken as 0,
and the close tick, so it holds no samples, while the clause wants the length to be at most 39 more than
40 × COUNT. -/
theorem not_captureResults : ¬ Obligations.CaptureResults := by
  unfold Obligations.CaptureResults
  intro ⟨_, _, _, _, _, _, counts, _⟩
  obtain ⟨u, hu, -, few⟩ := counts 0 0 0 [] 0 true 0 earlyWin 0 0 earlyState earlyState_onTime
    earlyState_seals (Nat.le_refl 0) earlyState_valid rfl rfl (Nat.zero_le _) rfl (Nat.le_refl 0) (Nat.le_refl 0)
  have count : u.cap.res[(0 : Fin 24)][(0 : Fin 8)].count = 0 := by
    cases hu
    exact earlyState_count
  rw [count] at few
  exact absurd few (by decide)

end Sys2Proof.Machine
end

section
/-!
PROOFS. Rotating calibration (R80 to R85).
-/

namespace Sys2Proof.Machine

open Sys2Proof

/-! ### Converters and channels under the operations of calibration -/

theorem setFeed_same (s : State) (k : Fin 24) (f : Option (Fin 24)) : (s.setFeed k f).cap.feed[k] = f :=
  Vector.getElem_set_self k.isLt

theorem setFeed_other (s : State) {k j : Fin 24} (f : Option (Fin 24)) (h : j ≠ k) :
    (s.setFeed k f).cap.feed[j] = s.cap.feed[j] :=
  Vector.getElem_set_ne k.isLt j.isLt fun x => h (Fin.ext x.symm)

theorem calTo_cal {s : State} {c : Cal} (st : CalStep) (h : s.cap.cal = some c) :
    (s.calTo st).cap.cal = some { c with step := st, since := s.clk.now } :=
  congrArg (Option.map _) h

/-- A missing spare stops rotation; no converter and no running calibration changes by it (R85). -/
theorem checkSpares_keeps (s : State) :
    s.checkSpares.cap.conv = s.cap.conv ∧ s.checkSpares.cap.cal = s.cap.cal := by
  unfold State.checkSpares
  split
  · exact ⟨rfl, rfl⟩
  · rw [recordReport_cap]
    exact ⟨rfl, rfl⟩

theorem retire_spec (s : State) (c : Cal) :
    (s.retire c).cap.conv = (vupd s.cap.conv c.conv fun q => { q with retired := true }) ∧
    (s.retire c).cap.cal = none :=
  checkSpares_keeps _

/-- A report of a block other than the island's own is received 40 tk later (R20). -/
theorem recordReport_net (s : State) {b : Nat} (u e d : Nat) (hr : b ≠ bRNG) (hb : b ≠ bBLZ) :
    (s.recordReport b u e d).rng.net = s.rng.net ++ [⟨s.clk.now + 40, b, u, e, 0, 0⟩] := by
  unfold State.recordReport State.report
  simp only [record_clk, record_rng, hr, hb, or_self, if_false]

/-- An event that is counted and recorded. -/
theorem tallyRecord_spec (s : State) {n : Nat} (hn : n < 137) (b u e d : Nat) :
    ((s.tally n).record b u e d).cap = s.cap ∧ ((s.tally n).record b u e d).tal[n] = s.tal[n] + 1 :=
  ⟨(record_cap ..).trans (tally_cap ..),
    (record_tal _ _ _ _ _ _ hn).trans (tallyBy_same _ _ (Nat.lt_trans hn (by decide)))⟩

/-! ### The start of a calibration (R80, R81) -/

/-- Rotation is on, no calibration runs, and the interval since the latest start has passed (R80). -/
def calDue (s : State) : Prop :=
  capRotIntervalMs s ≠ 0 ∧ s.cap.stopped = false ∧ s.cap.cal = none ∧
    s.cap.calFrom + capRotIntervalMs s * msTk ≤ s.clk.now

theorem calDue_starts {s : State} (h : calDue s) :
    ¬(capRotIntervalMs s * msTk = 0 ∨ s.cap.stopped = true ∨ s.cap.cal.isSome = true ∨
      s.clk.now < s.cap.calFrom + capRotIntervalMs s * msTk) := by
  obtain ⟨on, going, idle, due⟩ := h
  rw [going, idle, Nat.mul_eq_zero]
  rintro ((z | z) | z | z | z)
  · exact on z
  · exact absurd z (by decide)
  · exact absurd z (by decide)
  · exact absurd z (by decide)
  · omega

/-- With a free spare the converter of an enabled channel is shadowed, and the spare leaves its own channel. -/
theorem doCalStart_shadowed {s : State} {c q : Fin 24} (h : calDue s) (hn : calNext s = some c)
    (hc : c.val < 22) (he : capChEn s c = true) (hq : freeSpare s = some q) :
    (doCalStart s).cap.cal = some ⟨c, some q, .overlapOut, s.clk.now⟩ ∧ (doCalStart s).cap.turn = c + 1 ∧
    (doCalStart s).cap.feed[q] = none ∧ ∀ k, k ≠ q → (doCalStart s).cap.feed[k] = s.cap.feed[k] := by
  unfold doCalStart
  simp only [if_neg (calDue_starts h), hn, hq, he, hc, decide_true, Bool.and_self]
  exact ⟨rfl, rfl, setFeed_same _ _ _, fun k hk => setFeed_other _ _ hk⟩

/-- A spare, or the converter of a channel that is not enabled, goes to its levels at once. -/
theorem doCalStart_unshadowed {s : State} {c : Fin 24} (h : calDue s) (hn : calNext s = some c)
    (hc : 22 ≤ c.val ∨ capChEn s c = false) :
    (doCalStart s).cap.cal = some ⟨c, none, .levels, s.clk.now⟩ ∧
    (doCalStart s).cap.feed[c] = none ∧ ∀ k, k ≠ c → (doCalStart s).cap.feed[k] = s.cap.feed[k] := by
  have alone : (decide (c.val < 22) && capChEn s c) = false := by
    rcases hc with hc | hc
    · rw [decide_eq_false (Nat.not_lt.2 hc), Bool.false_and]
    · rw [hc, Bool.and_false]
  unfold doCalStart
  simp only [if_neg (calDue_starts h), hn, alone]
  exact ⟨rfl, setFeed_same _ _ _, fun k hk => setFeed_other _ _ hk⟩

/-! ### The steps that follow (R82 to R85) -/

/-- The calibration c runs and has been in a step of it for n ticks or longer. -/
def calRuns (s : State) (c : Cal) (st : CalStep) (n : Nat) : Prop :=
  s.cap.cal = some c ∧ c.step = st ∧ c.since + n ≤ s.clk.now

theorem doOverlapEnd_over {s : State} {c : Cal} (mc ms : Int)
    (h : calRuns s c .overlapOut (40 * overlapOf s)) :
    doOverlapEnd s mc ms = (if mismatchOf s < (mc - ms).natAbs then
      (s.tally 25).recordReport bCAP (0xC0 + c.conv) 2 (wrapN 32 (mc - ms)) else s).calTo .switchOut := by
  obtain ⟨cal, step, due⟩ := h
  unfold doOverlapEnd overlapOver
  simp only [cal, step, due, decide_true, Bool.and_self, if_true]

theorem doOverlapEnd_spec {s : State} {c : Cal} (mc ms : Int)
    (h : calRuns s c .overlapOut (40 * overlapOf s)) :
    (doOverlapEnd s mc ms).cap.cal = some { c with step := .switchOut, since := s.clk.now } ∧
    (doOverlapEnd s mc ms).cap.feed = s.cap.feed ∧
    (doOverlapEnd s mc ms).rng.net = s.rng.net ++ (if mismatchOf s < (mc - ms).natAbs
      then [⟨s.clk.now + 40, bCAP, 0xC0 + c.conv, 2, 0, 0⟩] else []) := by
  rw [doOverlapEnd_over mc ms h]
  split
  · have told := recordReport_net (s.tally 25) (b := bCAP) (0xC0 + c.conv) 2 (wrapN 32 (mc - ms))
      (by decide) (by decide)
    rw [tally_rng, tally_clk] at told
    refine ⟨?_, ?_, told⟩
    · rw [calTo_cal .switchOut (by rw [recordReport_cap, tally_cap]; exact h.1), recordReport_clk, tally_clk]
    · show (State.recordReport _ _ _ _ _ _ _).cap.feed = _
      rw [recordReport_cap, tally_cap]
  · exact ⟨calTo_cal .switchOut h.1, rfl, (List.append_nil _).symm⟩

theorem doSwitchover_out {s : State} {c : Cal} {q : Fin 24} (h : s.cap.cal = some c)
    (hs : c.step = .switchOut) (hq : c.spare = some q) (hm : maySwitch s c.conv = true) :
    doSwitchover s = (s.setFeed c.conv (some q)).calTo .levels := by
  unfold doSwitchover
  simp only [h, hs, hq, hm, if_true]

theorem doSwitchover_back {s : State} {c : Cal} {q : Fin 24} (h : s.cap.cal = some c)
    (hs : c.step = .switchBack) (hq : c.spare = some q) (hm : maySwitch s c.conv = true) :
    doSwitchover s = ((s.setFeed c.conv (some c.conv)).setFeed q (some q)).calOver := by
  unfold doSwitchover
  simp only [h, hs, hq, hm, if_true]

/-- Where the upper level lies above the lower one, their difference gives the gain, and no free value is drawn
(R83). -/
theorem newGain_rising (s : State) {mp mm : Int} (h : mm < mp) :
    newGain s mp mm = (s, roundDiv (2 ^ 30 : Nat) (mp - mm).natAbs) := by
  unfold newGain
  rw [if_neg (by omega), if_pos h]

/-- The levels pass: the new trims take effect in the converter, and in no other (R83). -/
theorem doLevels_passes {s : State} {c : Cal} {m0 mp mm : Int}
    (h : calRuns s c .levels (3 * (3200 + 40 * calSamplesOf s))) (h0 : m0.natAbs ≤ 512) (hm : mm < mp)
    (hl : 31785 ≤ roundDiv (2 ^ 30 : Nat) (mp - mm).natAbs)
    (hu : roundDiv (2 ^ 30 : Nat) (mp - mm).natAbs ≤ 33751) :
    (doLevels s m0 mp mm).cap.conv = (vupd s.cap.conv c.conv fun q => { q with
      offset := m0, gain := (roundDiv (2 ^ 30 : Nat) (mp - mm).natAbs).toNat, passed := some s.clk.now }) ∧
    (doLevels s m0 mp mm).tal[24] = s.tal[24] + 1 := by
  obtain ⟨cal, step, due⟩ := h
  unfold doLevels
  have good : m0.natAbs ≤ 512 ∧ mp ≠ mm ∧ 31785 ≤ roundDiv (2 ^ 30 : Nat) (mp - mm).natAbs ∧
    roundDiv (2 ^ 30 : Nat) (mp - mm).natAbs ≤ 33751 := ⟨h0, by omega, hl, hu⟩
  simp only [cal, step, due, decide_true, Bool.and_self, if_true, newGain_rising s hm, if_pos good]
  split
  · exact (tallyRecord_spec _ (by decide) _ _ _ _).imp_left (congrArg Cap.conv)
  · exact (tallyRecord_spec _ (by decide) _ _ _ _).imp_left (congrArg Cap.conv)

/-- The levels fail by the offset: the converter is retired with its old trims (R83, R85). -/
theorem doLevels_fails {s : State} {c : Cal} {m0 : Int} (mp mm : Int)
    (h : calRuns s c .levels (3 * (3200 + 40 * calSamplesOf s))) (h0 : 512 < m0.natAbs) :
    (doLevels s m0 mp mm).cap.conv = (vupd s.cap.conv c.conv fun q => { q with retired := true }) ∧
    (doLevels s m0 mp mm).cap.cal = none := by
  obtain ⟨cal, step, due⟩ := h
  have bad : ¬(m0.natAbs ≤ 512 ∧ mp ≠ mm ∧ 31785 ≤ (newGain s mp mm).2 ∧ (newGain s mp mm).2 ≤ 33751) :=
    fun x => absurd x.1 (Nat.not_le.2 h0)
  unfold doLevels
  simp only [cal, step, due, decide_true, Bool.and_self, if_true, if_neg bad]
  obtain ⟨conv, done⟩ := retire_spec (((newGain s mp mm).1.tally 26).recordReport bCAP (0xC0 + c.conv) 4
    (wrapN 16 m0 + put (wrapN 16 (newGain s mp mm).2) 16)) c
  rw [recordReport_cap, tally_cap, show (newGain s mp mm).1.cap = s.cap from
    newGain_area s mp mm (p := .cap) (by decide)] at conv
  exact ⟨conv, done⟩

theorem doReturnOverlap_agrees {s : State} {c : Cal} {mc ms : Int}
    (h : calRuns s c .overlapBack (40 * overlapOf s)) (hd : (mc - ms).natAbs ≤ mismatchOf s) :
    doReturnOverlap s mc ms = s.calTo .switchBack := by
  obtain ⟨cal, step, due⟩ := h
  unfold doReturnOverlap overlapOver
  simp only [cal, step, due, decide_true, Bool.and_self, if_true, if_neg (Nat.not_lt.2 hd)]

theorem doReturnOverlap_differs {s : State} {c : Cal} {mc ms : Int}
    (h : calRuns s c .overlapBack (40 * overlapOf s)) (hd : mismatchOf s < (mc - ms).natAbs) :
    doReturnOverlap s mc ms =
      ((s.tally 25).recordReport bCAP (0xC0 + c.conv) 3 (wrapN 32 (mc - ms))).retire c := by
  obtain ⟨cal, step, due⟩ := h
  unfold doReturnOverlap overlapOver
  simp only [cal, step, due, decide_true, Bool.and_self, if_true, if_pos hd]

/-! ### What a row of calibration finds at its tick -/

/-- What does not read the clock is at the tick of a command as it was before. -/
theorem at_reads {α : Type} {s : State} {t : Tick} (h : Quiet s t) (f : State → α)
    (hf : ∀ k, f { s with clk := k } = f s) : f (s.at t) = f s :=
  (congrArg f (at_eq h)).trans (hf _)

theorem calRuns_at {s : State} {t : Tick} {c : Cal} {st : CalStep} (n : State → Nat) (h : OnTime s t)
    (hn : ∀ k, n { s with clk := k } = n s) (hc : s.cap.cal = some c) (hs : c.step = st)
    (hd : c.since + n s ≤ t) : calRuns (s.at t) c st (n (s.at t)) :=
  ⟨by rw [at_cap h.2.2, hc], hs, by rw [at_now h, at_reads h.2.2 n hn]; exact hd⟩

theorem calDue_at {s : State} {t : Tick} (h : OnTime s t) (hi : capRotIntervalMs s ≠ 0)
    (hs : s.cap.stopped = false) (hc : s.cap.cal = none)
    (hd : s.cap.calFrom + capRotIntervalMs s * msTk ≤ t) : calDue (s.at t) := by
  unfold calDue
  rw [at_reads h.2.2 capRotIntervalMs fun _ => rfl, at_cap h.2.2, at_now h]
  exact ⟨hi, hs, hc, hd⟩

/-- Settles O14: each row by what its step makes of the state at the tick of the row. -/
theorem rotatingCalibration : Obligations.RotatingCalibration := by
  unfold Obligations.RotatingCalibration
  refine ⟨?shadowed, ?unshadowed, ?overlapOut, ?switchOut, ?switchBack, ?pass, ?fail, ?agree, ?differ⟩
  case shadowed =>
    intro t c q s h hi hs hc hd hn hk he hq
    have started := doCalStart_shadowed (calDue_at h hi hs hc hd)
      ((at_reads h.2.2 calNext fun _ => rfl).trans hn) hk
      ((at_reads h.2.2 (capChEn · c) fun _ => rfl).trans he) ((at_reads h.2.2 freeSpare fun _ => rfl).trans hq)
    rw [at_now h, at_cap h.2.2] at started
    exact ⟨_, rfl, started⟩
  case unshadowed =>
    intro t c s h hi hs hc hd hn hk
    have started := doCalStart_unshadowed (calDue_at h hi hs hc hd)
      ((at_reads h.2.2 calNext fun _ => rfl).trans hn)
      (hk.imp id (at_reads h.2.2 (capChEn · c) fun _ => rfl).trans)
    rw [at_now h, at_cap h.2.2] at started
    exact ⟨_, rfl, started⟩
  case overlapOut =>
    intro t mc ms c s h hc hs hd
    obtain ⟨cal, feed, net⟩ := doOverlapEnd_spec mc ms
      (calRuns_at (fun s => 40 * overlapOf s) h (fun _ => rfl) hc hs hd)
    rw [at_now h] at cal net
    rw [at_cap h.2.2] at feed
    rw [at_rng h.2.2, at_reads h.2.2 mismatchOf fun _ => rfl] at net
    exact ⟨_, rfl, cal, feed, net⟩
  case switchOut =>
    intro t c q s h hc hs hq hm
    have cal : (s.at t).cap.cal = some c := (congrArg Cap.cal (at_cap h.2.2)).trans hc
    refine ⟨_, congrArg Host.Outcome.next (doSwitchover_out cal hs hq hm), setFeed_same _ _ _, ?_, fun k hk => ?_⟩
    · refine (calTo_cal .levels cal).trans ?_
      rw [at_now h]
    · rw [← at_cap h.2.2]; exact setFeed_other _ _ hk
  case switchBack =>
    intro t c q s h hc hs hq hne hm
    have cal : (s.at t).cap.cal = some c := (congrArg Cap.cal (at_cap h.2.2)).trans hc
    refine ⟨_, congrArg Host.Outcome.next (doSwitchover_back cal hs hq hm), ?_, setFeed_same _ _ _, rfl⟩
    exact (setFeed_other _ _ hne).trans (setFeed_same _ _ _)
  case pass =>
    intro t m0 mp mm c s h hc hs hd h0 hm hl hu
    obtain ⟨conv, tal⟩ := doLevels_passes
      (calRuns_at (fun s => 3 * (3200 + 40 * calSamplesOf s)) h (fun _ => rfl) hc hs hd) h0 hm hl hu
    rw [at_cap h.2.2, at_now h] at conv
    rw [at_tal h.2.2] at tal
    refine ⟨_, rfl, ?_, ?_, ?_, ?_, tal, fun k hk => ?_⟩
    any_goals rw [conv, vupd_fin]
    · exact Int.toNat_of_nonneg (Int.le_trans (by decide) hl)
    · rw [conv]; exact vupd_other _ _ _ _ hk
  case fail =>
    intro t m0 mp mm c s h hc hs hd h0
    obtain ⟨conv, done⟩ := doLevels_fails mp mm
      (calRuns_at (fun s => 3 * (3200 + 40 * calSamplesOf s)) h (fun _ => rfl) hc hs hd) h0
    rw [at_cap h.2.2] at conv
    refine ⟨_, rfl, ?_, done, fun k hk => ?_⟩
    · rw [conv, vupd_fin]
    · rw [conv]; exact vupd_other _ _ _ _ hk
  case agree =>
    intro t mc ms c s h hc hs hd hm
    have runs := calRuns_at (fun s => 40 * overlapOf s) h (fun _ => rfl) hc hs hd
    have run := doReturnOverlap_agrees (mc := mc) (ms := ms) runs
      (by rw [at_reads h.2.2 mismatchOf fun _ => rfl]; exact hm)
    refine ⟨_, congrArg Host.Outcome.next run, ?_, ?_⟩
    · rw [calTo_cal .switchBack runs.1, at_now h]
    · rw [← at_cap h.2.2]; rfl
  case differ =>
    intro t mc ms c s h hc hs hd hm
    have run := doReturnOverlap_differs (mc := mc) (ms := ms)
      (calRuns_at (fun s => 40 * overlapOf s) h (fun _ => rfl) hc hs hd)
      (by rw [at_reads h.2.2 mismatchOf fun _ => rfl]; exact hm)
    obtain ⟨conv, done⟩ := retire_spec (((s.at t).tally 25).recordReport bCAP (0xC0 + c.conv) 3
      (wrapN 32 (mc - ms))) c
    refine ⟨_, congrArg Host.Outcome.next run, ?_, done⟩
    rw [conv, vupd_fin]

end Sys2Proof.Machine
end

section
/-!
PROOFS. Traction machines: the input block in engine memory (R120).
-/

namespace Sys2Proof.Machine

open Sys2Proof

/-- A stopped engine whose table of flipped bits lists data row 0 twice. A check of the row finds the first
entry, no flipped bit; the second, with two, shows once the first has left the table. -/
def twiceListed : Engine := { State.reset.ce[0] with dflips := [(0, []), (0, [0, 1])] }

/-- Machine TA alone is configured and runs with some demand. Its input block is due and goes to data words 0
to 3 of engines 0 and 1. -/
def drivenState : State := { State.reset with
  clk := { State.reset.clk with locked := true }
  regs := [(0x40090000, 1)]
  ce := State.reset.ce.set 0 twiceListed
  trx := { State.reset.trx with
    m := State.reset.trx.m.set 0 { State.reset.trx.m[0] with state := .run, tdem := 1, dirty := true } } }

theorem drivenState_onTime : OnTime drivenState 1 :=
  ⟨rfl, by decide, rfl, fun _ h => absurd h List.not_mem_nil⟩

theorem drivenState_clean : ∀ i < (inputBlock drivenState 0).length,
    drivenState.ce[(0 : Fin 8)].dataFlips ((trxMapInWord drivenState 0 + i) % 1024) = [] := by decide

/-- The demand is not 0 in the block, whose words stored in turn give word 1 that value. -/
theorem drivenState_block : sget 0 (dwords drivenState.ce[(0 : Fin 8)].dmem (trxMapInWord drivenState 0)
    (inputBlock drivenState 0)) 1 = 0x7FFFFF := by decide +kernel

/-- After the write of the block, word 1 still reads as before. -/
theorem drivenState_written :
    sget 0 (doInputWrite (drivenState.at 1) 0).ce[(0 : Fin 8)].dmem 1 = 0 := by decide +kernel

/-- Refutes O23: its clause on the write of the input block (R120) takes data rows for sound where the table of
flipped bits shows none in them, and does not ask that this table be in canonical form. In `drivenState` the
table of engine 0 lists row 0 twice, so that the first of the four words uncovers two flipped bits in the row
that it has just cleaned. The demand behind it then meets a double-bit error and is not stored (R369), while
the clause wants all four words in memory. -/
theorem not_tractionMachines : ¬ Obligations.TractionMachines := by
  unfold Obligations.TractionMachines
  intro ⟨input, _⟩
  obtain ⟨u, hu, -, -, -, wrote⟩ := input 1 0 drivenState drivenState_onTime (by decide)
    (.inl ⟨by decide, rfl⟩)
  obtain ⟨-, -, -, stored, -⟩ := wrote 0 (by decide)
  have demand : u.ce[(0 : Fin 8)].dmem = dwords drivenState.ce[(0 : Fin 8)].dmem
      (trxMapInWord drivenState 0) (inputBlock drivenState 0) := stored (by decide) drivenState_clean
  have missing : sget 0 u.ce[(0 : Fin 8)].dmem 1 = 0 := by
    cases hu
    exact drivenState_written
  rw [demand, drivenState_block] at missing
  exact absurd missing (by decide)

end Sys2Proof.Machine
end

section
/-!
PROOFS. Encoders: the words of a delivery in engine memory (R151).
-/

namespace Sys2Proof.Machine

open Sys2Proof

/-- Encoder 0 turns at 100 counts per second with one pole pair, and on tick 0 a delivery of its angle and its
speed to data words 0 and 1 of engine 0 falls due. That engine is stopped and lists data row 0, which holds both
words, twice in its table of flipped bits. -/
def deliveryState : State := { State.reset with
  clk := { State.reset.clk with locked := true }
  regs := [(0x400A010C, 0x1000), (0x400A0114, 0x1800000)]
  ce := State.reset.ce.set 0 twiceListed
  pos := { State.reset.pos with
    enc := State.reset.pos.enc.set 0
      { State.reset.pos.enc[0] with omega := 0x4059000000000000, due := [0] } } }

theorem deliveryState_onTime : OnTime deliveryState 0 :=
  ⟨rfl, Nat.le_refl 0, rfl, fun _ h => absurd h List.not_mem_nil⟩

theorem deliveryState_due : isDelivery deliveryState 0 0 = true := by decide +kernel

theorem deliveryState_clean : ∀ i < [angleAt deliveryState 0 0, speedWord deliveryState 0].length,
    deliveryState.ce[(0 : Fin 8)].dataFlips ((posDelivWord deliveryState 0 + i) % 1024) = [] := by decide

/-- Angle and speed stored in turn give word 1 the speed, 100 of 4 × 3,200 counts per second in Q0.23 (R465). -/
theorem deliveryState_words : sget 0 (dwords deliveryState.ce[(0 : Fin 8)].dmem (posDelivWord deliveryState 0)
    [angleAt deliveryState 0 0, speedWord deliveryState 0]) 1 = 0x10000 := by decide +kernel

/-- After the delivery, word 1 still reads as before. -/
theorem deliveryState_delivered :
    sget 0 (doDelivery (deliveryState.at 0) 0).ce[(0 : Fin 8)].dmem 1 = 0 := by decide +kernel

/-- Refutes O24: its clause on a delivery (R151) takes the two data rows for sound where the table of flipped
bits shows none in them, and does not ask that this table be in canonical form. In `deliveryState` the table of
engine 0 lists row 0 twice, so that the angle uncovers two flipped bits in the row that it has just cleaned. The
speed behind it then meets a double-bit error and is not stored (R369), while the clause wants both words in
memory. -/
theorem not_encoders : ¬ Obligations.Encoders := by
  unfold Obligations.Encoders
  intro ⟨_, _, _, _, _, _, _, delivery⟩
  obtain ⟨u, hu, -, -, -, -, wrote, -⟩ := delivery 0 0 deliveryState deliveryState_onTime deliveryState_due
  obtain ⟨-, -, -, stored, -⟩ := wrote 0 (by decide) (by decide)
  have words : u.ce[(0 : Fin 8)].dmem = dwords deliveryState.ce[(0 : Fin 8)].dmem
      (posDelivWord deliveryState 0) [angleAt deliveryState 0 0, speedWord deliveryState 0] :=
    stored (by decide) deliveryState_clean
  have missing : sget 0 u.ce[(0 : Fin 8)].dmem 1 = 0 := by
    cases hu
    exact deliveryState_delivered
  rw [words, deliveryState_words] at missing
  exact absurd missing (by decide)

end Sys2Proof.Machine
end

section
/-!
PROOFS. CONFIG frames on the port of a link, and exchanges by GLK_CMD (R171, R175, R180).
-/

namespace Sys2Proof.Machine

open Sys2Proof

/-! ### CONFIG frames (R175) -/

/-- Changes that agree on the entry change the vector alike. -/
theorem vupd_congr {α : Type} {n : Nat} {v : Vector α n} {i : Fin n} {f g : α → α} (h : f v[i] = g v[i]) :
    vupd v i f = vupd v i g :=
  congrArg (v.set i · i.isLt) h

theorem frameTick_congr {s u : State} {l : Fin 12} (hc : u.clk = s.clk)
    (hb : u.glk[l].busyTo = s.glk[l].busyTo) : frameTick u l = frameTick s l := by
  unfold frameTick
  rw [charTick_congr hc hb, hb]

/-- The CONFIG frame with sequence number q that reads a hub register or writes `data` to it. -/
def configFrame (q : Nat) (read : Bool) (addr : Nat) (data : Word32) : List Byte :=
  linkFrame 3 q (BitVec.ofNat 8 (put (b2n read) 7 + addr % 128) :: leBytes 4 (if read then 0 else data.toNat))

theorem length_configFrame (q : Nat) (read : Bool) (addr : Nat) (data : Word32) :
    (configFrame q read addr data).length = 9 := by
  unfold configFrame
  rw [length_linkFrame, List.length_cons, length_leBytes]

theorem sendConfig_sends (s : State) (l : Fin 12) (read : Bool) (addr : Nat) (data : Word32) :
    (s.sendConfig l read addr data).glk = vupd s.glk l (fun k => { k with
      busyTo := frameTick s l + 360, beaconOut := false, cmdSeq := (k.cmdSeq + 1) % 16 }) ∧
    (s.sendConfig l read addr data).emitted =
      ⟨14 + l.val, frameTick s l, configFrame s.glk[l].cmdSeq read addr data⟩ ::
        s.emitted.filterMap (cutAt (14 + l.val) (frameTick s l)) := by
  refine ⟨(modLink_glk_of (sendFrom_glk _ _ _ _) _).trans (vupd_congr ?_), rfl⟩
  have len := length_configFrame s.glk[l].cmdSeq read addr data
  unfold configFrame at len
  dsimp only
  rw [len]

/-- The CONFIG frame that waits leaves; its exchange counts from the end of the frame (R180). -/
theorem serveConfig_sends {s : State} {l : Fin 12} {read : Bool} {addr : Nat} {data : Word32}
    (h : s.glk[l].cmdDue = some (read, addr, data)) :
    (s.serveConfig l).glk = vupd s.glk l (fun k => { k with
      busyTo := frameTick s l + 360, beaconOut := false, cmdSeq := (k.cmdSeq + 1) % 16
      cmdDue := none, cmdSent := frameTick s l + 360 }) ∧
    (s.serveConfig l).emitted = ⟨14 + l.val, frameTick s l, configFrame s.glk[l].cmdSeq read addr data⟩ ::
      s.emitted.filterMap (cutAt (14 + l.val) (frameTick s l)) := by
  obtain ⟨glk, emitted⟩ := sendConfig_sends s l read addr data
  unfold State.serveConfig
  rw [h]
  exact ⟨modLink_glk_of glk _, emitted⟩

/-! ### GLK_CMD written (R180) -/

theorem bits_low7 (x : Nat) : bits x 6 0 = x % 128 := congrArg (· % 128) (Nat.div_one x)

/-- READ and ADDR of a GLK_CMD value kept in the link. -/
def Link.withCmd (k : Link) (v : Word32) : Link :=
  { k with cmdRead := v.getLsbD 7, cmdAddr := bits v.toNat 6 0 }

/-- The exchange that GLK_CMD holds begins: its CONFIG frame waits for its turn. -/
def Link.starts (k : Link) : Link :=
  { k with cmdBusy := true, cmdFly := k.cmdRead, cmdDue := some (k.cmdRead, k.cmdAddr, k.cmdData) }

/-- GLK_CMD written and kept. -/
def State.cmdKept (s : State) (l : Fin 12) (v : Word32) : State :=
  (s.busDone []).modLink l fun k => k.withCmd v

/-- Link l cannot send, or v is a write of a register below 0x20 after lock. -/
def cmdBarred (s : State) (l : Fin 12) (v : Word32) : Bool :=
  !linkCarries s.glk[l] || (s.boot.locked && !v.getLsbD 7 && decide (bits v.toNat 6 0 < 0x20))

theorem cmdKept_link (s : State) (l : Fin 12) (v : Word32) : (s.cmdKept l v).glk[l] = s.glk[l].withCmd v :=
  modLink_link _ _ _

theorem cmdWrite_busy {s : State} {l : Fin 12} {v : Word32} (id : Fin 64) (hg : v.getLsbD 31 = true)
    (hb : s.glk[l].cmdBusy = true) :
    s.cmdWrite id l v = s.busError id (0x400C0114 + 0x40 * l.val) 7 :=
  if_pos (by rw [hg, hb]; rfl)

/-- A write that BUSY does not refuse is kept; with GO it then starts its exchange or is answered RESULT 3. -/
theorem cmdWrite_idle {s : State} {l : Fin 12} {v : Word32} (id : Fin 64)
    (h : v.getLsbD 31 = false ∨ s.glk[l].cmdBusy = false) :
    s.cmdWrite id l v =
      if !v.getLsbD 31 then s.cmdKept l v
      else if cmdBarred s l v then (s.cmdKept l v).modLink l fun k => { k with cmdResult := 3 }
      else
        let w := (s.cmdKept l v).modLink l Link.starts
        if portFree w l && !ahead w l && !s.glk[l].lossDue then w.serveConfig l else w := by
  have free : ¬(v.getLsbD 31 && s.glk[l].cmdBusy) = true := by
    rcases h with h | h
    · rw [h]; exact Bool.false_ne_true
    · rw [h, Bool.and_false]; exact Bool.false_ne_true
  have barred : (!linkCarries (s.cmdKept l v).glk[l] || ((s.cmdKept l v).boot.locked
      && !(s.cmdKept l v).glk[l].cmdRead && decide ((s.cmdKept l v).glk[l].cmdAddr < 0x20))) =
      cmdBarred s l v := by
    rw [cmdKept_link]; rfl
  have loss : (s.cmdKept l v).glk[l].lossDue = s.glk[l].lossDue := by rw [cmdKept_link]; rfl
  rw [← barred, ← loss]
  exact if_neg free

/-- Where nothing goes before it on a free port, the CONFIG frame leaves at once. -/
theorem cmdWrite_sends {s : State} {l : Fin 12} {v : Word32} (id : Fin 64) (hg : v.getLsbD 31 = true)
    (hb : s.glk[l].cmdBusy = false) (hc : cmdBarred s l v = false) (hf : portFree s l = true)
    (ha : ahead s l = false) (hl : s.glk[l].lossDue = false) :
    s.cmdWrite id l v = ((s.cmdKept l v).modLink l Link.starts).serveConfig l := by
  rw [cmdWrite_idle id (.inr hb), hg, hc]
  generalize hw : (s.cmdKept l v).modLink l Link.starts = w
  have link : w.glk[l] = (s.glk[l].withCmd v).starts := by rw [← hw, modLink_link, cmdKept_link]
  have clk : w.clk = s.clk := by rw [← hw]; rfl
  have regs : w.regs = s.regs := by rw [← hw]; rfl
  have free : portFree w l = true := by rw [← hf]; unfold portFree; rw [link, clk]; rfl
  have first : ahead w l = false := by
    rw [← ha]
    unfold ahead
    rw [edgeReady_congr clk regs (by rw [link]; rfl) (by rw [link]; rfl), link]
    rfl
  simp only [Bool.not_true, Bool.false_eq_true, if_false, free, first, hl, Bool.not_false, Bool.and_self,
    if_true]

/-- The link at the end of an exchange's CONFIG frame sent from tick x. -/
def Link.asked (k : Link) (x : Nat) (v : Word32) : Link := { k.withCmd v with
  cmdBusy := true, cmdFly := v.getLsbD 7, cmdDue := none, cmdSeq := (k.cmdSeq + 1) % 16
  cmdSent := x + 360, busyTo := x + 360, beaconOut := false }

theorem cmdWrite_spec {s : State} {l : Fin 12} {v : Word32} (id : Fin 64) (hg : v.getLsbD 31 = true)
    (hb : s.glk[l].cmdBusy = false) (hc : cmdBarred s l v = false) (hf : portFree s l = true)
    (ha : ahead s l = false) (hl : s.glk[l].lossDue = false) :
    (s.cmdWrite id l v).glk = vupd s.glk l (fun k => k.asked (charTick s l) v) ∧
    (s.cmdWrite id l v).emitted = ⟨14 + l.val, charTick s l,
      configFrame s.glk[l].cmdSeq (v.getLsbD 7) (bits v.toNat 6 0) s.glk[l].cmdData⟩ ::
        s.emitted.filterMap (cutAt (14 + l.val) (charTick s l)) ∧
    (s.cmdWrite id l v).bus.err = 0 := by
  rw [cmdWrite_sends id hg hb hc hf ha hl]
  generalize hw : (s.cmdKept l v).modLink l Link.starts = w
  have glk : w.glk = vupd s.glk l fun k => (k.withCmd v).starts := by
    rw [← hw]; exact modLink_glk_of (modLink_glk _ _ _) _
  have link : w.glk[l] = (s.glk[l].withCmd v).starts := by rw [glk, vupd_fin]
  have tick : frameTick w l = charTick s l := by
    rw [← frameTick_free hf]
    exact frameTick_congr (by rw [← hw]; rfl) (by rw [link]; rfl)
  obtain ⟨sent, emitted⟩ := serveConfig_sends (s := w) (l := l) (congrArg Link.cmdDue link)
  rw [tick, link] at emitted
  rw [tick, glk, vupd_vupd] at sent
  refine ⟨sent, ?_, ?_⟩
  · rw [emitted, ← hw]; rfl
  · have bus : (w.serveConfig l).bus = w.bus := State.serveConfig_area w l (p := .bus) (by decide)
    rw [bus, ← hw]; rfl

/-! ### What GLK_CMD finds at its tick -/

theorem cmdBarred_at {s : State} {t : Tick} {l : Fin 12} {v : Word32} (h : Quiet s t) :
    cmdBarred (s.at t) l v = cmdBarred s l v := at_reads h (cmdBarred · l v) fun _ => rfl

/-- A barred exchange is answered RESULT 3 and sends nothing. -/
theorem cmdWrite_barred_at {s : State} {t : Tick} {l : Fin 12} {v : Word32} (id : Fin 64) (h : Quiet s t)
    (hg : v.getLsbD 31 = true) (hb : s.glk[l].cmdBusy = false) (hc : cmdBarred s l v = true) :
    After (.configExchange t id l v) s fun u =>
      u.glk[l].cmdResult = 3 ∧ u.glk[l].cmdBusy = false ∧ u.emitted = s.emitted := by
  have barred : (s.at t).cmdWrite id l v =
      ((s.at t).cmdKept l v).modLink l fun k => { k with cmdResult := 3 } := by
    rw [cmdWrite_idle id (.inr (by rw [at_glk h, hb])), hg, cmdBarred_at h, hc]
    rfl
  refine ⟨_, congrArg Host.Outcome.next barred, ?_, ?_, at_emitted h⟩
  all_goals rw [modLink_link, cmdKept_link, at_glk h]
  exact hb

/-- Settles O28: each case of `State.cmdWrite` at the tick of the command. -/
theorem gateLinkExchange : Obligations.GateLinkExchange := by
  unfold Obligations.GateLinkExchange
  refine ⟨?sent, ?busy, ?locked, ?down, ?kept⟩
  case sent =>
    intro t id l v s h hg hb hc hf hv ha he hl
    have may : cmdBarred (s.at t) l v = false := by
      rw [cmdBarred_at h.2.2]
      unfold cmdBarred
      rw [hc, bits_low7]
      rcases hv with hv | hv | hv
      · rw [hv]; simp
      · rw [hv]; rfl
      · rw [decide_eq_false (Nat.not_lt.2 hv)]; simp
    have first : ahead (s.at t) l = false := by unfold ahead; rw [he, at_glk h.2.2, ha]; rfl
    have data : configFrame s.glk[l].cmdSeq (v.getLsbD 7) (bits v.toNat 6 0) s.glk[l].cmdData =
        linkFrame 3 s.glk[l].cmdSeq
          (BitVec.ofNat 8 ((if v.getLsbD 7 then 128 else 0) + v.toNat % 128) ::
            leBytes 4 (if v.getLsbD 7 then 0 else s.glk[l].cmdData.toNat)) := by
      unfold configFrame
      rw [bits_low7, Nat.mod_mod]
      cases v.getLsbD 7 <;> rfl
    rw [← at_glk h.2.2] at hb hl
    obtain ⟨glk, emitted, err⟩ := cmdWrite_spec id hg hb may (portFree_at h hf) first hl
    obtain ⟨link, emitted, others⟩ := sent_at h ⟨glk, emitted⟩
    rw [at_glk h.2.2, data] at emitted
    refine ⟨_, rfl, ?_, ?_, ?_, ?_, ?_, err, emitted, others⟩
    all_goals rw [link]
    · rfl
    · exact bits_low7 _
    · rfl
    · rfl
    · rfl
  case busy =>
    intro t id l v s h hg hb
    rw [← at_glk h] at hb
    refine ⟨_, congrArg Host.Outcome.next (cmdWrite_busy id hg hb), ?_, rfl, ?_⟩
    · rw [busError_glk, at_glk h]
    · rw [busError_emitted, at_emitted h]
  case locked =>
    intro t id l v s h hg h7 ha hb hk
    refine cmdWrite_barred_at id h hg hb ?_
    unfold cmdBarred
    rw [hk, h7, bits_low7, decide_eq_true ha]
    simp
  case down =>
    intro t id l v s h hg hc hb
    refine cmdWrite_barred_at id h hg hb ?_
    unfold cmdBarred
    rw [hc]
    rfl
  case kept =>
    intro t id l v s h hg
    have kept : (s.at t).cmdWrite id l v = (s.at t).cmdKept l v := by
      rw [cmdWrite_idle id (.inl hg), hg]; rfl
    refine ⟨_, congrArg Host.Outcome.next kept, ?_, at_emitted h⟩
    rw [cmdKept_link, at_glk h, ← bits_low7]
    rfl

end Sys2Proof.Machine
end

section
/-!
PROOFS. Bring-up and loss of the gate links (R179).
-/

namespace Sys2Proof.Machine

open Sys2Proof

/-! ### States of a link -/

/-- The link at its entry to a state on tick t. -/
def Link.entering (k : Link) (t : Nat) (st : LState) : Link := { k with
  state := st, since := t, step := 0, good := 0, lossDue := false, beaconDue := false
  cmdDue := none, cmdSent := if k.cmdDue.isSome then t else k.cmdSent }

theorem linkTo_glk (s : State) (l : Fin 12) (st : LState) :
    (s.linkTo l st).glk = vupd s.glk l fun k => k.entering s.clk.now st := rfl

/-- A link that fails is FAILED, and the failure is reported (R179, R182). -/
theorem linkFails_spec (s : State) (l : Fin 12) (cause : Nat) :
    (s.linkFails l cause).glk = (vupd s.glk l fun k => k.entering s.clk.now .failed) ∧
    (s.linkFails l cause).rng.net = s.rng.net ++ [⟨s.clk.now + 40, bGLK, 14 + l.val, 3, 0, 0⟩] :=
  ⟨recordReport_glk .., recordReport_net _ _ _ _ (by decide) (by decide)⟩

theorem lostEvent_spec (s : State) (l : Fin 12) (cause : Nat) :
    (s.lostEvent l cause).rng.net = s.rng.net ++ [⟨s.clk.now + 40, bGLK, 14 + l.val, 2, 0, 0⟩] ∧
    (s.lostEvent l cause).tal[63] = s.tal[63] + 1 := by
  refine ⟨?_, (record_tal _ _ _ _ _ _ (by decide)).trans (tallyBy_same _ _ _)⟩
  refine (recordReport_net _ _ _ _ (by decide) (by decide)).trans ?_
  rw [tally_rng, tally_clk]

theorem lostEvent_glk (s : State) (l : Fin 12) (cause : Nat) : (s.lostEvent l cause).glk = s.glk :=
  State.lostEvent_area s l cause (p := .glk) (by decide)

/-- An UP link is lost: it aligns anew or fails, reported and counted (R179, R182). -/
theorem linkLost_spec {s : State} {l : Fin 12} (h : s.glk[l].state = .up) (cause : Nat) :
    (s.linkLost l cause).glk = (vupd s.glk l fun k =>
      k.entering s.clk.now (if glkCfgAutoRetry s l then .align else .failed)) ∧
    (s.linkLost l cause).rng.net = s.rng.net ++ [⟨s.clk.now + 40, bGLK, 14 + l.val, 2, 0, 0⟩] ∧
    (s.linkLost l cause).tal[63] = s.tal[63] + 1 := by
  have clk : (s.lostEvent l cause).clk = s.clk := State.lostEvent_area s l cause (p := .clk) (by decide)
  unfold State.linkLost
  rw [if_pos h]
  refine ⟨?_, lostEvent_spec s l cause⟩
  rw [linkTo_glk, lostEvent_glk, clk]

theorem linkStart_glk {s : State} {l : Fin 12} {g : Fin 4} (h : linkGroup s l = some g) :
    (s.linkStart l).glk = vupd s.glk l fun k => k.entering s.clk.now .align := by
  unfold State.linkStart
  rw [if_pos (by rw [h]; rfl), linkTo_glk]

/-- RETRAIN takes a link that names a gate group back to ALIGN, whatever its state. -/
theorem retrain_glk {s : State} {l : Fin 12} {g : Fin 4} (h : linkGroup s l = some g) :
    (s.retrain l).glk = vupd s.glk l fun k => k.entering s.clk.now .align := by
  unfold State.retrain
  dsimp only
  split
  · have regs : (s.lostEvent l 3).regs = s.regs := State.lostEvent_area s l 3 (p := .regs) (by decide)
    have clk : (s.lostEvent l 3).clk = s.clk := State.lostEvent_area s l 3 (p := .clk) (by decide)
    rw [linkStart_glk ((linkGroup_congr regs l).trans h), lostEvent_glk, clk]
  · exact linkStart_glk h

/-! ### The exchanges of bring-up -/

/-- What an exchange of bring-up may change of its link: the port, the sequence number and the tick of
sending. -/
def Link.exchanged (k : Link) (busy : Nat) (out : Bool) (seq sent : Nat) : Link :=
  { k with busyTo := busy, beaconOut := out, cmdSeq := seq, sent := sent }

/-- An exchange whose frame, if any, has changed port and sequence number ends with the note of its tick. -/
theorem exchanged_of {s u : State} {l : Fin 12} {busy : Nat} {out : Bool} {seq : Nat}
    (h : u.glk = vupd s.glk l fun k => { k with busyTo := busy, beaconOut := out, cmdSeq := seq }) :
    (u.modLink l fun k => { k with sent := k.busyTo }).glk =
      vupd s.glk l fun k => k.exchanged busy out seq busy := modLink_glk_of h _

theorem sendConfig_exchanges (s : State) (l : Fin 12) (read : Bool) (addr : Nat) (data : Word32) :
    ((s.sendConfig l read addr data).modLink l fun k => { k with sent := k.busyTo }).glk =
      vupd s.glk l fun k => k.exchanged (frameTick s l + 360) false ((s.glk[l].cmdSeq + 1) % 16)
        (frameTick s l + 360) :=
  exchanged_of ((sendConfig_sends ..).1.trans (vupd_congr rfl))

theorem sendNext_exchanges (s : State) (l : Fin 12) (bs : List Byte) :
    ((s.sendNext l bs).modLink l fun k => { k with sent := k.busyTo }).glk =
      vupd s.glk l fun k => k.exchanged (frameTick s l + 40 * bs.length) false s.glk[l].cmdSeq
        (frameTick s l + 40 * bs.length) :=
  exchanged_of ((sendFrom_glk ..).trans (vupd_congr rfl))

theorem noFrame_exchanges (s : State) (l : Fin 12) :
    (s.modLink l fun k => { k with sent := k.busyTo }).glk =
      vupd s.glk l fun k => k.exchanged s.glk[l].busyTo s.glk[l].beaconOut s.glk[l].cmdSeq s.glk[l].busyTo :=
  (modLink_glk ..).trans (vupd_congr rfl)

theorem bringExchange_link (s : State) (l : Fin 12) : ∃ busy out seq sent,
    (s.bringExchange l).glk = vupd s.glk l fun k => k.exchanged busy out seq sent := by
  unfold State.bringExchange
  dsimp only
  split
  · split
    · exact ⟨_, _, _, _, sendConfig_exchanges ..⟩
    · split
      · exact ⟨_, _, _, _, sendNext_exchanges ..⟩
      · exact ⟨_, _, _, _, sendConfig_exchanges ..⟩
  · exact ⟨_, _, _, _, sendConfig_exchanges ..⟩
  · split
    · exact ⟨_, _, _, _, sendConfig_exchanges ..⟩
    · exact ⟨_, _, _, _, noFrame_exchanges ..⟩
  · exact ⟨_, _, _, _, noFrame_exchanges ..⟩

/-- MEASURE begins with a read of TURN. -/
theorem bringExchange_turn {s : State} {l : Fin 12} (h : s.glk[l].state = .measure)
    (h0 : s.glk[l].step = 0) : s.bringExchange l =
      (s.sendConfig l true 2 0).modLink l fun k => { k with sent := k.busyTo } := by
  unfold State.bringExchange
  simp only [h, h0, if_true]

/-- Steps 1 to 8 of MEASURE send an ECHO with the step for its token. -/
theorem bringExchange_echo {s : State} {l : Fin 12} (h : s.glk[l].state = .measure)
    (h0 : s.glk[l].step ≠ 0) (h8 : s.glk[l].step ≤ 8) : s.bringExchange l =
      (s.sendNext l (linkFrame 6 0 [BitVec.ofNat 8 s.glk[l].step])).modLink l
        fun k => { k with sent := k.busyTo } := by
  unfold State.bringExchange
  simp only [h, if_neg h0, if_pos h8]

theorem bringTo_link (s : State) (l : Fin 12) (st : LState) : ∃ busy out seq sent,
    (s.bringTo l st).glk = vupd s.glk l fun k => (k.entering s.clk.now st).exchanged busy out seq sent := by
  obtain ⟨busy, out, seq, sent, glk⟩ := bringExchange_link (s.linkTo l st) l
  exact ⟨busy, out, seq, sent, by rw [State.bringTo, glk, linkTo_glk, vupd_vupd]⟩

theorem bringNext_link (s : State) (l : Fin 12) : ∃ busy out seq sent,
    (s.bringNext l).glk = vupd s.glk l fun k => { k with step := k.step + 1 }.exchanged busy out seq sent := by
  obtain ⟨busy, out, seq, sent, glk⟩ :=
    bringExchange_link (s.modLink l fun k => { k with step := k.step + 1 }) l
  exact ⟨busy, out, seq, sent, by rw [State.bringNext, glk, modLink_glk, vupd_vupd]⟩

/-- MEASURE is entered with a read of TURN. -/
theorem bringTo_measure (s : State) (l : Fin 12) :
    (s.bringTo l .measure).glk = (vupd s.glk l fun k => (k.entering s.clk.now .measure).exchanged
      (frameTick s l + 360) false ((k.cmdSeq + 1) % 16) (frameTick s l + 360)) ∧
    (s.bringTo l .measure).emitted =
      ⟨14 + l.val, frameTick s l, linkFrame 3 s.glk[l].cmdSeq (0x82 :: leBytes 4 0)⟩ ::
        s.emitted.filterMap (cutAt (14 + l.val) (frameTick s l)) := by
  have link : (s.linkTo l .measure).glk[l] = s.glk[l].entering s.clk.now .measure := modLink_link _ _ _
  have tick : frameTick (s.linkTo l .measure) l = frameTick s l := frameTick_congr rfl (by rw [link]; rfl)
  unfold State.bringTo
  rw [bringExchange_turn (by rw [link]; rfl) (by rw [link]; rfl)]
  constructor
  · rw [sendConfig_exchanges, tick, linkTo_glk, vupd_vupd, vupd_fin]
    exact vupd_congr rfl
  · refine (sendConfig_sends _ _ _ _ _).2.trans ?_
    rw [tick, link]
    rfl

/-- The next of the eight echoes is sent. -/
theorem bringNext_echo {s : State} {l : Fin 12} (h : s.glk[l].state = .measure) (h8 : s.glk[l].step < 8) :
    (s.bringNext l).emitted =
      ⟨14 + l.val, frameTick s l, linkFrame 6 0 [BitVec.ofNat 8 (s.glk[l].step + 1)]⟩ ::
        s.emitted.filterMap (cutAt (14 + l.val) (frameTick s l)) := by
  have link : (s.modLink l fun k => { k with step := k.step + 1 }).glk[l] =
    { s.glk[l] with step := s.glk[l].step + 1 } := modLink_link _ _ _
  have tick : frameTick (s.modLink l fun k => { k with step := k.step + 1 }) l = frameTick s l :=
    frameTick_congr rfl (by rw [link])
  unfold State.bringNext
  rw [bringExchange_echo (by rw [link]; exact h) (by rw [link]; exact Nat.succ_ne_zero _)
    (by rw [link]; exact h8), link]
  refine (sendFrom_emitted _ _ _ _).trans ?_
  rw [tick]
  rfl

/-! ### Replies (R175, R179, R180) -/

/-- A link in MEASURE, IDENTIFY or CONFIGURE, where it waits for replies. -/
def Link.waits (k : Link) : Prop := k.state = .measure ∨ k.state = .identify ∨ k.state = .configure

theorem linkHears_waits {k : Link} (h : k.waits) : linkHears k = true := by
  rcases h with h | h | h <;> (unfold linkHears; rw [h])

theorem linkCarries_waits {k : Link} (h : k.waits) : linkCarries k = false := by
  rcases h with h | h | h <;> (unfold linkCarries; rw [h]; rfl)

theorem linkCarries_iff {k : Link} : linkCarries k = true ↔ k.state = .sync ∨ k.state = .up := by
  unfold linkCarries
  rw [Bool.or_eq_true, beq_iff_eq, beq_iff_eq]

theorem linkHears_carries {k : Link} (h : linkCarries k = true) : linkHears k = true := by
  rcases linkCarries_iff.1 h with h | h <;> (unfold linkHears; rw [h])

theorem replyLate_waits {s : State} {l : Fin 12} (h : s.glk[l].waits) :
    replyLate s l = decide (s.glk[l].sent + 16000 ≤ s.clk.now) := by
  unfold replyLate
  simp only [linkCarries_waits h, Bool.false_eq_true, if_false]

theorem replyLate_carries {s : State} {l : Fin 12} (h : linkCarries s.glk[l] = true) :
    replyLate s l = decide (s.glk[l].cmdSent + 16000 ≤ s.clk.now) := by
  unfold replyLate
  simp only [h, if_true]

/-- The bytes of a number, least first, hold it modulo their range. -/
theorem leNat_leBytes : ∀ n x : Nat, leNat (leBytes n x) = x % 256 ^ n
  | 0, x => (Nat.mod_one x).symm
  | n + 1, x => by
    show (BitVec.ofNat 8 x).toNat + 256 * leNat (leBytes n (x / 256)) = _
    rw [leNat_leBytes n, BitVec.toNat_ofNat]
    exact Nat.mod_mul.symm.trans (congrArg (x % ·) Nat.pow_succ'.symm)

theorem word_leBytes (d : Word32) : BitVec.ofNat 32 (leNat (leBytes 4 d.toNat)) = d := by
  have small : d.toNat < 256 ^ 4 := d.isLt
  rw [leNat_leBytes, Nat.mod_eq_of_lt small, BitVec.ofNat_toNat, BitVec.setWidth_eq]

theorem heardFrom_echo {s : State} {l : Fin 12} (h : linkHears s.glk[l] = true) (q : Fin 16) (token : Byte) :
    s.heardFrom l (hubFrame 10 q [token]) = s.echoed l token := by
  unfold State.heardFrom
  rw [h, heardOf_hubFrame (by decide) q.isLt rfl]
  rfl

theorem heardFrom_config {s : State} {l : Fin 12} (h : linkHears s.glk[l] = true) (q : Fin 16) (a : Byte)
    (d : Word32) (r : Byte) :
    s.heardFrom l (hubFrame 9 q (a :: leBytes 4 d.toNat ++ [r])) = s.configReply l q d r := by
  have word := word_leBytes d
  unfold State.heardFrom
  rw [h, heardOf_hubFrame (by decide) q.isLt rfl]
  show s.configReply l q (BitVec.ofNat 32 (leNat (leBytes 4 d.toNat))) r = _
  rw [word]

/-- A reply that bring-up waits for, in time. -/
theorem configReply_waits {s : State} {l : Fin 12} {q : Nat} (h : s.glk[l].waits)
    (hq : s.glk[l].cmdSeq = (q + 1) % 16) (ht : s.clk.now < s.glk[l].sent + 16000) (d : Word32) (r : Byte) :
    s.configReply l q d r = (s.bringReply l d (r != 0)).watchRows := by
  have late : replyLate s l = false := by rw [replyLate_waits h]; exact decide_eq_false (Nat.not_le.2 ht)
  unfold State.configReply
  simp only [hq, ne_eq, not_true_eq_false, if_false, late, Bool.false_eq_true]
  rcases h with h | h | h <;> rw [h]

/-- The reply to the exchange of GLK_CMD, in time. -/
theorem configReply_cmd {s : State} {l : Fin 12} {q : Nat} (h : linkCarries s.glk[l] = true)
    (hb : s.glk[l].cmdBusy = true) (hd : s.glk[l].cmdDue = none) (hq : s.glk[l].cmdSeq = (q + 1) % 16)
    (ht : s.clk.now < s.glk[l].cmdSent + 16000) (d : Word32) (r : Byte) :
    s.configReply l q d r = s.cmdReply l d (r != 0) := by
  have late : replyLate s l = false := by rw [replyLate_carries h]; exact decide_eq_false (Nat.not_le.2 ht)
  unfold State.configReply
  simp only [hq, ne_eq, not_true_eq_false, if_false, late, Bool.false_eq_true, hb, hd]
  rcases linkCarries_iff.1 h with h | h <;> (rw [h]; rfl)

/-- TURN read: the first echo goes out. -/
theorem bringReply_turn {s : State} {l : Fin 12} (h : s.glk[l].state = .measure) (h0 : s.glk[l].step = 0)
    (d : Word32) : s.bringReply l d false =
      (s.modLink l fun k => { k with turn := d.toNat, trips := [] }).bringNext l := by
  unfold State.bringReply
  simp only [h, h0, Bool.false_eq_true, if_false, if_true]

/-- The hub is the one that GLK_HUBID names, if any, its CAPS hold 16 or more, and it is redundant where the
link is to be (R179). -/
def hubFits (s : State) (l : Fin 12) (caps : Word32) : Prop :=
  (glkHubidId s l = 0 ∨ s.glk[l].hubId.toNat = glkHubidId s l) ∧ 16 ≤ caps.toNat % 256 ∧
    (glkCfgRedundant s l = true → caps.getLsbD 8 = true)

theorem hubFits_iff {s : State} {l : Fin 12} {caps : Word32} : hubFits s l caps ↔
    ((glkHubidId s l = 0 || s.glk[l].hubId.toNat = glkHubidId s l) && decide (16 ≤ bits caps.toNat 7 0)
      && (!glkCfgRedundant s l || caps.getLsbD 8)) = true := by
  have low : bits caps.toNat 7 0 = caps.toNat % 256 := congrArg (· % 256) (Nat.div_one _)
  unfold hubFits
  rw [low]
  simp only [Bool.and_eq_true, Bool.or_eq_true, Bool.not_eq_true', decide_eq_true_eq, and_assoc,
    ← Bool.not_eq_true, Decidable.imp_iff_not_or]

theorem bringReply_caps {s : State} {l : Fin 12} (h : s.glk[l].state = .identify) (h1 : s.glk[l].step = 1)
    (d : Word32) : (hubFits s l d → s.bringReply l d false = s.bringTo l .configure) ∧
      (¬hubFits s l d → s.bringReply l d false = s.linkFails l 3) := by
  rw [hubFits_iff]
  unfold State.bringReply
  simp only [h, h1, Bool.false_eq_true, if_false, Nat.one_ne_zero]
  exact ⟨fun fits => if_pos fits, fun misfits => if_neg misfits⟩

theorem bringEcho_next {s : State} {l : Fin 12} {token : Byte} (h : s.glk[l].state = .measure)
    (h1 : 1 ≤ s.glk[l].step) (h8 : s.glk[l].step < 8) (ht : token.toNat = s.glk[l].step) :
    s.bringEcho l token =
      (s.modLink l fun k => { k with trips := (s.clk.now - 200 - k.sent) :: k.trips }).bringNext l := by
  have expected : ¬(s.glk[l].state ≠ .measure ∨ s.glk[l].step = 0 ∨ 8 < s.glk[l].step ∨
    token.toNat ≠ s.glk[l].step) := by
    rw [not_or, not_or, not_or]
    exact ⟨not_not_intro h, by omega, by omega, not_not_intro ht⟩
  unfold State.bringEcho
  rw [if_neg expected, if_pos h8]

/-- One of the first seven echoes returns in time: its round trip is kept and the next one goes out. -/
theorem bringEcho_spec {s : State} {l : Fin 12} {token : Byte} (h : s.glk[l].state = .measure)
    (h1 : 1 ≤ s.glk[l].step) (h8 : s.glk[l].step < 8) (ht : token.toNat = s.glk[l].step) :
    (∃ busy out seq sent, (s.bringEcho l token).glk = vupd s.glk l fun k => { k with
      trips := (s.clk.now - 200 - k.sent) :: k.trips, step := k.step + 1 }.exchanged busy out seq sent) ∧
    (s.bringEcho l token).emitted =
      ⟨14 + l.val, frameTick s l, linkFrame 6 0 [BitVec.ofNat 8 (s.glk[l].step + 1)]⟩ ::
        s.emitted.filterMap (cutAt (14 + l.val) (frameTick s l)) := by
  rw [bringEcho_next h h1 h8 ht]
  generalize hu : s.modLink l _ = u
  have glk : u.glk = vupd s.glk l fun k => { k with trips := (s.clk.now - 200 - k.sent) :: k.trips } := by
    rw [← hu]; rfl
  have link : u.glk[l] = { s.glk[l] with trips := (s.clk.now - 200 - s.glk[l].sent) :: s.glk[l].trips } := by
    rw [glk, vupd_fin]
  have tick : frameTick u l = frameTick s l := frameTick_congr (by rw [← hu]; rfl) (by rw [link])
  constructor
  · obtain ⟨busy, out, seq, sent, next⟩ := bringNext_link u l
    exact ⟨busy, out, seq, sent, by rw [next, glk, vupd_vupd]⟩
  · rw [bringNext_echo (by rw [link]; exact h) (by rw [link]; exact h8), tick, link, ← hu]
    rfl

/-! ### Replies that stay away -/

/-- The exchange of GLK_CMD ends with RESULT 1 where its reply is missing for 10 µs. -/
def State.cmdTimedOut (s : State) (l : Fin 12) : State :=
  if s.glk[l].cmdBusy && s.glk[l].cmdDue.isNone && decide (s.glk[l].cmdSent + 16000 ≤ s.clk.now) then
    s.modLink l fun k => { k with cmdBusy := false, cmdResult := 1 }
  else s

theorem cmdTimedOut_area (s : State) (l : Fin 12) {p : Area} (h : p ∉ [Area.glk]) :
    area (s.cmdTimedOut l) p = area s p := area_ite (State.modLink_area _ _ _ h) rfl

theorem cmdTimedOut_other (s : State) {l k : Fin 12} (h : k ≠ l) : (s.cmdTimedOut l).glk[k] = s.glk[k] := by
  unfold State.cmdTimedOut
  split
  · exact vupd_other _ _ _ _ h
  · rfl

theorem replyMissing_eq (s : State) (l : Fin 12) : s.replyMissing l =
    if (s.glk[l].state == .measure || s.glk[l].state == .identify || s.glk[l].state == .configure)
        && decide (s.glk[l].sent + 16000 ≤ (s.cmdTimedOut l).clk.now) then
      (s.cmdTimedOut l).linkFails l s.glk[l].state.cause
    else s.cmdTimedOut l := rfl

/-- Bring-up that waits 10 µs for a reply fails. -/
theorem replyMissing_waits {s : State} {l : Fin 12} (h : s.glk[l].waits)
    (ht : s.glk[l].sent + 16000 ≤ s.clk.now) :
    (s.replyMissing l).glk[l].state = .failed ∧
    (s.replyMissing l).rng.net = s.rng.net ++ [⟨s.clk.now + 40, bGLK, 14 + l.val, 3, 0, 0⟩] ∧
    ∀ k, k ≠ l → (s.replyMissing l).glk[k] = s.glk[k] := by
  have clk : (s.cmdTimedOut l).clk = s.clk := cmdTimedOut_area s l (p := .clk) (by decide)
  have rng : (s.cmdTimedOut l).rng = s.rng := cmdTimedOut_area s l (p := .rng) (by decide)
  have fails : s.replyMissing l = (s.cmdTimedOut l).linkFails l s.glk[l].state.cause := by
    rw [replyMissing_eq, clk, decide_eq_true ht, Bool.and_true]
    refine if_pos ?_
    rcases h with h | h | h <;> (rw [h]; rfl)
  obtain ⟨glk, net⟩ := linkFails_spec (s.cmdTimedOut l) l s.glk[l].state.cause
  rw [← fails] at glk net
  rw [clk, rng] at net
  refine ⟨?_, net, fun k hk => ?_⟩
  · rw [glk, vupd_fin]; rfl
  · rw [glk]; exact (vupd_other _ _ _ _ hk).trans (cmdTimedOut_other s hk)

/-- An exchange of GLK_CMD without reply for 10 µs ends with RESULT 1. -/
theorem replyMissing_cmd {s : State} {l : Fin 12} (h : linkCarries s.glk[l] = true)
    (hb : s.glk[l].cmdBusy = true) (hd : s.glk[l].cmdDue = none)
    (ht : s.glk[l].cmdSent + 16000 ≤ s.clk.now) :
    s.replyMissing l = s.modLink l fun k => { k with cmdBusy := false, cmdResult := 1 } := by
  have out : s.cmdTimedOut l = s.modLink l fun k => { k with cmdBusy := false, cmdResult := 1 } :=
    if_pos (by rw [hb, hd, decide_eq_true ht]; rfl)
  rw [replyMissing_eq, out]
  refine if_neg ?_
  rcases linkCarries_iff.1 h with h | h <;> (rw [h]; exact Bool.false_ne_true)

/-! ### What a row of bring-up finds at its tick -/

/-- A change of link l at tick t, told of the state before t. -/
theorem link_at {s u : State} {t : Tick} {l : Fin 12} {f : Link → Link} (h : Quiet s t)
    (hg : u.glk = vupd (s.at t).glk l f) : u.glk[l] = f s.glk[l] ∧ ∀ k, k ≠ l → u.glk[k] = s.glk[k] := by
  rw [at_glk h] at hg
  exact ⟨by rw [hg, vupd_fin], fun k hk => by rw [hg]; exact vupd_other _ _ _ _ hk⟩

/-- A link that fails at tick t. -/
theorem linkFails_at {s : State} {t : Tick} (h : OnTime s t) (l : Fin 12) (cause : Nat) :
    ((s.at t).linkFails l cause).glk[l].state = .failed ∧
    ((s.at t).linkFails l cause).rng.net = s.rng.net ++ [⟨t + 40, bGLK, 14 + l.val, 3, 0, 0⟩] ∧
    ∀ k, k ≠ l → ((s.at t).linkFails l cause).glk[k] = s.glk[k] := by
  obtain ⟨glk, net⟩ := linkFails_spec (s.at t) l cause
  obtain ⟨link, others⟩ := link_at h.2.2 glk
  rw [at_rng h.2.2, at_now h] at net
  exact ⟨by rw [link]; rfl, net, others⟩

/-- An UP link that is lost at tick t. -/
theorem linkLost_at {s : State} {t : Tick} {l : Fin 12} (h : OnTime s t) (hs : s.glk[l].state = .up)
    (cause : Nat) :
    let u := ((s.at t).linkLost l cause).watchRows
    u.glk[l].state = (if glkCfgAutoRetry s l then .align else .failed) ∧ u.glk[l].since = t ∧
    u.rng.net = s.rng.net ++ [⟨t + 40, bGLK, 14 + l, 2, 0, 0⟩] ∧ u.tal[63] = s.tal[63] + 1 ∧
    u.glk[l].queue = s.glk[l].queue ∧ ∀ k, k ≠ l → u.glk[k] = s.glk[k] := by
  have retry : glkCfgAutoRetry (s.at t) l = glkCfgAutoRetry s l :=
    at_reads h.2.2 (glkCfgAutoRetry · l) fun _ => rfl
  rw [← at_glk h.2.2] at hs
  obtain ⟨glk, net, tal⟩ := linkLost_spec hs cause
  rw [← watchRows_glk] at glk
  rw [at_now h, at_rng h.2.2] at net
  rw [at_tal h.2.2] at tal
  obtain ⟨link, others⟩ := link_at h.2.2 glk
  refine ⟨?_, ?_, net, ?_, ?_, others⟩
  · rw [link, ← retry]; rfl
  · rw [link]; exact at_now h
  · rw [watchRows_tal]; exact tal
  · rw [link]; rfl

/-- A reply in time that bring-up takes at tick t. -/
theorem execConfigReply_waits {s : State} {t : Tick} {l : Fin 12} {q : Fin 16} (h : OnTime s t)
    (hw : s.glk[l].waits) (hq : s.glk[l].cmdSeq = (q.val + 1) % 16) (ht : t < s.glk[l].sent + 16000)
    (a : Byte) (d : Word32) :
    execConfigReply t l (hubFrame 9 q (a :: leBytes 4 d.toNat ++ [0])) s =
      .next ((s.at t).bringReply l d false).watchRows := by
  rw [← at_glk h.2.2] at hw hq
  refine congrArg Host.Outcome.next ((heardFrom_config (linkHears_waits hw) q a d 0).trans ?_)
  exact configReply_waits hw hq (by rw [at_now h, at_glk h.2.2]; exact ht) d 0

/-- Settles O27: each row by what its operation makes of the link at the tick of the row. -/
theorem gateLinkBringUp : Obligations.GateLinkBringUp := by
  unfold Obligations.GateLinkBringUp
  refine ⟨?aligned, ?echo, ?turn, ?caps, ?cmd, ?timeout, ?missing, ?cmdMissing, ?lost, ?retrain⟩
  case aligned =>
    intro t l s h hs ht
    have aligns : execAlignmentAchieved t l s = .next ((s.at t).bringTo l .measure) :=
      congrArg Host.Outcome.next (if_pos ⟨by rw [at_glk h.2.2, hs],
        by rw [at_now h, at_glk h.2.2]; exact ht⟩)
    obtain ⟨link, emitted, others⟩ := sent_at h (bringTo_measure (s.at t) l)
    rw [at_glk h.2.2] at emitted
    refine ⟨_, aligns, ?_, ?_, ?_, ?_, emitted, others⟩
    all_goals rw [link]
    · rfl
    · exact at_now h
    · rfl
    · rfl
  case echo =>
    intro t l q token s h hs h1 h8 htok ht
    have waits : (s.at t).glk[l].waits := by rw [at_glk h.2.2]; exact .inl hs
    have late : ¬((s.at t).glk[l].state = .measure ∧ replyLate (s.at t) l = true) := by
      rw [replyLate_waits waits, at_now h, at_glk h.2.2, decide_eq_true_eq]
      exact fun x => absurd x.2 (Nat.not_le.2 ht)
    have heard : (s.at t).heardFrom l (hubFrame 10 q [token]) = (s.at t).bringEcho l token :=
      (heardFrom_echo (linkHears_waits waits) q token).trans (if_neg late)
    have spec := bringEcho_spec (s := s.at t) (l := l) (token := token)
    rw [at_glk h.2.2, at_now h] at spec
    obtain ⟨⟨busy, out, seq, sent, glk⟩, emitted⟩ := spec hs h1 h8 htok
    rw [← at_glk h.2.2] at glk
    obtain ⟨link, emitted, others⟩ := sent_at h ⟨glk, emitted⟩
    refine ⟨_, congrArg Host.Outcome.next heard, ?_, ?_, ?_, emitted, others⟩
    all_goals rw [link]
    · rfl
    · rfl
    · exact hs
  case turn =>
    intro t l q a d s h hs h0 hq ht
    have next := execConfigReply_waits h (.inl hs) hq ht a d
    rw [← at_glk h.2.2] at hs h0
    rw [bringReply_turn hs h0] at next
    obtain ⟨busy, out, seq, sent, glk⟩ := bringNext_link ((s.at t).modLink l fun k =>
      { k with turn := d.toNat, trips := [] }) l
    rw [modLink_glk, vupd_vupd, ← watchRows_glk] at glk
    obtain ⟨link, others⟩ := link_at h.2.2 glk
    rw [at_glk h.2.2] at hs h0
    refine ⟨_, next, ?_, ?_, ?_, ?_, others⟩
    all_goals rw [link]
    · rfl
    · rfl
    · exact congrArg (· + 1) h0
    · exact hs
  case caps =>
    intro t l q a d s h hs h1 hq ht
    have next := execConfigReply_waits h (.inr (.inl hs)) hq ht a d
    have fit : hubFits (s.at t) l d ↔ hubFits s l d := by rw [at_eq h.2.2]; exact Iff.rfl
    rw [← at_glk h.2.2] at hs h1
    obtain ⟨fits, misfits⟩ := bringReply_caps hs h1 d
    by_cases ok : hubFits s l d
    · rw [fits (fit.2 ok)] at next
      obtain ⟨busy, out, seq, sent, glk⟩ := bringTo_link (s.at t) l .configure
      rw [← watchRows_glk] at glk
      obtain ⟨link, others⟩ := link_at h.2.2 glk
      refine ⟨_, next, ?_, fun bad => absurd ok bad, others⟩
      rw [link]
      exact (if_pos ok).symm
    · rw [misfits (mt fit.1 ok)] at next
      obtain ⟨failed, net, others⟩ := linkFails_at h l 3
      rw [← watchRows_glk] at failed others
      exact ⟨_, next, failed.trans (if_neg ok).symm, fun _ => net, others⟩
  case cmd =>
    intro t l q a d r s h hc hb hd hq ht
    rw [← at_glk h.2.2] at hc hb hd hq
    have reply : (s.at t).heardFrom l (hubFrame 9 q (a :: leBytes 4 d.toNat ++ [r])) =
        (s.at t).cmdReply l d (r != 0) :=
      (heardFrom_config (linkHears_carries hc) q a d r).trans
        (configReply_cmd hc hb hd hq (by rw [at_now h, at_glk h.2.2]; exact ht) d r)
    obtain ⟨link, others⟩ := link_at (u := (s.at t).cmdReply l d (r != 0)) h.2.2 (modLink_glk ..)
    refine ⟨_, congrArg Host.Outcome.next reply, ?_, others⟩
    rw [link]
    simp
  case timeout =>
    intro t l s h ht
    obtain ⟨failed1, net1, -⟩ := linkFails_at h l 1
    obtain ⟨failed5, net5, -⟩ := linkFails_at h l 5
    have due : (s.at t).glk[l].since + msTk ≤ (s.at t).clk.now := by rw [at_glk h.2.2, at_now h]; exact ht
    refine ⟨fun hs => ?_, fun hs => ?_⟩
    all_goals rw [← at_glk h.2.2] at hs
    · exact ⟨_, congrArg Host.Outcome.next (if_pos ⟨hs, due⟩), failed1, net1⟩
    · exact ⟨_, congrArg Host.Outcome.next (if_pos ⟨hs, due⟩), failed5, net5⟩
  case missing =>
    intro t l s h hw ht
    obtain ⟨failed, net, others⟩ := replyMissing_waits (s := s.at t) (l := l)
      (by rw [at_glk h.2.2]; exact hw) (by rw [at_now h, at_glk h.2.2]; exact ht)
    rw [at_now h, at_rng h.2.2] at net
    rw [at_glk h.2.2] at others
    exact ⟨_, rfl, failed, net, others⟩
  case cmdMissing =>
    intro t l s h hc hb hd ht
    rw [← at_glk h.2.2] at hc hb hd
    have out := replyMissing_cmd hc hb hd (by rw [at_now h, at_glk h.2.2]; exact ht)
    exact ⟨_, congrArg Host.Outcome.next out, link_at h.2.2 (modLink_glk ..)⟩
  case lost =>
    intro t l s h hs
    have lost := linkLost_at h hs
    rw [← at_glk h.2.2] at hs
    refine ⟨fun ht => ?_, ⟨_, rfl, lost 1⟩, _, rfl, lost 2⟩
    have silent : (s.at t).glk[l].lastStatus + 48000 ≤ (s.at t).clk.now := by
      rw [at_glk h.2.2, at_now h]; exact ht
    exact ⟨_, congrArg Host.Outcome.next (if_pos silent), lost 0⟩
  case retrain =>
    intro t l g s h hg
    have glk := retrain_glk ((linkGroup_congr (at_regs h.2.2) l).trans hg)
    rw [← watchRows_glk] at glk
    obtain ⟨link, others⟩ := link_at h.2.2 glk
    refine ⟨_, rfl, ?_, ?_, others⟩
    · rw [link]; rfl
    · rw [link]; exact at_now h

end Sys2Proof.Machine
end

section
/-!
PROOFS. The gate scheduler: periods, conversion of commits and leases (R159 to R172, R300).
-/

namespace Sys2Proof.Machine

open Sys2Proof

/-! ### Walks over a list -/

/-- What no step of a walk changes, the walk leaves. -/
theorem each_keeps {ι α : Type} (f : State → α) {step : State → ι → State} :
    ∀ (l : List ι) (s : State), (∀ x ∈ l, ∀ u, f (step u x) = f u) → f (s.each l step) = f s
  | [], _, _ => rfl
  | x :: l, s, h => (each_keeps f l (step s x) fun y hy => h y (List.mem_cons_of_mem x hy)).trans
      (h x List.mem_cons_self s)

/-- What one step of a walk makes of a value that the other steps leave. -/
theorem each_makes {ι α : Type} (f : State → α) {step : State → ι → State} {x : ι} {v : α}
    (l : List ι) (s : State) (nd : l.Nodup) (hx : x ∈ l) (hmake : ∀ u, f u = f s → f (step u x) = v)
    (hkeep : ∀ y ∈ l, y ≠ x → ∀ u, f (step u y) = f u) : f (s.each l step) = v := by
  induction l generalizing s with
  | nil => exact absurd hx List.not_mem_nil
  | cons y l ih =>
    obtain ⟨fresh, nd⟩ := List.nodup_cons.1 nd
    have rest : ∀ z ∈ l, z ≠ x → ∀ u, f (step u z) = f u :=
      fun z hz => hkeep z (List.mem_cons_of_mem y hz)
    by_cases e : y = x
    · have kept : f ((step s y).each l step) = f (step s y) :=
        each_keeps f l (step s y) fun z hz => rest z hz fun ez => fresh (by rw [e, ← ez]; exact hz)
      exact kept.trans (by rw [e]; exact hmake s rfl)
    · have same : f (step s y) = f s := hkeep y List.mem_cons_self e s
      exact ih (step s y) nd ((List.mem_cons.1 hx).resolve_left fun h => e h.symm)
        (fun u hu => hmake u (hu.trans same)) rest

/-! ### Groups, legs and links under an update -/

theorem modLink_other (s : State) {l k : Fin 12} (f : Link → Link) (h : k ≠ l) :
    (s.modLink l f).glk[k] = s.glk[k] := vupd_other _ _ _ _ h

theorem modLink_keeps {α : Type} (f : Link → α) (s : State) (l k : Fin 12) {g : Link → Link}
    (h : ∀ x, f (g x) = f x) : f (s.modLink l g).glk[k] = f s.glk[k] := by
  by_cases e : k = l
  · subst e; rw [modLink_link]; exact h _
  · rw [modLink_other s g e]

theorem modGroup_g (s : State) (g : Fin 4) (f : Group → Group) :
    (s.modGroup g f).gsc.g = vupd s.gsc.g g f := rfl

theorem modLeg_same (s : State) (l : Fin 24) (f : Leg → Leg) : (s.modLeg l f).gsc.leg[l] = f s.gsc.leg[l] :=
  vupd_fin _ _ _

theorem modLeg_other (s : State) {l k : Fin 24} (f : Leg → Leg) (h : k ≠ l) :
    (s.modLeg l f).gsc.leg[k] = s.gsc.leg[k] := vupd_other _ _ _ _ h

/-! ### What a conversion reads: neither the clock nor the commits that wait -/

/-- The state with another clock and the commits `cs` waiting in group g. -/
def State.popped (s : State) (k : Clk) (g : Fin 4) (cs : List Commit) : State := { s with
  clk := k, gsc := { s.gsc with g := vupd s.gsc.g g fun q => { q with commits := cs } } }

section
variable (s : State) (k : Clk) (g : Fin 4) (cs : List Commit) (c : Commit)

theorem popped_group : (s.popped k g cs).gsc.g[g] = { s.gsc.g[g] with commits := cs } := vupd_fin _ _ _

theorem commitTarget_popped : commitTarget (s.popped k g cs) g c = commitTarget s g c := by
  have written : writtenPeriod (s.popped k g cs) g = writtenPeriod s g := by
    unfold writtenPeriod; rw [popped_group]
  have period : periodOf (s.popped k g cs) g = periodOf s g := by unfold periodOf; rw [popped_group]
  have next : nextStart (s.popped k g cs) g = nextStart s g := by
    unfold nextStart phaseOf; rw [popped_group, period]
  have start (t : Nat) : periodStart (s.popped k g cs) g t = periodStart s g t := by
    unfold periodStart; rw [popped_group, next, written]
  have update : updateOf (s.popped k g cs) g = updateOf s g := rfl
  unfold commitTarget targetOf
  rw [next, period, written, start, update]

theorem targetAgain_popped : targetAgain (s.popped k g cs) g c = targetAgain s g c := by
  unfold targetAgain
  rw [commitTarget_popped, popped_group]

theorem legSent_popped (l : Fin 24) : legSent (s.popped k g cs) g c l = legSent s g c l := by
  unfold legSent
  rw [targetAgain_popped, commitTarget_popped]
  rfl

theorem plansOf_popped : plansOf (s.popped k g cs) g c = plansOf s g c := by
  unfold plansOf
  simp only [legSent_popped, targetAgain_popped, commitTarget_popped, popped_group]
  rfl

theorem commitEdges_popped : commitEdges (s.popped k g cs) g c = commitEdges s g c := by
  unfold commitEdges
  rw [plansOf_popped]
  rfl

theorem legsRetaken_popped : legsRetaken (s.popped k g cs) g c = legsRetaken s g c := by
  unfold legsRetaken
  simp only [targetAgain_popped, legSent_popped]
  rfl

end

/-! ### The steps of a conversion (R161 to R168) -/

theorem vupd_id {α : Type} {n : Nat} {v : Vector α n} {i : Fin n} {f : α → α} (h : f v[i] = v[i]) :
    vupd v i f = v := (congrArg (v.set i · i.isLt) h).trans (Vector.set_getElem_self _)

/-- A group that a commit drives. -/
def Group.driven (k : Group) : Group :=
  { k with state := if k.state = .opened then .driven else k.state }

theorem serveArm_queue (s : State) (l k : Fin 12) : (s.serveArm l).glk[k].queue = s.glk[k].queue := by
  unfold State.serveArm
  split
  · have sent : (s.sendNext l (linkFrame 4 0 [])).glk[k].queue = s.glk[k].queue :=
      modLink_keeps Link.queue _ _ _ fun _ => rfl
    rw [← sent]
    exact modLink_keeps Link.queue _ _ _ fun _ => rfl
  · rfl

/-- The commit of an OPEN group makes it DRIVEN, and no leg changes by it (R172). -/
theorem drive_gsc (s : State) (g : Fin 4) :
    (s.drive g).gsc = { s.gsc with g := vupd s.gsc.g g Group.driven } := by
  unfold State.drive
  split
  · rename_i opened
    have group : vupd s.gsc.g g Group.driven = vupd s.gsc.g g fun k => { k with state := .driven } :=
      vupd_congr (by unfold Group.driven; rw [if_pos opened])
    generalize hu : s.each (linksOf s g) _ = u
    have gsc : u.gsc = s.gsc := by
      rw [← hu]
      exact area_each s _ _ (p := .gsc) fun x l =>
        (State.serveArm_area _ l (p := .gsc) (by decide)).trans (State.modLink_area x l _ (by decide))
    rw [group, ← gsc]
    rfl
  · rename_i other
    have group : vupd s.gsc.g g Group.driven = s.gsc.g := vupd_id (by unfold Group.driven; rw [if_neg other])
    rw [group]

/-- ARM to the hubs of a group takes nothing from the queues. -/
theorem drive_queue (s : State) (g : Fin 4) (l : Fin 12) : (s.drive g).glk[l].queue = s.glk[l].queue := by
  unfold State.drive
  split
  · exact each_keeps (fun x : State => x.glk[l].queue) _ s fun i _ x =>
      (serveArm_queue _ i l).trans (modLink_keeps Link.queue x i l fun _ => rfl)
  · rfl

/-- Each link gets the queue that the commit makes of its own. -/
theorem enqueue_queue (s : State) (g : Fin 4) (epoch : Word32) (interval : Nat) (legs : List Nat)
    (cs : List ChanEdge) (l : Fin 12) : (s.enqueue g epoch interval legs cs).glk[l].queue =
      queueWith g epoch interval l cs (withoutParts legs interval s.glk[l].queue) := by
  have notices (u : State) (ts : List Nat) : (ts.foldl (fun s t => s.notice g t) u).glk = u.glk :=
    area_foldl _ (fun x t => State.notice_area x g t (p := .glk) (by decide)) ts u
  have member : l ∈ all12 := by revert l; decide
  refine each_makes (fun u : State => u.glk[l].queue) all12 s (by decide) member (fun u hu => ?_)
    fun k _ hk u => ?_
  · dsimp only at hu ⊢
    rw [modLink_link, hu]
  · dsimp only
    rw [modLink_other _ _ (Ne.symm hk), notices]

/-- The tracked state that a plan leaves. -/
def LegPlan.tracked (p : LegPlan) : Nat := (p.trans.getLast?.map (·.next)).getD p.base

theorem applyPlan_tracked (s : State) (p : LegPlan) : (s.applyPlan p).gsc.leg[p.leg].tracked = p.tracked := by
  unfold State.applyPlan LegPlan.tracked
  rw [modLeg_same]
  cases p.trans.getLast? <;> rfl

theorem applyPlan_other (s : State) {p : LegPlan} {l : Fin 24} (h : l ≠ p.leg) :
    (s.applyPlan p).gsc.leg[l] = s.gsc.leg[l] := modLeg_other _ _ h

/-- The plan that commit c makes for leg l, if it sets that leg. -/
def planOf (s : State) (g : Fin 4) (c : Commit) (l : Fin 24) : Option LegPlan :=
  if legSent s g c l then none
  else ((newDuties s.gsc.g[g] c.slots).getD (gscLegSlot s l) none).map fun d =>
    planLeg s g c.earliest (targetAgain s g c) (commitTarget s g c) l d.toNat

theorem plansOf_eq (s : State) (g : Fin 4) (c : Commit) :
    plansOf s g c = (all24.filter fun l => legIn s g l).filterMap (planOf s g c) := rfl

theorem planOf_leg {s : State} {g : Fin 4} {c : Commit} {l : Fin 24} {p : LegPlan}
    (h : planOf s g c l = some p) : p.leg = l := by
  unfold planOf at h
  split at h
  · cases h
  · obtain ⟨d, -, rfl⟩ := Option.map_eq_some_iff.1 h
    rfl

/-- A plan of commit c is the one of its leg, which belongs to the group. -/
theorem mem_plansOf {s : State} {g : Fin 4} {c : Commit} {p : LegPlan} (h : p ∈ plansOf s g c) :
    legIn s g p.leg = true ∧ planOf s g c p.leg = some p := by
  rw [plansOf_eq] at h
  obtain ⟨l, hl, hp⟩ := List.mem_filterMap.1 h
  rw [planOf_leg hp]
  exact ⟨(List.mem_filter.1 hl).2, hp⟩

theorem plansOf_nodup (s : State) (g : Fin 4) (c : Commit) : (plansOf s g c).Nodup := by
  have legs : all24.Nodup := by decide
  rw [plansOf_eq]
  refine List.Pairwise.filterMap _ (fun l k other p hp q hq same => ?_) (List.Pairwise.filter _ legs)
  exact other (by rw [← planOf_leg hp, ← planOf_leg hq, same])

theorem plansOf_leg_injective {s : State} {g : Fin 4} {c : Commit} {p q : LegPlan} (hp : p ∈ plansOf s g c)
    (hq : q ∈ plansOf s g c) (h : p.leg = q.leg) : p = q := by
  have leg := (mem_plansOf hp).2
  rw [h, (mem_plansOf hq).2] at leg
  exact (Option.some.inj leg).symm

theorem reportLate_gsc (s : State) (g : Fin 4) (late : Nat) : (s.reportLate g late).gsc =
    { s.gsc with g := vupd s.gsc.g g fun k => { k with
      lateLast := min late 65535, lateMax := max k.lateMax (min late 65535) } } := by
  unfold State.reportLate
  refine area_ite (p := .gsc) ?_ ?_
  · refine (State.tally_area _ 57 (p := .gsc) (by decide)).trans ?_
    exact area_each _ _ _ (p := .gsc) fun x e => State.ceWrite_area x e _ _ (p := .gsc) (by decide)
  · exact area_each _ _ _ (p := .gsc) fun x e => State.ceWrite_area x e _ _ (p := .gsc) (by decide)

/-! ### The conversion of a commit -/

/-- The first link without room for the entries of commit c. -/
def fullLink (s : State) (g : Fin 4) (c : Commit) : Option (Fin 12) :=
  firstFull s g c.epoch (commitTarget s g c).start (legsRetaken s g c) (commitEdges s g c)

theorem convert_stale {s : State} {g : Fin 4} {c : Commit}
    (h : s.red.tok[g].state = .revoked ∨ s.red.tok[g].epoch ≠ c.epoch) : s.convert g c = s := if_pos h

/-- The epoch of commit c stands. -/
def commitFresh (s : State) (g : Fin 4) (c : Commit) : Prop :=
  s.red.tok[g].state ≠ .revoked ∧ s.red.tok[g].epoch = c.epoch

theorem not_stale_of_commitFresh {s : State} {g : Fin 4} {c : Commit} (h : commitFresh s g c) :
    ¬(s.red.tok[g].state = .revoked ∨ s.red.tok[g].epoch ≠ c.epoch) :=
  not_or.2 ⟨h.1, not_not_intro h.2⟩

theorem convert_full {s : State} {g : Fin 4} {c : Commit} {l : Fin 12} (h : commitFresh s g c)
    (hf : fullLink s g c = some l) :
    s.convert g c = s.refuseCommit g c.engine l := by
  unfold fullLink at hf
  unfold State.convert
  simp only [if_neg (not_stale_of_commitFresh h), hf]

/-- The counters of removed pairs and of legs that keep their entries move on, and where the interval is new to
the group, the legs note how they stand before it (R166). -/
def State.begun (s : State) (g : Fin 4) (c : Commit) : State :=
  let legs := all24.filter fun l => legIn s g l
  let u := (s.tallyBy 61 (legs.filter fun l => legSent s g c l).length).tallyBy 60
    ((plansOf s g c).map (·.removed)).sum
  if targetAgain s g c then u else u.each legs fun u l =>
    u.modLeg l fun k => { k with before := k.tracked, beforeLast := k.last }

/-- The entries of commit c are queued. -/
def State.queued (s : State) (g : Fin 4) (c : Commit) : State :=
  (((s.begun g c).modGroup g fun k => { k with
    target := some (commitTarget s g c).start, duty := newDuties s.gsc.g[g] c.slots }).drive g).enqueue
      g c.epoch (commitTarget s g c).start (legsRetaken s g c) (commitEdges s g c)

/-- The plans of commit c have taken effect and its lateness is reported. -/
def State.planned (s : State) (g : Fin 4) (c : Commit) : State :=
  ((s.queued g c).each (plansOf s g c) State.applyPlan).reportLate g
    (((plansOf s g c).map fun p => worstLate p.trans).foldl max 0)

theorem convert_room {s : State} {g : Fin 4} {c : Commit} (h : commitFresh s g c)
    (hf : fullLink s g c = none) :
    s.convert g c =
      let u := s.planned g c
      if u.rng.test.step = 3 ∧ u.rng.test.first = none ∧ g.val < 2 then
        { u with rng := { u.rng with test := { u.rng.test with first := some c.tick } } }
      else u := by
  unfold fullLink at hf
  unfold State.convert
  simp only [if_neg (not_stale_of_commitFresh h), hf]
  rfl

theorem convert_room_area {s : State} {g : Fin 4} {c : Commit} {p : Area} (hp : p ∉ [Area.rng])
    (h : commitFresh s g c)
    (hf : fullLink s g c = none) :
    area (s.convert g c) p = area (s.planned g c) p := by
  rw [convert_room h hf]
  exact area_ite (area_rng hp (by decide)) rfl

theorem begun_spec (s : State) (g : Fin 4) (c : Commit) :
    (s.begun g c).gsc.g = s.gsc.g ∧ (s.begun g c).glk = s.glk ∧
    ∀ l : Fin 24, legIn s g l = false → (s.begun g c).gsc.leg[l] = s.gsc.leg[l] := by
  unfold State.begun
  dsimp only
  generalize hu : (s.tallyBy 61 _).tallyBy 60 _ = u
  have gsc : u.gsc = s.gsc := by rw [← hu, tallyBy_gsc, tallyBy_gsc]
  have glk : u.glk = s.glk := by rw [← hu, tallyBy_glk, tallyBy_glk]
  rw [← gsc, ← glk]
  split
  · exact ⟨rfl, rfl, fun _ _ => rfl⟩
  · refine ⟨each_keeps (fun x => x.gsc.g) _ u fun _ _ _ => rfl,
      each_keeps (fun x => x.glk) _ u fun _ _ _ => rfl,
      fun l hl => each_keeps (fun x => x.gsc.leg[l]) _ u fun k hk x => modLeg_other x _ ?_⟩
    rintro rfl
    exact absurd (List.mem_filter.1 hk).2 (by rw [hl]; exact Bool.false_ne_true)

/-- A group with commit c converted. -/
def Group.converted (k : Group) (start : Nat) (duty : Vector (Option Word24) 16) (late : Nat) : Group :=
  { k with
    target := some start, duty := duty, state := if k.state = .opened then .driven else k.state
    lateLast := min late 65535, lateMax := max k.lateMax (min late 65535) }

theorem queued_gsc (s : State) (g : Fin 4) (c : Commit) : (s.queued g c).gsc = { (s.begun g c).gsc with
    g := vupd s.gsc.g g fun k => Group.driven { k with
      target := some (commitTarget s g c).start, duty := newDuties s.gsc.g[g] c.slots } } := by
  refine (State.enqueue_area _ _ _ _ _ _ (p := .gsc) (by decide)).trans ?_
  obtain ⟨groups, -, -⟩ := begun_spec s g c
  refine (drive_gsc _ g).trans ?_
  rw [modGroup_g, vupd_vupd, groups]
  rfl

theorem queued_queue (s : State) (g : Fin 4) (c : Commit) (l : Fin 12) : (s.queued g c).glk[l].queue =
    queueWith g c.epoch (commitTarget s g c).start l (commitEdges s g c)
      (withoutParts (legsRetaken s g c) (commitTarget s g c).start s.glk[l].queue) := by
  obtain ⟨-, glk, -⟩ := begun_spec s g c
  unfold State.queued
  rw [enqueue_queue, drive_queue, ← glk]
  rfl

theorem planned_groups (s : State) (g : Fin 4) (c : Commit) : ∃ late, (s.planned g c).gsc.g =
    vupd s.gsc.g g fun k => k.converted (commitTarget s g c).start (newDuties s.gsc.g[g] c.slots) late := by
  have plans : ((s.queued g c).each (plansOf s g c) State.applyPlan).gsc.g = (s.queued g c).gsc.g :=
    each_keeps (fun x => x.gsc.g) _ _ fun _ _ _ => rfl
  refine ⟨((plansOf s g c).map fun p => worstLate p.trans).foldl max 0, ?_⟩
  unfold State.planned
  rw [reportLate_gsc]
  dsimp only
  rw [plans, queued_gsc, vupd_vupd]
  rfl

theorem planned_glk (s : State) (g : Fin 4) (c : Commit) : (s.planned g c).glk = (s.queued g c).glk :=
  (State.reportLate_area _ _ _ (p := .glk) (by decide)).trans
    (area_each _ _ _ (p := .glk) fun x p => State.applyPlan_area x p (p := .glk) (by decide))

theorem planned_leg (s : State) (g : Fin 4) (c : Commit) :
    (s.planned g c).gsc.leg = ((s.queued g c).each (plansOf s g c) State.applyPlan).gsc.leg := by
  unfold State.planned
  rw [reportLate_gsc]

/-- The plans of the commit settle the tracked states of their legs. -/
theorem planned_tracked {s : State} {g : Fin 4} {c : Commit} {p : LegPlan} (h : p ∈ plansOf s g c) :
    (s.planned g c).gsc.leg[p.leg].tracked = p.tracked := by
  rw [planned_leg]
  exact each_makes (fun x => x.gsc.leg[p.leg].tracked) _ _ (plansOf_nodup s g c) h
    (fun x _ => applyPlan_tracked x p) fun q hq hne x => congrArg Leg.tracked
      (applyPlan_other x fun e => hne (plansOf_leg_injective hq h e.symm))

theorem planned_leg_outside {s : State} {g : Fin 4} (c : Commit) {l : Fin 24} (h : legIn s g l = false) :
    (s.planned g c).gsc.leg[l] = s.gsc.leg[l] := by
  have plans : ((s.queued g c).each (plansOf s g c) State.applyPlan).gsc.leg[l] = (s.queued g c).gsc.leg[l] :=
    each_keeps (fun x => x.gsc.leg[l]) _ _ fun p hp x => applyPlan_other x fun e => by
      rw [e, (mem_plansOf hp).1] at h
      cases h
  obtain ⟨-, -, outside⟩ := begun_spec s g c
  rw [planned_leg, plans, queued_gsc]
  exact outside l h

theorem refuseCommit_tal (s : State) (g : Fin 4) (e : Fin 8) (cause : Nat) :
    (s.refuseCommit g e cause).tal[58] = s.tal[58] + 1 :=
  (record_tal _ _ _ _ _ _ (by decide)).trans (tallyBy_same _ _ _)

/-- What a conversion with room for its entries leaves. -/
theorem convert_room_spec {s : State} {g : Fin 4} {c : Commit} (h : commitFresh s g c)
    (hf : fullLink s g c = none) :
    (∃ late, (s.convert g c).gsc.g = vupd s.gsc.g g fun k =>
      k.converted (commitTarget s g c).start (newDuties s.gsc.g[g] c.slots) late) ∧
    (∀ l : Fin 12, (s.convert g c).glk[l].queue =
      queueWith g c.epoch (commitTarget s g c).start l (commitEdges s g c)
        (withoutParts (legsRetaken s g c) (commitTarget s g c).start s.glk[l].queue)) ∧
    (∀ p ∈ plansOf s g c, (s.convert g c).gsc.leg[p.leg].tracked = p.tracked) ∧
    ∀ l : Fin 24, legIn s g l = false → (s.convert g c).gsc.leg[l] = s.gsc.leg[l] := by
  have gsc : (s.convert g c).gsc = (s.planned g c).gsc := convert_room_area (p := .gsc) (by decide) h hf
  have glk : (s.convert g c).glk = (s.planned g c).glk := convert_room_area (p := .glk) (by decide) h hf
  rw [gsc, glk, planned_glk]
  exact ⟨planned_groups s g c, queued_queue s g c, fun p hp => planned_tracked hp,
    fun l hl => planned_leg_outside c hl⟩

theorem doConversion_due {s : State} {g : Fin 4} {c : Commit} {cs : List Commit}
    (h : s.gsc.g[g].commits = c :: cs) (ht : c.tick + 64 ≤ s.clk.now) :
    doConversion s g = (s.modGroup g fun k => { k with commits := cs }).convert g c := by
  unfold doConversion
  simp only [h, if_neg (Nat.not_lt.2 ht)]

theorem execCommitConversion_due {s : State} {t : Tick} {g : Fin 4} {c : Commit} {cs : List Commit}
    (h : OnTime s t) (hc : s.gsc.g[g].commits = c :: cs) (ht : c.tick + 64 ≤ t) :
    execCommitConversion t g s = .next ((s.popped (s.at t).clk g cs).convert g c) := by
  have due := doConversion_due (s := s.at t) (g := g) (by rw [at_gsc h.2.2]; exact hc)
    (by rw [at_now h]; exact ht)
  have popped : (s.at t).modGroup g (fun k => { k with commits := cs }) = s.popped (s.at t).clk g cs :=
    congrArg (State.modGroup · g _) (at_eq h.2.2)
  rw [popped] at due
  exact congrArg Host.Outcome.next due

theorem popped_others (s : State) (k : Clk) {g : Fin 4} (cs : List Commit) : ∀ j, j ≠ g →
    (s.popped k g cs).gsc.g[j] = s.gsc.g[j] := fun _ hj => vupd_other _ _ _ _ hj

theorem fullLink_popped (s : State) (k : Clk) (g : Fin 4) (cs : List Commit) (c : Commit) :
    fullLink (s.popped k g cs) g c = fullLink s g c := by
  unfold fullLink
  rw [commitTarget_popped, legsRetaken_popped, commitEdges_popped]
  rfl

/-! ### Period starts (R159) -/

theorem doCarrier_spec {s : State} {g : Fin 4} (h : periodDue s g = true) :
    (doCarrier s g).gsc = { s.gsc with g := vupd s.gsc.g g fun k => { k with
      pstart := s.clk.now, started := true, period := k.periodW, phase := k.phaseW } } ∧
    (g ≠ 3 → (doCarrier s g).dcc = s.dcc) := by
  unfold doCarrier
  rw [h, if_neg (by decide)]
  dsimp only
  generalize hu : s.modGroup g _ = u
  have gsc : u.gsc = { s.gsc with g := vupd s.gsc.g g fun k => { k with
      pstart := s.clk.now, started := true, period := k.periodW, phase := k.phaseW } } := by rw [← hu]; rfl
  have dcc : u.dcc = s.dcc := by rw [← hu]; rfl
  rw [← gsc, ← dcc]
  split
  · exact ⟨(State.periodStarts_area _ _ _ _ (p := .gsc) (by decide)).trans
      (State.dccPeriod_area _ _ (p := .gsc) (by decide)), fun other => absurd ‹g = 3› other⟩
  · exact ⟨State.periodStarts_area _ _ _ _ (p := .gsc) (by decide),
      fun _ => State.periodStarts_area _ _ _ _ (p := .dcc) (by decide)⟩

/-! ### Leases (R172, R300) -/

theorem modTok_tok (s : State) (g : Fin 4) (f : Token → Token) :
    (s.modTok g f).red.tok = vupd s.red.tok g f := rfl

theorem dropTok_tok {s : State} {g : Fin 4} (h : s.red.tok[g].handing = none) (st : TokState) :
    (s.dropTok g st).red.tok = vupd s.red.tok g fun k => { k with
      state := st, former := if k.holder.isSome then k.holder else k.former
      holder := none, fresh := false } := by
  have kept : s.cancelHand g = s := by unfold State.cancelHand; rw [h]
  unfold State.dropTok
  rw [kept]
  generalize hu : s.modTok g _ = u
  have red : (u.dropStale g).red = u.red := State.dropStale_area u g (p := .red) (by decide)
  rw [red, ← hu, modTok_tok]

/-- A token whose lease has ended. -/
def Token.lapsed (k : Token) : Token := { k with
  state := .expired, former := if k.holder.isSome then k.holder else k.former, holder := none, fresh := false
  expiredAt := k.leaseEnd, unclaimed := false }

theorem lapse_over {s : State} {g : Fin 4} {t : Nat} (hs : s.red.tok[g].state = .held)
    (ht : s.red.tok[g].leaseEnd ≤ t) (hn : s.red.tok[g].handing = none) :
    (s.lapse g t).red.tok = vupd s.red.tok g Token.lapsed := by
  have ended : leaseOver s.red.tok[g] t = true := by
    unfold leaseOver; rw [hs, decide_eq_true ht]; rfl
  unfold State.lapse State.expireTok
  dsimp only
  rw [if_pos ended, if_pos hs]
  rw [modTok_tok, modTok_tok, dropTok_tok hn, vupd_vupd, vupd_vupd]
  exact vupd_congr rfl

theorem lapse_not_held {s : State} {g : Fin 4} (t : Nat) (h : s.red.tok[g].state ≠ .held) :
    s.lapse g t = s := by
  have stands : leaseOver s.red.tok[g] t = false := by
    unfold leaseOver; rw [beq_false_of_ne h, Bool.false_and]
  unfold State.lapse
  dsimp only
  rw [stands, if_neg Bool.false_ne_true]

theorem doUnclaimed_reports {s : State} {g : Fin 4} (hs : s.red.tok[g].state = .expired)
    (hu : s.red.tok[g].unclaimed = false) (ht : s.red.tok[g].expiredAt + gscClaimWait s g ≤ s.clk.now)
    (hd : s.gsc.g[g].state = .driven) :
    (doUnclaimed s g).red.tok = (vupd s.red.tok g fun k => { k with unclaimed := true }) ∧
    (doUnclaimed s g).rng.net = s.rng.net ++ [⟨s.clk.now + 40, bGSC, 0xC0 + g.val, 3, 0, 0⟩] := by
  have due : s.red.tok[g].state = .expired ∧ (!s.red.tok[g].unclaimed) = true ∧
      s.red.tok[g].expiredAt + gscClaimWait s g ≤ s.clk.now ∧ s.gsc.g[g].state = .driven :=
    ⟨hs, by rw [hu]; rfl, ht, hd⟩
  unfold doUnclaimed
  rw [lapse_not_held _ (by rw [hs]; decide)]
  dsimp only
  rw [if_pos due]
  exact ⟨congrArg Red.tok (recordReport_red ..), recordReport_net _ _ _ _ (by decide) (by decide)⟩

/-- Settles O25: each row by what its operation makes of the state at the tick of the row. -/
theorem gateScheduler : Obligations.GateScheduler := by
  unfold Obligations.GateScheduler
  refine ⟨?period, ?stale, ?room, ?lease, ?unclaimed, ?full⟩
  case period =>
    intro t g s h hp
    obtain ⟨gsc, dcc⟩ := doCarrier_spec hp
    rw [at_gsc h.2.2, at_now h] at gsc
    rw [at_dcc h.2.2] at dcc
    refine ⟨_, rfl, ?_, fun k hk => ?_, ?_, dcc⟩
    all_goals rw [gsc]
    · exact vupd_fin _ _ _
    · exact vupd_other _ _ _ _ hk
  case stale =>
    intro t g c cs s h hc ht hs
    have next := execCommitConversion_due h hc ht
    rw [convert_stale (s := s.popped _ g cs) hs] at next
    exact ⟨_, next, popped_group .., rfl, rfl, rfl, fun k hk => popped_others _ _ _ k hk⟩
  case room =>
    intro t g c cs s h hc ht hs he hf
    have room := convert_room_spec (s := s.popped (s.at t).clk g cs) (c := c) ⟨hs, he⟩
      ((fullLink_popped ..).trans hf)
    rw [commitTarget_popped, legsRetaken_popped, commitEdges_popped, plansOf_popped, popped_group] at room
    obtain ⟨⟨late, groups⟩, queues, plans, outside⟩ := room
    refine ⟨_, execCommitConversion_due h hc ht, ?_, ?_, ?_, ?_, queues, plans, outside, fun k hk => ?_⟩
    any_goals rw [groups, vupd_fin, popped_group]
    any_goals rfl
    · rw [groups]
      exact (vupd_other _ _ _ _ hk).trans (popped_others _ _ _ k hk)
  case lease =>
    intro t g s h hs ht hn
    rw [← at_red h.2.2] at hs ht hn
    have tok := lapse_over (t := (s.at t).clk.now) hs (by rw [at_now h]; exact ht) hn
    rw [at_red h.2.2] at tok
    refine ⟨_, rfl, ?_, ?_, ?_, fun k hk => ?_⟩
    any_goals rw [tok, vupd_fin]
    any_goals rfl
    · rw [tok]; exact vupd_other _ _ _ _ hk
  case unclaimed =>
    intro t g s h hs hu ht hd
    have wait : gscClaimWait (s.at t) g = gscClaimWait s g := at_reads h.2.2 (gscClaimWait · g) fun _ => rfl
    obtain ⟨tok, net⟩ := doUnclaimed_reports (s := s.at t) (g := g) (by rw [at_red h.2.2]; exact hs)
      (by rw [at_red h.2.2]; exact hu) (by rw [at_red h.2.2, wait, at_now h]; exact ht)
      (by rw [at_gsc h.2.2]; exact hd)
    rw [at_red h.2.2] at tok
    rw [at_rng h.2.2, at_now h] at net
    refine ⟨_, rfl, ?_, net, fun k hk => ?_⟩
    · rw [tok, vupd_fin]
    · rw [tok]; exact vupd_other _ _ _ _ hk
  case full =>
    intro t g c cs l s h hc ht hs he hf
    have next := execCommitConversion_due h hc ht
    rw [convert_full (s := s.popped _ g cs) ⟨hs, he⟩ ((fullLink_popped ..).trans hf)] at next
    have gsc : ((s.popped (s.at t).clk g cs).refuseCommit g c.engine l).gsc = (s.popped (s.at t).clk g cs).gsc :=
      State.refuseCommit_area _ _ _ _ (p := .gsc) (by decide)
    have leg : ((s.popped (s.at t).clk g cs).refuseCommit g c.engine l).gsc.leg = s.gsc.leg := by rw [gsc]; rfl
    refine ⟨_, next, ?_, leg, State.refuseCommit_area _ _ _ _ (p := .glk) (by decide),
      refuseCommit_tal ..⟩
    exact (congrArg (fun x : Gsc => x.g[g]) gsc).trans (popped_group ..)

end Sys2Proof.Machine
end

section
/-!
PROOFS. The auxiliary bridges: bootstrap supplies and supply ranges (R207 to R211).
-/

namespace Sys2Proof.Machine

open Sys2Proof

/-! ### Bridges and phases: what an update leaves in each of them -/

theorem modAxb_b (s : State) (b : Fin 3) (f : Bridge → Bridge) :
    (s.modAxb b f).axb.b = vupd s.axb.b b f := rfl

theorem modAxb_bridge (s : State) (b : Fin 3) (f : Bridge → Bridge) :
    (s.modAxb b f).axb.b[b] = f s.axb.b[b] := vupd_fin _ _ _

theorem modAxb_other (s : State) {b k : Fin 3} (f : Bridge → Bridge) (h : k ≠ b) :
    (s.modAxb b f).axb.b[k] = s.axb.b[k] := vupd_other _ _ _ _ h

/-- A bridge is changed twice. -/
theorem modAxb_modAxb (s : State) (b : Fin 3) (f g : Bridge → Bridge) :
    (s.modAxb b f).modAxb b g = s.modAxb b fun k => g (f k) := by
  unfold State.modAxb
  dsimp only
  rw [vupd_vupd]

/-- A change of bridge b at tick t, told of the state before t. -/
theorem bridge_at {s u : State} {t : Tick} {b : Fin 3} {f : Bridge → Bridge} (h : Quiet s t)
    (hu : u.axb.b = vupd (s.at t).axb.b b f) :
    u.axb.b[b] = f s.axb.b[b] ∧ ∀ k, k ≠ b → u.axb.b[k] = s.axb.b[k] := by
  rw [at_axb h] at hu
  exact ⟨by rw [hu, vupd_fin], fun k hk => by rw [hu]; exact vupd_other _ _ _ _ hk⟩

/-- Phase p of a bridge changed by `f`. -/
def Bridge.onPhase (k : Bridge) (p : Fin 3) (f : Phase → Phase) : Bridge :=
  { k with phase := vupd k.phase p f }

theorem onPhase_id {k : Bridge} {p : Fin 3} {f : Phase → Phase} (h : f k.phase[p] = k.phase[p]) :
    k.onPhase p f = k := by
  unfold Bridge.onPhase
  rw [vupd_id h]

theorem modPh_b (s : State) (b p : Fin 3) (f : Phase → Phase) :
    (s.modPh b p f).axb.b = vupd s.axb.b b (·.onPhase p f) := rfl

theorem modPh_bridge (s : State) (b p : Fin 3) (f : Phase → Phase) :
    (s.modPh b p f).axb.b[b] = s.axb.b[b].onPhase p f := modAxb_bridge s b _

/-- A change of one phase alone. -/
theorem phases_of {v w : Vector Phase 3} {p : Fin 3} {f : Phase → Phase} (h : w = vupd v p f) :
    w[p] = f v[p] ∧ ∀ q, q ≠ p → w[q] = v[q] :=
  ⟨by rw [h, vupd_fin], fun q hq => by rw [h]; exact vupd_other _ _ _ _ hq⟩

/-- A change of phase p of bridge b at tick t, told of the state before t. -/
theorem phase_at {s u : State} {t : Tick} {b p : Fin 3} {f : Phase → Phase} (h : Quiet s t)
    (hu : u.axb.b = vupd (s.at t).axb.b b (·.onPhase p f)) :
    u.axb.b[b].phase[p] = f s.axb.b[b].phase[p] ∧
    (∀ q, q ≠ p → u.axb.b[b].phase[q] = s.axb.b[b].phase[q]) ∧
    ∀ k, k ≠ b → u.axb.b[k] = s.axb.b[k] := by
  obtain ⟨bridge, others⟩ := bridge_at h hu
  obtain ⟨phase, phases⟩ := phases_of (congrArg Bridge.phase bridge)
  exact ⟨phase, phases, others⟩

/-! ### Bootstrap supplies (R207, R209) -/

theorem doBootHigh_above {s : State} {b : Fin 3} {v : Nat} (p : Fin 3)
    (h : axbBootLowThr s b + axbBootHyst s b < v) :
    doBootHigh s b p v = s.modPh b p fun k => { k with bootLow := false } := if_pos h

theorem bootLowAt_fresh {s : State} {b p : Fin 3} (v : Nat) (h : s.axb.b[b].phase[p].bootLow = false) :
    s.bootLowAt b p v = ((s.modPh b p fun k => { k with bootLow := true }).tally 73).record bAXB (0xC0 + b) 2
      (p.val + put (v % 256) 8) := if_neg (by rw [h]; exact Bool.false_ne_true)

/-- Where BOOT_LOW is set already, to set it changes nothing. -/
theorem bootLow_set {k : Phase} (h : k.bootLow = true) : { k with bootLow := true } = k := by
  rw [← h]

/-- BOOT_LOW of the phase is set afterwards, fresh or not. -/
theorem bootLowAt_b (s : State) (b p : Fin 3) (v : Nat) : (s.bootLowAt b p v).axb.b =
    vupd s.axb.b b (·.onPhase p fun k => { k with bootLow := true }) := by
  by_cases h : s.axb.b[b].phase[p].bootLow = true
  · unfold State.bootLowAt
    rw [if_pos h]
    exact (vupd_id (onPhase_id (bootLow_set h))).symm
  · rw [bootLowAt_fresh v (Bool.not_eq_true _ ▸ h), record_axb, tally_axb]
    exact modPh_b ..

theorem bootLowAt_bridge (s : State) (b p : Fin 3) (v : Nat) : (s.bootLowAt b p v).axb.b[b] =
    s.axb.b[b].onPhase p fun k => { k with bootLow := true } := by
  rw [bootLowAt_b, vupd_fin]

theorem bootLowAt_tal (s : State) (b p : Fin 3) (v : Nat) {m : Nat} (hm : m < 137) (h : m ≠ 73) :
    (s.bootLowAt b p v).tal[m] = s.tal[m] := by
  unfold State.bootLowAt
  split
  · rfl
  · exact (record_tal _ _ _ _ _ _ hm).trans (tallyBy_other _ h.symm _)

/-- A phase whose supply falls below UVLO on tick t while its high side is on, before BOOT_LOW is looked at. -/
def Phase.lockedOut (k : Phase) (t : Nat) : Phase :=
  { k with uvlo := true, hold := true }.setGate true false t

/-- The high side of a phase turns off by the loss of its supply. -/
def State.highLost (s : State) (b p : Fin 3) : State :=
  (s.modPh b p fun k => { k with uvlo := true, hold := true }).gateEdge b p true false s.clk.power

theorem highLost_phase (s : State) (b p : Fin 3) :
    (s.highLost b p).axb.b[b].phase = vupd s.axb.b[b].phase p (·.lockedOut s.clk.power) := by
  unfold State.highLost State.gateEdge
  dsimp only
  rw [modAxb_bridge, modPh_bridge]
  exact vupd_vupd s.axb.b[b].phase p _ fun k => k.setGate true false s.clk.power

/-- The supply of a phase is lost, and BOOT_LOW set if it is not yet. -/
def State.lostLow (s : State) (b p : Fin 3) : State :=
  if s.axb.b[b].phase[p].bootLow then s.highLost b p
  else (s.highLost b p).draw.1.bootLowAt b p (s.highLost b p).draw.2

theorem lostLow_phase (s : State) (b p : Fin 3) :
    (s.lostLow b p).axb.b[b].phase =
      vupd s.axb.b[b].phase p fun k => { k.lockedOut s.clk.power with bootLow := true } := by
  have low : (s.lostLow b p).axb.b[b].phase =
      vupd (s.highLost b p).axb.b[b].phase p fun k => { k with bootLow := true } := by
    unfold State.lostLow
    split
    · rename_i set
      refine (vupd_id (bootLow_set ?_)).symm
      rw [highLost_phase, vupd_fin]
      exact set
    · exact congrArg Bridge.phase (bootLowAt_bridge (s.highLost b p).draw.1 b p _)
  rw [low, highLost_phase, vupd_vupd]

theorem lostLow_tal (s : State) (b p : Fin 3) : (s.lostLow b p).tal[72] = s.tal[72] := by
  unfold State.lostLow
  split
  · rfl
  · exact bootLowAt_tal _ _ _ _ (by decide) (by decide)

theorem doUvlo_on {s : State} {b p : Fin 3} (hu : s.axb.b[b].phase[p].uvlo = false)
    (hg : s.axb.b[b].phase[p].gh = true) :
    doUvlo s b p = ((s.lostLow b p).tally 72).record bAXB (0xC0 + b) 1 p := by
  unfold doUvlo
  simp only [hu, hg, Bool.not_true, Bool.false_eq_true, if_false]
  rfl

theorem doUvlo_spec {s : State} {b p : Fin 3} (hu : s.axb.b[b].phase[p].uvlo = false)
    (hg : s.axb.b[b].phase[p].gh = true) :
    (doUvlo s b p).axb.b[b].phase =
      (vupd s.axb.b[b].phase p fun k => { k.lockedOut s.clk.power with bootLow := true }) ∧
    (doUvlo s b p).tal[72] = s.tal[72] + 1 := by
  rw [doUvlo_on hu hg, ← lostLow_tal s b p, record_axb, tally_axb]
  exact ⟨lostLow_phase s b p, (tallyRecord_spec _ (by decide) _ _ _ _).2⟩

/-! ### Supply ranges (R211) -/

/-- The watch over causes leaves the reports on the fault network. -/
theorem watchRows_net (s : State) : s.watchRows.rng.net = s.rng.net := rfl

theorem doVs_bad {s : State} {b : Fin 3} {v : Nat} (he : axbCtlEn s b = true) (hb : s.axb.b[b].vsBad = false)
    (hv : v < axbVsVsMin s b ∨ axbVsVsMax s b < v) :
    (doVs s b true v).axb.b = (vupd s.axb.b b fun k => { k with vsBad := true }) ∧
    (doVs s b true v).rng.net = s.rng.net ++ [⟨s.clk.now + 40, bAXB, 0xC0 + b.val, 9, 0, 0⟩] := by
  have found : doVs s b true v =
      ((s.modAxb b fun k => { k with vsBad := true }).recordReport bAXB (0xC0 + b) 9 v).watchRows := by
    have out : (decide (v < axbVsVsMin s b) || decide (axbVsVsMax s b < v)) = true := by simpa using hv
    exact if_neg (by rw [he, hb, out]; decide)
  rw [found, watchRows_axb, recordReport_axb, watchRows_net]
  exact ⟨modAxb_b .., recordReport_net _ _ _ _ (by decide) (by decide)⟩

theorem doVs_good {s : State} {b : Fin 3} {v : Nat} (he : axbCtlEn s b = true) (hb : s.axb.b[b].vsBad = true)
    (hl : axbVsVsMin s b ≤ v) (hu : v ≤ axbVsVsMax s b) :
    (doVs s b false v).axb.b = (vupd s.axb.b b fun k => { k with vsBad := false }) ∧
    (doVs s b false v).rng.net = s.rng.net := by
  have found : doVs s b false v =
      ((s.modAxb b fun k => { k with vsBad := false }).record bAXB (0xC0 + b) 10 v).watchRows := by
    have inside : (decide (v < axbVsVsMin s b) || decide (axbVsVsMax s b < v)) = false := by
      rw [decide_eq_false (Nat.not_lt.2 hl), decide_eq_false (Nat.not_lt.2 hu), Bool.or_self]
    exact if_neg (by rw [he, hb, inside]; decide)
  rw [found, watchRows_axb, record_axb, watchRows_net, record_rng]
  exact ⟨modAxb_b .., rfl⟩

theorem doVdrv_low {s : State} (v : Nat) (h : s.axb.vdrvLow = false) :
    (doVdrv s true v).axb = { s.axb with vdrvLow := true } ∧
    (doVdrv s true v).rng.net = s.rng.net ++ [⟨s.clk.now + 40, bAXB, 0xFF, 11, 0, 0⟩] := by
  have found : doVdrv s true v =
      (State.recordReport { s with axb := { s.axb with vdrvLow := true } } bAXB 0xFF 11 v).watchRows :=
    if_neg (by rw [h]; decide)
  rw [found, watchRows_axb, recordReport_axb, watchRows_net]
  exact ⟨rfl, recordReport_net _ _ _ _ (by decide) (by decide)⟩

theorem doVdrv_good {s : State} (v : Nat) (h : s.axb.vdrvLow = true) :
    (doVdrv s false v).axb = { s.axb with vdrvLow := false } ∧ (doVdrv s false v).rng.net = s.rng.net := by
  have found : doVdrv s false v =
      (State.record { s with axb := { s.axb with vdrvLow := false } } bAXB 0xFF 12 v).watchRows :=
    if_neg (by rw [h]; decide)
  rw [found, watchRows_axb, record_axb, watchRows_net, record_rng]
  exact ⟨rfl, rfl⟩

/-- Settles O38: each row by what its operation makes of the bridge at the tick of the row. -/
theorem bridgeSupplies : Obligations.BridgeSupplies := by
  unfold Obligations.BridgeSupplies
  refine ⟨?above, ?below, ?lockout, ?range, ?driver⟩
  case above =>
    intro t b p v s h
    refine ⟨fun hv => ?_, _, rfl, phase_at h (modPh_b ..)⟩
    have high : axbBootLowThr (s.at t) b + axbBootHyst (s.at t) b < v := by
      rw [at_reads h (fun u => axbBootLowThr u b + axbBootHyst u b) fun _ => rfl]
      exact hv
    exact ⟨_, congrArg Host.Outcome.next (doBootHigh_above p high), phase_at h (modPh_b ..)⟩
  case below =>
    intro t b p v s h hv hl
    have low : v < axbBootLowThr (s.at t) b := by
      rw [at_reads h (axbBootLowThr · b) fun _ => rfl]
      exact hv
    have fresh : (s.at t).axb.b[b].phase[p].bootLow = false := by rw [at_axb h]; exact hl
    obtain ⟨phase, phases, others⟩ := phase_at h (bootLowAt_b (s.at t) b p v)
    refine ⟨_, congrArg Host.Outcome.next (if_pos low), phase, ?_, phases, others⟩
    rw [bootLowAt_fresh v fresh, ← at_tal h]
    exact (tallyRecord_spec _ (by decide) _ _ _ _).2
  case lockout =>
    intro t b p s h hu hg
    rw [← at_axb h.2.2] at hu hg
    obtain ⟨lost, tal⟩ := doUvlo_spec hu hg
    obtain ⟨phase, phases⟩ := phases_of lost
    rw [at_axb h.2.2] at phase phases
    rw [at_tal h.2.2] at tal
    exact ⟨_, rfl, congrArg Phase.uvlo phase, congrArg Phase.hold phase, congrArg Phase.gh phase,
      congrArg Phase.bootLow phase, (congrArg Phase.gl phase).trans rfl, tal, phases⟩
  case range =>
    intro t b v s h he
    have en : axbCtlEn (s.at t) b = true := (at_reads h.2.2 (axbCtlEn · b) fun _ => rfl).trans he
    have lower : axbVsVsMin (s.at t) b = axbVsVsMin s b := at_reads h.2.2 (axbVsVsMin · b) fun _ => rfl
    have upper : axbVsVsMax (s.at t) b = axbVsVsMax s b := at_reads h.2.2 (axbVsVsMax · b) fun _ => rfl
    rw [← lower, ← upper, ← at_rng h.2.2]
    refine ⟨fun hb hv => ?_, fun hb hl hu => ?_⟩
    · obtain ⟨bridges, net⟩ := doVs_bad en (by rw [at_axb h.2.2]; exact hb) hv
      rw [at_now h] at net
      exact ⟨_, rfl, (bridge_at h.2.2 bridges).1, net⟩
    · obtain ⟨bridges, net⟩ := doVs_good en (by rw [at_axb h.2.2]; exact hb) hl hu
      exact ⟨_, rfl, (bridge_at h.2.2 bridges).1, net⟩
  case driver =>
    intro t v s h
    rw [← at_axb h.2.2, ← at_rng h.2.2]
    refine ⟨fun hv => ?_, fun hv => ⟨_, rfl, doVdrv_good v hv⟩⟩
    have low := doVdrv_low v hv
    rw [at_now h] at low
    exact ⟨_, rfl, low⟩

end Sys2Proof.Machine
end

section
/-!
PROOFS. The auxiliary bridges: six-step operation (R212 to R217).
-/

namespace Sys2Proof.Machine

open Sys2Proof

/-! ### What the gates of a bridge leave alone -/

/-- Bridge `k'` agrees with `k` in all but its gates, their edges and their placement. -/
abbrev Bridge.SameCourse (k k' : Bridge) : Prop := k' = { k with
  phase := k'.phase, recent := k'.recent, edges := k'.edges, pduty := k'.pduty, pa := k'.pa, pb := k'.pb }

theorem Bridge.SameCourse.trans {k l m : Bridge} (h : k.SameCourse l) (h' : l.SameCourse m) :
    k.SameCourse m := Eq.trans h' (by rw [h])

/-- From `s` to `u`, bridge b has changed in its gates and their placement at most. Requests that the interlock
ignores count in counter 74, and records in counters from 137 on (R200, R431). -/
structure Gated (b : Fin 3) (s u : State) : Prop where
  course : s.axb.b[b].SameCourse u.axb.b[b]
  others : ∀ k, k ≠ b → u.axb.b[k] = s.axb.b[k]
  tal : ∀ (m : Nat) (_ : m < 137), m ≠ 74 → u.tal[m] = s.tal[m]

theorem Gated.refl (b : Fin 3) (s : State) : Gated b s s := ⟨rfl, fun _ _ => rfl, fun _ _ _ => rfl⟩

theorem Gated.trans {b : Fin 3} {s u v : State} (h : Gated b s u) (h' : Gated b u v) : Gated b s v :=
  ⟨h.course.trans h'.course, fun k hk => (h'.others k hk).trans (h.others k hk),
    fun m hm ho => (h'.tal m hm ho).trans (h.tal m hm ho)⟩

theorem modAxb_gated (s : State) (b : Fin 3) {f : Bridge → Bridge} (h : ∀ k : Bridge, k.SameCourse (f k)) :
    Gated b s (s.modAxb b f) :=
  ⟨by rw [modAxb_bridge]; exact h _, fun _ hk => modAxb_other s f hk, fun _ _ _ => rfl⟩

theorem gateEdge_gated (s : State) (b p : Fin 3) (high on : Bool) (t : Nat) :
    Gated b s (s.gateEdge b p high on t) := by
  have moved : ∀ f : Bridge → Bridge, (∀ k : Bridge, k.SameCourse (f k)) → ∀ c : Cap,
      Gated b s { s.modAxb b f with cap := c } := fun f hf c =>
    ⟨(modAxb_gated s b hf).course, (modAxb_gated s b hf).others, fun _ _ _ => rfl⟩
  exact moved _ (fun _ => rfl) _

theorem doEdge_gated (s : State) (b : Fin 3) (e : PEdge) : Gated b s (s.doEdge b e) := by
  unfold State.doEdge
  dsimp only
  split
  · refine ⟨?_, fun k _ => ?_, fun m hm ho => ?_⟩
    · rw [recordReport_axb, tally_axb]
    · rw [recordReport_axb, tally_axb]
    · exact (record_tal _ _ _ _ _ _ hm).trans (tallyBy_other _ ho.symm _)
  · split
    · exact Gated.refl b s
    · exact gateEdge_gated s b _ _ _ _

theorem edgesUpTo_gated (b : Fin 3) (t : Nat) : ∀ (es : List PEdge) (s : State), Gated b s (s.edgesUpTo b t es)
  | [], s => modAxb_gated s b fun _ => rfl
  | e :: es, s => iteInduction (motive := fun u : State => Gated b s u)
    (fun _ => (doEdge_gated s b e).trans (edgesUpTo_gated b t es _)) fun _ => modAxb_gated s b fun _ => rfl

theorem gatesNow_gated (s : State) (b : Fin 3) : Gated b s (s.gatesNow b) := edgesUpTo_gated b _ _ s

theorem stepNow_gated (s : State) (b : Fin 3) : Gated b s (s.stepNow b) := edgesUpTo_gated b _ _ s

theorem place_gated (s : State) (b : Fin 3) : Gated b s (s.place b) := modAxb_gated s b fun _ => rfl

/-- What a change at tick t and the gates after it leave, told of the state before t. -/
theorem gated_at {s u : State} {t : Tick} {b : Fin 3} {f : Bridge → Bridge} (h : Quiet s t)
    (hu : Gated b ((s.at t).modAxb b f) u) :
    (f s.axb.b[b]).SameCourse u.axb.b[b] ∧ ∀ k, k ≠ b → u.axb.b[k] = s.axb.b[k] := by
  have course := hu.course
  rw [modAxb_bridge, at_axb h] at course
  exact ⟨course, fun k hk => by rw [hu.others k hk, modAxb_other _ _ hk, at_axb h]⟩

/-! ### Entry to a state of the sequencer and to a step -/

/-- A bridge at its entry to a state of the sequencer on tick t. -/
def Bridge.entered (k : Bridge) (st : BState) (t : Nat) : Bridge :=
  { k with state := st, since := t, nextStep := none }

theorem toB_gated (s : State) (b : Fin 3) {st : BState} (h : st ≠ .direct) :
    Gated b (s.modAxb b (·.entered st s.clk.now)) (s.toB b st) := by
  unfold State.toB
  dsimp only
  rw [if_neg h]
  exact gatesNow_gated _ b

/-- An event that is counted and recorded takes the bridge to a state. -/
theorem toB_counted (s : State) (b : Fin 3) {n : Nat} (hn : n < 137) (h74 : n ≠ 74) {st : BState}
    (h : st ≠ .direct) (u e d : Nat) :
    let v := ((s.tally n).record bAXB u e d).toB b st
    (s.axb.b[b].entered st s.clk.now).SameCourse v.axb.b[b] ∧ v.tal[n] = s.tal[n] + 1 := by
  dsimp only
  generalize hy : (s.tally n).record bAXB u e d = y
  have clk : y.clk = s.clk := by rw [← hy, record_clk, tally_clk]
  have axb : y.axb = s.axb := by rw [← hy, record_axb, tally_axb]
  have tal : y.tal[n] = s.tal[n] + 1 := by rw [← hy]; exact (tallyRecord_spec s hn _ _ _ _).2
  have gated := toB_gated y b h
  have course := gated.course
  rw [modAxb_bridge, clk, axb] at course
  exact ⟨course, (gated.tal n hn h74).trans tal⟩

theorem coast_spec (s : State) (b : Fin 3) (cause : Nat) :
    (s.axb.b[b].entered .coast s.clk.now).SameCourse (s.coast b cause).axb.b[b] ∧
    (s.coast b cause).tal[75] = s.tal[75] + 1 :=
  toB_counted s b (by decide) (by decide) (by decide) _ _ _

theorem enterSix_gated (s : State) (b : Fin 3) (st : BState) (step : Nat) :
    Gated b (s.modAxb b fun k => { k.entered st s.clk.now with step := step }) (s.enterSix b st step) :=
  ((modAxb_gated _ b fun _ => rfl).trans (place_gated _ b)).trans (stepNow_gated _ b)

/-- A bridge at the start of a step on tick t that is to last `len` (R214, R215, R217). -/
def Bridge.stepped (k : Bridge) (t len : Nat) : Bridge := { k with
  step := k.nextOf, steps := k.steps + k.sign, stepAt := t, stepLen := len
  done := (if k.state = .run then t - k.stepAt else k.stepLen) :: k.done.take 5
  t60 := if k.state = .run then k.t60 else len
  crossed := false, filtRun := 0, filtSeen := false, nextStep := none }

theorem startStep_gated (s : State) (b : Fin 3) (t len : Nat) :
    Gated b (s.modAxb b (·.stepped t len)) (s.startStep b t len) :=
  (place_gated _ b).trans (stepNow_gated _ b)

/-- A step that starts on a bridge changed by `f`. -/
theorem startStep_of (s : State) (b : Fin 3) (f : Bridge → Bridge) (t len : Nat) :
    Gated b (s.modAxb b fun k => (f k).stepped t len) ((s.modAxb b f).startStep b t len) := by
  rw [← modAxb_modAxb s b f (·.stepped t len)]
  exact startStep_gated (s.modAxb b f) b t len

/-! ### The sequencer's rows (R212, R215, R217) -/

theorem lasted_at {s : State} {t : Tick} {b : Fin 3} {st : BState} {n : Nat} (h : OnTime s t)
    (hs : s.axb.b[b].state = st) (hd : s.axb.b[b].since + n ≤ t) : lasted (s.at t) b st n = true := by
  unfold lasted
  rw [at_axb h.2.2, at_now h, hs, decide_eq_true hd, Bool.and_true]
  exact beq_self_eq_true st

/-- The first ramp step lasts T_START (R215). -/
theorem rampLen_zero (s : State) (b : Fin 3) : rampLen s b 0 = 16000 * axbRampTStart s b := by
  unfold rampLen
  simp only [Int.natCast_zero, Int.mul_zero, Int.zero_tdiv, Int.add_zero]
  omega

/-- A bridge whose ramp starts on tick t. -/
def Bridge.ramping (k : Bridge) (t : Nat) : Bridge :=
  { k with state := .ramp, since := t, rampFrom := t, zcRun := 0, earlyRun := 0 }

theorem doAlignEnd_over {s : State} {b : Fin 3} (h : lasted s b .align (axbStartAlignMs s b * msTk) = true) :
    let u := doAlignEnd s b
    u.axb.b[b].state = .ramp ∧ u.axb.b[b].rampFrom = s.clk.now ∧ u.axb.b[b].stepAt = s.clk.now ∧
    u.axb.b[b].stepLen = 16000 * axbRampTStart s b ∧ u.axb.b[b].t60 = u.axb.b[b].stepLen ∧
    u.axb.b[b].step = s.axb.b[b].nextOf ∧ u.axb.b[b].zcRun = 0 ∧ ∀ k, k ≠ b → u.axb.b[k] = s.axb.b[k] := by
  have ramps : doAlignEnd s b = ((s.modAxb b (·.ramping s.clk.now)).startStep b s.clk.now
      (rampLen s b 0)).modAxb b fun k => { k with done := [] } := if_pos h
  have gated := startStep_of s b (·.ramping s.clk.now) s.clk.now (rampLen s b 0)
  rw [ramps, ← rampLen_zero]
  dsimp only
  rw [modAxb_bridge]
  generalize State.startStep _ b s.clk.now (rampLen s b 0) = v at gated
  have course := gated.course
  rw [modAxb_bridge] at course
  exact ⟨congrArg Bridge.state course, congrArg Bridge.rampFrom course, congrArg Bridge.stepAt course,
    congrArg Bridge.stepLen course, (congrArg Bridge.t60 course).trans (congrArg Bridge.stepLen course).symm,
    congrArg Bridge.step course, congrArg Bridge.zcRun course, fun k hk =>
      (modAxb_other _ _ hk).trans ((gated.others k hk).trans (modAxb_other _ _ hk))⟩

theorem doRampStep_due {s : State} {b : Fin 3} (h : s.axb.b[b].state = .ramp)
    (hd : s.axb.b[b].stepAt + s.axb.b[b].stepLen ≤ s.clk.now)
    (hr : s.clk.now < s.axb.b[b].rampFrom + rampTicks s b) :
    let u := doRampStep s b
    u.axb.b[b].state = .ramp ∧ u.axb.b[b].step = s.axb.b[b].nextOf ∧
    u.axb.b[b].stepAt = s.axb.b[b].stepAt + s.axb.b[b].stepLen ∧
    u.axb.b[b].steps = s.axb.b[b].steps + s.axb.b[b].sign ∧
    u.axb.b[b].stepLen = rampLen s b (s.axb.b[b].stepAt + s.axb.b[b].stepLen - s.axb.b[b].rampFrom) := by
  have steps : doRampStep s b = (s.modAxb b fun k =>
      { k with zcRun := if k.crossed then k.zcRun else 0 }).startStep b (s.axb.b[b].stepAt + s.axb.b[b].stepLen)
        (rampLen s b (s.axb.b[b].stepAt + s.axb.b[b].stepLen - s.axb.b[b].rampFrom)) :=
    if_pos (by rw [h, decide_eq_true hd, decide_eq_true hr]; rfl)
  have course := (startStep_of s b (fun k => { k with zcRun := if k.crossed then k.zcRun else 0 })
    (s.axb.b[b].stepAt + s.axb.b[b].stepLen)
    (rampLen s b (s.axb.b[b].stepAt + s.axb.b[b].stepLen - s.axb.b[b].rampFrom))).course
  rw [← steps, modAxb_bridge] at course
  exact ⟨(congrArg Bridge.state course).trans h, congrArg Bridge.step course, congrArg Bridge.stepAt course,
    congrArg Bridge.steps course, congrArg Bridge.stepLen course⟩

theorem doRampTimeout_due {s : State} {b : Fin 3} (h : s.axb.b[b].state = .ramp)
    (hd : s.axb.b[b].rampFrom + rampTicks s b ≤ s.clk.now) : doRampTimeout s b = s.coast b 2 := by
  refine if_pos ?_
  rw [h, decide_eq_true hd]
  rfl

theorem doSyncLoss_due {s : State} {b : Fin 3} (h : s.axb.b[b].state = .run) (hc : s.axb.b[b].crossed = false)
    (hd : s.axb.b[b].stepAt + 2 * s.axb.b[b].t60 ≤ s.clk.now) : doSyncLoss s b = s.coast b 1 := by
  refine if_pos ?_
  rw [h, hc, decide_eq_true hd]
  rfl

theorem doCoastEnd_over {s : State} {b : Fin 3} (h : lasted s b .coast (axbRamp2CoastMs s b * msTk) = true) :
    doCoastEnd s b = if s.axb.b[b].restarts < axbCtlRestarts s b then
      (s.modAxb b fun k => { k with restarts := k.restarts + 1, dir := k.reqDir }).toB b .precharge
    else ((s.tally 76).record bAXB (0xC0 + b) 5 (wrapN 32 s.axb.b[b].steps)).toB b .stalled := if_pos h

theorem doStepChange_due {s : State} {b : Fin 3} {x : Nat} (h : s.axb.b[b].state = .run)
    (hn : s.axb.b[b].nextStep = some x) (hd : x ≤ s.clk.now) :
    let k := (doStepChange s b).axb.b[b]
    k.state = .run ∧ k.step = s.axb.b[b].nextOf ∧ k.stepAt = x ∧ k.crossed = false ∧ k.nextStep = none := by
  have steps : doStepChange s b = s.startStep b x s.axb.b[b].t60 := by
    unfold doStepChange
    simp only [hn]
    exact if_pos (by rw [h, decide_eq_true hd]; rfl)
  have course := (startStep_gated s b x s.axb.b[b].t60).course
  rw [← steps, modAxb_bridge] at course
  exact ⟨(congrArg Bridge.state course).trans h, congrArg Bridge.step course, congrArg Bridge.stepAt course,
    congrArg Bridge.crossed course, congrArg Bridge.nextStep course⟩

theorem doStepChange_none {s : State} {b : Fin 3} (h : s.axb.b[b].nextStep = none) : doStepChange s b = s := by
  unfold doStepChange
  simp only [h]

/-! ### Crossings (R215, R217) -/

/-- The step in progress of a bridge in RAMP or RUN has shown no crossing yet. -/
def Bridge.uncrossed (k : Bridge) : Prop := k.crossed = false ∧ (k.state = .ramp ∨ k.state = .run)

/-- A sample on tick x counts, and shows the level that the step expects. -/
def expectedAt (s : State) (b : Fin 3) (x : Nat × Bool) : Prop :=
  counts s b x.1 = true ∧ x.2 = s.axb.b[b].expected

/-- A bridge after n expected samples in a row, of which tick x brought the first. -/
def Bridge.sampled (k : Bridge) (n x : Nat) : Bridge :=
  { k with filtRun := k.filtRun + n, filtAt := if k.filtRun = 0 then x else k.filtAt }

/-- The samples in a row of bridge b are a crossing. -/
def State.crossing (s : State) (b : Fin 3) : State :=
  if s.axb.b[b].state == .ramp then s.rampCrossing b (s.axb.b[b].filtAt - 80)
  else s.runCrossing b (s.axb.b[b].filtAt - 80) (!s.axb.b[b].filtSeen)

/-- Samples that follow others in a row leave the tick of the first. -/
theorem sampled_sampled (k : Bridge) (n m x y : Nat) :
    (k.sampled (n + 1) x).sampled m y = k.sampled (n + 1 + m) x := by
  have begun : k.filtRun + (n + 1) ≠ 0 := Nat.succ_ne_zero _
  unfold Bridge.sampled
  dsimp only
  rw [if_neg begun, Nat.add_assoc]

theorem counts_sampled (s : State) (b : Fin 3) (n x y : Nat) :
    counts (s.modAxb b (·.sampled n x)) b y = counts s b y := by
  simp only [counts, blankEnd, modAxb_bridge]
  rfl

theorem zcSample_expected {s : State} {b : Fin 3} {x : Nat × Bool} (hw : s.axb.b[b].uncrossed)
    (hx : expectedAt s b x) : s.zcSample b x =
      if s.axb.b[b].filtRun + 1 ≠ max (axbZcFilt s b) 1 then s.modAxb b (·.sampled 1 x.1)
      else (s.modAxb b (·.sampled 1 x.1)).crossing b := by
  have counted : ¬(s.axb.b[b].crossed || !counts s b x.1 ||
      !(s.axb.b[b].state == .ramp || s.axb.b[b].state == .run)) = true := by
    rw [hw.1, hx.1]
    rcases hw.2 with h | h <;> (rw [h]; decide)
  have level : ¬(x.2 != s.axb.b[b].expected) = true := by rw [hx.2, bne_self_eq_false]; decide
  have run : (s.modAxb b (·.sampled 1 x.1)).axb.b[b].filtRun = s.axb.b[b].filtRun + 1 := by
    rw [modAxb_bridge]; rfl
  rw [← run]
  unfold State.zcSample
  dsimp only
  rw [if_neg counted, if_neg level]
  rfl

/-- Expected samples in a row that reach FILT with the last of them are a crossing. -/
theorem samples_cross {b : Fin 3} : ∀ (xs : List (Nat × Bool)) (x : Nat × Bool) (s : State),
    s.axb.b[b].uncrossed → (∀ y ∈ x :: xs, expectedAt s b y) →
    s.axb.b[b].filtRun + (x :: xs).length = max (axbZcFilt s b) 1 →
    s.each (x :: xs) (fun s x => s.zcSample b x) =
      (s.modAxb b (·.sampled (x :: xs).length x.1)).crossing b
  | [], x, s, hw, hx, hl =>
    (zcSample_expected hw (hx x List.mem_cons_self)).trans (if_neg (not_not_intro hl))
  | y :: ys, x, s, hw, hx, hl => by
    have more : s.axb.b[b].filtRun + 1 ≠ max (axbZcFilt s b) 1 := by
      rw [← hl]
      simp only [List.length_cons]
      omega
    have first : s.zcSample b x = s.modAxb b (·.sampled 1 x.1) :=
      (zcSample_expected hw (hx x List.mem_cons_self)).trans (if_pos more)
    have bridge := modAxb_bridge s b (·.sampled 1 x.1)
    have rest := samples_cross ys y (s.modAxb b (·.sampled 1 x.1)) (by rw [bridge]; exact hw)
      (fun z hz => ?expected) ?length
    case expected =>
      obtain ⟨counted, level⟩ := hx z (List.mem_cons_of_mem x hz)
      exact ⟨(counts_sampled s b 1 x.1 z.1).trans counted, by rw [bridge]; exact level⟩
    case length =>
      rw [bridge]
      refine Eq.trans ?_ hl
      simp only [Bridge.sampled, List.length_cons]
      omega
    have count : 0 + 1 + (y :: ys).length = (x :: y :: ys).length := Nat.add_comm _ _
    simp only [modAxb_modAxb, sampled_sampled _ 0, count] at rest
    show ((s.zcSample b x).each (y :: ys) fun s x => s.zcSample b x) = _
    rw [first, rest]

/-- A bridge in RUN with a crossing stamped `x`, and the delay of the next step change after its T60. `seen`
tells whether a sample of the step has shown the other level before. -/
def Bridge.runCrossed (k : Bridge) (x : Nat) (seen : Bool) (delay : Nat → Nat) : Bridge := { k with
  crossed := true, lastCross := x, t60 := x - k.lastCross
  earlyRun := if seen then 0 else k.earlyRun + 1, nextStep := some (x + delay (x - k.lastCross)) }

theorem runCrossing_eq (s : State) (b : Fin 3) (stamp : Nat) (seen : Bool) : s.runCrossing b stamp (!seen) =
    let u := s.modAxb b (·.runCrossed (if seen then stamp else blankEnd s b) seen (stepDelay s b))
    if 3 ≤ u.axb.b[b].earlyRun then u.coast b 3 else u := by
  cases seen
  · rfl
  · rfl

/-- The third crossing in a row that was there at the end of blanking loses synchronism, and no other does. -/
theorem runCrossing_stays {s : State} {b : Fin 3} (stamp : Nat) {seen : Bool}
    (h : seen = true ∨ s.axb.b[b].earlyRun < 2) : (s.runCrossing b stamp (!seen)).axb.b[b] =
      s.axb.b[b].runCrossed (if seen then stamp else blankEnd s b) seen (stepDelay s b) := by
  have few : ¬3 ≤ if seen then 0 else s.axb.b[b].earlyRun + 1 := by
    rcases h with h | h
    · rw [if_pos h]
      decide
    · split <;> omega
  rw [runCrossing_eq]
  dsimp only
  rw [if_neg (by rw [modAxb_bridge]; exact few), modAxb_bridge]

theorem runCrossing_coasts {s : State} {b : Fin 3} (stamp : Nat) (h : 2 ≤ s.axb.b[b].earlyRun) :
    (s.runCrossing b stamp (!false)).axb.b[b].state = .coast ∧
    (s.runCrossing b stamp (!false)).tal[75] = s.tal[75] + 1 := by
  rw [runCrossing_eq]
  dsimp only
  rw [if_pos (by rw [modAxb_bridge]; exact Nat.succ_le_succ h)]
  obtain ⟨course, tal⟩ := coast_spec (s.modAxb b (·.runCrossed (blankEnd s b) false (stepDelay s b))) b 3
  exact ⟨congrArg Bridge.state course, tal⟩

theorem enterRun_bridge (s : State) (b : Fin 3) (stamp : Nat) : (s.enterRun b stamp).axb.b[b] =
    { s.axb.b[b] with
      state := .run, since := s.clk.now, runDuty := false, earlyRun := 0
      nextStep := some (stamp + stepDelay s b s.axb.b[b].t60) } := by
  unfold State.enterRun
  rw [record_axb, modAxb_bridge]

/-- A crossing in the middle half of a ramp step counts, and the last one that ZC_LOCK asks for leads to RUN. -/
theorem rampCrossing_valid {s : State} {b : Fin 3} {stamp : Nat} (h : s.axb.b[b].stepAt ≤ stamp)
    (hl : s.axb.b[b].stepLen ≤ 4 * (stamp - s.axb.b[b].stepAt))
    (hu : 4 * (stamp - s.axb.b[b].stepAt) < 3 * s.axb.b[b].stepLen) :
    let k := (s.rampCrossing b stamp).axb.b[b]
    k.crossed = true ∧ k.zcRun = s.axb.b[b].zcRun + 1 ∧ k.lastCross = stamp ∧ k.step = s.axb.b[b].step ∧
    k.state = if max (axbRamp2ZcLock s b) 1 ≤ s.axb.b[b].zcRun + 1 then .run else s.axb.b[b].state := by
  have valid : ¬(4 * (stamp - s.axb.b[b].stepAt) < s.axb.b[b].stepLen ∨ stamp < s.axb.b[b].stepAt ∨
      3 * s.axb.b[b].stepLen ≤ 4 * (stamp - s.axb.b[b].stepAt)) := by omega
  have counted := modAxb_bridge s b fun k =>
    { k with crossed := true, zcRun := k.zcRun + 1, lastCross := stamp }
  unfold State.rampCrossing
  dsimp only
  rw [if_neg valid]
  generalize hv : s.modAxb b _ = v at counted
  have lock : axbRamp2ZcLock v b = axbRamp2ZcLock s b := by rw [← hv]; rfl
  have run : v.axb.b[b].zcRun = s.axb.b[b].zcRun + 1 := by rw [counted]
  rw [lock, run]
  split
  · rw [enterRun_bridge, modAxb_bridge, counted]
    exact ⟨rfl, rfl, rfl, rfl, rfl⟩
  · rw [counted]
    exact ⟨rfl, rfl, rfl, rfl, rfl⟩

/-- The state with another clock and `n` expected samples in a row at bridge b, the first of them on tick x. -/
def State.filtered (s : State) (c : Clk) (b : Fin 3) (n x : Nat) : State :=
  State.modAxb { s with clk := c } b fun k => { k with filtRun := n, filtAt := x }

theorem filtered_bridge (s : State) (c : Clk) (b : Fin 3) (n x : Nat) :
    (s.filtered c b n x).axb.b[b] = { s.axb.b[b] with filtRun := n, filtAt := x } := modAxb_bridge _ _ _

theorem blankEnd_filtered (s : State) (c : Clk) (b : Fin 3) (n x : Nat) :
    blankEnd (s.filtered c b n x) b = blankEnd s b := by
  unfold blankEnd
  rw [filtered_bridge]
  rfl

/-- The samples `x :: xs` are the first FILT ones, all of them expected, of a step that has shown no crossing. -/
structure Crosses (s : State) (b : Fin 3) (x : Nat × Bool) (xs : List (Nat × Bool)) : Prop where
  uncrossed : s.axb.b[b].crossed = false
  unscheduled : s.axb.b[b].nextStep = none
  fresh : s.axb.b[b].filtRun = 0
  complete : (x :: xs).length = max (axbZcFilt s b) 1
  expected : ∀ y ∈ x :: xs, expectedAt s b y

section
variable {s : State} {t : Tick} {b : Fin 3} {x : Nat × Bool} {xs : List (Nat × Bool)}

/-- Samples that come at tick t and bring the crossing of a step. -/
theorem doCrossing_at (h : Quiet s t) (hx : Crosses s b x xs)
    (hs : s.axb.b[b].state = .ramp ∨ s.axb.b[b].state = .run) :
    doCrossing (s.at t) b (x :: xs) = (s.filtered (s.at t).clk b (x :: xs).length x.1).crossing b := by
  have cross := samples_cross xs x (s.at t) (by rw [at_axb h]; exact ⟨hx.uncrossed, hs⟩)
    (fun y hy => by
      obtain ⟨counted, level⟩ := hx.expected y hy
      exact ⟨(at_reads h (counts · b y.1) fun _ => rfl).trans counted, by rw [at_axb h]; exact level⟩)
    (by rw [at_axb h, hx.fresh, Nat.zero_add, at_reads h (axbZcFilt · b) fun _ => rfl]; exact hx.complete)
  have filtered : (s.at t).modAxb b (·.sampled (x :: xs).length x.1) =
      s.filtered (s.at t).clk b (x :: xs).length x.1 := by
    have bridges : vupd s.axb.b b (·.sampled (x :: xs).length x.1) =
        vupd s.axb.b b fun k => { k with filtRun := (x :: xs).length, filtAt := x.1 } :=
      vupd_congr (by unfold Bridge.sampled; rw [hx.fresh, Nat.zero_add, if_pos rfl])
    rw [at_eq h]
    unfold State.filtered State.modAxb
    dsimp only
    rw [bridges]
  unfold doCrossing
  rw [doStepChange_none (by rw [at_axb h]; exact hx.unscheduled), cross, filtered]

theorem doCrossing_run (h : Quiet s t) (hx : Crosses s b x xs) (hs : s.axb.b[b].state = .run) :
    doCrossing (s.at t) b (x :: xs) =
      (s.filtered (s.at t).clk b (x :: xs).length x.1).runCrossing b (x.1 - 80) (!s.axb.b[b].filtSeen) := by
  rw [doCrossing_at h hx (.inr hs), State.crossing, filtered_bridge]
  exact if_neg (by rw [hs]; decide)

theorem doCrossing_ramp (h : Quiet s t) (hx : Crosses s b x xs) (hs : s.axb.b[b].state = .ramp) :
    doCrossing (s.at t) b (x :: xs) =
      (s.filtered (s.at t).clk b (x :: xs).length x.1).rampCrossing b (x.1 - 80) := by
  rw [doCrossing_at h hx (.inl hs), State.crossing, filtered_bridge]
  exact if_pos (by rw [hs]; rfl)

end

/-- Settles O39: each row by what its operation makes of the bridge at the tick of the row. -/
theorem bridgeSixStep : Obligations.BridgeSixStep := by
  unfold Obligations.BridgeSixStep
  refine ⟨?precharge, ?align, ?ramp, ?lost, ?coast, ?change, ?run, ?lock, ?early⟩
  case precharge =>
    intro t b s h hs hd
    have passed := lasted_at h hs hd
    rw [← at_reads h.2.2 (axbStartPrecharge · b) fun _ => rfl] at passed
    obtain ⟨course, others⟩ := gated_at h.2.2 (enterSix_gated (s.at t) b .align 0)
    exact ⟨_, congrArg Host.Outcome.next (if_pos passed), congrArg Bridge.state course,
      congrArg Bridge.step course, (congrArg Bridge.since course).trans (at_now h), others⟩
  case align =>
    intro t b s h hs hd
    have passed := lasted_at h hs hd
    rw [← at_reads h.2.2 (axbStartAlignMs · b) fun _ => rfl] at passed
    have ramps := doAlignEnd_over passed
    rw [at_now h, at_axb h.2.2, at_reads h.2.2 (axbRampTStart · b) fun _ => rfl] at ramps
    exact ⟨_, rfl, ramps⟩
  case ramp =>
    intro t b s h hs hd hr
    have steps := doRampStep_due (s := s.at t) (b := b) (by rw [at_axb h.2.2]; exact hs)
      (by rw [at_axb h.2.2, at_now h]; exact hd)
      (by rw [at_now h, at_axb h.2.2, at_reads h.2.2 (rampTicks · b) fun _ => rfl]; exact hr)
    rw [at_axb h.2.2, at_reads h.2.2 (rampLen · b _) fun _ => rfl] at steps
    exact ⟨_, rfl, steps⟩
  case lost =>
    intro t b s h
    rw [← at_axb h.2.2, ← at_tal h.2.2]
    refine ⟨fun hs hd => ?_, fun hs hc hd => ?_⟩
    · obtain ⟨course, tal⟩ := coast_spec (s.at t) b 2
      have coasts := doRampTimeout_due hs
        (by rw [at_now h, at_reads h.2.2 (rampTicks · b) fun _ => rfl]; exact hd)
      exact ⟨_, congrArg Host.Outcome.next coasts, congrArg Bridge.state course,
        (congrArg Bridge.since course).trans (at_now h), tal⟩
    · obtain ⟨course, tal⟩ := coast_spec (s.at t) b 1
      exact ⟨_, congrArg Host.Outcome.next (doSyncLoss_due hs hc (by rw [at_now h]; exact hd)),
        congrArg Bridge.state course, (congrArg Bridge.since course).trans (at_now h), tal⟩
  case coast =>
    intro t b s h hs hd
    have passed := lasted_at h hs hd
    rw [← at_reads h.2.2 (axbRamp2CoastMs · b) fun _ => rfl] at passed
    refine ⟨_, congrArg Host.Outcome.next (doCoastEnd_over passed), ?_⟩
    rw [at_axb h.2.2, at_reads h.2.2 (axbCtlRestarts · b) fun _ => rfl]
    split
    · have course := (toB_gated ((s.at t).modAxb b fun k =>
        { k with restarts := k.restarts + 1, dir := k.reqDir }) b (st := .precharge) (by decide)).course
      rw [modAxb_bridge, modAxb_bridge, at_axb h.2.2] at course
      exact ⟨congrArg Bridge.state course, congrArg Bridge.restarts course, congrArg Bridge.dir course⟩
    · obtain ⟨course, tal⟩ := toB_counted (s.at t) b (n := 76) (by decide) (by decide) (st := .stalled) (by decide)
        (0xC0 + b) 5 (wrapN 32 s.axb.b[b].steps)
      rw [at_tal h.2.2] at tal
      exact ⟨congrArg Bridge.state course, tal⟩
  case change =>
    intro t x b s h hs hn hd
    have steps := doStepChange_due (s := s.at t) (b := b) (by rw [at_axb h.2.2]; exact hs)
      (by rw [at_axb h.2.2]; exact hn) (by rw [at_now h]; exact hd)
    rw [at_axb h.2.2] at steps
    exact ⟨_, rfl, steps⟩
  case run =>
    intro t b x xs s h hs hc hn hf hl hx he
    have stays := runCrossing_stays (s := s.filtered (s.at t).clk b (x :: xs).length x.1) (b := b) (x.1 - 80)
      (seen := s.axb.b[b].filtSeen) (by rw [filtered_bridge]; exact he)
    rw [filtered_bridge, blankEnd_filtered] at stays
    exact ⟨_, congrArg Host.Outcome.next (doCrossing_run h ⟨hc, hn, hf, hl, hx⟩ hs), stays⟩
  case lock =>
    intro t b x xs s h hs hc hn hf hl hx ha hlo hhi
    have valid := rampCrossing_valid (s := s.filtered (s.at t).clk b (x :: xs).length x.1) (b := b)
      (stamp := x.1 - 80)
    rw [filtered_bridge] at valid
    obtain ⟨crossed, run, stamp, step, state⟩ := valid ha hlo hhi
    refine ⟨_, congrArg Host.Outcome.next (doCrossing_ramp h ⟨hc, hn, hf, hl, hx⟩ hs),
      crossed, run, stamp, step, ?_⟩
    rw [state, hs]
    rfl
  case early =>
    intro t b x xs s h hs hc hn hf hl hx hu he
    have crosses := doCrossing_run h ⟨hc, hn, hf, hl, hx⟩ hs
    rw [hu] at crosses
    exact ⟨_, congrArg Host.Outcome.next crosses,
      runCrossing_coasts _ (by rw [filtered_bridge]; exact he)⟩

end Sys2Proof.Machine
end

section
/-!
PROOFS. The auxiliary bridges: the input block in engine memory (R205).
-/

namespace Sys2Proof.Machine

open Sys2Proof

/-- Bridge 0 is in use and has a current of 1 in its phase U. Its input block is due and goes to data words 0 to
5 of engine 6, which is stopped and lists data row 0, which holds them all, twice in its table of flipped bits. -/
def blockDueState : State := { State.reset with
  clk := { State.reset.clk with locked := true, power := 1760 }
  regs := [(0x60030100, 0x80000000)]
  sys := { State.reset.sys with dom := State.reset.sys.dom.set 8 .on }
  ce := State.reset.ce.set 6 twiceListed
  axb := { State.reset.axb with
    b := State.reset.axb.b.set 0 { State.reset.axb.b[0] with started := true, written := false, iu := 1 } } }

theorem blockDueState_onTime : OnTime blockDueState 0 :=
  ⟨rfl, Nat.le_refl 0, rfl, fun _ h => absurd h List.not_mem_nil⟩

theorem blockDueState_clean : ∀ i < (axbBlock blockDueState.axb.b[(0 : Fin 3)]).length,
    blockDueState.ce[(6 : Fin 8)].dataFlips ((axbMapInWord blockDueState 0 + i) % 1024) = [] := by decide

/-- The block stored in turn gives word 1 the current of phase U. -/
theorem blockDueState_block : sget 0 (dwords blockDueState.ce[(6 : Fin 8)].dmem
    (axbMapInWord blockDueState 0) (axbBlock blockDueState.axb.b[(0 : Fin 3)])) 1 = 1 := by decide +kernel

/-- After the write of the block, word 1 still reads as before. -/
theorem blockDueState_written :
    sget 0 (doAxbInput (blockDueState.at 0) 0).ce[(6 : Fin 8)].dmem 1 = 0 := by decide +kernel

/-- Refutes O37: its clause on the write of the input block (R205) takes data rows for sound where the table of
flipped bits shows none in them, and does not ask that this table be in canonical form. In `blockDueState` the
table of engine 6 lists row 0 twice, so that the first of the six words uncovers two flipped bits in the row that
it has just cleaned. The current of phase U behind it then meets a double-bit error and is not stored (R369),
while the clause wants all six words in memory. -/
theorem not_bridgePeriods : ¬ Obligations.BridgePeriods := by
  unfold Obligations.BridgePeriods
  intro ⟨_, _, _, input, _⟩
  obtain ⟨u, hu, -, -, -, wrote⟩ := input 0 0 blockDueState blockDueState_onTime (by decide) rfl rfl (by decide)
  obtain ⟨-, -, -, stored, -⟩ := wrote
  have block : u.ce[(6 : Fin 8)].dmem = dwords blockDueState.ce[(6 : Fin 8)].dmem
      (axbMapInWord blockDueState 0) (axbBlock blockDueState.axb.b[(0 : Fin 3)]) :=
    stored (by decide) blockDueState_clean
  have missing : sget 0 u.ce[(6 : Fin 8)].dmem 1 = 0 := by
    cases hu
    exact blockDueState_written
  rw [block, blockDueState_block] at missing
  exact absurd missing (by decide)

end Sys2Proof.Machine
end

section
/-!
PROOFS. The low-voltage converter: peak-current control, synchronisation, reference and states (R222 to R232).
-/

namespace Sys2Proof.Machine

open Sys2Proof

/-- The state with another clock. -/
def State.onClock (s : State) (k : Clk) : State := { s with clk := k }

/-- A command does `f` on the state at its tick, which differs from the state before in its clock alone. -/
theorem after_at {c : Instr} {s : State} {t : Tick} {P : State → Prop} (h : OnTime s t)
    (f : State → State) (hc : exec c s = .next (f (s.at t))) (hp : ∀ k : Clk, k.now = t → P (f (s.onClock k))) :
    After c s P :=
  ⟨_, hc, by rw [at_eq h.2.2]; exact hp _ (at_now h)⟩

/-! ### Phases: what an update leaves in each of them -/

theorem modPhase_dcc (s : State) (p : Fin 2) (f : DPhase → DPhase) :
    (s.modPhase p f).dcc = { s.dcc with phase := vupd s.dcc.phase p f } := rfl

theorem modPhase_phase (s : State) (p : Fin 2) (f : DPhase → DPhase) :
    (s.modPhase p f).dcc.phase[p] = f s.dcc.phase[p] := vupd_fin _ _ _

theorem modPhase_other (s : State) {p k : Fin 2} (f : DPhase → DPhase) (h : k ≠ p) :
    (s.modPhase p f).dcc.phase[k] = s.dcc.phase[k] := vupd_other _ _ _ _ h

/-! ### Entries of a leg (R163, R167, R168) -/

theorem dccTurn_dcc (s : State) (p : Fin 2) (stamp next : Nat) : (s.dccTurn p stamp next).dcc = s.dcc :=
  State.dccTurn_area s p stamp next (p := .dcc) (by decide)

/-- Entries with room on their links give the leg its new state. -/
theorem dccEdges_leg {s : State} {cs : List ChanEdge} (h : dccFull s cs = none) (l : Fin 24) (stamp next : Nat) :
    (s.dccEdges l cs stamp next).gsc.leg[l] = { s.gsc.leg[l] with tracked := next, last := some stamp } := by
  have queued : (s.enqueue 3 s.dcc.epoch s.gsc.g[(3 : Fin 4)].pstart [] cs).gsc = s.gsc :=
    State.enqueue_area s _ _ _ _ _ (p := .gsc) (by decide)
  unfold State.dccEdges
  simp only [h]
  rw [modLeg_same, queued]

theorem dccTurn_leg {s : State} {p : Fin 2} {stamp next : Nat} (h : dccFits s p stamp next = true) {l : Fin 24}
    (hl : l.1 = dccLeg s p) : (s.dccTurn p stamp next).gsc.leg[l] =
      { s.gsc.leg[l] with tracked := next, last := some stamp } := by
  have leg : dccLeg s p < 24 := hl ▸ l.isLt
  obtain rfl : l = ⟨dccLeg s p, leg⟩ := Fin.ext hl
  unfold dccFits at h
  rw [dif_pos leg] at h
  unfold State.dccTurn
  rw [dif_pos leg]
  exact dccEdges_leg (Option.isNone_iff_eq_none.1 h) _ _ _

/-- A refusal of entries counts in counter 58 alone. -/
theorem dccRefused_tal (s : State) (l : Fin 12) {m : Nat} (hm : m < 137) (h : m ≠ 58) :
    (s.dccRefused l).tal[m] = s.tal[m] := by
  unfold State.dccRefused
  split
  · exact (record_tal _ _ _ _ _ _ hm).trans (tallyBy_other _ h.symm _)
  · exact (record_tal _ _ _ _ _ _ hm).trans (tallyBy_other _ h.symm _)

theorem dccEdges_tal (s : State) (l : Fin 24) (cs : List ChanEdge) (stamp next : Nat) {m : Nat} (hm : m < 137)
    (h : m ≠ 58) : (s.dccEdges l cs stamp next).tal[m] = s.tal[m] := by
  have queued : (s.enqueue 3 s.dcc.epoch s.gsc.g[(3 : Fin 4)].pstart [] cs).tal = s.tal :=
    State.enqueue_area s _ _ _ _ _ (p := .tal) (by decide)
  unfold State.dccEdges
  split
  · exact dccRefused_tal s _ hm h
  · exact congrArg (·[m]) queued

theorem dccTurn_tal (s : State) (p : Fin 2) (stamp next : Nat) {m : Nat} (hm : m < 137) (h : m ≠ 58) :
    (s.dccTurn p stamp next).tal[m] = s.tal[m] := by
  unfold State.dccTurn
  split
  · exact dccEdges_tal s _ _ _ _ hm h
  · rfl

/-! ### Turn-on (R222, R225, R226, R232) -/

/-- The turn-on of phase p on tick `ton` belongs to the period start `x`: phase 0 turns on there, phase 1 half a
period after the present one. -/
def turnOnFrom (s : State) (p : Fin 2) (ton x : Tick) : Prop :=
  (p = 0 ∧ x = ton ∧ isDccStart s x = true) ∨
    (p = 1 ∧ s.gsc.g[(3 : Fin 4)].started = true ∧ x = s.gsc.g[(3 : Fin 4)].pstart ∧ x + dccLength s x / 2 = ton)

/-- The period start to which `doTurnOn` counts a turn-on of phase p on tick `ton`. -/
def turnOnStart (s : State) (p : Fin 2) (ton : Tick) : Option Tick := all2.findSome? fun q =>
  if q = 0 then (if p = 0 && isDccStart s ton then some ton else none)
  else if p = 1 then
    (s.gsc.g[(3 : Fin 4)].pstart :: (s.dcc.starts ++ [ton - writtenPeriod s 3 / 2])).find? fun x =>
      isDccStart s x && x + dccLength s x / 2 == ton
  else none

theorem isDccStart_pstart {s : State} (h : s.gsc.g[(3 : Fin 4)].started = true) :
    isDccStart s s.gsc.g[(3 : Fin 4)].pstart = true := by
  unfold isDccStart
  dsimp only
  rw [h, beq_self_eq_true]
  rfl

theorem turnOnStart_of {s : State} {p : Fin 2} {ton x : Tick} (h : turnOnFrom s p ton x) :
    turnOnStart s p ton = some x := by
  rcases h with ⟨rfl, rfl, start⟩ | ⟨rfl, started, rfl, half⟩
  · simp [turnOnStart, all2, start]
  · have first : (isDccStart s s.gsc.g[(3 : Fin 4)].pstart &&
        s.gsc.g[(3 : Fin 4)].pstart + dccLength s s.gsc.g[(3 : Fin 4)].pstart / 2 == ton) = true := by
      rw [isDccStart_pstart started, half, beq_self_eq_true]
      rfl
    have found : List.find? (fun y => isDccStart s y && y + dccLength s y / 2 == ton)
        (s.gsc.g[(3 : Fin 4)].pstart :: (s.dcc.starts ++ [ton - writtenPeriod s 3 / 2])) =
      some s.gsc.g[(3 : Fin 4)].pstart := List.find?_cons_of_pos first
    exact List.findSome?_eq_some_iff.2 ⟨[0], 1, [], rfl, found, by simp⟩

/-- Phase p turns on at `ton` in the period that starts on `x`: the converter switches, the phase is enabled and
has not turned on there before, and `x` is late enough after the entry to SOFT_START. -/
def TurnsOn (s : State) (p : Fin 2) (ton x : Tick) : Prop :=
  s.dcc.state.converting = true ∧ s.dcc.enable.getLsbD p = true ∧ s.dcc.since + leadOf s + 160 ≤ x ∧
    s.dcc.phase[p].lastOn ≠ some ton ∧ turnOnFrom s p ton x

/-- The turn-on of phase p at `ton` is skipped. -/
def State.turnOnSkipped (s : State) (p : Fin 2) (ton : Tick) : State :=
  (s.tally 81).modPhase p fun k => { k with
    skipped := true, minOn := false, maxed := false, lastOn := some ton, ipk := s.dcc.ipk, ton := none }

/-- The turn-on of phase p at `ton` is issued for the period that starts on `x`. -/
def State.turnOnIssued (s : State) (p : Fin 2) (ton x : Tick) : State :=
  (s.dccTurn p ton 1).modPhase p fun k => { k with
    skipped := false, lastOn := some ton, ipk := s.dcc.ipk
    ton := if dccFits s p ton 1 then some ton else none, period := dccLength s x }

theorem turnOnIssued_spec (s : State) (p : Fin 2) (ton x : Tick) :
    let u := s.turnOnIssued p ton x
    u.dcc.phase[p] = { s.dcc.phase[p] with
      skipped := false, lastOn := some ton, ipk := s.dcc.ipk
      ton := if dccFits s p ton 1 then some ton else none, period := dccLength s x } ∧
    (dccFits s p ton 1 = true → ∀ l : Fin 24, l.1 = dccLeg s p →
      u.gsc.leg[l] = { s.gsc.leg[l] with tracked := 1, last := some ton }) ∧
    ∀ k, k ≠ p → u.dcc.phase[k] = s.dcc.phase[k] := by
  refine ⟨?_, fun fits l hl => dccTurn_leg fits hl, fun k hk => ?_⟩
  · unfold State.turnOnIssued
    rw [modPhase_phase, dccTurn_dcc]
  · unfold State.turnOnIssued
    rw [modPhase_other _ _ hk, dccTurn_dcc]

theorem doTurnOn_on {s : State} {p : Fin 2} {x : Tick} (cur : Word24)
    (h : TurnsOn s p (s.clk.now + leadOf s) x) : doTurnOn s p cur =
      if peakAt s s.dcc.ipk < cur.toInt then s.turnOnSkipped p (s.clk.now + leadOf s)
      else s.turnOnIssued p (s.clk.now + leadOf s) x := by
  obtain ⟨converting, enabled, settled, fresh, place⟩ := h
  have on : (!(s.dcc.state.converting && s.dcc.enable.getLsbD p && decide (s.dcc.since + leadOf s + 160 ≤ x)
      && s.dcc.phase[p].lastOn != some (s.clk.now + leadOf s))) = false := by
    rw [converting, enabled, decide_eq_true settled, bne_iff_ne.2 fresh]
    rfl
  have found := turnOnStart_of place
  unfold turnOnStart at found
  unfold doTurnOn
  dsimp only
  rw [found]
  exact if_neg (by rw [on]; decide)

/-! ### Turn-off (R223 to R225) -/

/-- From `s` to `u`, phase p of the converter has become `k`, the others and the state of the converter stay, and
counter 80 counts `k` if it is a minimum-on period. -/
structure TurnedOff (s : State) (p : Fin 2) (k : DPhase) (u : State) : Prop where
  phase : u.dcc.phase = vupd s.dcc.phase p fun _ => k
  state : u.dcc.state = s.dcc.state
  tal : u.tal[80] = s.tal[80] + b2n k.minOn

/-- Phase p after its off entry. -/
def offPhase (s : State) (p : Fin 2) (stamp : Nat) (maxed : Bool) (cycles : Nat) : DPhase :=
  { s.dcc.phase[p] with
    ton := none, lastOff := stamp, maxed := maxed, minOn := false
    thr := BitVec.ofInt 24 (thrAt s s.dcc.phase[p].ipk cycles) }

theorem dccTurnOff_turnedOff (s : State) (p : Fin 2) (stamp : Nat) (maxed : Bool) (cycles : Nat) :
    TurnedOff s p (offPhase s p stamp maxed cycles) (s.dccTurnOff p stamp maxed cycles) where
  phase := by
    unfold State.dccTurnOff
    rw [modPhase_dcc, dccTurn_dcc]
    rfl
  state := by
    unfold State.dccTurnOff
    rw [modPhase_dcc, dccTurn_dcc]
  tal := (dccTurn_tal s p stamp 2 (by decide) (by decide)).trans (BitVec.add_zero _).symm

theorem TurnedOff.same {s u : State} {p : Fin 2} {k : DPhase} (h : TurnedOff s p k u) :
    u.dcc.phase[p] = k := by
  rw [h.phase, vupd_fin]

theorem TurnedOff.others {s u : State} {p : Fin 2} {k : DPhase} (h : TurnedOff s p k u) {q : Fin 2} (hq : q ≠ p) :
    u.dcc.phase[q] = s.dcc.phase[q] := by
  rw [h.phase]
  exact vupd_other _ _ _ _ hq

/-- The count of a minimum-on period that began at `ton`. -/
def State.minOnCounted (s : State) (p : Fin 2) (ton : Tick) : State :=
  ((s.tally 80).modPhase p fun k => { k with minOn := true, minAt := some ton }).modDcc fun k =>
    { k with minOns := k.minOns + 1 }

theorem minOnCounted_turnedOff {s u : State} {p : Fin 2} {k : DPhase} (h : TurnedOff s p k u)
    (hk : k.minOn = false) (ton : Tick) :
    TurnedOff s p { k with minOn := true, minAt := some ton } (u.minOnCounted p ton) where
  phase := by
    have counted : (u.minOnCounted p ton).dcc.phase =
        vupd (u.tally 80).dcc.phase p fun k => { k with minOn := true, minAt := some ton } := rfl
    rw [counted, tally_dcc, h.phase, vupd_vupd]
  state := (congrArg Dcc.state (tally_dcc u 80)).trans h.state
  tal := by
    have before : u.tal[80] = s.tal[80] := by rw [h.tal, hk]; exact BitVec.add_zero _
    rw [← before]
    exact tallyBy_same u 1 (by decide)

/-- A trip turns its phase off at the earlier of trip + LEAD and TMAX. One on the arming tick that is not too late
for its own turn-off makes a minimum-on period. -/
theorem doPeakTrip_turnedOff {s : State} {p : Fin 2} {ton : Tick} (h : s.dcc.phase[p].ton = some ton)
    (ha : ton + 40 * dccTimingBlank s ≤ s.clk.now - 40) :
    let last := ton + tmaxTicks s s.dcc.phase[p].period
    let trip := s.clk.now - 40 + leadOf s
    ∃ k, TurnedOff s p k (doPeakTrip s p) ∧ k.ton = none ∧ k.lastOff = min last trip ∧
      k.maxed = decide (last < trip) ∧
      k.minOn = (decide (s.clk.now - 40 < ton + 40 * dccTimingBlank s + 40) && !k.maxed) ∧
      k.thr = BitVec.ofInt 24 (thrAt s s.dcc.phase[p].ipk ((s.clk.now - 40 - ton) / 40)) := by
  unfold doPeakTrip
  simp only [h, if_neg (Nat.not_lt.2 ha)]
  split
  · rename_i late
    exact ⟨_, dccTurnOff_turnedOff .., rfl, (Nat.min_eq_left (Nat.le_of_lt late)).symm, (decide_eq_true late).symm,
      (Bool.and_false _).symm, rfl⟩
  · rename_i inTime
    have trip := (Nat.min_eq_right (Nat.not_lt.1 inTime)).symm
    have unmaxed := (decide_eq_false inTime).symm
    split
    · rename_i early
      exact ⟨_, minOnCounted_turnedOff (dccTurnOff_turnedOff ..) rfl ton, rfl, trip, unmaxed,
        by rw [decide_eq_true early]; rfl, rfl⟩
    · rename_i later
      exact ⟨_, dccTurnOff_turnedOff .., rfl, trip, unmaxed, by rw [decide_eq_false later]; rfl, rfl⟩

theorem doTmax_turnedOff {s : State} {p : Fin 2} {ton : Tick} (h : s.dcc.phase[p].ton = some ton)
    (hd : ton + tmaxTicks s s.dcc.phase[p].period + 40 ≤ s.clk.now + leadOf s) : TurnedOff s p
      (offPhase s p (ton + tmaxTicks s s.dcc.phase[p].period) true ((s.clk.now - ton) / 40)) (doTmax s p) := by
  unfold doTmax
  simp only [h, if_neg (Nat.not_lt.2 hd)]
  exact dccTurnOff_turnedOff ..

/-! ### Synchronisation (R228) -/

/-- An edge of SYNC_IN has been accepted less than 2 × PERIOD ago. -/
theorem syncLapse_recent {s : State} {e : Tick} (he : s.dcc.edge = some e)
    (hd : s.clk.now < e + 2 * periodOf s 3) : s.syncLapse = s := by
  unfold State.syncLapse
  simp only [he]
  exact if_pos (by rw [decide_eq_true hd, Bool.or_true])

theorem syncLapse_none {s : State} (he : s.dcc.edge = none) : s.syncLapse = s := by
  unfold State.syncLapse
  simp only [he]

/-- The converter after the loss of synchronisation: it forgets its reference. -/
def Dcc.unsynced (k : Dcc) : Dcc := { k with edge := none, edges := 0, locked := false }

theorem syncLapse_due {s : State} {e : Tick} (hs : dccCfgSyncEn s = true) (he : s.dcc.edge = some e)
    (hd : e + 2 * periodOf s 3 ≤ s.clk.now) : s.syncLapse.dcc = s.dcc.unsynced ∧
      (s.dcc.locked = true ∨ 0 < s.dcc.edges → s.syncLapse.tal[82] = s.tal[82] + 1) := by
  have lapses : s.syncLapse = if s.dcc.locked || decide (0 < s.dcc.edges) then
      ((s.modDcc Dcc.unsynced).tally 82).record bDCC 0xFF 4 s.dcc.spacing else s.modDcc Dcc.unsynced := by
    unfold State.syncLapse
    simp only [he]
    exact if_neg (by rw [hs, decide_eq_false (Nat.not_lt.2 hd)]; decide)
  rw [lapses]
  refine ⟨?_, fun had => ?_⟩
  · split
    · rw [record_dcc, tally_dcc]
      rfl
    · rfl
  · rw [if_pos (by simpa using had)]
    exact (tallyRecord_spec _ (by decide) _ _ _ _).2

theorem syncLapse_edge {s : State} (hs : dccCfgSyncEn s = true)
    (hd : ∀ e ∈ s.dcc.edge, e + 2 * periodOf s 3 ≤ s.clk.now) : s.syncLapse.dcc.edge = none := by
  cases he : s.dcc.edge with
  | none => rw [syncLapse_none he, he]
  | some e => rw [(syncLapse_due hs he (hd e he)).1]; rfl

/-- An edge with no accepted one before it becomes the reference (log 65). -/
theorem doSyncIn_first {s : State} (hs : dccCfgSyncEn s = true) (he : s.syncLapse.dcc.edge = none) :
    doSyncIn s = s.syncLapse.modDcc fun k => { k with edge := some (s.clk.now - 80), edges := 0 } := by
  have regs : s.syncLapse.regs = s.regs := State.syncLapse_area s (p := .regs) (by decide)
  have clk : s.syncLapse.clk = s.clk := State.syncLapse_area s (p := .clk) (by decide)
  have en : dccCfgSyncEn s.syncLapse = true := hs ▸ congrArg (fun r => dccCfgSyncEn { s with regs := r }) regs
  unfold doSyncIn
  simp only [en, he, clk]
  rfl

/-- The spacing `d` of two edges lies within PERIOD ± 10 %. -/
def spacingFits (s : State) (d : Nat) : Prop := 9 * periodOf s 3 ≤ 10 * d ∧ 10 * d ≤ 11 * periodOf s 3

/-- The converter accepts an edge stamped `e`, `d` after the one before. -/
def Dcc.synced (k : Dcc) (e d start : Nat) : Dcc := { k with
  edge := some e, spacing := d, edges := k.edges + 1, starts := k.starts ++ [start]
  locked := k.locked || k.edges == 3 }

theorem doSyncIn_next {s : State} {prev : Tick} (hs : dccCfgSyncEn s = true) (he : s.dcc.edge = some prev)
    (hd : s.clk.now < prev + 2 * periodOf s 3) :
    (spacingFits s (s.clk.now - 80 - prev) → (doSyncIn s).dcc = s.dcc.synced (s.clk.now - 80)
      (s.clk.now - 80 - prev) (s.clk.now - 80 + clampN (dccSyncDelay s) (leadOf s + 160) (periodOf s 3))) ∧
    (¬ spacingFits s (s.clk.now - 80 - prev) → (doSyncIn s).dcc = s.dcc) := by
  unfold doSyncIn spacingFits
  simp only [syncLapse_recent he hd, hs, he, Bool.not_true, Bool.false_eq_true, if_false]
  refine ⟨fun fits => ?_, fun off => congrArg State.dcc (if_pos (by omega))⟩
  rw [if_neg (by omega)]
  unfold Dcc.synced
  split
  · rename_i fourth
    obtain ⟨third, -⟩ : s.dcc.edges = 3 ∧ s.dcc.locked = false := by simpa [State.modDcc] using fourth
    have locks : (s.dcc.locked || s.dcc.edges == 3) = true := by rw [third]; exact Bool.or_true _
    rw [record_dcc, locks]
    rfl
  · rename_i other
    have unlocked : s.dcc.edges = 3 → s.dcc.locked = true := by simpa [State.modDcc] using other
    have stays : (s.dcc.locked || s.dcc.edges == 3) = s.dcc.locked := by simpa using unlocked
    rw [stays]
    rfl

/-! ### Reference and states (R229, R230, R232) -/

/-- From a value of VREF toward a target, neither below zero. -/
theorem rampTo_nonneg (x y d : Nat) : 0 ≤ rampTo x y d := by
  unfold rampTo
  split <;> omega

theorem slewStep_steps {s : State} (ht : s.clk.now % 1600 = 0) (hc : s.dcc.state.converting = true)
    (hs : s.dcc.slewAt ≠ some s.clk.now) : s.slewStep = s.modDcc fun k => { k with
      vref := (rampTo k.vref (1000 * k.target : Nat) (slewRate s)).toNat, slewAt := some s.clk.now
      state := if k.state = .softStart ∧ (rampTo k.vref (1000 * k.target : Nat) (slewRate s)).toNat = 1000 * k.target
        then .run else k.state } :=
  if_neg (by simp [ht, hc, hs])

theorem slewStep_spec {s : State} (ht : s.clk.now % 1600 = 0) (hc : s.dcc.state.converting = true)
    (hs : s.dcc.slewAt ≠ some s.clk.now) :
    let k := s.slewStep.dcc
    (k.vref : Int) = rampTo s.dcc.vref (1000 * s.dcc.target : Nat) (slewRate s) ∧
    k.state = (if k.vref = 1000 * s.dcc.target then .run else s.dcc.state) ∧
    k = { s.dcc with vref := k.vref, state := k.state, slewAt := some s.clk.now } := by
  have state (v : Prop) [Decidable v] : (if s.dcc.state = .softStart ∧ v then DState.run else s.dcc.state) =
      if v then .run else s.dcc.state := by
    cases h : s.dcc.state <;> simp [h, DState.converting] at hc ⊢
  rw [slewStep_steps ht hc hs]
  exact ⟨Int.toNat_of_nonneg (rampTo_nonneg _ _ _), state _, rfl⟩

theorem doRetryExpiry_over {s : State} (hs : s.dcc.state = .retryWait) (hd : s.dcc.stopAt + 1600000000 ≤ s.clk.now) :
    doRetryExpiry s = s.softStart s.dcc.target (s.dcc.attempt + 1) := if_pos ⟨hs, hd⟩

/-- SYNC_OUT rises on a CLK_ADC edge at its place in the period, falls half a period later, and falls where the
converter does not switch. -/
theorem doSyncOut_due {s : State} {v : Bool} :
    let p := dccLength s s.gsc.g[(3 : Fin 4)].pstart
    let d := ((s.clk.now : Int) - s.gsc.g[(3 : Fin 4)].pstart - (40 * dccSyncOutShift s : Nat)) % (p : Int)
    (if v then s.dcc.state.converting = true ∧ d < 40
      else s.dcc.state.converting = true → ((p / 2 : Nat) : Int) ≤ d ∧ d < ((p / 2 + 40 : Nat) : Int)) →
    doSyncOut s v = s.modDcc fun k => { k with syncOut := v } := by
  dsimp only
  unfold doSyncOut
  dsimp only
  cases v with
  | true => exact fun ⟨on, rises⟩ => if_pos (by rw [on, if_pos rfl, decide_eq_true rises]; rfl)
  | false =>
    intro falls
    cases on : s.dcc.state.converting with
    | true =>
      obtain ⟨lo, hi⟩ := falls on
      exact if_pos (by rw [decide_eq_true lo, decide_eq_true hi]; rfl)
    | false => rfl

/-- Settles O40: each row by what its operation makes of the converter at the tick of the row. -/
theorem converter : Obligations.Converter := by
  unfold Obligations.Converter
  refine ⟨?on, ?trip, ?tmax, ?edge, ?lost, ?slew, ?retry, ?out, ?first⟩
  case on =>
    intro t x p cur s h converting enabled settled fresh place
    have on : TurnsOn s p (t + leadOf s) x := ⟨converting, enabled, settled, fresh, place⟩
    refine ⟨fun above => after_at h (doTurnOn · p cur) rfl ?_, fun below => after_at h (doTurnOn · p cur) rfl ?_⟩
    · rintro k rfl
      have skips := (doTurnOn_on (s := s.onClock k) cur on).trans (if_pos above)
      dsimp only
      rw [skips]
      exact ⟨modPhase_phase .., tallyBy_same _ _ (by decide), rfl, fun q hq => modPhase_other _ _ hq⟩
    · rintro k rfl
      have issues := (doTurnOn_on (s := s.onClock k) cur on).trans (if_neg (Int.not_lt.2 below))
      dsimp only
      rw [issues]
      exact turnOnIssued_spec ..
  case trip =>
    intro t ton p s h hton _ ha
    refine after_at h (doPeakTrip · p) rfl ?_
    rintro k rfl
    obtain ⟨q, off, none, lastOff, maxed, minOn, thr⟩ := doPeakTrip_turnedOff (s := s.onClock k) hton ha
    dsimp only
    rw [off.same]
    exact ⟨none, lastOff, maxed, minOn, off.tal, thr, off.state, fun _ hk => off.others hk⟩
  case tmax =>
    intro t ton p s h hton hd
    refine after_at h (doTmax · p) rfl ?_
    rintro k rfl
    have off := doTmax_turnedOff (s := s.onClock k) hton hd
    rw [off.same]
    exact ⟨rfl, rfl, rfl, rfl, off.tal.trans (BitVec.add_zero _), fun _ hk => off.others hk⟩
  case edge =>
    intro t prev s h hs he _ hd
    refine after_at h doSyncIn rfl ?_
    rintro k rfl
    obtain ⟨accepted, ignored⟩ := doSyncIn_next (s := s.onClock k) hs he hd
    dsimp only
    split
    · rename_i fits
      rw [accepted fits]
      exact ⟨rfl, rfl, rfl, rfl, rfl⟩
    · rename_i off
      exact ignored off
  case lost =>
    intro t e s h hs he hd
    refine after_at h doSyncLost rfl ?_
    rintro k rfl
    exact syncLapse_due hs he hd
  case slew =>
    intro t s h ht hc hs
    refine after_at h doVrefSlew rfl ?_
    rintro k rfl
    exact slewStep_spec ht hc hs
  case retry =>
    intro t s h hs hd
    refine after_at h doRetryExpiry rfl ?_
    rintro k rfl
    rw [doRetryExpiry_over (s := s.onClock k) hs hd]
    exact ⟨rfl, rfl, rfl, rfl, Int.toNat_eq_max _⟩
  case out =>
    intro t v s h p d hd
    refine after_at h (doSyncOut · v) rfl ?_
    rintro k rfl
    exact congrArg State.dcc (doSyncOut_due (s := s.onClock k) hd)
  case first =>
    intro t s h hs hd
    refine after_at h doSyncIn rfl ?_
    rintro k rfl
    rw [doSyncIn_first (s := s.onClock k) hs (syncLapse_edge hs hd)]
    cases he : s.dcc.edge with
    | none =>
      rw [syncLapse_none (s := s.onClock k) he]
      exact ⟨rfl, rfl, rfl, nofun⟩
    | some e =>
      obtain ⟨lapsed, lost⟩ := syncLapse_due (s := s.onClock k) hs he (hd e he)
      have starts := congrArg Dcc.starts lapsed
      have locked := congrArg Dcc.locked lapsed
      exact ⟨rfl, rfl, starts, fun _ => ⟨locked, lost⟩⟩

end Sys2Proof.Machine
end

section
/-!
PROOFS. The charger inlet: the input block in engine memory (R247).
-/

namespace Sys2Proof.Machine

open Sys2Proof

/-- The output current setpoint is not 0, and the input block is due on tick 0. It goes to data words 0 to 4 of
engine 4, which is stopped and lists data row 0, which holds them all, twice in its table of flipped bits. -/
def setpointState : State := { State.reset with
  clk := { State.reset.clk with locked := true }
  ce := State.reset.ce.set 4 twiceListed
  obc := { State.reset.obc with iset := 1 } }

theorem setpointState_onTime : OnTime setpointState 0 :=
  ⟨rfl, Nat.le_refl 0, rfl, fun _ h => absurd h List.not_mem_nil⟩

theorem setpointState_clean : ∀ i < (obcBlock setpointState).length,
    setpointState.ce[(4 : Fin 8)].dataFlips ((obcMapInWord setpointState + i) % 1024) = [] := by decide

/-- The block stored in turn gives word 1 the setpoint, 1 mA at a full scale of 0. -/
theorem setpointState_block : sget 0 (dwords setpointState.ce[(4 : Fin 8)].dmem (obcMapInWord setpointState)
    (obcBlock setpointState)) 1 = 0x7FFFFF := by decide +kernel

/-- After the write of the block, word 1 still reads as before. -/
theorem setpointState_written :
    sget 0 (doObcInput (setpointState.at 0)).ce[(4 : Fin 8)].dmem 1 = 0 := by decide +kernel

/-- Refutes O41: its clause on the write of the input block (R247) takes data rows for sound where the table of
flipped bits shows none in them, and does not ask that this table be in canonical form. In `setpointState` the
table of engine 4 lists row 0 twice, so that the first of the five words uncovers two flipped bits in the row that
it has just cleaned. The setpoint behind it then meets a double-bit error and is not stored (R369), while the
clause wants all five words in memory. -/
theorem not_chargerInlet : ¬ Obligations.ChargerInlet := by
  unfold Obligations.ChargerInlet
  intro ⟨_, _, _, _, _, input, _⟩
  obtain ⟨u, hu, -, -, wrote, -⟩ := input 0 setpointState setpointState_onTime (.inl rfl)
  obtain ⟨-, -, -, stored, -⟩ := wrote
  have block : u.ce[(4 : Fin 8)].dmem = dwords setpointState.ce[(4 : Fin 8)].dmem
      (obcMapInWord setpointState) (obcBlock setpointState) := stored (by decide) setpointState_clean
  have missing : sget 0 u.ce[(4 : Fin 8)].dmem 1 = 0 := by
    cases hu
    exact setpointState_written
  rw [block, setpointState_block] at missing
  exact absurd missing (by decide)

end Sys2Proof.Machine
end

section
/-!
PROOFS. The charge supervisor: its changes of state, the end of a session, hand-over and the evaluation (R251 to
R256).
-/

namespace Sys2Proof.Machine

open Sys2Proof

/-! ### CHG and OBC: what an update leaves of the two -/

@[simp] theorem modChg_chg (s : State) (f : Chg → Chg) : (s.modChg f).chg = f s.chg := rfl
@[simp] theorem modChg_obc (s : State) (f : Chg → Chg) : (s.modChg f).obc = s.obc := rfl
@[simp] theorem modChg_clk (s : State) (f : Chg → Chg) : (s.modChg f).clk = s.clk := rfl
@[simp] theorem modChg_tal (s : State) (f : Chg → Chg) : (s.modChg f).tal = s.tal := rfl
@[simp] theorem modObc_obc (s : State) (f : Obc → Obc) : (s.modObc f).obc = f s.obc := rfl
@[simp] theorem modObc_chg (s : State) (f : Obc → Obc) : (s.modObc f).chg = s.chg := rfl
@[simp] theorem modObc_clk (s : State) (f : Obc → Obc) : (s.modObc f).clk = s.clk := rfl
@[simp] theorem modObc_tal (s : State) (f : Obc → Obc) : (s.modObc f).tal = s.tal := rfl

/-! ### What the release of a token counts (R303)

A token that is released, or decided anew, only posts records, and those count from 137 on. -/

theorem dropTok_tal (s : State) (g : Fin 4) (st : TokState) {m : Nat} (hm : m < 137) :
    (s.dropTok g st).tal[m] = s.tal[m] := by
  have cancelled : (s.cancelHand g).tal[m] = s.tal[m] := by
    unfold State.cancelHand
    split
    · rfl
    · exact record_tal _ _ _ _ _ _ hm
  have dropped : (s.dropTok g st).tal = (s.cancelHand g).tal := by
    unfold State.dropTok
    exact (State.dropStale_area _ g (p := .tal) (by decide)).trans (State.modTok_area _ _ _ (by decide))
  exact (congrArg (·[m]) dropped).trans cancelled

theorem refreshTok_tal (s : State) (g : Fin 4) {m : Nat} (hm : m < 137) :
    (s.refreshTok g).tal[m] = s.tal[m] := by
  unfold State.refreshTok
  dsimp only
  split
  · rfl
  · split
    · rfl
    · rfl
    · exact dropTok_tal s g _ hm

theorem releaseGroup_tal (s : State) (g : Fin 4) {m : Nat} (hm : m < 137) :
    (s.releaseGroup g).tal[m] = s.tal[m] := by
  have opened (f : Group → Group) : ((((s.flush g).allOff g).legsOff g).modGroup g f).tal = s.tal :=
    (State.legsOff_area _ g (p := .tal) (by decide)).trans
      ((State.allOff_area _ g (p := .tal) (by decide)).trans (State.flush_area s g (p := .tal) (by decide)))
  unfold State.releaseGroup
  refine (dropTok_tal _ g _ hm).trans ?_
  split
  · exact congrArg (·[m]) (opened _)
  · rfl

/-- What a counter shows after an event depends on its value before alone. -/
theorem tally_tal_congr {s u : State} (n : Nat) {m : Nat} (hm : m < 256) (h : u.tal[m] = s.tal[m]) :
    (u.tally n).tal[m] = (s.tally n).tal[m] := by
  by_cases e : n = m
  · subst e
    exact (tallyBy_same _ _ hm).trans ((congrArg (· + 1) h).trans (tallyBy_same _ _ hm).symm)
  · exact (tallyBy_other _ e hm).trans (h.trans (tallyBy_other _ e hm).symm)

/-! ### A change of state of the supervisor (R242, R251) -/

/-- The supervisor switches the charger: PRECOND, CC, CV and TOPOFF (R242, R247). -/
def SState.runs (st : SState) : Bool := st == .precond || st.charging

/-- CHG once state `st` is entered on tick `t`, with BUS_OK as it is then. -/
def Chg.entered (k : Chg) (st : SState) (t : Tick) (bus : Bool) : Chg := { k with
  state := st
  since := t
  s2 := st.runs || (k.s2 && st == .handover)
  s2At := if st.runs && !k.s2 then t else k.s2At
  busSeen := if st.runs && !k.s2 then bus else k.busSeen
  busLostAt := if st.runs && !k.s2 then none else k.busLostAt
  elapsed := if st = .cc then 0 else k.elapsed
  lowVoltage := none
  lowCurrent := none }

theorem chgTo_chg (s : State) (st : SState) : (s.chgTo st).chg = s.chg.entered st s.clk.now s.obc.busOk := by
  unfold State.chgTo
  refine (State.refreshTok_area _ 2 (p := .chg) (by decide)).trans ?_
  simp only [State.modObc, State.modChg, area, record_chg, record_obc, record_clk]
  rfl

theorem chgTo_obc (s : State) (st : SState) :
    (s.chgTo st).obc = { s.obc with run := st.runs || (s.obc.run && st == .handover), dirty := true } := by
  unfold State.chgTo
  refine (State.refreshTok_area _ 2 (p := .obc) (by decide)).trans ?_
  simp only [State.modObc, State.modChg, area, record_obc]
  rfl

theorem chgTo_clk (s : State) (st : SState) : (s.chgTo st).clk = s.clk :=
  State.chgTo_area s st (p := .clk) (by decide)

theorem chgTo_tal (s : State) (st : SState) {m : Nat} (hm : m < 137) : (s.chgTo st).tal[m] = s.tal[m] := by
  unfold State.chgTo
  refine (refreshTok_tal _ 2 hm).trans ?_
  exact record_tal _ _ _ _ _ _ hm

/-! ### The end of a session and the steps of hand-over (R254, R257) -/

theorem terminate_chg (s : State) (term : Nat) : (s.terminate term).chg = { s.chg with term := term } :=
  (record_chg ..).trans (tally_chg ..)

theorem terminate_obc (s : State) (term : Nat) : (s.terminate term).obc = s.obc :=
  State.terminate_area s term (p := .obc) (by decide)

theorem terminate_clk (s : State) (term : Nat) : (s.terminate term).clk = s.clk :=
  State.terminate_area s term (p := .clk) (by decide)

theorem releaseGroup_chg (s : State) (g : Fin 4) : (s.releaseGroup g).chg = s.chg :=
  State.releaseGroup_area s g (p := .chg) (by decide)

theorem releaseGroup_obc (s : State) (g : Fin 4) : (s.releaseGroup g).obc = s.obc :=
  State.releaseGroup_area s g (p := .obc) (by decide)

theorem handRelease_chg (s : State) : s.handRelease.chg =
    { s.chg with s2 := false, step := 3, h3At := s.clk.now, offRun := 0, gridMax := 0 } := by
  unfold State.handRelease
  simp only [modChg_chg, releaseGroup_chg, modObc_chg, modObc_clk]

theorem handRelease_obc (s : State) : s.handRelease.obc =
    { s.obc with run := false, rampDown := false, iset := 0, dirty := true } := by
  unfold State.handRelease
  simp only [modChg_obc, releaseGroup_obc, modObc_obc]

theorem handRelease_tal (s : State) {m : Nat} (hm : m < 137) : s.handRelease.tal[m] = s.tal[m] := by
  unfold State.handRelease
  rw [modChg_tal, releaseGroup_tal _ _ hm, modObc_tal]

/-- A running session has ended with `term`, and step H1 has begun. -/
def State.handStarted (s : State) (term : Nat) : State :=
  let u := ((s.terminate term).tally 89).chgTo .handover
  (u.modChg fun k => { k with qualified := false, step := 1, start := u.clk.now, ignored := 0 }).modObc
    fun k => { k with rampDown := true }

theorem handStarted_area (s : State) (term : Nat) {p : Area}
    (h : p ∉ [Area.lrg, .trc, .tal, .glk, .red, .obc, .chg]) : area (s.handStarted term) p = area s p :=
  (State.modObc_area _ _ (notMem_of_sub h (by decide))).trans
    ((State.modChg_area _ _ (notMem_of_sub h (by decide))).trans
      ((State.chgTo_area _ _ h).trans
        ((State.tally_area _ _ (notMem_of_sub h (by decide))).trans
          (State.terminate_area _ _ (notMem_of_sub h (by decide))))))

theorem handStarted_chg (s : State) (term : Nat) : (s.handStarted term).chg =
    { ({ s.chg with term := term } : Chg).entered .handover s.clk.now s.obc.busOk with
      qualified := false, step := 1, start := s.clk.now, ignored := 0 } := by
  unfold State.handStarted
  simp only [modObc_chg, modChg_chg, chgTo_chg, chgTo_clk, tally_chg, tally_clk, tally_obc, terminate_chg,
    terminate_clk, terminate_obc]

theorem handStarted_rampDown (s : State) (term : Nat) : (s.handStarted term).obc.rampDown = true := by
  unfold State.handStarted
  simp only [modObc_obc]

/-- The end of a session and the hand-over are counted, each once. -/
theorem handStarted_tal (s : State) (term : Nat) {m : Nat} (hm : m < 137) :
    (s.handStarted term).tal[m] = ((s.tally 88).tally 89).tal[m] := by
  have ended : (s.terminate term).tal[m] = (s.tally 88).tal[m] := record_tal _ _ _ _ _ _ hm
  have started : (s.handStarted term).tal[m] = ((s.terminate term).tally 89).tal[m] := by
    unfold State.handStarted
    simp only [modObc_tal, modChg_tal, chgTo_tal _ _ hm]
  rw [started]
  exact tally_tal_congr 89 (by omega) ended

theorem chargerOff_congr {s u : State} (hr : u.regs = s.regs) (hn : u.rng = s.rng) :
    chargerOff u = chargerOff s := by
  have row : rngActChgOff u = rngActChgOff s := funext fun r => by unfold rngActChgOff rd; rw [hr]
  unfold chargerOff
  rw [row, hn]

theorem session_ne_handover {st : SState} (h : st.session = true) : st ≠ .handover := by
  rintro rfl
  exact Bool.false_ne_true h

/-- With the island's charger-off reaction active, H1 ends at once (R254). -/
theorem handOver_session {s : State} (h : s.chg.state.session = true) (term : Nat) : s.handOver term =
    if chargerOff s then (s.handStarted term).handRelease else s.handStarted term := by
  have off : chargerOff (s.handStarted term) = chargerOff s :=
    chargerOff_congr (handStarted_area s term (p := .regs) (by decide))
      (handStarted_area s term (p := .rng) (by decide))
  unfold State.handOver
  rw [if_neg (session_ne_handover h), if_pos h]
  exact congrArg (fun c : Bool => if c then (s.handStarted term).handRelease else s.handStarted term) off

/-- A session that runs in `s` has ended with `term` in `u`, and hand-over has begun. -/
structure HandedOver (s : State) (term : Nat) (u : State) : Prop where
  state : u.chg.state = .handover
  term : u.chg.term = term
  start : u.chg.start = s.clk.now
  step : u.chg.step = if chargerOff s then 3 else 1
  ramp : u.obc.rampDown = !chargerOff s
  exits : u.chg.exitPending = s.chg.exitPending
  counts : ∀ m, (hm : m < 137) → u.tal[m] = ((s.tally 88).tally 89).tal[m]

theorem HandedOver.ended {s u : State} {term : Nat} (h : HandedOver s term u) : u.tal[88] = s.tal[88] + 1 :=
  (h.counts 88 (by decide)).trans ((tallyBy_other _ (by decide) (by decide)).trans (tallyBy_same _ _ (by decide)))

theorem HandedOver.begun {s u : State} {term : Nat} (h : HandedOver s term u) : u.tal[89] = s.tal[89] + 1 :=
  (h.counts 89 (by decide)).trans ((tallyBy_same _ _ (by decide)).trans
    (congrArg (· + 1) (tallyBy_other _ (by decide) (by decide))))

theorem HandedOver.others {s u : State} {term m : Nat} (h : HandedOver s term u) (hm : m < 137) (h88 : 88 ≠ m)
    (h89 : 89 ≠ m) : u.tal[m] = s.tal[m] :=
  (h.counts m hm).trans ((tallyBy_other _ h89 (by omega)).trans (tallyBy_other _ h88 (by omega)))

theorem handOver_handsOver {s : State} (h : s.chg.state.session = true) (term : Nat) :
    HandedOver s term (s.handOver term) := by
  have started := handStarted_chg s term
  have released := handRelease_chg (s.handStarted term)
  rw [started] at released
  rw [handOver_session h]
  cases off : chargerOff s with
  | false =>
    rw [if_neg Bool.false_ne_true]
    refine ⟨?_, ?_, ?_, ?_, ?_, ?_, fun m hm => handStarted_tal s term hm⟩
    case refine_5 => rw [off]; exact handStarted_rampDown s term
    all_goals rw [started]
    case refine_4 => rw [off]; rfl
    all_goals rfl
  | true =>
    rw [if_pos rfl]
    refine ⟨?_, ?_, ?_, ?_, ?_, ?_, fun m hm => (handRelease_tal _ hm).trans (handStarted_tal s term hm)⟩
    case refine_5 => rw [off, handRelease_obc]; rfl
    all_goals rw [released]
    case refine_4 => rw [off]; rfl
    all_goals rfl

/-! ### The evaluation at a multiple of 1 ms (R249 to R252) -/

theorem setBand_chg (s : State) (b : Nat) : (s.setBand b).chg = { s.chg with band := b } := by
  unfold State.setBand
  split
  · rename_i h
    rw [← h]
  · rw [record_chg, modChg_chg]

theorem setBand_tal (s : State) (b : Nat) {m : Nat} (hm : m < 137) : (s.setBand b).tal[m] = s.tal[m] := by
  unfold State.setBand
  split
  · rfl
  · exact record_tal _ _ _ _ _ _ hm

/-- What the timer adds at an evaluation: nothing while ISET is 0, half of the full rate while the charger is held
back (R252). -/
def timerStep (s : State) : Nat := if chgPaused s then 0 else if chgReduced s then 1 else 2

theorem timerStep_charging {s : State} (h : s.chg.state.charging = true) : timerStep s =
    if s.obc.iset = 0 then 0 else if s.chg.band = 1 ∨ s.chg.band = 3 ∨ s.obc.limiter = 3 then 1 else 2 := by
  unfold timerStep chgPaused chgReduced obcThermal
  simp only [h, Bool.true_and, beq_iff_eq, Bool.or_eq_true, decide_eq_true_eq, or_assoc]

theorem addTimer_charging {s : State} (h : s.chg.state.charging = true) : s.addTimer =
    s.modChg fun k => { k with elapsed := k.elapsed + timerStep s, lastAdd := timerStep s } := by
  unfold State.addTimer
  rw [h]
  rfl

theorem addTimer_still {s : State} (h : s.chg.state.charging = false) : s.addTimer = s := by
  unfold State.addTimer
  rw [h]
  rfl

/-- The state that the transitions of an evaluation find: timer and band are those of this millisecond. -/
def State.timed (s : State) : State := s.addTimer.setBand (bandNow s)

theorem timed_charging {s : State} (h : s.chg.state.charging = true) : s.timed.chg = { s.chg with
    elapsed := s.chg.elapsed + timerStep s, lastAdd := timerStep s, band := bandNow s } := by
  unfold State.timed
  rw [setBand_chg, addTimer_charging h, modChg_chg]

theorem timed_still {s : State} (h : s.chg.state.charging = false) : s.timed.chg =
    { s.chg with band := bandNow s } := by
  unfold State.timed
  rw [setBand_chg, addTimer_still h]

theorem timed_area (s : State) {p : Area} (h : p ∉ [Area.lrg, .trc, .tal, .chg]) : area s.timed p = area s p :=
  (State.setBand_area _ _ h).trans (State.addTimer_area s (notMem_of_sub h (by decide)))

theorem timed_tal (s : State) {m : Nat} (hm : m < 137) : s.timed.tal[m] = s.tal[m] :=
  (setBand_tal _ _ hm).trans (congrArg (·[m]) (State.addTimer_area s (p := .tal) (by decide)))

theorem timed_inlet (s : State) : s.timed.chg.state = s.chg.state ∧ s.timed.chg.pilot = s.chg.pilot ∧
    s.timed.chg.exitPending = s.chg.exitPending ∧ inletBad s.timed = inletBad s ∧ supplied s.timed = supplied s := by
  have obc : s.timed.obc = s.obc := timed_area s (p := .obc) (by decide)
  unfold inletBad supplied
  cases h : s.chg.state.charging with
  | true => rw [timed_charging h, obc]; exact ⟨rfl, rfl, rfl, rfl, rfl⟩
  | false => rw [timed_still h, obc]; exact ⟨rfl, rfl, rfl, rfl, rfl⟩

theorem doEvaluation_due {s : State} (h : s.clk.now % 1600000 = 0) :
    doEvaluation s = s.timed.supervise.handTick.setSetpoints := by
  have band : bandNow s.addTimer = bandNow s := by
    cases hc : s.chg.state.charging with
    | true => rw [addTimer_charging hc]; rfl
    | false => rw [addTimer_still hc]
  have due : onMs s = true := decide_eq_true h
  unfold doEvaluation State.timed
  rw [due, ← band]
  rfl

theorem doEvaluation_chg {s : State} (h : s.clk.now % 1600000 = 0) :
    (doEvaluation s).chg = s.timed.supervise.handTick.chg := by
  rw [doEvaluation_due h]
  exact State.setSetpoints_area _ (p := .chg) (by decide)

theorem doEvaluation_tal {s : State} (h : s.clk.now % 1600000 = 0) :
    (doEvaluation s).tal = s.timed.supervise.tal := by
  rw [doEvaluation_due h]
  exact (State.setSetpoints_area _ (p := .tal) (by decide)).trans (State.handTick_area _ (p := .tal) (by decide))

theorem doEvaluation_run {s : State} (h : s.clk.now % 1600000 = 0) :
    (doEvaluation s).obc.run = s.timed.supervise.handTick.obc.run := by
  rw [doEvaluation_due h]
  rfl

theorem handTick_outside {s : State} (h : s.chg.state ≠ .handover) : s.handTick = s := if_pos h

/-- One millisecond of hand-over leaves CHG but for the interval test of H3. -/
theorem handTick_chg (s : State) : ∃ n g, s.handTick.chg = { s.chg with offRun := n, gridMax := g } := by
  unfold State.handTick
  split
  · exact ⟨_, _, rfl⟩
  · split
    · exact ⟨_, _, rfl⟩
    · exact ⟨_, _, rfl⟩
    · exact ⟨_, _, rfl⟩

/-- The rows of R251 by which an evaluation goes on to `next`, where the inlet lets a session run. -/
def Proceeds (s : State) (b : Nat) (next : SState) : Prop :=
  (s.chg.state = .wait ∧ supplied s = true ∧ goodBand b = true ∧ next = .cc) ∨
    (s.chg.state = .wait ∧ supplied s = true ∧ goodBand b = false ∧ chgCfgPrecondEn s = true ∧ next = .precond) ∨
    (s.chg.state = .precond ∧ goodBand b = true ∧ next = .cc)

theorem Proceeds.still {s : State} {b : Nat} {next : SState} (h : Proceeds s b next) :
    s.chg.state.charging = false := by
  rcases h with ⟨hs, -⟩ | ⟨hs, -⟩ | ⟨hs, -⟩ <;> rw [hs] <;> rfl

theorem Proceeds.runs {s : State} {b : Nat} {next : SState} (h : Proceeds s b next) : next.runs = true := by
  rcases h with ⟨-, -, -, rfl⟩ | ⟨-, -, -, -, rfl⟩ | ⟨-, -, rfl⟩ <;> rfl

theorem supervise_proceeds {s : State} {next : SState} (hp : s.chg.pilot ≠ 0) (hi : inletBad s = false)
    (h : Proceeds s s.chg.band next) : s.supervise = s.chgTo next := by
  unfold State.supervise
  rw [if_neg (by simp [hp]), if_neg (by simp [hi])]
  rcases h with ⟨hs, hq, hb, rfl⟩ | ⟨hs, hq, hb, hc, rfl⟩ | ⟨hs, hb, rfl⟩
  · simp [hs, hq, hb]
  · simp [hs, hq, hb, hc]
  · simp [hs, hb]

theorem supervise_charging {s : State} (hp : s.chg.pilot ≠ 0) (hi : inletBad s = false)
    (h : s.chg.state.charging = true) : s.supervise = s := by
  unfold State.supervise
  rw [if_neg (by simp [hp]), if_neg (by simp [hi])]
  cases hs : s.chg.state
  case wait | precond => rw [hs] at h; exact absurd h Bool.false_ne_true
  case idle | cc | cv | topoff | maintain | handover => rfl

/-- The exit row comes before the inlet row. -/
theorem supervise_ends {s : State} (h : s.chg.state.session = true) (he : s.chg.pilot = 0 ∨ inletBad s = true) :
    s.supervise = if s.chg.pilot = 0 then s.chgExit else s.inletFault := by
  unfold State.supervise
  by_cases hp : s.chg.pilot = 0
  · simp [h, hp]
  · simp [h, hp, he.resolve_left hp]

/-- A session that the inlet ends at an evaluation: with TERM EXIT and the exit pending for pilot A, with
INLET_FAULT and its count otherwise. -/
theorem supervise_handsOver {s : State} (h : s.chg.state.session = true) (he : s.chg.pilot = 0 ∨ inletBad s = true) :
    s.supervise.chg.state = .handover ∧
    s.supervise.chg.exitPending = (s.chg.exitPending || s.chg.pilot == 0) ∧
    s.supervise.chg.term = (if s.chg.pilot = 0 then 4 else 5) ∧
    s.supervise.tal[86] = s.tal[86] + (if s.chg.pilot = 0 then 0 else 1) := by
  rw [supervise_ends h he]
  by_cases hp : s.chg.pilot = 0
  · have ended := handOver_handsOver h 4
    rw [if_pos hp, if_pos hp, if_pos hp, hp]
    refine ⟨ended.state, (Bool.or_true _).symm, ended.term, ?_⟩
    exact (ended.others (by decide) (by decide) (by decide)).trans (BitVec.add_zero _).symm
  · have ended := handOver_handsOver (s := s.tally 86) (by rw [tally_chg]; exact h) 5
    rw [if_neg hp, if_neg hp, if_neg hp, beq_false_of_ne hp, Bool.or_false]
    refine ⟨ended.state, ended.exits.trans (by rw [tally_chg]), ended.term, ?_⟩
    exact (ended.others (by decide) (by decide) (by decide)).trans (tallyBy_same _ _ (by decide))

theorem doEvaluation_proceeds {s : State} {next : SState} (ht : s.clk.now % 1600000 = 0) (hp : s.chg.pilot ≠ 0)
    (hi : inletBad s = false) (h : Proceeds s (bandNow s) next) :
    (doEvaluation s).chg = ({ s.chg with band := bandNow s } : Chg).entered next s.clk.now s.obc.busOk ∧
    (doEvaluation s).obc.run = true := by
  obtain ⟨state, pilot, -, inlet, sup⟩ := timed_inlet s
  have chg := timed_still h.still
  have obc : s.timed.obc = s.obc := timed_area s (p := .obc) (by decide)
  have clk : s.timed.clk = s.clk := timed_area s (p := .clk) (by decide)
  have regs : s.timed.regs = s.regs := timed_area s (p := .regs) (by decide)
  have precond : chgCfgPrecondEn s.timed = chgCfgPrecondEn s := by unfold chgCfgPrecondEn rd; rw [regs]
  have go : s.timed.supervise = s.timed.chgTo next := by
    refine supervise_proceeds (by rw [pilot]; exact hp) (by rw [inlet]; exact hi) ?_
    unfold Proceeds
    rw [state, sup, precond, chg]
    exact h
  have entered := chgTo_chg s.timed next
  have outside : (s.timed.chgTo next).handTick = s.timed.chgTo next := by
    refine handTick_outside ?_
    rw [entered]
    rintro rfl
    exact Bool.false_ne_true h.runs
  rw [doEvaluation_chg ht, doEvaluation_run ht, go, outside, entered, chgTo_obc, chg, clk, obc, h.runs]
  exact ⟨rfl, rfl⟩

theorem doEvaluation_charging {s : State} (ht : s.clk.now % 1600000 = 0) (hp : s.chg.pilot ≠ 0)
    (hi : inletBad s = false) (h : s.chg.state.charging = true) :
    (doEvaluation s).chg = { s.chg with
      elapsed := s.chg.elapsed + timerStep s, lastAdd := timerStep s, band := bandNow s } := by
  obtain ⟨state, pilot, -, inlet, -⟩ := timed_inlet s
  have stays : s.timed.supervise = s.timed :=
    supervise_charging (by rw [pilot]; exact hp) (by rw [inlet]; exact hi) (by rw [state]; exact h)
  have outside : s.timed.handTick = s.timed := by
    refine handTick_outside ?_
    rw [state]
    intro e
    rw [e] at h
    exact Bool.false_ne_true h
  rw [doEvaluation_chg ht, stays, outside, timed_charging h]

theorem doEvaluation_handsOver {s : State} (ht : s.clk.now % 1600000 = 0) (h : s.chg.state.session = true)
    (he : s.chg.pilot = 0 ∨ inletBad s = true) :
    (doEvaluation s).chg.state = .handover ∧
    (doEvaluation s).chg.exitPending = (s.chg.exitPending || s.chg.pilot == 0) ∧
    (doEvaluation s).chg.term = (if s.chg.pilot = 0 then 4 else 5) ∧
    (doEvaluation s).tal[86] = s.tal[86] + (if s.chg.pilot = 0 then 0 else 1) := by
  obtain ⟨state, pilot, exits, inlet, -⟩ := timed_inlet s
  have ended := supervise_handsOver (s := s.timed) (by rw [state]; exact h) (by rw [pilot, inlet]; exact he)
  rw [pilot, exits, timed_tal s (by decide)] at ended
  obtain ⟨n, g, tick⟩ := handTick_chg s.timed.supervise
  rw [doEvaluation_chg ht, tick, doEvaluation_tal ht]
  exact ended

/-! ### The end of hand-over (R256) -/

/-- The mode becomes STANDBY as hand-over ends: an exit is pending, or the pilot shows A, and no reaction has set
another mode. -/
def handLeaves (s : State) : Bool := (s.chg.exitPending || s.chg.pilot = 0) && s.pba.mode == .charge

/-- CHG as step H3 ends on tick `t`. -/
def Chg.handedBack (k : Chg) (t : Tick) : Chg := { k with
  step := 0, dropped := decide (10 ≤ k.offRun), duration := min ((t - k.start) / msTk) 255
  handAt := t, exitPending := false }

/-- Step H3 has ended and is recorded, and the supervisor is in its next state. -/
def State.handEnded (s : State) : State :=
  ((s.modChg fun k => k.handedBack s.clk.now).record bCHG 0xFF 5 (min ((s.clk.now - s.chg.start) / msTk) 255
    + put s.chg.ignored 8 + put (b2n (decide (10 ≤ s.chg.offRun))) 16 + put (b2n (handLeaves s)) 17)).chgTo
      (if s.chg.term = 1 then .maintain else .idle)

theorem handLeaves_iff (s : State) : handLeaves s = true ↔
    (s.chg.exitPending = true ∨ s.chg.pilot = 0) ∧ s.pba.mode = .charge := by
  unfold handLeaves
  simp only [Bool.and_eq_true, Bool.or_eq_true, decide_eq_true_eq, beq_iff_eq]

theorem handEnded_chg (s : State) : s.handEnded.chg = (s.chg.handedBack s.clk.now).entered
    (if s.chg.term = 1 then .maintain else .idle) s.clk.now s.obc.busOk := by
  unfold State.handEnded
  rw [chgTo_chg, record_chg, record_clk, record_obc, modChg_chg, modChg_clk, modChg_obc]

theorem handEnded_pba (s : State) : s.handEnded.pba = s.pba :=
  (State.chgTo_area _ _ (p := .pba) (by decide)).trans (record_pba ..)

/-- The change from CHARGE to STANDBY leaves a supervisor that does not wait as it is. -/
theorem setMode_chargeStandby {s : State} (cause : Nat) (hm : s.pba.mode = .charge) (hw : s.chg.state ≠ .wait) :
    (s.setMode .standby cause).chg = s.chg ∧ (s.setMode .standby cause).pba.mode = .standby := by
  unfold State.setMode
  rw [if_neg (by rw [hm]; decide), hm]
  dsimp only
  generalize hy : State.each _ _ (fun (u : State) m => u.trxMode .standby m) = y
  have chg : y.chg = s.chg := by
    rw [← hy]
    refine (area_each _ _ _ fun u m => State.trxMode_area u .standby m (p := .chg) (by decide)).trans ?_
    exact (State.record_area _ _ _ _ _ _ (p := .chg) (by decide)).trans (State.modPba_area _ _ (p := .chg) (by decide))
  have pba : y.pba.mode = .standby := by
    rw [← hy]
    refine congrArg Pba.mode ((area_each _ _ _ fun u m =>
      State.trxMode_area u .standby m (p := .pba) (by decide)).trans
        (State.record_area _ _ _ _ _ _ (p := .pba) (by decide)))
  have idle : (if y.chg.state = .wait then y.chgTo .idle else y) = y := if_neg (by rw [chg]; exact hw)
  rw [idle]
  split
  · exact ⟨(State.releaseRows_area _ _ (p := .chg) (by decide)).trans chg,
      (congrArg Pba.mode (State.releaseRows_area _ _ (p := .pba) (by decide))).trans pba⟩
  · exact ⟨chg, pba⟩

/-- The supervisor goes on to MAINTAIN after a complete session and to IDLE after any other. -/
theorem doHandoverDone_over {s : State} (hs : s.chg.state = .handover) (h3 : s.chg.step = 3)
    (hd : 10 ≤ s.chg.offRun ∨ s.chg.h3At + 90 * msTk ≤ s.clk.now) :
    (doHandoverDone s).chg = (s.chg.handedBack s.clk.now).entered
      (if s.chg.term = 1 then .maintain else .idle) s.clk.now s.obc.busOk ∧
    (doHandoverDone s).pba.mode = if handLeaves s then .standby else s.pba.mode := by
  have due : (s.chg.state == .handover && s.chg.step = 3 &&
      (decide (10 ≤ s.chg.offRun) || decide (s.chg.h3At + 90 * msTk ≤ s.clk.now))) = true := by
    simp [hs, h3, hd]
  have done : doHandoverDone s = if handLeaves s then s.handEnded.setMode .standby 3 else s.handEnded := if_pos due
  have chg := handEnded_chg s
  rw [done]
  split
  · rename_i leaves
    have charge : s.handEnded.pba.mode = .charge := by rw [handEnded_pba]; exact ((handLeaves_iff s).1 leaves).2
    have settled : s.handEnded.chg.state ≠ .wait := by
      rw [chg]
      show (if s.chg.term = 1 then SState.maintain else .idle) ≠ .wait
      split <;> decide
    obtain ⟨kept, standby⟩ := setMode_chargeStandby 3 charge settled
    exact ⟨kept.trans chg, standby⟩
  · exact ⟨chg, congrArg Pba.mode (handEnded_pba s)⟩

/-! ### The deadlines (R251, R252) -/

theorem session_of_charging {st : SState} (h : st.charging = true) : st.session = true := by
  cases st
  case idle | wait | precond | maintain | handover => exact absurd h Bool.false_ne_true
  case cc | cv | topoff => rfl

theorem doTimerExpiry_due {s : State} (hc : s.chg.state.charging = true) (hl : chgTimerLimitMin s ≠ 0)
    (hd : chgTimerLimitMin s * 120000 ≤ s.chg.elapsed) : HandedOver s 2 (doTimerExpiry s) := by
  unfold doTimerExpiry
  rw [if_pos (by simp [hc, hl, hd])]
  generalize hu : s.modChg _ = u
  have ended : HandedOver u 2 (u.handOver 2) :=
    handOver_handsOver (by rw [← hu, modChg_chg]; exact session_of_charging hc) 2
  subst hu
  exact ⟨ended.state, ended.term, ended.start, ended.step, ended.ramp, ended.exits, ended.counts⟩

theorem doWaitTimeout_due {s : State} (hs : s.chg.state = .wait) (hw : 0 < chgCfgWaitS s)
    (hd : s.chg.since + chgCfgWaitS s * secTk ≤ s.clk.now) : HandedOver s 8 (doWaitTimeout s) := by
  unfold doWaitTimeout
  rw [if_pos (by simp [hs, hw, hd])]
  exact handOver_handsOver (by rw [hs]; rfl) 8

theorem doPrecondTimeout_due {s : State} (hs : s.chg.state = .precond) (hm : 0 < chgTimerPrecondMin s)
    (hd : s.chg.since + chgTimerPrecondMin s * minTk ≤ s.clk.now) : HandedOver s 7 (doPrecondTimeout s) := by
  unfold doPrecondTimeout
  rw [if_pos (by simp [hs, hm, hd])]
  exact handOver_handsOver (by rw [hs]; rfl) 7

theorem doNoSupply_due {s : State} (hs : s.chg.state = .cc ∨ s.chg.state = .precond)
    (hd : (s.chg.busSeen = false ∧ s.chg.s2At + obcGridSupplyWait s * secTk ≤ s.clk.now) ∨
      ∃ x ∈ s.chg.busLostAt, x + secTk ≤ s.clk.now) : HandedOver s 9 (doNoSupply s) := by
  have session : s.chg.state.session = true := by rcases hs with hs | hs <;> rw [hs] <;> rfl
  have states : (s.chg.state == .precond || s.chg.state == .cc) = true := by
    rcases hs with hs | hs <;> rw [hs] <;> rfl
  unfold doNoSupply
  dsimp only
  rw [states]
  rcases hd with ⟨unseen, late⟩ | ⟨x, hx, lost⟩
  · rw [if_pos (by simp [unseen, late])]
    exact handOver_handsOver session 9
  · rw [if_pos (by simp [Option.mem_def.1 hx, lost])]
    exact handOver_handsOver session 9

theorem doTopoff_due {s : State} (hs : s.chg.state = .topoff)
    (hd : s.chg.since + chgTermTopoffMin s * minTk ≤ s.clk.now) : HandedOver s 1 (doTopoff s) := by
  unfold doTopoff
  rw [if_pos (by simp [hs, hd])]
  exact handOver_handsOver (by rw [hs]; rfl) 1

/-- The output current has stayed below ITERM for TERM_S: the top-off follows, or there is none. -/
theorem doTermHold_due {s : State} {x : Tick} (hs : s.chg.state = .cv) (hx : s.chg.lowCurrent = some x)
    (hd : x + chgTermTermS s * secTk ≤ s.clk.now) :
    doTermHold s = if 0 < chgTermTopoffMin s then s.chgTo .topoff else s.handOver 1 := by
  unfold doTermHold
  rw [hs, hx]
  exact if_neg (Nat.not_lt.2 hd)

theorem doTermHold_topoff {s : State} {x : Tick} (hs : s.chg.state = .cv) (hx : s.chg.lowCurrent = some x)
    (hd : x + chgTermTermS s * secTk ≤ s.clk.now) (hm : 0 < chgTermTopoffMin s) :
    doTermHold s = s.chgTo .topoff :=
  (doTermHold_due hs hx hd).trans (if_pos hm)

theorem doTermHold_ends {s : State} {x : Tick} (hs : s.chg.state = .cv) (hx : s.chg.lowCurrent = some x)
    (hd : x + chgTermTermS s * secTk ≤ s.clk.now) (hm : chgTermTopoffMin s = 0) : HandedOver s 1 (doTermHold s) := by
  rw [doTermHold_due hs hx hd, if_neg (Nat.not_lt.2 (Nat.le_of_eq hm))]
  exact handOver_handsOver (by rw [hs]; rfl) 1

theorem doCvEntry_due {s : State} {x : Tick} (hs : s.chg.state = .cc) (hx : s.chg.limSince = some x)
    (hd : max x s.chg.since + secTk ≤ s.clk.now) : doCvEntry s = s.chgTo .cv := by
  unfold doCvEntry
  rw [hs, hx]
  exact if_pos hd

/-- RECHARGE is counted and recorded, and CC is entered anew. -/
theorem doRecharge_due {s : State} {x : Tick} (hs : s.chg.state = .maintain) (hx : s.chg.lowVoltage = some x)
    (hq : supplied s = true) (hb : goodBand s.chg.band = true) (hd : x + 10 * secTk ≤ s.clk.now) :
    (doRecharge s).chg = s.chg.entered .cc s.clk.now s.obc.busOk ∧ (doRecharge s).tal[90] = s.tal[90] + 1 := by
  unfold doRecharge
  rw [hs, hx]
  dsimp only
  rw [if_pos (by simp [hq, hb, hd]), chgTo_chg, record_chg, record_clk, record_obc, tally_chg, tally_clk, tally_obc]
  refine ⟨rfl, (chgTo_tal _ _ (by decide)).trans ?_⟩
  exact (record_tal _ _ _ _ _ _ (by decide)).trans (tallyBy_same _ _ (by decide))

theorem doRampEnd_due {s : State} (hs : s.chg.state = .handover) (h1 : s.chg.step = 1)
    (hd : (s.obc.iset = 0 ∧ currentGone s = true) ∨ s.chg.start + 100 * msTk ≤ s.clk.now ∨ chargerOff s = true) :
    doRampEnd s = s.handRelease := by
  unfold doRampEnd
  rw [if_pos (by simpa [hs, h1, or_assoc] using hd)]

/-! ### The rows at their ticks -/

theorem bandNow_at {s : State} {t : Tick} {k : Clk} (h : OnTime s t) (hk : k.now = t) :
    bandNow (s.at t) = bandNow (s.onClock k) := by
  have fresh : tempFresh (s.at t) = tempFresh (s.onClock k) := by
    unfold tempFresh
    rw [at_chg h.2.2, at_now h]
    subst hk
    rfl
  unfold bandNow
  rw [fresh, at_eq h.2.2]
  rfl

/-- A row that ends a session at its tick. -/
theorem after_handsOver {c : Instr} {s : State} {t : Tick} (h : OnTime s t) (f : State → State)
    (hc : exec c s = .next (f (s.at t))) {term : Nat}
    (hf : ∀ k : Clk, k.now = t → HandedOver (s.onClock k) term (f (s.onClock k))) :
    After c s fun u => u.chg.state = .handover ∧ u.chg.term = term ∧ u.chg.start = t ∧
      u.chg.step = (if chargerOff s then 3 else 1) ∧ u.obc.rampDown = !chargerOff s ∧
      u.tal[88] = s.tal[88] + 1 ∧ u.tal[89] = s.tal[89] + 1 := by
  refine after_at h f hc ?_
  rintro k rfl
  have ended := hf k rfl
  exact ⟨ended.state, ended.term, ended.start, ended.step, ended.ramp, ended.ended, ended.begun⟩

/-- Settles O42: each row by what its operation makes of the supervisor at the tick of the row. -/
theorem chargerStates : Obligations.ChargerStates := by
  unfold Obligations.ChargerStates
  refine ⟨?proceeds, ?charging, ?deadlines, ?cv, ?topoff, ?recharge, ?ramp, ?done, ?inlet⟩
  case proceeds =>
    intro t next s h ht hp hi go
    refine after_at h doEvaluation rfl ?_
    rintro k rfl
    rw [bandNow_at h rfl] at go ⊢
    have runs : next.runs = true := Proceeds.runs (s := s.onClock k) go
    obtain ⟨chg, run⟩ := doEvaluation_proceeds (s := s.onClock k) ht hp hi go
    rw [chg]
    refine ⟨rfl, rfl, ?_, run, rfl, rfl⟩
    show (next.runs || _) = true
    rw [runs, Bool.true_or]
  case charging =>
    intro t s h ht hp hi hc
    refine after_at h doEvaluation rfl ?_
    rintro k rfl
    have chg := doEvaluation_charging (s := s.onClock k) ht hp hi hc
    rw [chg, bandNow_at h rfl]
    exact ⟨rfl, rfl, timerStep_charging (s := s.onClock k) hc, rfl⟩
  case deadlines =>
    intro t s h
    refine ⟨fun hc hl hd => ?_, fun hs hw hd => ?_, fun hs hm hd => ?_, fun hs hd => ?_, fun hs hd => ?_,
      fun x hx hs hd hm => ?_⟩
    · exact after_handsOver h doTimerExpiry rfl fun k _ => doTimerExpiry_due (s := s.onClock k) hc hl hd
    · exact after_handsOver h doWaitTimeout rfl fun k hk =>
        doWaitTimeout_due (s := s.onClock k) hs hw (hk.symm ▸ hd)
    · exact after_handsOver h doPrecondTimeout rfl fun k hk =>
        doPrecondTimeout_due (s := s.onClock k) hs hm (hk.symm ▸ hd)
    · exact after_handsOver h doNoSupply rfl fun k hk => doNoSupply_due (s := s.onClock k) hs (hk.symm ▸ hd)
    · exact after_handsOver h doTopoff rfl fun k hk => doTopoff_due (s := s.onClock k) hs (hk.symm ▸ hd)
    · exact after_handsOver h doTermHold rfl fun k hk =>
        doTermHold_ends (s := s.onClock k) hs hx (hk.symm ▸ hd) hm
  case cv =>
    intro t x s h hs hx hd
    refine after_at h doCvEntry rfl ?_
    rintro k rfl
    rw [doCvEntry_due (s := s.onClock k) hs hx hd, chgTo_chg]
    exact ⟨rfl, rfl, rfl⟩
  case topoff =>
    intro t x s h hs hx hd hm
    refine after_at h doTermHold rfl ?_
    rintro k rfl
    rw [doTermHold_topoff (s := s.onClock k) hs hx hd hm, chgTo_chg]
    exact ⟨rfl, rfl⟩
  case recharge =>
    intro t x s h hs hx hq hb hd
    refine after_at h doRecharge rfl ?_
    rintro k rfl
    obtain ⟨chg, counted⟩ := doRecharge_due (s := s.onClock k) hs hx hq hb hd
    rw [chg]
    exact ⟨rfl, rfl, rfl, counted⟩
  case ramp =>
    intro t s h hs h1 hd
    refine after_at h doRampEnd rfl ?_
    rintro k rfl
    rw [doRampEnd_due (s := s.onClock k) hs h1 hd, handRelease_chg, handRelease_obc]
    exact ⟨rfl, rfl, rfl, rfl, rfl⟩
  case done =>
    intro t s h hs h3 hd
    refine after_at h doHandoverDone rfl ?_
    rintro k rfl
    obtain ⟨chg, mode⟩ := doHandoverDone_over (s := s.onClock k) hs h3 hd
    rw [chg, mode]
    exact ⟨rfl, rfl, rfl, rfl, rfl, rfl,
      ite_congr (propext (handLeaves_iff (s.onClock k))) (fun _ => rfl) fun _ => rfl⟩
  case inlet =>
    intro t s h ht hs he
    refine after_at h doEvaluation rfl ?_
    rintro k rfl
    exact doEvaluation_handsOver (s := s.onClock k) ht hs he

end Sys2Proof.Machine
end
